-- ==== Sys2Proof/Word.lean ====
section
/-! DEFINITION. The machine word and the byte. -/

namespace Sys2Proof

/-- A general register's value (R62). -/
abbrev Word := BitVec 64

/-- The smallest addressable unit. -/
abbrev Byte := BitVec 8

end Sys2Proof
end

