-- ==== Sys2Proof/Forms.lean ====
section
/-! DEFINITION. The operand records of the instructions (R256 to R268, R405) and of the device events.
A register or immediate field holds the raw unsigned value of its bits; the meanings extend it. -/

namespace Sys2Proof

/-- The fields of a modifier prefix (R264). -/
structure Modifier where
  /-- rounding mode, default 7 -/
  rm : Nat
  /-- .sat -/
  sat : Nat
  /-- scope code (R123) -/
  scope : Nat
  /-- order code (R124) -/
  ord : Nat
  /-- .o -/
  o : Nat
  /-- .p -/
  p : Nat
  /-- full/empty qualifier -/
  fe : Nat
  /-- bit 5 of field d -/
  dh : Nat
  /-- bit 5 of field a -/
  ah : Nat
  /-- bit 5 of field b -/
  bh : Nat
  deriving DecidableEq, Repr, Inhabited

/-- Operands of a scalar load, format M (R296); `long` when a default prefix stands before it (R265). -/
structure OpLoad where
  /-- 8-byte form with an all-default prefix -/
  long : Bool
  /-- destination register -/
  d : Nat
  /-- first source register -/
  a : Nat
  /-- signed offset -/
  imm : Nat
  deriving DecidableEq, Repr, Inhabited

/-- Operands of a scalar store, format S (R296). -/
structure OpStore where
  /-- 8-byte form with an all-default prefix -/
  long : Bool
  /-- second source register -/
  b : Nat
  /-- first source register -/
  a : Nat
  /-- signed offset -/
  imm : Nat
  deriving DecidableEq, Repr, Inhabited

/-- Operands of a load with .fe or .take (R298). -/
structure OpLoadFe where
  /-- 0 to 6 the LOAD minors, 7 LD.F16, 8 LD.F32, 9 LD.F64 -/
  kind : Nat
  /-- destination register -/
  d : Nat
  /-- first source register -/
  a : Nat
  /-- signed offset -/
  imm : Nat
  deriving DecidableEq, Repr, Inhabited

/-- Operands of a store with .fill (R298). -/
structure OpStoreFill where
  /-- the STORE minor -/
  kind : Nat
  /-- second source register -/
  b : Nat
  /-- first source register -/
  a : Nat
  /-- signed offset -/
  imm : Nat
  deriving DecidableEq, Repr, Inhabited

/-- Operands of format I with a 15-bit immediate (R292, R295). -/
structure OpI where
  /-- destination register -/
  d : Nat
  /-- first source register -/
  a : Nat
  /-- signed immediate -/
  imm : Nat
  deriving DecidableEq, Repr, Inhabited

/-- Operands of format J (R292, R295). -/
structure OpJ where
  /-- destination register -/
  d : Nat
  /-- signed immediate -/
  imm : Nat
  deriving DecidableEq, Repr, Inhabited

/-- Operands of an immediate shift (R293). -/
structure OpShift where
  /-- destination register -/
  d : Nat
  /-- first source register -/
  a : Nat
  /-- shift amount -/
  sh : Nat
  deriving DecidableEq, Repr, Inhabited

/-- Operands of an OPIMM operation with a signed imm12 (R293). -/
structure OpImm12 where
  /-- destination register -/
  d : Nat
  /-- first source register -/
  a : Nat
  /-- signed immediate -/
  imm : Nat
  deriving DecidableEq, Repr, Inhabited

/-- Operands of three registers, format A (R294). -/
structure OpRRR where
  /-- destination register -/
  d : Nat
  /-- first source register -/
  a : Nat
  /-- second source register -/
  b : Nat
  deriving DecidableEq, Repr, Inhabited

/-- Operands of two registers, format A (R294, R299). -/
structure OpRR where
  /-- destination register -/
  d : Nat
  /-- first source register -/
  a : Nat
  deriving DecidableEq, Repr, Inhabited

/-- Operands of format B (R295). -/
structure OpBranch where
  /-- first source register -/
  a : Nat
  /-- second source register -/
  b : Nat
  /-- signed offset in halfwords -/
  off : Nat
  deriving DecidableEq, Repr, Inhabited

/-- Operands of a rounding FOP of two operands (R299). -/
structure OpFloat3 where
  /-- destination register -/
  d : Nat
  /-- first source register -/
  a : Nat
  /-- second source register -/
  b : Nat
  /-- format code -/
  fmt : Nat
  /-- rounding mode -/
  rm : Nat
  deriving DecidableEq, Repr, Inhabited

/-- Operands of a rounding FOP of one operand (R299). -/
structure OpFloat2 where
  /-- destination register -/
  d : Nat
  /-- first source register -/
  a : Nat
  /-- format code -/
  fmt : Nat
  /-- rounding mode -/
  rm : Nat
  deriving DecidableEq, Repr, Inhabited

/-- Operands of a FOP of two operands without rounding (R299). -/
structure OpFloat3n where
  /-- destination register -/
  d : Nat
  /-- first source register -/
  a : Nat
  /-- second source register -/
  b : Nat
  /-- format code -/
  fmt : Nat
  deriving DecidableEq, Repr, Inhabited

/-- Operands of a FOP of one operand without rounding (R299). -/
structure OpFloat2n where
  /-- destination register -/
  d : Nat
  /-- first source register -/
  a : Nat
  /-- format code -/
  fmt : Nat
  deriving DecidableEq, Repr, Inhabited

/-- Operands of a scalar conversion (R299). -/
structure OpFloatCvt where
  /-- destination register -/
  d : Nat
  /-- first source register -/
  a : Nat
  /-- integer type or source format code -/
  code : Nat
  /-- format code -/
  fmt : Nat
  /-- rounding mode -/
  rm : Nat
  deriving DecidableEq, Repr, Inhabited

/-- Operands of a fused multiply-add (R301). -/
structure OpFmadd where
  /-- destination register -/
  d : Nat
  /-- first source register -/
  a : Nat
  /-- second source register -/
  b : Nat
  /-- addend -/
  c : Nat
  /-- format code -/
  fmt : Nat
  /-- rounding mode -/
  rm : Nat
  deriving DecidableEq, Repr, Inhabited

/-- Operands of a scalar atomic (R302). -/
structure OpAmo where
  /-- destination register -/
  d : Nat
  /-- first source register -/
  a : Nat
  /-- second source register -/
  b : Nat
  /-- order code -/
  ord : Nat
  /-- 0: 4 bytes, 1: 8 bytes -/
  w : Nat
  /-- scope code -/
  scope : Nat
  deriving DecidableEq, Repr, Inhabited

/-- Operands of a 16-byte compare and swap (R304). -/
structure OpCas2 where
  /-- destination register -/
  d : Nat
  /-- first source register -/
  a : Nat
  /-- second source register -/
  b : Nat
  /-- order code -/
  ord : Nat
  /-- scope code -/
  scope : Nat
  deriving DecidableEq, Repr, Inhabited

/-- Operands of a read of a status register (R306). -/
structure OpMfs where
  /-- destination register -/
  d : Nat
  /-- register number -/
  n : Nat
  deriving DecidableEq, Repr, Inhabited

/-- Operands of a write of a status register (R306). -/
structure OpMts where
  /-- first source register -/
  a : Nat
  /-- register number -/
  n : Nat
  deriving DecidableEq, Repr, Inhabited

/-- Operands of SYSCALL and BREAK (R307). -/
structure OpImm10 where
  /-- unsigned immediate -/
  imm : Nat
  deriving DecidableEq, Repr, Inhabited

/-- Operands of fields a and b. -/
structure OpAB where
  /-- first source register -/
  a : Nat
  /-- second source register -/
  b : Nat
  deriving DecidableEq, Repr, Inhabited

/-- Operands of field b. -/
structure OpB where
  /-- second source register -/
  b : Nat
  deriving DecidableEq, Repr, Inhabited

/-- Operands of field a. -/
structure OpA where
  /-- first source register -/
  a : Nat
  deriving DecidableEq, Repr, Inhabited

/-- Operands of QPUT (R314). -/
structure OpQput where
  /-- queue -/
  q : Nat
  /-- first source register -/
  a : Nat
  deriving DecidableEq, Repr, Inhabited

/-- Operands of QGET and QPEEK (R314). -/
structure OpQget where
  /-- destination register -/
  d : Nat
  /-- queue -/
  q : Nat
  deriving DecidableEq, Repr, Inhabited

/-- Operands of a hint (R262). -/
structure OpHint where
  /-- ignored -/
  imm : Nat
  deriving DecidableEq, Repr, Inhabited

/-- Operands of compressed layout CM (R268). -/
structure OpCM where
  /-- register 8 + d -/
  d : Nat
  /-- base register 8 + a -/
  a : Nat
  /-- unsigned scaled offset -/
  imm : Nat
  deriving DecidableEq, Repr, Inhabited

/-- Operands of compressed layout CI (R268). -/
structure OpCI where
  /-- destination register -/
  d : Nat
  /-- immediate -/
  imm : Nat
  deriving DecidableEq, Repr, Inhabited

/-- Operands of compressed layout CJ (R268). -/
structure OpCJ where
  /-- signed offset in halfwords -/
  off : Nat
  deriving DecidableEq, Repr, Inhabited

/-- Operands of compressed layout CB (R268). -/
structure OpCB where
  /-- register 8 + a -/
  a : Nat
  /-- signed offset in halfwords -/
  off : Nat
  deriving DecidableEq, Repr, Inhabited

/-- Operands of compressed layout CR (R268). -/
structure OpCR where
  /-- destination register -/
  d : Nat
  /-- second source register -/
  b : Nat
  deriving DecidableEq, Repr, Inhabited

/-- Operands of compressed layout CR with b = 0 (R268). -/
structure OpC1 where
  /-- destination register -/
  d : Nat
  deriving DecidableEq, Repr, Inhabited

/-- Operands of VSETL (R322). -/
structure OpVsetl where
  /-- destination register -/
  d : Nat
  /-- first source register -/
  a : Nat
  /-- element width code -/
  sew : Nat
  deriving DecidableEq, Repr, Inhabited

/-- Operands of VCFG (R323). -/
structure OpVcfg where
  /-- destination register -/
  d : Nat
  /-- element width code -/
  sew : Nat
  /-- register count code -/
  nreg : Nat
  deriving DecidableEq, Repr, Inhabited

/-- Operands of format V with operand kind OK (R256). -/
structure OpV where
  /-- modifier prefix -/
  p : Option Modifier
  /-- operand kind of b -/
  ok : Nat
  /-- mask field -/
  k : Nat
  /-- second source register -/
  b : Nat
  /-- first source register -/
  a : Nat
  /-- destination register -/
  d : Nat
  deriving DecidableEq, Repr, Inhabited

/-- Operands of a unary VFLT operation (R326). -/
structure OpVun where
  /-- modifier prefix -/
  p : Option Modifier
  /-- mask field -/
  k : Nat
  /-- first source register -/
  a : Nat
  /-- destination register -/
  d : Nat
  deriving DecidableEq, Repr, Inhabited

/-- Operands of VFCVT without stochastic rounding (R328). -/
structure OpVcvt where
  /-- modifier prefix -/
  p : Option Modifier
  /-- destination format -/
  t : Nat
  /-- mask field -/
  k : Nat
  /-- source format -/
  src : Nat
  /-- first source register -/
  a : Nat
  /-- destination register -/
  d : Nat
  deriving DecidableEq, Repr, Inhabited

/-- Operands of VFCVT with stochastic rounding (R331); the other prefix fields in `p`. -/
structure OpVcvtRs where
  /-- the prefix, its rm being 4 -/
  p : Modifier
  /-- destination format -/
  t : Nat
  /-- 2: f32, 3: f64 -/
  ok : Nat
  /-- mask field -/
  k : Nat
  /-- second source register -/
  b : Nat
  /-- first source register -/
  a : Nat
  /-- destination register -/
  d : Nat
  deriving DecidableEq, Repr, Inhabited

/-- Operands of a vector compare (R333). -/
structure OpVcmp where
  /-- modifier prefix -/
  p : Option Modifier
  /-- operand kind of b -/
  ok : Nat
  /-- mask field -/
  k : Nat
  /-- second source register -/
  b : Nat
  /-- first source register -/
  a : Nat
  /-- mask register -/
  d : Nat
  deriving DecidableEq, Repr, Inhabited

/-- Operands of VQGET (R336). -/
structure OpVqget where
  /-- modifier prefix -/
  p : Option Modifier
  /-- mask field -/
  k : Nat
  /-- queue -/
  q : Nat
  /-- destination register -/
  d : Nat
  deriving DecidableEq, Repr, Inhabited

/-- Operands of VQPUT (R336). -/
structure OpVqput where
  /-- modifier prefix -/
  p : Option Modifier
  /-- operand kind of b -/
  ok : Nat
  /-- second source register -/
  b : Nat
  /-- first source register -/
  a : Nat
  /-- queue -/
  q : Nat
  deriving DecidableEq, Repr, Inhabited

/-- Operands of mask logic (R334). -/
structure OpKlogic where
  /-- modifier prefix -/
  p : Option Modifier
  /-- mask field -/
  k : Nat
  /-- mask register, 8: ksel -/
  b : Nat
  /-- mask register -/
  a : Nat
  /-- mask register -/
  d : Nat
  deriving DecidableEq, Repr, Inhabited

/-- Operands of KCOUNT and KFFS (R335). -/
structure OpKcount where
  /-- modifier prefix -/
  p : Option Modifier
  /-- mask field -/
  k : Nat
  /-- mask register, 8: ksel -/
  a : Nat
  /-- destination register -/
  d : Nat
  deriving DecidableEq, Repr, Inhabited

/-- Operands of VCOMPACT (R339). -/
structure OpVcompact where
  /-- modifier prefix -/
  p : Option Modifier
  /-- mask register -/
  b : Nat
  /-- first source register -/
  a : Nat
  /-- destination register -/
  d : Nat
  deriving DecidableEq, Repr, Inhabited

/-- Operands of VASSIGN and VRAMP (R340). -/
structure OpVbd where
  /-- modifier prefix -/
  p : Option Modifier
  /-- operand kind of b -/
  ok : Nat
  /-- mask field -/
  k : Nat
  /-- second source register -/
  b : Nat
  /-- destination register -/
  d : Nat
  deriving DecidableEq, Repr, Inhabited

/-- Operands of VREDMAXI (R343). -/
structure OpVad where
  /-- modifier prefix -/
  p : Option Modifier
  /-- operand kind -/
  ok : Nat
  /-- mask field -/
  k : Nat
  /-- first source register -/
  a : Nat
  /-- destination register -/
  d : Nat
  deriving DecidableEq, Repr, Inhabited

/-- Operands of VGETX and VGETF (R341). -/
structure OpVget where
  /-- modifier prefix -/
  p : Option Modifier
  /-- operand kind of b -/
  ok : Nat
  /-- second source register -/
  b : Nat
  /-- first source register -/
  a : Nat
  /-- destination register -/
  d : Nat
  deriving DecidableEq, Repr, Inhabited

/-- Operands of VRAND (R345). -/
structure OpVrand where
  /-- modifier prefix -/
  p : Option Modifier
  /-- mask field -/
  k : Nat
  /-- second source register -/
  b : Nat
  /-- first source register -/
  a : Nat
  /-- destination register -/
  d : Nat
  deriving DecidableEq, Repr, Inhabited

/-- Operands of VLD and VST (R346). -/
structure OpVmem where
  /-- modifier prefix -/
  p : Option Modifier
  /-- mask field -/
  k : Nat
  /-- second source register -/
  b : Nat
  /-- first source register -/
  a : Nat
  /-- destination register -/
  d : Nat
  deriving DecidableEq, Repr, Inhabited

/-- Operands of an indexed vector access or atomic (R346, R347). -/
structure OpVmemX where
  /-- modifier prefix -/
  p : Option Modifier
  /-- index width code -/
  iw : Nat
  /-- mask field -/
  k : Nat
  /-- second source register -/
  b : Nat
  /-- first source register -/
  a : Nat
  /-- destination register -/
  d : Nat
  deriving DecidableEq, Repr, Inhabited

/-- Operands of a unit-stride form (R346). -/
structure OpVmem1 where
  /-- modifier prefix -/
  p : Option Modifier
  /-- mask field -/
  k : Nat
  /-- first source register -/
  a : Nat
  /-- destination register -/
  d : Nat
  deriving DecidableEq, Repr, Inhabited

/-- Operands of a vector access with a full/empty qualifier (R359). -/
structure OpVmemFe where
  /-- prefix, its fe fixed by the constructor -/
  p : Modifier
  /-- VLDX or VSTX -/
  indexed : Bool
  /-- index width code, 0 unless indexed -/
  iw : Nat
  /-- mask field -/
  k : Nat
  /-- second source register -/
  b : Nat
  /-- first source register -/
  a : Nat
  /-- destination register -/
  d : Nat
  deriving DecidableEq, Repr, Inhabited

/-- Operands of BAR.ARR (R365). -/
structure OpBarArr where
  /-- modifier prefix -/
  p : Option Modifier
  /-- destination register -/
  d : Nat
  /-- barrier number -/
  n : Nat
  deriving DecidableEq, Repr, Inhabited

/-- Operands of BAR.WAIT (R366). -/
structure OpBarWait where
  /-- modifier prefix -/
  p : Option Modifier
  /-- first source register -/
  a : Nat
  /-- barrier number -/
  n : Nat
  deriving DecidableEq, Repr, Inhabited

/-- Operands of TLWAIT on a timeline register (R391). -/
structure OpTlwait where
  /-- destination register -/
  d : Nat
  /-- timeline -/
  tl : Nat
  /-- second source register -/
  b : Nat
  deriving DecidableEq, Repr, Inhabited

/-- Operands of TLREAD (R392). -/
structure OpTlread where
  /-- destination register -/
  d : Nat
  /-- timeline -/
  tl : Nat
  deriving DecidableEq, Repr, Inhabited

/-- Operands of TLADV (R393). -/
structure OpTladv where
  /-- timeline -/
  tl : Nat
  /-- second source register -/
  b : Nat
  deriving DecidableEq, Repr, Inhabited

/-- Operands of a bobbin (R395). -/
structure OpBob where
  /-- bobbin -/
  bn : Nat
  deriving DecidableEq, Repr, Inhabited

/-- Operands of CPYSTAT (R395). -/
structure OpCpystat where
  /-- destination register -/
  d : Nat
  /-- bobbin -/
  bn : Nat
  deriving DecidableEq, Repr, Inhabited

/-- Operands of format W with xa only (R371). -/
structure OpXa where
  /-- x register xa -/
  xa : Nat
  deriving DecidableEq, Repr, Inhabited

/-- Operands of MLD (R372). -/
structure OpMld where
  /-- destination tile -/
  td : Nat
  /-- x register xa -/
  xa : Nat
  /-- x register xb -/
  xb : Nat
  deriving DecidableEq, Repr, Inhabited

/-- Operands of MST (R372). -/
structure OpMst where
  /-- source tile -/
  ta : Nat
  /-- .l on ta -/
  la : Bool
  /-- x register xa -/
  xa : Nat
  /-- x register xb -/
  xb : Nat
  deriving DecidableEq, Repr, Inhabited

/-- Operands of format W with td only (R373). -/
structure OpTd where
  /-- destination tile -/
  td : Nat
  deriving DecidableEq, Repr, Inhabited

/-- Operands of MPREF (R373). -/
structure OpTa where
  /-- source tile -/
  ta : Nat
  deriving DecidableEq, Repr, Inhabited

/-- Operands of MMA (R374). -/
structure OpMma where
  /-- destination tile -/
  td : Nat
  /-- source tile -/
  ta : Nat
  /-- second source tile -/
  tb : Nat
  /-- .l on ta -/
  la : Bool
  /-- .l on tb -/
  lb : Bool
  deriving DecidableEq, Repr, Inhabited

/-- Operands of MMAG (R376). -/
structure OpMmag where
  /-- destination tile -/
  td : Nat
  /-- v register of row offsets -/
  va : Nat
  /-- second source tile -/
  tb : Nat
  /-- .l on tb -/
  lb : Bool
  /-- x register xa -/
  xa : Nat
  deriving DecidableEq, Repr, Inhabited

/-- Operands of MTOV (R377). -/
structure OpMtov where
  /-- v register -/
  vd : Nat
  /-- source tile -/
  ta : Nat
  /-- x register xa -/
  xa : Nat
  deriving DecidableEq, Repr, Inhabited

/-- Operands of VTOM (R378). -/
structure OpVtom where
  /-- destination tile -/
  td : Nat
  /-- v register -/
  va : Nat
  /-- x register xa -/
  xa : Nat
  deriving DecidableEq, Repr, Inhabited

/-- Operands of MTRANS (R379). -/
structure OpMtrans where
  /-- destination tile -/
  td : Nat
  /-- source tile -/
  ta : Nat
  /-- .l on ta -/
  la : Bool
  /-- x register xa -/
  xa : Nat
  deriving DecidableEq, Repr, Inhabited

/-- Operands of MCVT, MSCALE and MADD (R380, R381). -/
structure OpMcvt where
  /-- destination tile -/
  td : Nat
  /-- source tile -/
  ta : Nat
  /-- second source tile -/
  tb : Nat
  /-- .l on ta -/
  la : Bool
  /-- .l on tb -/
  lb : Bool
  /-- x register xa -/
  xa : Nat
  deriving DecidableEq, Repr, Inhabited

/-- Operands of MSEND (R382). -/
structure OpMsend where
  /-- source tile -/
  ta : Nat
  /-- .l on ta -/
  la : Bool
  /-- x register xa -/
  xa : Nat
  deriving DecidableEq, Repr, Inhabited

/-- Operands of CPY and CPYRED (R386, R389). -/
structure OpCpy where
  /-- bobbin -/
  bb : Nat
  /-- x register xa -/
  xa : Nat
  /-- x register xb -/
  xb : Nat
  /-- x register xc -/
  xc : Nat
  deriving DecidableEq, Repr, Inhabited

/-- Operands of CPYROWS (R387). -/
structure OpCpyrows where
  /-- bobbin -/
  bb : Nat
  /-- v register of indices -/
  va : Nat
  /-- mask register -/
  kb : Nat
  /-- x register xa -/
  xa : Nat
  /-- x register xb -/
  xb : Nat
  /-- x register xc -/
  xc : Nat
  deriving DecidableEq, Repr, Inhabited

/-- Operands of CPYV (R388). -/
structure OpCpyv where
  /-- bobbin -/
  bb : Nat
  /-- first v register -/
  vd : Nat
  /-- x register xa -/
  xa : Nat
  /-- x register xb -/
  xb : Nat
  deriving DecidableEq, Repr, Inhabited

/-- Operands of a Golpin scalar operation (R406). -/
structure OpG3 where
  /-- destination -/
  d : Nat
  /-- first source -/
  a : Nat
  /-- second source -/
  b : Nat
  deriving DecidableEq, Repr, Inhabited

/-- Operands of a Golpin immediate or access (R405). -/
structure OpGi where
  /-- destination -/
  d : Nat
  /-- first source -/
  a : Nat
  /-- immediate -/
  imm : Nat
  deriving DecidableEq, Repr, Inhabited

/-- Operands of a Golpin immediate shift (R405). -/
structure OpGsh where
  /-- destination -/
  d : Nat
  /-- first source -/
  a : Nat
  /-- shift amount -/
  sh : Nat
  deriving DecidableEq, Repr, Inhabited

/-- Operands of a Golpin LUI (R405). -/
structure OpGlui where
  /-- destination -/
  d : Nat
  /-- immediate -/
  imm : Nat
  deriving DecidableEq, Repr, Inhabited

/-- Operands of a Golpin branch (R405). -/
structure OpGb where
  /-- first source -/
  a : Nat
  /-- second source -/
  b : Nat
  /-- forward offset -/
  off : Nat
  deriving DecidableEq, Repr, Inhabited

/-- Operands of a Golpin lane operation or reduction (R405). -/
structure OpGl where
  /-- destination -/
  d : Nat
  /-- first source -/
  a : Nat
  /-- second source -/
  b : Nat
  /-- mask -/
  jm : Nat
  deriving DecidableEq, Repr, Inhabited

/-- Operands of a Golpin lane compare (R405). -/
structure OpGcmp where
  /-- destination mask -/
  d : Nat
  /-- first source -/
  a : Nat
  /-- second source -/
  b : Nat
  /-- mask -/
  jm : Nat
  deriving DecidableEq, Repr, Inhabited

/-- Operands of a Golpin mask operation (R406). -/
structure OpJ3 where
  /-- destination -/
  d : Nat
  /-- source -/
  a : Nat
  /-- source -/
  b : Nat
  deriving DecidableEq, Repr, Inhabited

/-- Operands of JTOH and JCOUNT (R406). -/
structure OpJtoh where
  /-- destination -/
  d : Nat
  /-- source -/
  a : Nat
  deriving DecidableEq, Repr, Inhabited

/-- Operands of HTOJ (R406). -/
structure OpHtoj where
  /-- destination -/
  d : Nat
  /-- first source -/
  a : Nat
  deriving DecidableEq, Repr, Inhabited

/-- Operands of LBCST (R406). -/
structure OpGbcst where
  /-- destination -/
  d : Nat
  /-- first source -/
  a : Nat
  /-- mask -/
  jm : Nat
  deriving DecidableEq, Repr, Inhabited

/-- Operands of LEXT and LINS (R406). -/
structure OpGlane where
  /-- destination -/
  d : Nat
  /-- first source -/
  a : Nat
  /-- lane -/
  lane : Nat
  deriving DecidableEq, Repr, Inhabited

/-- Operands of PFRESH (R408). -/
structure OpPfresh where
  /-- destination -/
  d : Nat
  /-- first source -/
  a : Nat
  /-- signed immediate -/
  imm : Nat
  deriving DecidableEq, Repr, Inhabited

/-- Operands of LOOP (R409). -/
structure OpLoop where
  /-- first source -/
  a : Nat
  /-- greatest count -/
  max : Nat
  /-- body length -/
  len : Nat
  deriving DecidableEq, Repr, Inhabited

/-- Operands of EMIT (R412). -/
structure OpEmit where
  /-- first source, even (R405) -/
  a : Nat
  /-- second source -/
  b : Nat
  /-- 32-byte units less one -/
  n : Nat
  deriving DecidableEq, Repr, Inhabited

/-- Operands of KTRAP (R410). -/
structure OpKtrap where
  /-- kernel code -/
  imm : Nat
  deriving DecidableEq, Repr, Inhabited

/-- Operands of a Golpin engine: port block × 8 + engine. -/
structure OpEngine where
  /-- engine number, 0 to 31 -/
  e : Nat
  deriving DecidableEq, Repr, Inhabited

/-- An inbound UALink packet (R166, R398). -/
structure UalinkPacket where
  /-- 0 write, 1 read, 2 atomic, 3 reducing write -/
  kind : Nat
  /-- destination package number -/
  dst : Nat
  /-- source package number -/
  src : Nat
  /-- local address, bits [40:0] of the remote address -/
  addr : Nat
  /-- atomic operation and width, or CPYRED OP -/
  op : Nat
  /-- data bytes, or bytes requested by a read -/
  len : Nat
  /-- data bytes -/
  data : List (BitVec 8)
  /-- byte enables, bit i for data byte i -/
  mask : Nat
  /-- sending thread -/
  thread : Nat
  /-- sending bobbin -/
  bobbin : Nat
  /-- element size -/
  esz : Nat
  /-- reduction sequence -/
  cmd : Nat
  /-- traversal index of the first element -/
  seq : Nat
  /-- watermark carried -/
  anchor : Nat
  /-- elements of the command -/
  total : Nat
  /-- TASKID of the sending task -/
  sender : Nat
  /-- owner of the context that issued the access (R111) -/
  owner : Nat
  /-- what the answer names the request by -/
  tag : Nat
  deriving DecidableEq, Repr, Inhabited

/-- Operands of a packet arriving at a port block. -/
structure OpUalink where
  /-- port block, 0 N0, 1 N1, 2 S0, 3 S1 -/
  blk : Nat
  /-- UALink port of the block, 0 to 5 -/
  port : Nat := 0
  /-- the packet -/
  pkt : UalinkPacket
  deriving DecidableEq, Repr, Inhabited

/-- Operands of an answer for, or a resend of, a reducing packet (R413). -/
structure OpReducing where
  /-- sending thread -/
  h : Nat
  /-- bobbin -/
  bn : Nat
  /-- traversal index of the packet -/
  seq : Nat
  /-- true: applied, false: retry -/
  applied : Bool
  /-- an error answer: of the link, a switch or the target (R436) -/
  err : Bool := false
  deriving DecidableEq, Repr, Inhabited

/-- One element of a request packet (R362). -/
structure RemoteElem where
  /-- element index -/
  idx : Nat
  /-- local physical address -/
  addr : Nat
  /-- operand bytes as a number -/
  data : Nat
  /-- compare bytes of a CAS -/
  cmp : Nat
  deriving DecidableEq, Repr, Inhabited

/-- A request packet of a remote vector access (R362). -/
structure RequestPacket where
  /-- issuing package -/
  pkg : Nat
  /-- destination package -/
  dst : Nat
  /-- what the answer names the request by -/
  tag : Nat
  /-- issuing thread -/
  h : Nat
  /-- owner of the issuing task -/
  owner : Nat
  /-- 0 load, 1 store, 2 atomic -/
  kind : Nat
  /-- atomic operation -/
  op : Nat
  /-- element bytes -/
  w : Nat
  /-- the elements in increasing index -/
  elems : List RemoteElem
  deriving DecidableEq, Repr, Inhabited

/-- Operands of a request packet arriving in the request window. -/
structure OpRequest where
  /-- the packet -/
  pkt : RequestPacket
  deriving DecidableEq, Repr, Inhabited

/-- The answer to a remote access (R363). -/
structure RemoteAnswerMsg where
  /-- element index of the lowest failing element, for code 13 -/
  err : Option Nat
  /-- indices answered gated -/
  gated : List Nat
  /-- element index and returned value -/
  values : List (Nat × Nat)
  deriving DecidableEq, Repr, Inhabited

/-- Operands of an answer that reaches the issuing package. -/
structure OpAnswer where
  /-- tag of the request -/
  tag : Nat
  /-- the answer -/
  ans : RemoteAnswerMsg
  deriving DecidableEq, Repr, Inhabited

/-- A tile send on its way (R382). -/
structure SendMsg where
  /-- sending package -/
  pkg : Nat
  /-- sending thread -/
  h : Nat
  /-- command number of the MSEND -/
  cmd : Nat
  /-- owner of the sender -/
  owner : Nat
  /-- gang width of the sender -/
  gang : Nat
  /-- the destination word -/
  dest : Nat
  /-- the 64 rows -/
  rows : List (BitVec 8)
  deriving DecidableEq, Repr, Inhabited

/-- Operands of a tile send arriving at the receiver. -/
structure OpSend where
  /-- the send -/
  msg : SendMsg
  deriving DecidableEq, Repr, Inhabited

/-- Operands of the answer to a tile send. -/
structure OpSendAnswer where
  /-- sending thread -/
  h : Nat
  /-- command number -/
  cmd : Nat
  /-- 0 landed, 1 retry, 2 refused -/
  ans : Nat
  deriving DecidableEq, Repr, Inhabited

/-- Operands of a thread and a command number. -/
structure OpThreadCmd where
  /-- package thread number -/
  h : Nat
  /-- command number -/
  cmd : Nat
  deriving DecidableEq, Repr, Inhabited

/-- Operands of a thread. -/
structure OpThread where
  /-- package thread number -/
  h : Nat
  deriving DecidableEq, Repr, Inhabited

/-- Operands of a task. -/
structure OpTask where
  /-- TASKID -/
  task : Nat
  deriving DecidableEq, Repr, Inhabited

/-- Operands of a core. -/
structure OpCore where
  /-- package core number -/
  c : Nat
  deriving DecidableEq, Repr, Inhabited

/-- Operands of a tile unit of a core. -/
structure OpCoreUnit where
  /-- package core number -/
  c : Nat
  /-- 0 matrix, 1 load-store, 2 element-wise, 3 send -/
  u : Nat
  deriving DecidableEq, Repr, Inhabited

/-- Operands of a physical tile of a core. -/
structure OpCoreTile where
  /-- package core number -/
  c : Nat
  /-- physical tile -/
  pt : Nat
  deriving DecidableEq, Repr, Inhabited

/-- Operands of a bobbin of a thread. -/
structure OpBobbin where
  /-- package thread number -/
  h : Nat
  /-- bobbin -/
  bn : Nat
  deriving DecidableEq, Repr, Inhabited

/-- Operands of a fault met by a bobbin. -/
structure OpBobbinFault where
  /-- package thread number -/
  h : Nat
  /-- bobbin -/
  bn : Nat
  /-- cause code -/
  code : Nat
  /-- faulting address -/
  addr : Nat
  /-- true: the landing, false: the source read -/
  dst : Bool
  deriving DecidableEq, Repr, Inhabited

/-- Operands of a near-tier bank: pillar, lane and bank. -/
structure OpBank where
  /-- pillar -/
  pillar : Nat
  /-- core of the near region -/
  c : Nat
  /-- lane -/
  lane : Nat
  /-- bank beneath the lane -/
  bank : Nat
  deriving DecidableEq, Repr, Inhabited

/-- Operands of a scratchpad bank. -/
structure OpCoreBank where
  /-- package core number -/
  c : Nat
  /-- bank -/
  bank : Nat
  deriving DecidableEq, Repr, Inhabited

/-- Operands of a bank group of a core. -/
structure OpGroup where
  /-- package core number -/
  c : Nat
  /-- bank group -/
  grp : Nat
  deriving DecidableEq, Repr, Inhabited

/-- Operands of a pillar. -/
structure OpPillar where
  /-- pillar -/
  p : Nat
  deriving DecidableEq, Repr, Inhabited

/-- Operands of a temperature crossing. -/
structure OpHot where
  /-- true: above 85 °C, false: below 82 °C -/
  hot : Bool
  deriving DecidableEq, Repr, Inhabited

/-- Operands of an L1 line of a core. -/
structure OpCoreLine where
  /-- package core number -/
  c : Nat
  /-- line number -/
  line : Nat
  deriving DecidableEq, Repr, Inhabited

/-- Operands of an L2 line of a pillar. -/
structure OpPillarLine where
  /-- pillar -/
  p : Nat
  /-- line number -/
  line : Nat
  deriving DecidableEq, Repr, Inhabited

/-- Operands of a walk in flight. -/
structure OpWalk where
  /-- pillar -/
  p : Nat
  /-- position among the walks of the pillar -/
  id : Nat
  deriving DecidableEq, Repr, Inhabited

/-- Operands of a TLB and a shoot-down. -/
structure OpTlbShoot where
  /-- 0 to 191 core, 192 + p last level, 208 scheduler -/
  tlb : Nat
  /-- shoot-down number -/
  sd : Nat
  deriving DecidableEq, Repr, Inhabited

/-- Operands of a shoot-down. -/
structure OpShoot where
  /-- shoot-down number -/
  sd : Nat
  deriving DecidableEq, Repr, Inhabited

/-- Operands of a user queue. -/
structure OpQueueNo where
  /-- 0 to 4,095 -/
  q : Nat
  deriving DecidableEq, Repr, Inhabited

/-- Operands of a hardware queue slot. -/
structure OpSlot where
  /-- 0 to 63 -/
  slot : Nat
  deriving DecidableEq, Repr, Inhabited

/-- Operands of an output port of a router. -/
structure OpPort where
  /-- 0 request, 1 response -/
  plane : Nat
  /-- pillar -/
  p : Nat
  /-- 0 local, 1 north, 2 east, 3 south, 4 west -/
  port : Nat
  deriving DecidableEq, Repr, Inhabited

/-- Operands of what the power controller measures (R440). -/
structure OpPowerSample where
  /-- package power in milliwatts -/
  pkg : Nat
  /-- partition and its power in milliwatts -/
  parts : List (Nat × Nat)
  /-- energy drawn by each domain of each core, in picojoules: core × 4 + domain (0 scalar front ends, 1 lanes, 2 vector memory unit) -/
  energy : List (Nat × Nat)
  deriving DecidableEq, Repr, Inhabited

/-- Operands of a time in nanoseconds. -/
structure OpNs where
  /-- nanoseconds -/
  ns : Nat
  deriving DecidableEq, Repr, Inhabited

/-- Operands of a UALink port. -/
structure OpLink where
  /-- 0 to 23 -/
  port : Nat
  deriving DecidableEq, Repr, Inhabited

/-- An Ehrez packet with its header (R426). -/
structure EhrezPacket where
  /-- VER -/
  ver : Nat
  /-- TYPE -/
  type : Nat
  /-- CONN -/
  conn : Nat
  /-- SEQ -/
  seq : Nat
  /-- ACK -/
  ack : Nat
  /-- LEN -/
  len : Nat
  /-- ADDR -/
  addr : Nat
  /-- STATUS -/
  status : Nat
  /-- reserved bytes -/
  rsvd : Nat
  /-- payload -/
  data : List (BitVec 8)
  deriving DecidableEq, Repr, Inhabited

/-- What carries an Ehrez packet (R425): the frame and its headers. -/
structure EthFrame where
  /-- IPv6, and not IPv4 -/
  ipv6 : Bool := true
  /-- an IPv6 fragment -/
  fragment : Bool := false
  /-- a packet with extension headers -/
  extension : Bool := false
  /-- bytes of the frame -/
  size : Nat := 64
  /-- UDP destination port -/
  port : Nat := 47806
  deriving DecidableEq, Repr, Inhabited

/-- Operands of an Ehrez packet arriving. -/
structure OpEhrez where
  /-- the frame that carries it -/
  frame : EthFrame := { }
  /-- the packet -/
  pkt : EhrezPacket
  deriving DecidableEq, Repr, Inhabited

/-- Operands of an Ehrez connection. -/
structure OpConn where
  /-- 0 to 255 -/
  conn : Nat
  deriving DecidableEq, Repr, Inhabited

/-- Operands of a boot packet. -/
structure OpBoot where
  /-- the packet, whose payload is bytes of the image -/
  pkt : EhrezPacket
  /-- true on the last packet -/
  last : Bool
  deriving DecidableEq, Repr, Inhabited

/-- Operands of a nonce. -/
structure OpNonce where
  /-- 32 bytes as a number -/
  nonce : Nat
  deriving DecidableEq, Repr, Inhabited

/-- Operands of a number. -/
structure OpNumber where
  /-- the number -/
  n : Nat
  deriving DecidableEq, Repr, Inhabited

/-- Operands of a refresh phase. -/
structure OpPhase where
  /-- pillar -/
  p : Nat
  /-- phase in nanoseconds -/
  phi : Nat
  deriving DecidableEq, Repr, Inhabited

/-- Operands of a physical base. -/
structure OpBase where
  /-- physical address -/
  base : Nat
  deriving DecidableEq, Repr, Inhabited

/-- Operands of a ring. -/
structure OpRing where
  /-- physical base -/
  base : Nat
  /-- log2 of the records -/
  n : Nat
  /-- producer count -/
  prod : Nat
  /-- consumer count -/
  cons : Nat
  deriving DecidableEq, Repr, Inhabited

/-- Operands of a trace ring (R220). -/
structure OpTraceRing where
  /-- partition -/
  part : Nat
  /-- virtual base -/
  base : Nat
  /-- log2 of the records -/
  n : Nat
  /-- kind mask -/
  mask : Nat
  /-- producer count -/
  prod : Nat
  /-- consumer count -/
  cons : Nat
  deriving DecidableEq, Repr, Inhabited

/-- Operands of a gang change (R195). -/
structure OpGang where
  /-- pillar -/
  p : Nat
  /-- first cluster -/
  first : Nat
  /-- gang width -/
  width : Nat
  deriving DecidableEq, Repr, Inhabited

/-- Operands of a kernel to load (R402). -/
structure OpKernel where
  /-- engine -/
  e : Nat
  /-- kernel slot -/
  slot : Nat
  /-- owner -/
  owner : Nat
  /-- the words -/
  words : List Nat
  deriving DecidableEq, Repr, Inhabited

/-- Operands of a kernel slot. -/
structure OpKernelSlot where
  /-- engine -/
  e : Nat
  /-- kernel slot -/
  slot : Nat
  deriving DecidableEq, Repr, Inhabited

/-- A flow table entry (R197). -/
structure FlowEntry where
  /-- BASE -/
  base : Nat
  /-- MASK -/
  mask : Nat
  /-- SRCPKG -/
  srcpkg : Nat
  /-- CTL -/
  ctl : Nat
  /-- OWNER -/
  owner : Nat
  /-- ENGINE -/
  engine : Nat
  /-- the reserved byte at 0x15 -/
  rsv : Nat := 0
  /-- KERNEL -/
  kernel : Nat
  /-- STBASE -/
  stbase : Nat
  /-- STLEN -/
  stlen : Nat
  deriving DecidableEq, Repr, Inhabited

/-- Operands of a flow entry to write. -/
structure OpFlow where
  /-- port block -/
  blk : Nat
  /-- index -/
  idx : Nat
  /-- the entry -/
  entry : FlowEntry
  deriving DecidableEq, Repr, Inhabited

/-- Operands of an emit range (R404). -/
structure OpEmitRange where
  /-- port block -/
  blk : Nat
  /-- owner -/
  owner : Nat
  /-- 0 to 3 -/
  idx : Nat
  /-- physical base -/
  base : Nat
  /-- length -/
  len : Nat
  deriving DecidableEq, Repr, Inhabited

/-- Operands of an event area (R404). -/
structure OpEventArea where
  /-- port block -/
  blk : Nat
  /-- owner -/
  owner : Nat
  /-- physical base, 0 with n = 0 removes it -/
  base : Nat
  /-- log2 of the records -/
  n : Nat
  /-- producer count -/
  prod : Nat
  /-- consumer count -/
  cons : Nat
  deriving DecidableEq, Repr, Inhabited

/-- Operands of a reduction record (R415). -/
structure OpRecord where
  /-- port block -/
  blk : Nat
  /-- true: of the reduction cache -/
  cached : Bool
  /-- flow index, or source package -/
  a : Nat
  /-- bobbin -/
  b : Nat
  /-- TASKID, of a cached record -/
  sender : Nat
  deriving DecidableEq, Repr, Inhabited

/-- Operands of a connection to open (R428). -/
structure OpOpen where
  /-- 1 to 255 -/
  conn : Nat
  /-- owner -/
  owner : Nat
  /-- device virtual base -/
  base : Nat
  /-- device length -/
  len : Nat
  /-- RD -/
  rd : Bool
  /-- WR -/
  wr : Bool
  /-- length of the host range -/
  hostLen : Nat
  deriving DecidableEq, Repr, Inhabited

/-- Operands of a partition-control message (R147). -/
structure OpPartition where
  /-- partition -/
  part : Nat
  /-- owner -/
  owner : Option Nat
  /-- cores -/
  cores : Option (List Nat)
  /-- power grant in milliwatts -/
  grant : Option Nat
  /-- pool base and length -/
  pool : Option (Nat × Nat)
  /-- ageing step -/
  agestep : Option Nat
  deriving DecidableEq, Repr, Inhabited

/-- Operands of a translation root. -/
structure OpRoot where
  /-- owner -/
  owner : Nat
  /-- physical base -/
  root : Nat
  deriving DecidableEq, Repr, Inhabited

/-- Operands of a trap routing table. -/
structure OpRouting where
  /-- owner -/
  owner : Nat
  /-- 64 entries of 2 bits -/
  table : Nat
  deriving DecidableEq, Repr, Inhabited

/-- Operands of a key message (R441). -/
structure OpKeys where
  /-- owner -/
  owner : Nat
  /-- the encrypted 96 bytes as a number -/
  cipher : Nat
  deriving DecidableEq, Repr, Inhabited

/-- Operands of a power grant (R439). -/
structure OpGrant where
  /-- partition -/
  part : Nat
  /-- milliwatts -/
  mw : Nat
  /-- a cap of the package in milliwatts; none: the message is a grant -/
  cap : Option Nat := none
  deriving DecidableEq, Repr, Inhabited

/-- Operands of a partition. -/
structure OpPart where
  /-- partition -/
  part : Nat
  deriving DecidableEq, Repr, Inhabited

/-- Operands of a context repair (R444). -/
structure OpRepair where
  /-- TASKID -/
  task : Nat
  /-- position in the REPAIR list -/
  item : Nat
  /-- value written -/
  value : Nat
  deriving DecidableEq, Repr, Inhabited

/-- Operands of a container to import (R444). -/
structure OpImport where
  /-- TASKID -/
  task : Nat
  /-- the exported container as a number -/
  blob : Nat
  deriving DecidableEq, Repr, Inhabited

end Sys2Proof
end

