-- ==== Sys2Proof/Syntax.lean ====
section
/-! DEFINITION. The instruction set: one constructor per row of spec/opcode_table.json, in its order.
Rows 0 to 284 are the Yeles 4 instructions, 285 to 380 the Golpin words, 381 to 488 the device events and control messages. -/

namespace Sys2Proof

/-- An instruction, a Golpin word, or a device event. -/
inductive Instr where
  /-- LD_I8 (R296). -/
  | ldI8 (o : OpLoad)
  /-- LD_I16 (R296). -/
  | ldI16 (o : OpLoad)
  /-- LD_I32 (R296). -/
  | ldI32 (o : OpLoad)
  /-- LD_I64 (R296). -/
  | ldI64 (o : OpLoad)
  /-- LD_N8 (R296). -/
  | ldN8 (o : OpLoad)
  /-- LD_N16 (R296). -/
  | ldN16 (o : OpLoad)
  /-- LD_N32 (R296). -/
  | ldN32 (o : OpLoad)
  /-- LD_F16 (R296). -/
  | ldF16 (o : OpLoad)
  /-- LD_F32 (R296). -/
  | ldF32 (o : OpLoad)
  /-- LD_F64 (R296). -/
  | ldF64 (o : OpLoad)
  /-- ST_N8 (R296). -/
  | stN8 (o : OpStore)
  /-- ST_N16 (R296). -/
  | stN16 (o : OpStore)
  /-- ST_N32 (R296). -/
  | stN32 (o : OpStore)
  /-- ST_N64 (R296). -/
  | stN64 (o : OpStore)
  /-- ST_F16 (R296). -/
  | stF16 (o : OpStore)
  /-- ST_F32 (R296). -/
  | stF32 (o : OpStore)
  /-- ST_F64 (R296). -/
  | stF64 (o : OpStore)
  /-- LD_FE (R298). -/
  | ldFe (o : OpLoadFe)
  /-- LD_TAKE (R298). -/
  | ldTake (o : OpLoadFe)
  /-- ST_FILL (R298). -/
  | stFill (o : OpStoreFill)
  /-- ADDI (R292). -/
  | addi (o : OpI)
  /-- LUI (R292). -/
  | lui (o : OpJ)
  /-- ADDPC (R292). -/
  | addpc (o : OpJ)
  /-- SLLI (R293). -/
  | slli (o : OpShift)
  /-- SRLI (R293). -/
  | srli (o : OpShift)
  /-- SRAI (R293). -/
  | srai (o : OpShift)
  /-- ANDI (R293). -/
  | andi (o : OpImm12)
  /-- ORI (R293). -/
  | ori (o : OpImm12)
  /-- XORI (R293). -/
  | xori (o : OpImm12)
  /-- SETLTI (R293). -/
  | setlti (o : OpImm12)
  /-- SETLTIU (R293). -/
  | setltiu (o : OpImm12)
  /-- ADD (R294). -/
  | add (o : OpRRR)
  /-- SUB (R294). -/
  | sub (o : OpRRR)
  /-- AND (R294). -/
  | andR (o : OpRRR)
  /-- OR (R294). -/
  | orR (o : OpRRR)
  /-- XOR (R294). -/
  | xorR (o : OpRRR)
  /-- SLL (R294). -/
  | sll (o : OpRRR)
  /-- SRL (R294). -/
  | srl (o : OpRRR)
  /-- SRA (R294). -/
  | sra (o : OpRRR)
  /-- SETLT (R294). -/
  | setlt (o : OpRRR)
  /-- SETLTU (R294). -/
  | setltu (o : OpRRR)
  /-- MIN (R294). -/
  | minR (o : OpRRR)
  /-- MAX (R294). -/
  | maxR (o : OpRRR)
  /-- MINU (R294). -/
  | minu (o : OpRRR)
  /-- MAXU (R294). -/
  | maxu (o : OpRRR)
  /-- ANDINV (R294). -/
  | andinv (o : OpRRR)
  /-- ORINV (R294). -/
  | orinv (o : OpRRR)
  /-- MUL (R294). -/
  | mul (o : OpRRR)
  /-- MULHI (R294). -/
  | mulhi (o : OpRRR)
  /-- MULHIU (R294). -/
  | mulhiu (o : OpRRR)
  /-- MULHMIX (R294). -/
  | mulhmix (o : OpRRR)
  /-- DIV (R43). -/
  | div (o : OpRRR)
  /-- DIVU (R43). -/
  | divu (o : OpRRR)
  /-- REM (R43). -/
  | rem (o : OpRRR)
  /-- REMU (R43). -/
  | remu (o : OpRRR)
  /-- IXADD1 (R294). -/
  | ixadd1 (o : OpRRR)
  /-- IXADD2 (R294). -/
  | ixadd2 (o : OpRRR)
  /-- IXADD3 (R294). -/
  | ixadd3 (o : OpRRR)
  /-- IXADD4 (R294). -/
  | ixadd4 (o : OpRRR)
  /-- ZLEAD (R294). -/
  | zlead (o : OpRR)
  /-- ZTRAIL (R294). -/
  | ztrail (o : OpRR)
  /-- ONES (R294). -/
  | ones (o : OpRR)
  /-- JAL (R295). -/
  | jal (o : OpJ)
  /-- JALR (R295). -/
  | jalr (o : OpI)
  /-- BEQ (R295). -/
  | beq (o : OpBranch)
  /-- BNE (R295). -/
  | bne (o : OpBranch)
  /-- BLT (R295). -/
  | blt (o : OpBranch)
  /-- BGE (R295). -/
  | bge (o : OpBranch)
  /-- BLTU (R295). -/
  | bltu (o : OpBranch)
  /-- BGEU (R295). -/
  | bgeu (o : OpBranch)
  /-- FADD (R299). -/
  | fadd (o : OpFloat3)
  /-- FSUB (R299). -/
  | fsub (o : OpFloat3)
  /-- FMUL (R299). -/
  | fmul (o : OpFloat3)
  /-- FDIV (R299). -/
  | fdiv (o : OpFloat3)
  /-- FSQRT (R299). -/
  | fsqrt (o : OpFloat2)
  /-- FMIN (R299). -/
  | fmin (o : OpFloat3n)
  /-- FMAX (R299). -/
  | fmax (o : OpFloat3n)
  /-- FSGCPY (R299). -/
  | fsgcpy (o : OpFloat3n)
  /-- FSGINV (R299). -/
  | fsginv (o : OpFloat3n)
  /-- FSGXOR (R299). -/
  | fsgxor (o : OpFloat3n)
  /-- FCMPEQ (R299). -/
  | fcmpeq (o : OpFloat3n)
  /-- FCMPLT (R299). -/
  | fcmplt (o : OpFloat3n)
  /-- FCMPLE (R299). -/
  | fcmple (o : OpFloat3n)
  /-- FKIND (R299). -/
  | fkind (o : OpFloat2n)
  /-- FTOI (R52). -/
  | ftoi (o : OpFloatCvt)
  /-- ITOF (R52). -/
  | itof (o : OpFloatCvt)
  /-- FTOF (R51). -/
  | ftof (o : OpFloatCvt)
  /-- FBITSX (R299). -/
  | fbitsx (o : OpRR)
  /-- XBITSF (R299). -/
  | xbitsf (o : OpRR)
  /-- FMADD (R301). -/
  | fmadd (o : OpFmadd)
  /-- AMO_SWAP (R303). -/
  | amoSwap (o : OpAmo)
  /-- AMO_ADD (R303). -/
  | amoAdd (o : OpAmo)
  /-- AMO_AND (R303). -/
  | amoAnd (o : OpAmo)
  /-- AMO_OR (R303). -/
  | amoOr (o : OpAmo)
  /-- AMO_XOR (R303). -/
  | amoXor (o : OpAmo)
  /-- AMO_MIN (R303). -/
  | amoMin (o : OpAmo)
  /-- AMO_MAX (R303). -/
  | amoMax (o : OpAmo)
  /-- AMO_MINU (R303). -/
  | amoMinu (o : OpAmo)
  /-- AMO_MAXU (R303). -/
  | amoMaxu (o : OpAmo)
  /-- AMO_FADD (R303). -/
  | amoFadd (o : OpAmo)
  /-- AMO_FMAX (R303). -/
  | amoFmax (o : OpAmo)
  /-- AMO_CAS (R303). -/
  | amoCas (o : OpAmo)
  /-- CAS2 (R304). -/
  | cas2 (o : OpCas2)
  /-- MFS (R306). -/
  | mfs (o : OpMfs)
  /-- MTS (R77). -/
  | mts (o : OpMts)
  /-- FENCE_SV (R129). -/
  | fenceSv
  /-- FENCE_VS (R129). -/
  | fenceVs
  /-- FENCE_VV (R129). -/
  | fenceVv
  /-- FENCE_ALL (R129). -/
  | fenceAll
  /-- SYSCALL (R309). -/
  | syscall (o : OpImm10)
  /-- BREAK (R309). -/
  | breakTrap (o : OpImm10)
  /-- ERET (R79). -/
  | eret
  /-- WFE (R310). -/
  | wfe
  /-- EXIT (R33). -/
  | exitTask
  /-- YIELD (R311). -/
  | yieldTask
  /-- TLBI_PG (R312). -/
  | tlbiPg (o : OpAB)
  /-- TLBI_ALL (R312). -/
  | tlbiAll (o : OpB)
  /-- CWB (R313). -/
  | cwb (o : OpA)
  /-- CINV (R313). -/
  | cinv (o : OpA)
  /-- ICINV (R313). -/
  | icinv (o : OpA)
  /-- ICINVALL (R313). -/
  | icinvall
  /-- QPUT (R314). -/
  | qput (o : OpQput)
  /-- QGET (R314). -/
  | qget (o : OpQget)
  /-- QPEEK (R314). -/
  | qpeek (o : OpQget)
  /-- SPAWN (R315). -/
  | spawn (o : OpRRR)
  /-- NOP (R262). -/
  | nop
  /-- HINT (R262). -/
  | hint (o : OpHint)
  /-- C_LD_I64 (R269). -/
  | cLdI64 (o : OpCM)
  /-- C_LD_I32 (R269). -/
  | cLdI32 (o : OpCM)
  /-- C_ST_N64 (R269). -/
  | cStN64 (o : OpCM)
  /-- C_ST_N32 (R269). -/
  | cStN32 (o : OpCM)
  /-- C_LD_F64 (R269). -/
  | cLdF64 (o : OpCM)
  /-- C_ST_F64 (R269). -/
  | cStF64 (o : OpCM)
  /-- C_NOP (R270). -/
  | cNop
  /-- C_ADDI (R269). -/
  | cAddi (o : OpCI)
  /-- C_LI (R269). -/
  | cLi (o : OpCI)
  /-- C_LUI (R269). -/
  | cLui (o : OpCI)
  /-- C_SLLI (R269). -/
  | cSlli (o : OpCI)
  /-- C_ANDI (R269). -/
  | cAndi (o : OpCI)
  /-- C_J (R269). -/
  | cJ (o : OpCJ)
  /-- C_BEQZ (R269). -/
  | cBeqz (o : OpCB)
  /-- C_BNEZ (R269). -/
  | cBnez (o : OpCB)
  /-- C_MV (R269). -/
  | cMv (o : OpCR)
  /-- C_ADD (R269). -/
  | cAdd (o : OpCR)
  /-- C_JR (R269). -/
  | cJr (o : OpC1)
  /-- C_JALR (R269). -/
  | cJalr (o : OpC1)
  /-- C_SUB (R269). -/
  | cSub (o : OpCR)
  /-- C_AND (R269). -/
  | cAnd (o : OpCR)
  /-- C_OR (R269). -/
  | cOr (o : OpCR)
  /-- C_XOR (R269). -/
  | cXor (o : OpCR)
  /-- VSETL (R322). -/
  | vsetl (o : OpVsetl)
  /-- VCFG (R323). -/
  | vcfg (o : OpVcfg)
  /-- VADD (R324). -/
  | vadd (o : OpV)
  /-- VSUB (R324). -/
  | vsub (o : OpV)
  /-- VSUBR (R324). -/
  | vsubr (o : OpV)
  /-- VMUL (R324). -/
  | vmul (o : OpV)
  /-- VMULHI (R324). -/
  | vmulhi (o : OpV)
  /-- VMULHIU (R324). -/
  | vmulhiu (o : OpV)
  /-- VDIV (R324). -/
  | vdiv (o : OpV)
  /-- VDIVU (R324). -/
  | vdivu (o : OpV)
  /-- VREM (R324). -/
  | vrem (o : OpV)
  /-- VREMU (R324). -/
  | vremu (o : OpV)
  /-- VAND (R324). -/
  | vand (o : OpV)
  /-- VOR (R324). -/
  | vor (o : OpV)
  /-- VXOR (R324). -/
  | vxor (o : OpV)
  /-- VSLL (R324). -/
  | vsll (o : OpV)
  /-- VSRL (R324). -/
  | vsrl (o : OpV)
  /-- VSRA (R324). -/
  | vsra (o : OpV)
  /-- VMIN (R324). -/
  | vmin (o : OpV)
  /-- VMAX (R324). -/
  | vmax (o : OpV)
  /-- VMINU (R324). -/
  | vminu (o : OpV)
  /-- VMAXU (R324). -/
  | vmaxu (o : OpV)
  /-- VADDSAT (R324). -/
  | vaddsat (o : OpV)
  /-- VADDSATU (R324). -/
  | vaddsatu (o : OpV)
  /-- VSUBSAT (R324). -/
  | vsubsat (o : OpV)
  /-- VSUBSATU (R324). -/
  | vsubsatu (o : OpV)
  /-- VMULQ (R324). -/
  | vmulq (o : OpV)
  /-- VMULW (R325). -/
  | vmulw (o : OpV)
  /-- VMULWU (R325). -/
  | vmulwu (o : OpV)
  /-- VMACW (R325). -/
  | vmacw (o : OpV)
  /-- VNARROWS (R325). -/
  | vnarrows (o : OpV)
  /-- VNARROWU (R325). -/
  | vnarrowu (o : OpV)
  /-- VFADD (R326). -/
  | vfadd (o : OpV)
  /-- VFSUB (R326). -/
  | vfsub (o : OpV)
  /-- VFRSUB (R326). -/
  | vfrsub (o : OpV)
  /-- VFMUL (R326). -/
  | vfmul (o : OpV)
  /-- VFDIV (R326). -/
  | vfdiv (o : OpV)
  /-- VFMIN (R326). -/
  | vfmin (o : OpV)
  /-- VFMAX (R326). -/
  | vfmax (o : OpV)
  /-- VFMA (R326). -/
  | vfma (o : OpV)
  /-- VFNMA (R326). -/
  | vfnma (o : OpV)
  /-- VFSGCPY (R326). -/
  | vfsgcpy (o : OpV)
  /-- VFSGINV (R326). -/
  | vfsginv (o : OpV)
  /-- VFSGXOR (R326). -/
  | vfsgxor (o : OpV)
  /-- VFSQRT (R326). -/
  | vfsqrt (o : OpVun)
  /-- VFEXP2 (R327). -/
  | vfexp2 (o : OpVun)
  /-- VFLOG2 (R327). -/
  | vflog2 (o : OpVun)
  /-- VFRCP (R327). -/
  | vfrcp (o : OpVun)
  /-- VFRSQRT (R327). -/
  | vfrsqrt (o : OpVun)
  /-- VFCVT (R328). -/
  | vfcvt (o : OpVcvt)
  /-- VFCVT_RS (R331). -/
  | vfcvtRs (o : OpVcvtRs)
  /-- VCMPEQ (R333). -/
  | vcmpeq (o : OpVcmp)
  /-- VCMPNE (R333). -/
  | vcmpne (o : OpVcmp)
  /-- VCMPLT (R333). -/
  | vcmplt (o : OpVcmp)
  /-- VCMPLE (R333). -/
  | vcmple (o : OpVcmp)
  /-- VCMPLTU (R333). -/
  | vcmpltu (o : OpVcmp)
  /-- VCMPLEU (R333). -/
  | vcmpleu (o : OpVcmp)
  /-- VQGET (R336). -/
  | vqget (o : OpVqget)
  /-- VQPUT (R336). -/
  | vqput (o : OpVqput)
  /-- VFCMPEQ (R333). -/
  | vfcmpeq (o : OpVcmp)
  /-- VFCMPNE (R333). -/
  | vfcmpne (o : OpVcmp)
  /-- VFCMPLT (R333). -/
  | vfcmplt (o : OpVcmp)
  /-- VFCMPLE (R333). -/
  | vfcmple (o : OpVcmp)
  /-- KAND (R334). -/
  | kand (o : OpKlogic)
  /-- KOR (R334). -/
  | kor (o : OpKlogic)
  /-- KXOR (R334). -/
  | kxor (o : OpKlogic)
  /-- KANDINV (R334). -/
  | kandinv (o : OpKlogic)
  /-- KCOUNT (R335). -/
  | kcount (o : OpKcount)
  /-- KFFS (R335). -/
  | kffs (o : OpKcount)
  /-- VSHUP (R337). -/
  | vshup (o : OpV)
  /-- VSHDN (R337). -/
  | vshdn (o : OpV)
  /-- VPICK (R338). -/
  | vpick (o : OpV)
  /-- VCOMPACT (R339). -/
  | vcompact (o : OpVcompact)
  /-- VASSIGN (R340). -/
  | vassign (o : OpVbd)
  /-- VRAMP (R340). -/
  | vramp (o : OpVbd)
  /-- VFOLDADD (R342). -/
  | vfoldadd (o : OpV)
  /-- VFOLDMIN (R342). -/
  | vfoldmin (o : OpV)
  /-- VFOLDMAX (R342). -/
  | vfoldmax (o : OpV)
  /-- VREDMAXI (R343). -/
  | vredmaxi (o : OpVad)
  /-- VGETX (R341). -/
  | vgetx (o : OpVget)
  /-- VGETF (R341). -/
  | vgetf (o : OpVget)
  /-- VSCAN (R344). -/
  | vscan (o : OpV)
  /-- VRAND (R345). -/
  | vrand (o : OpVrand)
  /-- VLD (R356). -/
  | vld (o : OpVmem)
  /-- VLDX (R356). -/
  | vldx (o : OpVmemX)
  /-- VLDFF (R357). -/
  | vldff (o : OpVmem1)
  /-- VLDSH (R89). -/
  | vldsh (o : OpVmem1)
  /-- VLDA (R361). -/
  | vlda (o : OpVmemX)
  /-- VST (R356). -/
  | vst (o : OpVmem)
  /-- VSTX (R356). -/
  | vstx (o : OpVmemX)
  /-- VSTSH (R89). -/
  | vstsh (o : OpVmem1)
  /-- VLD_FE (R359). -/
  | vldFe (o : OpVmemFe)
  /-- VLD_TAKE (R359). -/
  | vldTake (o : OpVmemFe)
  /-- VST_FILL (R359). -/
  | vstFill (o : OpVmemFe)
  /-- BAR_ARR (R365). -/
  | barArr (o : OpBarArr)
  /-- BAR_WAIT (R366). -/
  | barWait (o : OpBarWait)
  /-- VAMO_SWAP (R360). -/
  | vamoSwap (o : OpVmemX)
  /-- VAMO_ADD (R360). -/
  | vamoAdd (o : OpVmemX)
  /-- VAMO_AND (R360). -/
  | vamoAnd (o : OpVmemX)
  /-- VAMO_OR (R360). -/
  | vamoOr (o : OpVmemX)
  /-- VAMO_XOR (R360). -/
  | vamoXor (o : OpVmemX)
  /-- VAMO_MIN (R360). -/
  | vamoMin (o : OpVmemX)
  /-- VAMO_MAX (R360). -/
  | vamoMax (o : OpVmemX)
  /-- VAMO_MINU (R360). -/
  | vamoMinu (o : OpVmemX)
  /-- VAMO_MAXU (R360). -/
  | vamoMaxu (o : OpVmemX)
  /-- VAMO_FADD (R360). -/
  | vamoFadd (o : OpVmemX)
  /-- VAMO_FMAX (R360). -/
  | vamoFmax (o : OpVmemX)
  /-- VAMO_CAS (R360). -/
  | vamoCas (o : OpVmemX)
  /-- TLWAIT_REG (R391). -/
  | tlwaitReg (o : OpTlwait)
  /-- TLWAIT_MEM (R391). -/
  | tlwaitMem (o : OpRRR)
  /-- TLREAD (R392). -/
  | tlread (o : OpTlread)
  /-- TLADV (R393). -/
  | tladv (o : OpTladv)
  /-- FECLR (R394). -/
  | feclr (o : OpAB)
  /-- CPYABORT (R213). -/
  | cpyabort (o : OpBob)
  /-- CPYSTAT (R395). -/
  | cpystat (o : OpCpystat)
  /-- MCFG (R371). -/
  | mcfg (o : OpXa)
  /-- MLD (R372). -/
  | mld (o : OpMld)
  /-- MST (R372). -/
  | mst (o : OpMst)
  /-- MZERO (R373). -/
  | mzero (o : OpTd)
  /-- MMA (R374). -/
  | mma (o : OpMma)
  /-- MMAG (R376). -/
  | mmag (o : OpMmag)
  /-- MTOV (R377). -/
  | mtov (o : OpMtov)
  /-- VTOM (R378). -/
  | vtom (o : OpVtom)
  /-- MTRANS (R379). -/
  | mtrans (o : OpMtrans)
  /-- MCVT (R380). -/
  | mcvt (o : OpMcvt)
  /-- MPREF (R373). -/
  | mpref (o : OpTa)
  /-- MDROP (R373). -/
  | mdrop (o : OpTd)
  /-- MSEND (R382). -/
  | msend (o : OpMsend)
  /-- MOPEN (R373). -/
  | mopen (o : OpTd)
  /-- MSCALE (R381). -/
  | mscale (o : OpMcvt)
  /-- MADD (R381). -/
  | madd (o : OpMcvt)
  /-- CPY (R386). -/
  | cpy (o : OpCpy)
  /-- CPYROWS (R387). -/
  | cpyrows (o : OpCpyrows)
  /-- CPYV (R388). -/
  | cpyv (o : OpCpyv)
  /-- CPYRED (R389). -/
  | cpyred (o : OpCpy)
  /-- GOLPIN_ADD (R406). -/
  | golpinAdd (o : OpG3)
  /-- GOLPIN_SUB (R406). -/
  | golpinSub (o : OpG3)
  /-- GOLPIN_AND (R406). -/
  | golpinAnd (o : OpG3)
  /-- GOLPIN_OR (R406). -/
  | golpinOr (o : OpG3)
  /-- GOLPIN_XOR (R406). -/
  | golpinXor (o : OpG3)
  /-- GOLPIN_SLL (R406). -/
  | golpinSll (o : OpG3)
  /-- GOLPIN_SRL (R406). -/
  | golpinSrl (o : OpG3)
  /-- GOLPIN_SRA (R406). -/
  | golpinSra (o : OpG3)
  /-- GOLPIN_MIN (R406). -/
  | golpinMin (o : OpG3)
  /-- GOLPIN_MAX (R406). -/
  | golpinMax (o : OpG3)
  /-- GOLPIN_MINU (R406). -/
  | golpinMinu (o : OpG3)
  /-- GOLPIN_MAXU (R406). -/
  | golpinMaxu (o : OpG3)
  /-- GOLPIN_MUL (R406). -/
  | golpinMul (o : OpG3)
  /-- GOLPIN_SETLT (R406). -/
  | golpinSetlt (o : OpG3)
  /-- GOLPIN_SETLTU (R406). -/
  | golpinSetltu (o : OpG3)
  /-- GOLPIN_ADDI (R406). -/
  | golpinAddi (o : OpGi)
  /-- GOLPIN_ANDI (R406). -/
  | golpinAndi (o : OpGi)
  /-- GOLPIN_ORI (R406). -/
  | golpinOri (o : OpGi)
  /-- GOLPIN_XORI (R406). -/
  | golpinXori (o : OpGi)
  /-- GOLPIN_SLLI (R406). -/
  | golpinSlli (o : OpGsh)
  /-- GOLPIN_SRLI (R406). -/
  | golpinSrli (o : OpGsh)
  /-- GOLPIN_SRAI (R406). -/
  | golpinSrai (o : OpGsh)
  /-- GOLPIN_LUI (R406). -/
  | golpinLui (o : OpGlui)
  /-- GOLPIN_BEQ (R406). -/
  | golpinBeq (o : OpGb)
  /-- GOLPIN_BNE (R406). -/
  | golpinBne (o : OpGb)
  /-- GOLPIN_BLT (R406). -/
  | golpinBlt (o : OpGb)
  /-- GOLPIN_BGE (R406). -/
  | golpinBge (o : OpGb)
  /-- GOLPIN_BLTU (R406). -/
  | golpinBltu (o : OpGb)
  /-- GOLPIN_BGEU (R406). -/
  | golpinBgeu (o : OpGb)
  /-- LADD_VV (R406). -/
  | laddVv (o : OpGl)
  /-- LSUB_VV (R406). -/
  | lsubVv (o : OpGl)
  /-- LAND_VV (R406). -/
  | landVv (o : OpGl)
  /-- LOR_VV (R406). -/
  | lorVv (o : OpGl)
  /-- LXOR_VV (R406). -/
  | lxorVv (o : OpGl)
  /-- LMIN_VV (R406). -/
  | lminVv (o : OpGl)
  /-- LMAX_VV (R406). -/
  | lmaxVv (o : OpGl)
  /-- LMINU_VV (R406). -/
  | lminuVv (o : OpGl)
  /-- LMAXU_VV (R406). -/
  | lmaxuVv (o : OpGl)
  /-- LMUL_VV (R406). -/
  | lmulVv (o : OpGl)
  /-- LFADD_VV (R406). -/
  | lfaddVv (o : OpGl)
  /-- LFMAX_VV (R406). -/
  | lfmaxVv (o : OpGl)
  /-- LFMIN_VV (R406). -/
  | lfminVv (o : OpGl)
  /-- LBFADD_VV (R406). -/
  | lbfaddVv (o : OpGl)
  /-- LADD_VS (R406). -/
  | laddVs (o : OpGl)
  /-- LSUB_VS (R406). -/
  | lsubVs (o : OpGl)
  /-- LAND_VS (R406). -/
  | landVs (o : OpGl)
  /-- LOR_VS (R406). -/
  | lorVs (o : OpGl)
  /-- LXOR_VS (R406). -/
  | lxorVs (o : OpGl)
  /-- LMIN_VS (R406). -/
  | lminVs (o : OpGl)
  /-- LMAX_VS (R406). -/
  | lmaxVs (o : OpGl)
  /-- LMINU_VS (R406). -/
  | lminuVs (o : OpGl)
  /-- LMAXU_VS (R406). -/
  | lmaxuVs (o : OpGl)
  /-- LMUL_VS (R406). -/
  | lmulVs (o : OpGl)
  /-- LFADD_VS (R406). -/
  | lfaddVs (o : OpGl)
  /-- LFMAX_VS (R406). -/
  | lfmaxVs (o : OpGl)
  /-- LFMIN_VS (R406). -/
  | lfminVs (o : OpGl)
  /-- LBFADD_VS (R406). -/
  | lbfaddVs (o : OpGl)
  /-- LCMPEQ (R406). -/
  | lcmpeq (o : OpGcmp)
  /-- LCMPNE (R406). -/
  | lcmpne (o : OpGcmp)
  /-- LCMPLT (R406). -/
  | lcmplt (o : OpGcmp)
  /-- LCMPLTU (R406). -/
  | lcmpltu (o : OpGcmp)
  /-- LCMPFEQ (R406). -/
  | lcmpfeq (o : OpGcmp)
  /-- LCMPFLT (R406). -/
  | lcmpflt (o : OpGcmp)
  /-- LCMPFLE (R406). -/
  | lcmpfle (o : OpGcmp)
  /-- JAND (R406). -/
  | jand (o : OpJ3)
  /-- JOR (R406). -/
  | jor (o : OpJ3)
  /-- JXOR (R406). -/
  | jxor (o : OpJ3)
  /-- JANDINV (R406). -/
  | jandinv (o : OpJ3)
  /-- JTOH (R406). -/
  | jtoh (o : OpJtoh)
  /-- HTOJ (R406). -/
  | htoj (o : OpHtoj)
  /-- JCOUNT (R406). -/
  | jcount (o : OpJtoh)
  /-- LBCST (R406). -/
  | lbcst (o : OpGbcst)
  /-- LEXT (R406). -/
  | lext (o : OpGlane)
  /-- LINS (R406). -/
  | lins (o : OpGlane)
  /-- LREDADD (R406). -/
  | lredadd (o : OpGl)
  /-- LREDFADD (R406). -/
  | lredfadd (o : OpGl)
  /-- LREDMAX (R406). -/
  | lredmax (o : OpGl)
  /-- LREDMAXU (R406). -/
  | lredmaxu (o : OpGl)
  /-- LREDFMAX (R406). -/
  | lredfmax (o : OpGl)
  /-- LREDFMIN (R406). -/
  | lredfmin (o : OpGl)
  /-- PLD (R407). -/
  | pld (o : OpGi)
  /-- PST (R407). -/
  | pst (o : OpGi)
  /-- PLDL (R407). -/
  | pldl (o : OpGi)
  /-- PSTL (R407). -/
  | pstl (o : OpGi)
  /-- SLD (R407). -/
  | sld (o : OpGi)
  /-- SST (R407). -/
  | sst (o : OpGi)
  /-- SLDL (R407). -/
  | sldl (o : OpGi)
  /-- SSTL (R407). -/
  | sstl (o : OpGi)
  /-- PFRESH (R408). -/
  | pfresh (o : OpPfresh)
  /-- LOOP (R409). -/
  | golpinLoop (o : OpLoop)
  /-- EMIT_ST (R412). -/
  | emitSt (o : OpEmit)
  /-- EMIT_WIN (R412). -/
  | emitWin (o : OpEmit)
  /-- FWD (R410). -/
  | fwd
  /-- DROP (R410). -/
  | golpinDrop
  /-- REPLY (R410). -/
  | reply
  /-- KTRAP (R410). -/
  | ktrap (o : OpKtrap)
  /-- GOLPIN_BUDGET_EXPIRY (R410). -/
  | golpinBudgetExpiry (o : OpEngine)
  /-- GOLPIN_PACKET_START (R396). -/
  | golpinPacketStart (o : OpEngine)
  /-- EMIT_DELIVERY (R412). -/
  | emitDelivery (o : OpEngine)
  /-- UALINK_PACKET_INGRESS (R166). -/
  | ualinkPacketIngress (o : OpUalink)
  /-- REDUCING_WRITE_ANSWER (R413). -/
  | reducingWriteAnswer (o : OpReducing)
  /-- REDUCING_WRITE_RESEND (R413). -/
  | reducingWriteResend (o : OpReducing)
  /-- REMOTE_REQUEST_PACKET (R362). -/
  | remoteRequestPacket (o : OpRequest)
  /-- REMOTE_ANSWER (R363). -/
  | remoteAnswer (o : OpAnswer)
  /-- MSEND_LANDING (R383). -/
  | msendLanding (o : OpSend)
  /-- MSEND_ANSWER (R383). -/
  | msendAnswer (o : OpSendAnswer)
  /-- MSEND_RETRY (R383). -/
  | msendRetry (o : OpThreadCmd)
  /-- SCHEDULING_STEP (R154). -/
  | schedulingStep
  /-- CONTEXT_SAVE_COMPLETE (R248). -/
  | contextSaveComplete (o : OpTask)
  /-- TASK_RETIREMENT (R33). -/
  | taskRetirement (o : OpThread)
  /-- BARRIER_POLL (R366). -/
  | barrierPoll (o : OpThread)
  /-- TLWAIT_POLL (R391). -/
  | tlwaitPoll (o : OpThread)
  /-- WFE_TIMEOUT (R310). -/
  | wfeTimeout (o : OpThread)
  /-- DEFERRED_TRAP_ENTRY (R231). -/
  | deferredTrapEntry (o : OpThread)
  /-- PAGER_FAULT_RECORD (R185). -/
  | pagerFaultRecord
  /-- VECTOR_INSTRUCTION_COMPLETE (R137). -/
  | vectorInstructionComplete (o : OpThread)
  /-- LANE_ARBITRATION (R161). -/
  | laneArbitration (o : OpCore)
  /-- TILE_UNIT_ISSUE (R160). -/
  | tileUnitIssue (o : OpCoreUnit)
  /-- TILE_INSTRUCTION_COMPLETE (R160). -/
  | tileInstructionComplete (o : OpThreadCmd)
  /-- TILE_FILL_COMPLETE (R188). -/
  | tileFillComplete (o : OpCoreTile)
  /-- BOBBIN_COMMAND_START (R75). -/
  | bobbinCommandStart (o : OpBobbin)
  /-- BOBBIN_ELEMENT_LANDING (R207). -/
  | bobbinElementLanding (o : OpBobbin)
  /-- BOBBIN_COMMAND_COMPLETE (R202). -/
  | bobbinCommandComplete (o : OpBobbin)
  /-- BOBBIN_FAULT (R211). -/
  | bobbinFault (o : OpBobbinFault)
  /-- BANK_ARBITER_GRANT (R91). -/
  | bankArbiterGrant (o : OpBank)
  /-- SCRATCHPAD_BANK_GRANT (R104). -/
  | scratchpadBankGrant (o : OpCoreBank)
  /-- REFRESH_WINDOW_OPEN (R94). -/
  | refreshWindowOpen (o : OpGroup)
  /-- REFRESH_WINDOW_CLOSE (R94). -/
  | refreshWindowClose (o : OpGroup)
  /-- REFRESH_CALENDAR_CHANGE (R93). -/
  | refreshCalendarChange (o : OpPillar)
  /-- DRAM_TEMPERATURE_CROSSING (R440). -/
  | dramTemperatureCrossing (o : OpHot)
  /-- L1_EVICTION (R97). -/
  | l1Eviction (o : OpCoreLine)
  /-- L2_EVICTION (R96). -/
  | l2Eviction (o : OpPillarLine)
  /-- WALK_COMPLETE (R183). -/
  | walkComplete (o : OpWalk)
  /-- TLB_INVALIDATION_RECEIPT (R182). -/
  | tlbInvalidationReceipt (o : OpTlbShoot)
  /-- TLB_INVALIDATION_ACK (R182). -/
  | tlbInvalidationAck (o : OpTlbShoot)
  /-- SHOOTDOWN_COMPLETE (R182). -/
  | shootdownComplete (o : OpShoot)
  /-- BANK_OFFLINE (R242). -/
  | bankOffline (o : OpBank)
  /-- OFFLINE_ACCESS_RETRY (R242). -/
  | offlineAccessRetry (o : OpBank)
  /-- CORE_QUIESCE_POINT (R244). -/
  | coreQuiescePoint (o : OpCore)
  /-- NOTIFY_SCAN (R151). -/
  | notifyScan (o : OpQueueNo)
  /-- NOTIFY_NOTICE (R151). -/
  | notifyNotice (o : OpSlot)
  /-- QUEUE_MAP (R151). -/
  | queueMap
  /-- QUEUE_UNMAP (R152). -/
  | queueUnmap (o : OpSlot)
  /-- WATCHDOG_EXPIRY (R158). -/
  | watchdogExpiry (o : OpSlot)
  /-- GALLERY_ARBITRATION (R165). -/
  | galleryArbitration (o : OpPort)
  /-- GALARB_APPLY (R215). -/
  | galarbApply (o : OpPort)
  /-- POWER_SAMPLE (R440). -/
  | powerSample (o : OpPowerSample)
  /-- THERMAL_TRIP (R440). -/
  | thermalTrip
  /-- TIME_MESSAGE_SEND (R218). -/
  | timeMessageSend
  /-- TIME_MESSAGE_RECEIPT (R218). -/
  | timeMessageReceipt (o : OpNs)
  /-- TIME_MASTER_LOSS (R218). -/
  | timeMasterLoss
  /-- LINK_FAILURE (R436). -/
  | linkFailure (o : OpLink)
  /-- EHREZ_PACKET_RECEIPT (R427). -/
  | ehrezPacketReceipt (o : OpEhrez)
  /-- EHREZ_WRITE (R428). -/
  | ehrezWrite (o : OpConn)
  /-- EHREZ_READ_REQUEST (R428). -/
  | ehrezReadRequest (o : OpConn)
  /-- EHREZ_READ_RESPONSE (R429). -/
  | ehrezReadResponse (o : OpConn)
  /-- EHREZ_ACKNOWLEDGEMENT (R427). -/
  | ehrezAcknowledgement (o : OpConn)
  /-- EHREZ_RETRANSMIT (R427). -/
  | ehrezRetransmit (o : OpConn)
  /-- POWER_ON (R443). -/
  | powerOn
  /-- BOOT_REQUEST (R443). -/
  | bootRequest
  /-- BOOT_PACKET (R443). -/
  | bootPacket (o : OpBoot)
  /-- IDENTITY (R430). -/
  | identity
  /-- ATTESTATION (R442). -/
  | attestation (o : OpNonce)
  /-- SET_PACKAGE_NUMBER (R434). -/
  | setPackageNumber (o : OpNumber)
  /-- SET_PILLAR_PHASE (R93). -/
  | setPillarPhase (o : OpPhase)
  /-- SET_GTIME (R217). -/
  | setGtime (o : OpNs)
  /-- SET_TIME_MASTER (R218). -/
  | setTimeMaster (o : OpNumber)
  /-- SET_QUEUE_TABLE_BASE (R148). -/
  | setQueueTableBase (o : OpBase)
  /-- CONFIGURE_FAULT_RING (R185). -/
  | configureFaultRing (o : OpRing)
  /-- CONFIGURE_TRACE_RING (R220). -/
  | configureTraceRing (o : OpTraceRing)
  /-- CONFIGURE_ERROR_LOG (R432). -/
  | configureErrorLog (o : OpRing)
  /-- WRITE_GALARB (R214). -/
  | writeGalarb (o : OpNumber)
  /-- READ_WDT (R216). -/
  | readWdt (o : OpSlot)
  /-- READ_GESTAT (R397). -/
  | readGestat (o : OpEngine)
  /-- READ_ENERGY_COUNTER (R225). -/
  | readEnergyCounter
  /-- READ_CUTWORK (R193). -/
  | readCutwork (o : OpPillar)
  /-- GANG_CHANGE (R195). -/
  | gangChange (o : OpGang)
  /-- GOLPIN_LOAD_KERNEL (R402). -/
  | golpinLoadKernel (o : OpKernel)
  /-- GOLPIN_UNLOAD_KERNEL (R403). -/
  | golpinUnloadKernel (o : OpKernelSlot)
  /-- GOLPIN_WRITE_FLOW_ENTRY (R199). -/
  | golpinWriteFlowEntry (o : OpFlow)
  /-- GOLPIN_SET_EMIT_RANGE (R404). -/
  | golpinSetEmitRange (o : OpEmitRange)
  /-- GOLPIN_SET_EVENT_AREA (R404). -/
  | golpinSetEventArea (o : OpEventArea)
  /-- CLOSE_REDUCTION_RECORD (R415). -/
  | closeReductionRecord (o : OpRecord)
  /-- OPEN_CONNECTION (R428). -/
  | openConnection (o : OpOpen)
  /-- CLOSE_CONNECTION (R429). -/
  | closeConnection (o : OpConn)
  /-- PARTITION_CONTROL (R147). -/
  | partitionControl (o : OpPartition)
  /-- QUEUE_ENABLE (R148). -/
  | queueEnable (o : OpQueueNo)
  /-- QUEUE_DISABLE (R148). -/
  | queueDisable (o : OpQueueNo)
  /-- SET_ROOT (R169). -/
  | setRoot (o : OpRoot)
  /-- SET_TRAP_ROUTING (R196). -/
  | setTrapRouting (o : OpRouting)
  /-- INSTALL_OWNER_KEYS (R441). -/
  | installOwnerKeys (o : OpKeys)
  /-- SET_POWER_GRANT (R439). -/
  | setPowerGrant (o : OpGrant)
  /-- GATE_CORE (R244). -/
  | gateCore (o : OpCore)
  /-- UNGATE_CORE (R244). -/
  | ungateCore (o : OpCore)
  /-- PARTITION_DRAIN_SAVE (R246). -/
  | partitionDrainSave (o : OpPart)
  /-- PARTITION_DRAIN_END (R246). -/
  | partitionDrainEnd (o : OpPart)
  /-- PARTITION_RESET (R247). -/
  | partitionReset (o : OpPart)
  /-- CONTEXT_REPAIR (R444). -/
  | contextRepair (o : OpRepair)
  /-- CONTEXT_EXPORT (R444). -/
  | contextExport (o : OpTask)
  /-- CONTEXT_IMPORT (R444). -/
  | contextImport (o : OpImport)
  /-- TASK_RESUME (R431). -/
  | taskResume (o : OpTask)
  /-- TASK_END (R431). -/
  | taskEnd (o : OpTask)
  /-- TIME_CLOCK_EDGE (R217). -/
  | timeClockEdge
  /-- HOME_L2_GRANT (R96). -/
  | homeL2Grant (o : OpPillar)
  deriving DecidableEq, Repr

end Sys2Proof
end

