-- ==== Sys2Proof/WellFormed.lean ====
section
/-! DEFINITION. Well-formedness: the operand values that an encoding admits at decode (R257, R259 to R261, R265, R300,
R304, R319, R326 to R332, R345 to R349, R368, R386, R405). Checks that the manual places at commit are not made here. -/

namespace Sys2Proof

def OpLoad.inRange (o : OpLoad) : Bool :=
  decide (o.d < 32) && decide (o.a < 32) && decide (o.imm < 4096)
def OpStore.inRange (o : OpStore) : Bool :=
  decide (o.b < 32) && decide (o.a < 32) && decide (o.imm < 4096)
def OpLoadFe.inRange (o : OpLoadFe) : Bool :=
  decide (o.kind < 16) && decide (o.d < 32) && decide (o.a < 32) && decide (o.imm < 4096)
def OpStoreFill.inRange (o : OpStoreFill) : Bool :=
  decide (o.kind < 8) && decide (o.b < 32) && decide (o.a < 32) && decide (o.imm < 4096)
def OpI.inRange (o : OpI) : Bool :=
  decide (o.d < 32) && decide (o.a < 32) && decide (o.imm < 32768)
def OpJ.inRange (o : OpJ) : Bool :=
  decide (o.d < 32) && decide (o.imm < 1048576)
def OpShift.inRange (o : OpShift) : Bool :=
  decide (o.d < 32) && decide (o.a < 32) && decide (o.sh < 64)
def OpImm12.inRange (o : OpImm12) : Bool :=
  decide (o.d < 32) && decide (o.a < 32) && decide (o.imm < 4096)
def OpRRR.inRange (o : OpRRR) : Bool :=
  decide (o.d < 32) && decide (o.a < 32) && decide (o.b < 32)
def OpRR.inRange (o : OpRR) : Bool :=
  decide (o.d < 32) && decide (o.a < 32)
def OpBranch.inRange (o : OpBranch) : Bool :=
  decide (o.a < 32) && decide (o.b < 32) && decide (o.off < 32768)
def OpFloat3.inRange (o : OpFloat3) : Bool :=
  decide (o.d < 32) && decide (o.a < 32) && decide (o.b < 32) && decide (o.fmt < 4) && decide (o.rm < 8)
def OpFloat2.inRange (o : OpFloat2) : Bool :=
  decide (o.d < 32) && decide (o.a < 32) && decide (o.fmt < 4) && decide (o.rm < 8)
def OpFloat3n.inRange (o : OpFloat3n) : Bool :=
  decide (o.d < 32) && decide (o.a < 32) && decide (o.b < 32) && decide (o.fmt < 4)
def OpFloat2n.inRange (o : OpFloat2n) : Bool :=
  decide (o.d < 32) && decide (o.a < 32) && decide (o.fmt < 4)
def OpFloatCvt.inRange (o : OpFloatCvt) : Bool :=
  decide (o.d < 32) && decide (o.a < 32) && decide (o.code < 4) && decide (o.fmt < 4) && decide (o.rm < 8)
def OpFmadd.inRange (o : OpFmadd) : Bool :=
  decide (o.d < 32) && decide (o.a < 32) && decide (o.b < 32) && decide (o.c < 32) && decide (o.fmt < 4) && decide (o.rm < 8)
def OpAmo.inRange (o : OpAmo) : Bool :=
  decide (o.d < 32) && decide (o.a < 32) && decide (o.b < 32) && decide (o.ord < 4) && decide (o.w < 2) && decide (o.scope < 8)
def OpCas2.inRange (o : OpCas2) : Bool :=
  decide (o.d < 32) && decide (o.a < 32) && decide (o.b < 32) && decide (o.ord < 4) && decide (o.scope < 8)
def OpMfs.inRange (o : OpMfs) : Bool :=
  decide (o.d < 32) && decide (o.n < 4096)
def OpMts.inRange (o : OpMts) : Bool :=
  decide (o.a < 32) && decide (o.n < 4096)
def OpImm10.inRange (o : OpImm10) : Bool :=
  decide (o.imm < 1024)
def OpAB.inRange (o : OpAB) : Bool :=
  decide (o.a < 32) && decide (o.b < 32)
def OpB.inRange (o : OpB) : Bool :=
  decide (o.b < 32)
def OpA.inRange (o : OpA) : Bool :=
  decide (o.a < 32)
def OpQput.inRange (o : OpQput) : Bool :=
  decide (o.q < 8) && decide (o.a < 32)
def OpQget.inRange (o : OpQget) : Bool :=
  decide (o.d < 32) && decide (o.q < 8)
def OpHint.inRange (o : OpHint) : Bool :=
  decide (o.imm < 33554432)
def OpCM.inRange (o : OpCM) : Bool :=
  decide (o.d < 8) && decide (o.a < 8) && decide (o.imm < 32)
def OpCI.inRange (o : OpCI) : Bool :=
  decide (o.d < 32) && decide (o.imm < 64)
def OpCJ.inRange (o : OpCJ) : Bool :=
  decide (o.off < 2048)
def OpCB.inRange (o : OpCB) : Bool :=
  decide (o.a < 8) && decide (o.off < 256)
def OpCR.inRange (o : OpCR) : Bool :=
  decide (o.d < 32) && decide (o.b < 32)
def OpC1.inRange (o : OpC1) : Bool :=
  decide (o.d < 32)
def OpVsetl.inRange (o : OpVsetl) : Bool :=
  decide (o.d < 32) && decide (o.a < 32) && decide (o.sew < 4)
def OpVcfg.inRange (o : OpVcfg) : Bool :=
  decide (o.d < 32) && decide (o.sew < 4) && decide (o.nreg < 4)
def OpV.inRange (o : OpV) : Bool :=
  decide (o.ok < 4) && decide (o.k < 8) && decide (o.b < 32) && decide (o.a < 32) && decide (o.d < 32)
def OpVun.inRange (o : OpVun) : Bool :=
  decide (o.k < 8) && decide (o.a < 32) && decide (o.d < 32)
def OpVcvt.inRange (o : OpVcvt) : Bool :=
  decide (o.t < 16) && decide (o.k < 8) && decide (o.src < 16) && decide (o.a < 32) && decide (o.d < 32)
def OpVcvtRs.inRange (o : OpVcvtRs) : Bool :=
  decide (o.t < 16) && decide (o.ok < 4) && decide (o.k < 8) && decide (o.b < 32) && decide (o.a < 32) && decide (o.d < 32)
def OpVcmp.inRange (o : OpVcmp) : Bool :=
  decide (o.ok < 4) && decide (o.k < 8) && decide (o.b < 32) && decide (o.a < 32) && decide (o.d < 8)
def OpVqget.inRange (o : OpVqget) : Bool :=
  decide (o.k < 8) && decide (o.q < 8) && decide (o.d < 32)
def OpVqput.inRange (o : OpVqput) : Bool :=
  decide (o.ok < 4) && decide (o.b < 32) && decide (o.a < 32) && decide (o.q < 8)
def OpKlogic.inRange (o : OpKlogic) : Bool :=
  decide (o.k < 8) && decide (o.b < 16) && decide (o.a < 16) && decide (o.d < 16)
def OpKcount.inRange (o : OpKcount) : Bool :=
  decide (o.k < 8) && decide (o.a < 16) && decide (o.d < 32)
def OpVcompact.inRange (o : OpVcompact) : Bool :=
  decide (o.b < 8) && decide (o.a < 32) && decide (o.d < 32)
def OpVbd.inRange (o : OpVbd) : Bool :=
  decide (o.ok < 4) && decide (o.k < 8) && decide (o.b < 32) && decide (o.d < 32)
def OpVad.inRange (o : OpVad) : Bool :=
  decide (o.ok < 4) && decide (o.k < 8) && decide (o.a < 32) && decide (o.d < 32)
def OpVget.inRange (o : OpVget) : Bool :=
  decide (o.ok < 4) && decide (o.b < 32) && decide (o.a < 32) && decide (o.d < 32)
def OpVrand.inRange (o : OpVrand) : Bool :=
  decide (o.k < 8) && decide (o.b < 32) && decide (o.a < 32) && decide (o.d < 32)
def OpVmem.inRange (o : OpVmem) : Bool :=
  decide (o.k < 8) && decide (o.b < 32) && decide (o.a < 32) && decide (o.d < 32)
def OpVmemX.inRange (o : OpVmemX) : Bool :=
  decide (o.iw < 4) && decide (o.k < 8) && decide (o.b < 32) && decide (o.a < 32) && decide (o.d < 32)
def OpVmem1.inRange (o : OpVmem1) : Bool :=
  decide (o.k < 8) && decide (o.a < 32) && decide (o.d < 32)
def OpVmemFe.inRange (o : OpVmemFe) : Bool :=
  decide (o.iw < 4) && decide (o.k < 8) && decide (o.b < 32) && decide (o.a < 32) && decide (o.d < 32)
def OpBarArr.inRange (o : OpBarArr) : Bool :=
  decide (o.d < 32) && decide (o.n < 8)
def OpBarWait.inRange (o : OpBarWait) : Bool :=
  decide (o.a < 32) && decide (o.n < 8)
def OpTlwait.inRange (o : OpTlwait) : Bool :=
  decide (o.d < 32) && decide (o.tl < 16) && decide (o.b < 32)
def OpTlread.inRange (o : OpTlread) : Bool :=
  decide (o.d < 32) && decide (o.tl < 16)
def OpTladv.inRange (o : OpTladv) : Bool :=
  decide (o.tl < 16) && decide (o.b < 32)
def OpBob.inRange (o : OpBob) : Bool :=
  decide (o.bn < 8)
def OpCpystat.inRange (o : OpCpystat) : Bool :=
  decide (o.d < 32) && decide (o.bn < 8)
def OpXa.inRange (o : OpXa) : Bool :=
  decide (o.xa < 32)
def OpMld.inRange (o : OpMld) : Bool :=
  decide (o.td < 512) && decide (o.xa < 32) && decide (o.xb < 32)
def OpMst.inRange (o : OpMst) : Bool :=
  decide (o.ta < 512) && decide (o.xa < 32) && decide (o.xb < 32)
def OpTd.inRange (o : OpTd) : Bool :=
  decide (o.td < 512)
def OpTa.inRange (o : OpTa) : Bool :=
  decide (o.ta < 512)
def OpMma.inRange (o : OpMma) : Bool :=
  decide (o.td < 512) && decide (o.ta < 512) && decide (o.tb < 512)
def OpMmag.inRange (o : OpMmag) : Bool :=
  decide (o.td < 512) && decide (o.va < 64) && decide (o.tb < 512) && decide (o.xa < 32)
def OpMtov.inRange (o : OpMtov) : Bool :=
  decide (o.vd < 64) && decide (o.ta < 512) && decide (o.xa < 32)
def OpVtom.inRange (o : OpVtom) : Bool :=
  decide (o.td < 512) && decide (o.va < 64) && decide (o.xa < 32)
def OpMtrans.inRange (o : OpMtrans) : Bool :=
  decide (o.td < 512) && decide (o.ta < 512) && decide (o.xa < 32)
def OpMcvt.inRange (o : OpMcvt) : Bool :=
  decide (o.td < 512) && decide (o.ta < 512) && decide (o.tb < 512) && decide (o.xa < 32)
def OpMsend.inRange (o : OpMsend) : Bool :=
  decide (o.ta < 512) && decide (o.xa < 32)
def OpCpy.inRange (o : OpCpy) : Bool :=
  decide (o.bb < 8) && decide (o.xa < 32) && decide (o.xb < 32) && decide (o.xc < 32)
def OpCpyrows.inRange (o : OpCpyrows) : Bool :=
  decide (o.bb < 8) && decide (o.va < 64) && decide (o.kb < 8) && decide (o.xa < 32) && decide (o.xb < 32) && decide (o.xc < 32)
def OpCpyv.inRange (o : OpCpyv) : Bool :=
  decide (o.bb < 8) && decide (o.vd < 64) && decide (o.xa < 32) && decide (o.xb < 32)
def OpG3.inRange (o : OpG3) : Bool :=
  decide (o.d < 16) && decide (o.a < 16) && decide (o.b < 16)
def OpGi.inRange (o : OpGi) : Bool :=
  decide (o.d < 16) && decide (o.a < 16) && decide (o.imm < 262144)
def OpGsh.inRange (o : OpGsh) : Bool :=
  decide (o.d < 16) && decide (o.a < 16) && decide (o.sh < 32)
def OpGlui.inRange (o : OpGlui) : Bool :=
  decide (o.d < 16) && decide (o.imm < 262144)
def OpGb.inRange (o : OpGb) : Bool :=
  decide (o.a < 16) && decide (o.b < 16) && decide (o.off < 1024)
def OpGl.inRange (o : OpGl) : Bool :=
  decide (o.d < 16) && decide (o.a < 16) && decide (o.b < 16) && decide (o.jm < 4)
def OpGcmp.inRange (o : OpGcmp) : Bool :=
  decide (o.d < 4) && decide (o.a < 16) && decide (o.b < 16) && decide (o.jm < 4)
def OpJ3.inRange (o : OpJ3) : Bool :=
  decide (o.d < 4) && decide (o.a < 4) && decide (o.b < 4)
def OpJtoh.inRange (o : OpJtoh) : Bool :=
  decide (o.d < 16) && decide (o.a < 4)
def OpHtoj.inRange (o : OpHtoj) : Bool :=
  decide (o.d < 4) && decide (o.a < 16)
def OpGbcst.inRange (o : OpGbcst) : Bool :=
  decide (o.d < 16) && decide (o.a < 16) && decide (o.jm < 4)
def OpGlane.inRange (o : OpGlane) : Bool :=
  decide (o.d < 16) && decide (o.a < 16) && decide (o.lane < 8)
def OpPfresh.inRange (o : OpPfresh) : Bool :=
  decide (o.d < 4) && decide (o.a < 16) && decide (o.imm < 262144)
def OpLoop.inRange (o : OpLoop) : Bool :=
  decide (o.a < 16) && decide (o.max < 256) && decide (o.len < 1024)
def OpEmit.inRange (o : OpEmit) : Bool :=
  decide (o.a < 16) && decide (o.a % 2 = 0) && decide (o.b < 16) && decide (o.n < 8)
def OpKtrap.inRange (o : OpKtrap) : Bool :=
  decide (o.imm < 256)

def Modifier.inRange (m : Modifier) : Bool :=
  decide (m.rm < 8) && decide (m.sat < 2) && decide (m.scope < 8) && decide (m.ord < 4) && decide (m.o < 2) && decide (m.p < 2) && decide (m.fe < 4) && decide (m.dh < 2) && decide (m.ah < 2) && decide (m.bh < 2)

/-- The modifier prefix whose fields all hold their defaults (R264). -/
def Modifier.default : Modifier := ⟨7, 0, 0, 0, 0, 0, 0, 0, 0, 0⟩

/-- Which prefix fields an instruction admits (R265, R319, R349). The FE field is fixed apart. -/
structure Admit where
  rm : Bool := false
  sat : Bool := false
  scope : Bool := false
  ord : Bool := false
  o : Bool := false
  p : Bool := false
  dh : Bool := false
  ah : Bool := false
  bh : Bool := false

/-- Every field of a prefix that the instruction does not admit holds its default, and FE holds `fe` (R265). An RM other than
111 names one of the four rounding modes (R47). -/
def Modifier.fits (m : Modifier) (fe : Nat) (ad : Admit) : Bool :=
  m.inRange && decide (m.fe = fe) && (decide (m.rm = 7) || (ad.rm && decide (m.rm < 4))) &&
  (ad.sat || decide (m.sat = 0)) && (ad.scope || decide (m.scope = 0)) && (ad.ord || decide (m.ord = 0)) &&
  (ad.o || decide (m.o = 0)) && (ad.p || decide (m.p = 0)) &&
  (ad.dh || decide (m.dh = 0)) && (ad.ah || decide (m.ah = 0)) && (ad.bh || decide (m.bh = 0))

/-- A prefix, when present, fits. -/
def modOk (p : Option Modifier) (ad : Admit) : Bool :=
  match p with
  | none => true
  | some m => m.fits 0 ad

/-- A rounding field that names a mode or dyn; 100, 101 and 110 are illegal in scalar instructions (R47, R300). -/
def rmLegal (rm : Nat) : Bool := decide (rm < 4) || decide (rm = 7)

/-- The format codes of VFCVT (R328): both assigned, different, one of them floating-point, and e2m1 paired with f32 or f64. -/
def cvtPair (t src : Nat) : Bool :=
  decide (t < 15) && decide (src < 15) && !decide (t = src) && (decide (8 ≤ t) || decide (8 ≤ src)) &&
  (!decide (t = 14) || decide (src = 12) || decide (src = 13)) && (!decide (src = 14) || decide (t = 12) || decide (t = 13))

/-- The VFCVT destinations that admit .sat: e4m3, e5m2, f16, bf16 (R328). -/
def satFmt (t : Nat) : Bool := decide (8 ≤ t) && decide (t ≤ 11)

/-- The destinations of stochastic rounding: e4m3, e5m2, bf16, e2m1 (R331). -/
def rsFmt (t : Nat) : Bool := decide (t = 8) || decide (t = 9) || decide (t = 11) || decide (t = 14)

/-- Format V with operand kinds `oks` (bit n admits OK n), rounding field `rm`: d and a name v registers, b by OK. -/
def OpV.fits (o : OpV) (oks : Nat) (rm : Bool) : Bool :=
  o.inRange && Nat.testBit oks o.ok && modOk o.p { rm := rm, dh := true, ah := true, bh := decide (o.ok = 0) }

/-- A prefix on a vector memory or atomic access: R349. -/
def memAdmit (p bh sc od : Bool) : Admit := { o := true, p := p, dh := true, bh := bh, scope := sc, ord := od }

/-- The operand values that the instruction's encoding admits at decode. A device event has no encoding. -/
def Instr.wf (i : Instr) : Bool :=
  match i with
  | .ldI8 o => o.inRange
  | .ldI16 o => o.inRange
  | .ldI32 o => o.inRange
  | .ldI64 o => o.inRange
  | .ldN8 o => o.inRange
  | .ldN16 o => o.inRange
  | .ldN32 o => o.inRange
  | .ldF16 o => o.inRange
  | .ldF32 o => o.inRange
  | .ldF64 o => o.inRange
  | .stN8 o => o.inRange
  | .stN16 o => o.inRange
  | .stN32 o => o.inRange
  | .stN64 o => o.inRange
  | .stF16 o => o.inRange
  | .stF32 o => o.inRange
  | .stF64 o => o.inRange
  | .ldFe o => o.inRange && decide (o.kind < 10)
  | .ldTake o => o.inRange && decide (o.kind < 10)
  | .stFill o => o.inRange && !decide (o.kind = 4)
  | .addi o => o.inRange
  | .lui o => o.inRange
  | .addpc o => o.inRange
  | .slli o => o.inRange
  | .srli o => o.inRange
  | .srai o => o.inRange
  | .andi o => o.inRange
  | .ori o => o.inRange
  | .xori o => o.inRange
  | .setlti o => o.inRange
  | .setltiu o => o.inRange
  | .add o => o.inRange
  | .sub o => o.inRange
  | .andR o => o.inRange
  | .orR o => o.inRange
  | .xorR o => o.inRange
  | .sll o => o.inRange
  | .srl o => o.inRange
  | .sra o => o.inRange
  | .setlt o => o.inRange
  | .setltu o => o.inRange
  | .minR o => o.inRange
  | .maxR o => o.inRange
  | .minu o => o.inRange
  | .maxu o => o.inRange
  | .andinv o => o.inRange
  | .orinv o => o.inRange
  | .mul o => o.inRange
  | .mulhi o => o.inRange
  | .mulhiu o => o.inRange
  | .mulhmix o => o.inRange
  | .div o => o.inRange
  | .divu o => o.inRange
  | .rem o => o.inRange
  | .remu o => o.inRange
  | .ixadd1 o => o.inRange
  | .ixadd2 o => o.inRange
  | .ixadd3 o => o.inRange
  | .ixadd4 o => o.inRange
  | .zlead o => o.inRange
  | .ztrail o => o.inRange
  | .ones o => o.inRange
  | .jal o => o.inRange
  | .jalr o => o.inRange
  | .beq o => o.inRange
  | .bne o => o.inRange
  | .blt o => o.inRange
  | .bge o => o.inRange
  | .bltu o => o.inRange
  | .bgeu o => o.inRange
  | .fadd o => o.inRange && rmLegal o.rm && decide (o.fmt < 3)
  | .fsub o => o.inRange && rmLegal o.rm && decide (o.fmt < 3)
  | .fmul o => o.inRange && rmLegal o.rm && decide (o.fmt < 3)
  | .fdiv o => o.inRange && rmLegal o.rm && decide (o.fmt < 3)
  | .fsqrt o => o.inRange && rmLegal o.rm && decide (o.fmt < 3)
  | .fmin o => o.inRange && decide (o.fmt < 3)
  | .fmax o => o.inRange && decide (o.fmt < 3)
  | .fsgcpy o => o.inRange && decide (o.fmt < 3)
  | .fsginv o => o.inRange && decide (o.fmt < 3)
  | .fsgxor o => o.inRange && decide (o.fmt < 3)
  | .fcmpeq o => o.inRange && decide (o.fmt < 3)
  | .fcmplt o => o.inRange && decide (o.fmt < 3)
  | .fcmple o => o.inRange && decide (o.fmt < 3)
  | .fkind o => o.inRange && decide (o.fmt < 3)
  | .ftoi o => o.inRange && rmLegal o.rm && decide (o.fmt < 3)
  | .itof o => o.inRange && rmLegal o.rm && decide (o.fmt < 3)
  | .ftof o => o.inRange && rmLegal o.rm && !decide (o.code = o.fmt)
  | .fbitsx o => o.inRange
  | .xbitsf o => o.inRange
  | .fmadd o => o.inRange && rmLegal o.rm && decide (o.fmt < 3)
  | .amoSwap o => o.inRange
  | .amoAdd o => o.inRange
  | .amoAnd o => o.inRange
  | .amoOr o => o.inRange
  | .amoXor o => o.inRange
  | .amoMin o => o.inRange
  | .amoMax o => o.inRange
  | .amoMinu o => o.inRange
  | .amoMaxu o => o.inRange
  | .amoFadd o => o.inRange
  | .amoFmax o => o.inRange
  | .amoCas o => o.inRange
  | .cas2 o => o.inRange && decide (o.d % 2 = 0) && decide (o.b % 2 = 0) && !decide (o.d = 0)
  | .mfs o => o.inRange
  | .mts o => o.inRange
  | .fenceSv => true
  | .fenceVs => true
  | .fenceVv => true
  | .fenceAll => true
  | .syscall o => o.inRange
  | .breakTrap o => o.inRange
  | .eret => true
  | .wfe => true
  | .exitTask => true
  | .yieldTask => true
  | .tlbiPg o => o.inRange
  | .tlbiAll o => o.inRange
  | .cwb o => o.inRange
  | .cinv o => o.inRange
  | .icinv o => o.inRange
  | .icinvall => true
  | .qput o => o.inRange
  | .qget o => o.inRange
  | .qpeek o => o.inRange
  | .spawn o => o.inRange
  | .nop => true
  | .hint o => o.inRange && !decide (o.imm = 0)
  | .cLdI64 o => o.inRange && !(decide (o.d = 0) && decide (o.a = 0) && decide (o.imm = 0))
  | .cLdI32 o => o.inRange
  | .cStN64 o => o.inRange
  | .cStN32 o => o.inRange
  | .cLdF64 o => o.inRange
  | .cStF64 o => o.inRange
  | .cNop => true
  | .cAddi o => o.inRange && !decide (o.d = 0)
  | .cLi o => o.inRange && !decide (o.d = 0)
  | .cLui o => o.inRange && !decide (o.d = 0) && !decide (o.imm = 0)
  | .cSlli o => o.inRange && !decide (o.d = 0)
  | .cAndi o => o.inRange && !decide (o.d = 0)
  | .cJ o => o.inRange
  | .cBeqz o => o.inRange
  | .cBnez o => o.inRange
  | .cMv o => o.inRange && !decide (o.d = 0) && !decide (o.b = 0)
  | .cAdd o => o.inRange && !decide (o.d = 0) && !decide (o.b = 0)
  | .cJr o => o.inRange && !decide (o.d = 0)
  | .cJalr o => o.inRange && !decide (o.d = 0)
  | .cSub o => o.inRange && !decide (o.d = 0)
  | .cAnd o => o.inRange && !decide (o.d = 0)
  | .cOr o => o.inRange && !decide (o.d = 0)
  | .cXor o => o.inRange && !decide (o.d = 0)
  | .vsetl o => o.inRange
  | .vcfg o => o.inRange
  | .vadd o => o.fits 7 false
  | .vsub o => o.fits 3 false
  | .vsubr o => o.fits 6 false
  | .vmul o => o.fits 3 false
  | .vmulhi o => o.fits 3 false
  | .vmulhiu o => o.fits 3 false
  | .vdiv o => o.fits 3 false
  | .vdivu o => o.fits 3 false
  | .vrem o => o.fits 3 false
  | .vremu o => o.fits 3 false
  | .vand o => o.fits 7 false
  | .vor o => o.fits 7 false
  | .vxor o => o.fits 7 false
  | .vsll o => o.fits 7 false
  | .vsrl o => o.fits 7 false
  | .vsra o => o.fits 7 false
  | .vmin o => o.fits 3 false
  | .vmax o => o.fits 3 false
  | .vminu o => o.fits 3 false
  | .vmaxu o => o.fits 3 false
  | .vaddsat o => o.fits 7 false
  | .vaddsatu o => o.fits 7 false
  | .vsubsat o => o.fits 3 false
  | .vsubsatu o => o.fits 3 false
  | .vmulq o => o.fits 3 false
  | .vmulw o => o.fits 3 false
  | .vmulwu o => o.fits 3 false
  | .vmacw o => o.fits 3 false
  | .vnarrows o => o.fits 7 false
  | .vnarrowu o => o.fits 7 false
  | .vfadd o => o.fits 9 true
  | .vfsub o => o.fits 9 true
  | .vfrsub o => o.fits 8 true
  | .vfmul o => o.fits 9 true
  | .vfdiv o => o.fits 9 true
  | .vfmin o => o.fits 9 false
  | .vfmax o => o.fits 9 false
  | .vfma o => o.fits 9 true
  | .vfnma o => o.fits 9 true
  | .vfsgcpy o => o.fits 9 false
  | .vfsginv o => o.fits 9 false
  | .vfsgxor o => o.fits 9 false
  | .vfsqrt o => o.inRange && modOk o.p { rm := true, dh := true, ah := true }
  | .vfexp2 o => o.inRange && modOk o.p { rm := false, dh := true, ah := true }
  | .vflog2 o => o.inRange && modOk o.p { rm := false, dh := true, ah := true }
  | .vfrcp o => o.inRange && modOk o.p { rm := false, dh := true, ah := true }
  | .vfrsqrt o => o.inRange && modOk o.p { rm := false, dh := true, ah := true }
  | .vfcvt o => o.inRange && cvtPair o.t o.src && modOk o.p { rm := true, sat := satFmt o.t, dh := true, ah := true }
  | .vfcvtRs o => o.inRange && rsFmt o.t && decide (2 ≤ o.ok) && decide (o.p.rm = 4) && Modifier.fits { o.p with rm := 7 } 0 { sat := satFmt o.t, dh := true, ah := true, bh := true }
  | .vcmpeq o => o.inRange && Nat.testBit 7 o.ok && modOk o.p { ah := true, bh := decide (o.ok = 0) }
  | .vcmpne o => o.inRange && Nat.testBit 7 o.ok && modOk o.p { ah := true, bh := decide (o.ok = 0) }
  | .vcmplt o => o.inRange && Nat.testBit 7 o.ok && modOk o.p { ah := true, bh := decide (o.ok = 0) }
  | .vcmple o => o.inRange && Nat.testBit 7 o.ok && modOk o.p { ah := true, bh := decide (o.ok = 0) }
  | .vcmpltu o => o.inRange && Nat.testBit 7 o.ok && modOk o.p { ah := true, bh := decide (o.ok = 0) }
  | .vcmpleu o => o.inRange && Nat.testBit 7 o.ok && modOk o.p { ah := true, bh := decide (o.ok = 0) }
  | .vqget o => o.inRange && modOk o.p { dh := true }
  | .vqput o => o.inRange && Nat.testBit 6 o.ok && modOk o.p { ah := true }
  | .vfcmpeq o => o.inRange && Nat.testBit 9 o.ok && modOk o.p { ah := true, bh := decide (o.ok = 0) }
  | .vfcmpne o => o.inRange && Nat.testBit 9 o.ok && modOk o.p { ah := true, bh := decide (o.ok = 0) }
  | .vfcmplt o => o.inRange && Nat.testBit 9 o.ok && modOk o.p { ah := true, bh := decide (o.ok = 0) }
  | .vfcmple o => o.inRange && Nat.testBit 9 o.ok && modOk o.p { ah := true, bh := decide (o.ok = 0) }
  | .kand o => o.inRange && decide (o.d ≤ 8) && decide (o.a ≤ 8) && decide (o.b ≤ 8) && modOk o.p {}
  | .kor o => o.inRange && decide (o.d ≤ 8) && decide (o.a ≤ 8) && decide (o.b ≤ 8) && modOk o.p {}
  | .kxor o => o.inRange && decide (o.d ≤ 8) && decide (o.a ≤ 8) && decide (o.b ≤ 8) && modOk o.p {}
  | .kandinv o => o.inRange && decide (o.d ≤ 8) && decide (o.a ≤ 8) && decide (o.b ≤ 8) && modOk o.p {}
  | .kcount o => o.inRange && decide (o.a ≤ 8) && modOk o.p {}
  | .kffs o => o.inRange && decide (o.a ≤ 8) && modOk o.p {}
  | .vshup o => o.inRange && Nat.testBit 6 o.ok && modOk o.p { dh := true, ah := true }
  | .vshdn o => o.inRange && Nat.testBit 6 o.ok && modOk o.p { dh := true, ah := true }
  | .vpick o => o.inRange && Nat.testBit 3 o.ok && modOk o.p { dh := true, ah := true, bh := decide (o.ok = 0) }
  | .vcompact o => o.inRange && modOk o.p { dh := true, ah := true }
  | .vassign o => o.inRange && Nat.testBit 15 o.ok && modOk o.p { dh := true, bh := decide (o.ok = 0) }
  | .vramp o => o.inRange && Nat.testBit 6 o.ok && modOk o.p { dh := true, bh := decide (o.ok = 0) }
  | .vfoldadd o => o.inRange && Nat.testBit 10 o.ok && modOk o.p { ah := true, rm := decide (o.ok = 3) }
  | .vfoldmin o => o.inRange && Nat.testBit 10 o.ok && modOk o.p { ah := true, rm := false }
  | .vfoldmax o => o.inRange && Nat.testBit 10 o.ok && modOk o.p { ah := true, rm := false }
  | .vredmaxi o => o.inRange && Nat.testBit 10 o.ok && modOk o.p { ah := true }
  | .vgetx o => o.inRange && Nat.testBit 6 o.ok && modOk o.p { ah := true }
  | .vgetf o => o.inRange && Nat.testBit 6 o.ok && modOk o.p { ah := true }
  | .vscan o => o.inRange && Nat.testBit 10 o.ok && modOk o.p { dh := true, ah := true, rm := decide (o.ok = 3) }
  | .vrand o => o.inRange && decide (o.b % 2 = 0) && modOk o.p { dh := true }
  | .vld o => o.inRange && modOk o.p (memAdmit true false false false)
  | .vldx o => o.inRange && modOk o.p (memAdmit true true false false)
  | .vldff o => o.inRange && modOk o.p (memAdmit true false false false)
  | .vldsh o => o.inRange && modOk o.p (memAdmit true false false false)
  | .vlda o => o.inRange && modOk o.p (memAdmit false true true false)
  | .vst o => o.inRange && modOk o.p (memAdmit true false false false)
  | .vstx o => o.inRange && modOk o.p (memAdmit true true false false)
  | .vstsh o => o.inRange && modOk o.p (memAdmit true false false false)
  | .vldFe o => o.inRange && (o.indexed || decide (o.iw = 0)) && o.p.fits 1 (memAdmit true o.indexed false false)
  | .vldTake o => o.inRange && (o.indexed || decide (o.iw = 0)) && o.p.fits 2 (memAdmit true o.indexed false false)
  | .vstFill o => o.inRange && (o.indexed || decide (o.iw = 0)) && o.p.fits 3 (memAdmit true o.indexed false false)
  | .barArr o => o.inRange && modOk o.p { scope := true }
  | .barWait o => o.inRange && modOk o.p { scope := true }
  | .vamoSwap o => o.inRange && modOk o.p (memAdmit false true true true)
  | .vamoAdd o => o.inRange && modOk o.p (memAdmit false true true true)
  | .vamoAnd o => o.inRange && modOk o.p (memAdmit false true true true)
  | .vamoOr o => o.inRange && modOk o.p (memAdmit false true true true)
  | .vamoXor o => o.inRange && modOk o.p (memAdmit false true true true)
  | .vamoMin o => o.inRange && modOk o.p (memAdmit false true true true)
  | .vamoMax o => o.inRange && modOk o.p (memAdmit false true true true)
  | .vamoMinu o => o.inRange && modOk o.p (memAdmit false true true true)
  | .vamoMaxu o => o.inRange && modOk o.p (memAdmit false true true true)
  | .vamoFadd o => o.inRange && modOk o.p (memAdmit false true true true)
  | .vamoFmax o => o.inRange && modOk o.p (memAdmit false true true true)
  | .vamoCas o => o.inRange && modOk o.p (memAdmit false true true true)
  | .tlwaitReg o => o.inRange
  | .tlwaitMem o => o.inRange
  | .tlread o => o.inRange
  | .tladv o => o.inRange
  | .feclr o => o.inRange
  | .cpyabort o => o.inRange
  | .cpystat o => o.inRange
  | .mcfg o => o.inRange
  | .mld o => o.inRange
  | .mst o => o.inRange
  | .mzero o => o.inRange
  | .mma o => o.inRange
  | .mmag o => o.inRange
  | .mtov o => o.inRange
  | .vtom o => o.inRange
  | .mtrans o => o.inRange
  | .mcvt o => o.inRange
  | .mpref o => o.inRange
  | .mdrop o => o.inRange
  | .msend o => o.inRange
  | .mopen o => o.inRange
  | .mscale o => o.inRange
  | .madd o => o.inRange
  | .cpy o => o.inRange && decide (o.xc % 4 = 0) && !decide (o.xc = 0)
  | .cpyrows o => o.inRange
  | .cpyv o => o.inRange
  | .cpyred o => o.inRange
  | .golpinAdd o => o.inRange
  | .golpinSub o => o.inRange
  | .golpinAnd o => o.inRange
  | .golpinOr o => o.inRange
  | .golpinXor o => o.inRange
  | .golpinSll o => o.inRange
  | .golpinSrl o => o.inRange
  | .golpinSra o => o.inRange
  | .golpinMin o => o.inRange
  | .golpinMax o => o.inRange
  | .golpinMinu o => o.inRange
  | .golpinMaxu o => o.inRange
  | .golpinMul o => o.inRange
  | .golpinSetlt o => o.inRange
  | .golpinSetltu o => o.inRange
  | .golpinAddi o => o.inRange
  | .golpinAndi o => o.inRange
  | .golpinOri o => o.inRange
  | .golpinXori o => o.inRange
  | .golpinSlli o => o.inRange
  | .golpinSrli o => o.inRange
  | .golpinSrai o => o.inRange
  | .golpinLui o => o.inRange
  | .golpinBeq o => o.inRange
  | .golpinBne o => o.inRange
  | .golpinBlt o => o.inRange
  | .golpinBge o => o.inRange
  | .golpinBltu o => o.inRange
  | .golpinBgeu o => o.inRange
  | .laddVv o => o.inRange
  | .lsubVv o => o.inRange
  | .landVv o => o.inRange
  | .lorVv o => o.inRange
  | .lxorVv o => o.inRange
  | .lminVv o => o.inRange
  | .lmaxVv o => o.inRange
  | .lminuVv o => o.inRange
  | .lmaxuVv o => o.inRange
  | .lmulVv o => o.inRange
  | .lfaddVv o => o.inRange
  | .lfmaxVv o => o.inRange
  | .lfminVv o => o.inRange
  | .lbfaddVv o => o.inRange
  | .laddVs o => o.inRange
  | .lsubVs o => o.inRange
  | .landVs o => o.inRange
  | .lorVs o => o.inRange
  | .lxorVs o => o.inRange
  | .lminVs o => o.inRange
  | .lmaxVs o => o.inRange
  | .lminuVs o => o.inRange
  | .lmaxuVs o => o.inRange
  | .lmulVs o => o.inRange
  | .lfaddVs o => o.inRange
  | .lfmaxVs o => o.inRange
  | .lfminVs o => o.inRange
  | .lbfaddVs o => o.inRange
  | .lcmpeq o => o.inRange
  | .lcmpne o => o.inRange
  | .lcmplt o => o.inRange
  | .lcmpltu o => o.inRange
  | .lcmpfeq o => o.inRange
  | .lcmpflt o => o.inRange
  | .lcmpfle o => o.inRange
  | .jand o => o.inRange
  | .jor o => o.inRange
  | .jxor o => o.inRange
  | .jandinv o => o.inRange
  | .jtoh o => o.inRange
  | .htoj o => o.inRange
  | .jcount o => o.inRange
  | .lbcst o => o.inRange
  | .lext o => o.inRange
  | .lins o => o.inRange
  | .lredadd o => o.inRange
  | .lredfadd o => o.inRange
  | .lredmax o => o.inRange
  | .lredmaxu o => o.inRange
  | .lredfmax o => o.inRange
  | .lredfmin o => o.inRange
  | .pld o => o.inRange
  | .pst o => o.inRange
  | .pldl o => o.inRange
  | .pstl o => o.inRange
  | .sld o => o.inRange
  | .sst o => o.inRange
  | .sldl o => o.inRange
  | .sstl o => o.inRange
  | .pfresh o => o.inRange
  | .golpinLoop o => o.inRange
  | .emitSt o => o.inRange
  | .emitWin o => o.inRange
  | .fwd => true
  | .golpinDrop => true
  | .reply => true
  | .ktrap o => o.inRange
  | .golpinBudgetExpiry _ => true
  | .golpinPacketStart _ => true
  | .emitDelivery _ => true
  | .ualinkPacketIngress _ => true
  | .reducingWriteAnswer _ => true
  | .reducingWriteResend _ => true
  | .remoteRequestPacket _ => true
  | .remoteAnswer _ => true
  | .msendLanding _ => true
  | .msendAnswer _ => true
  | .msendRetry _ => true
  | .schedulingStep => true
  | .contextSaveComplete _ => true
  | .taskRetirement _ => true
  | .barrierPoll _ => true
  | .tlwaitPoll _ => true
  | .wfeTimeout _ => true
  | .deferredTrapEntry _ => true
  | .pagerFaultRecord => true
  | .vectorInstructionComplete _ => true
  | .laneArbitration _ => true
  | .tileUnitIssue _ => true
  | .tileInstructionComplete _ => true
  | .tileFillComplete _ => true
  | .bobbinCommandStart _ => true
  | .bobbinElementLanding _ => true
  | .bobbinCommandComplete _ => true
  | .bobbinFault _ => true
  | .bankArbiterGrant _ => true
  | .scratchpadBankGrant _ => true
  | .refreshWindowOpen _ => true
  | .refreshWindowClose _ => true
  | .refreshCalendarChange _ => true
  | .dramTemperatureCrossing _ => true
  | .l1Eviction _ => true
  | .l2Eviction _ => true
  | .walkComplete _ => true
  | .tlbInvalidationReceipt _ => true
  | .tlbInvalidationAck _ => true
  | .shootdownComplete _ => true
  | .bankOffline _ => true
  | .offlineAccessRetry _ => true
  | .coreQuiescePoint _ => true
  | .notifyScan _ => true
  | .notifyNotice _ => true
  | .queueMap => true
  | .queueUnmap _ => true
  | .watchdogExpiry _ => true
  | .galleryArbitration _ => true
  | .galarbApply _ => true
  | .powerSample _ => true
  | .thermalTrip => true
  | .timeMessageSend => true
  | .timeMessageReceipt _ => true
  | .timeMasterLoss => true
  | .linkFailure _ => true
  | .ehrezPacketReceipt _ => true
  | .ehrezWrite _ => true
  | .ehrezReadRequest _ => true
  | .ehrezReadResponse _ => true
  | .ehrezAcknowledgement _ => true
  | .ehrezRetransmit _ => true
  | .powerOn => true
  | .bootRequest => true
  | .bootPacket _ => true
  | .identity => true
  | .attestation _ => true
  | .setPackageNumber _ => true
  | .setPillarPhase _ => true
  | .setGtime _ => true
  | .setTimeMaster _ => true
  | .setQueueTableBase _ => true
  | .configureFaultRing _ => true
  | .configureTraceRing _ => true
  | .configureErrorLog _ => true
  | .writeGalarb _ => true
  | .readWdt _ => true
  | .readGestat _ => true
  | .readEnergyCounter => true
  | .readCutwork _ => true
  | .gangChange _ => true
  | .golpinLoadKernel _ => true
  | .golpinUnloadKernel _ => true
  | .golpinWriteFlowEntry _ => true
  | .golpinSetEmitRange _ => true
  | .golpinSetEventArea _ => true
  | .closeReductionRecord _ => true
  | .openConnection _ => true
  | .closeConnection _ => true
  | .partitionControl _ => true
  | .queueEnable _ => true
  | .queueDisable _ => true
  | .setRoot _ => true
  | .setTrapRouting _ => true
  | .installOwnerKeys _ => true
  | .setPowerGrant _ => true
  | .gateCore _ => true
  | .ungateCore _ => true
  | .partitionDrainSave _ => true
  | .partitionDrainEnd _ => true
  | .partitionReset _ => true
  | .contextRepair _ => true
  | .contextExport _ => true
  | .contextImport _ => true
  | .taskResume _ => true
  | .taskEnd _ => true
  | .timeClockEdge => true
  | .homeL2Grant _ => true

end Sys2Proof
end

