-- ==== Sys2Proof/Decode.lean ====
section
/-! DEFINITION. Encoding and decoding: the formats of R253 to R270, the encoding tables of the instruction chapters, and the
Golpin formats of R405. The decoder picks a candidate by the selecting fields, reads its operand fields, and accepts it only
when the operands are well formed and the candidate encodes to the very bits that were read: so every bit that an instruction
does not use must be 0 (R259), and every encoding that the tables do not list is rejected (R261). -/

namespace Sys2Proof

/-- Bits [lo + len − 1 : lo] of `w`. -/
def fld (w lo len : Nat) : Nat := w / 2 ^ lo % 2 ^ len

/-- One bit as a Bool. -/
def bitAt (w lo : Nat) : Bool := decide (fld w lo 1 = 1)

/-- Why a word is rejected. -/
inductive Reject where
  /-- No row of the encoding tables has these selecting fields (R261, R267, R270). -/
  | unassigned
  /-- A field or must-be-zero bit holds a value that the instruction does not admit (R257, R259, R265). -/
  | badField
  deriving DecidableEq, Repr

/-- An encoded instruction: its length in bytes and its bits. -/
structure Code where
  bytes : Nat
  word : Nat
  deriving DecidableEq, Repr

def OpLoad.enc (o : OpLoad) (c : Nat) : Nat :=
  c + o.d * 128 + o.a * 4096 + (o.imm % 32) * 131072 + (o.imm / 32) * 33554432

def OpLoad.dec (long : Bool) (w : Nat) : OpLoad :=
  ⟨long, fld w 7 5, fld w 12 5, fld w 17 5 + fld w 25 7 * 32⟩

def OpStore.enc (o : OpStore) (c : Nat) : Nat :=
  c + o.b * 131072 + o.a * 4096 + (o.imm % 32) * 128 + (o.imm / 32) * 33554432

def OpStore.dec (long : Bool) (w : Nat) : OpStore :=
  ⟨long, fld w 17 5, fld w 12 5, fld w 7 5 + fld w 25 7 * 32⟩

def OpI.enc (o : OpI) (c : Nat) : Nat :=
  c + o.d * 128 + o.a * 4096 + o.imm * 131072

def OpI.dec (w : Nat) : OpI :=
  ⟨fld w 7 5, fld w 12 5, fld w 17 15⟩

def OpJ.enc (o : OpJ) (c : Nat) : Nat :=
  c + o.d * 128 + o.imm * 4096

def OpJ.dec (w : Nat) : OpJ :=
  ⟨fld w 7 5, fld w 12 20⟩

def OpShift.enc (o : OpShift) (c : Nat) : Nat :=
  c + o.d * 128 + o.a * 4096 + (o.sh % 32) * 131072 + (o.sh / 32) * 33554432

def OpShift.dec (w : Nat) : OpShift :=
  ⟨fld w 7 5, fld w 12 5, fld w 17 5 + fld w 25 1 * 32⟩

def OpImm12.enc (o : OpImm12) (c : Nat) : Nat :=
  c + o.d * 128 + o.a * 4096 + (o.imm % 32) * 131072 + (o.imm / 32) * 33554432

def OpImm12.dec (w : Nat) : OpImm12 :=
  ⟨fld w 7 5, fld w 12 5, fld w 17 5 + fld w 25 7 * 32⟩

def OpRRR.enc (o : OpRRR) (c : Nat) : Nat :=
  c + o.d * 128 + o.a * 4096 + o.b * 131072

def OpRRR.dec (w : Nat) : OpRRR :=
  ⟨fld w 7 5, fld w 12 5, fld w 17 5⟩

def OpRR.enc (o : OpRR) (c : Nat) : Nat :=
  c + o.d * 128 + o.a * 4096

def OpRR.dec (w : Nat) : OpRR :=
  ⟨fld w 7 5, fld w 12 5⟩

def OpBranch.enc (o : OpBranch) (c : Nat) : Nat :=
  c + o.a * 4096 + o.b * 131072 + (o.off % 32) * 128 + (o.off / 32 % 8) * 4194304 + (o.off / 256) * 33554432

def OpBranch.dec (w : Nat) : OpBranch :=
  ⟨fld w 12 5, fld w 17 5, fld w 7 5 + fld w 22 3 * 32 + fld w 25 7 * 256⟩

def OpFloat3.enc (o : OpFloat3) (c : Nat) : Nat :=
  c + o.d * 128 + o.a * 4096 + o.b * 131072 + o.fmt * 33554432 + o.rm * 4194304

def OpFloat3.dec (w : Nat) : OpFloat3 :=
  ⟨fld w 7 5, fld w 12 5, fld w 17 5, fld w 25 2, fld w 22 3⟩

def OpFloat2.enc (o : OpFloat2) (c : Nat) : Nat :=
  c + o.d * 128 + o.a * 4096 + o.fmt * 33554432 + o.rm * 4194304

def OpFloat2.dec (w : Nat) : OpFloat2 :=
  ⟨fld w 7 5, fld w 12 5, fld w 25 2, fld w 22 3⟩

def OpFloat3n.enc (o : OpFloat3n) (c : Nat) : Nat :=
  c + o.d * 128 + o.a * 4096 + o.b * 131072 + o.fmt * 33554432

def OpFloat3n.dec (w : Nat) : OpFloat3n :=
  ⟨fld w 7 5, fld w 12 5, fld w 17 5, fld w 25 2⟩

def OpFloat2n.enc (o : OpFloat2n) (c : Nat) : Nat :=
  c + o.d * 128 + o.a * 4096 + o.fmt * 33554432

def OpFloat2n.dec (w : Nat) : OpFloat2n :=
  ⟨fld w 7 5, fld w 12 5, fld w 25 2⟩

def OpFloatCvt.enc (o : OpFloatCvt) (c : Nat) : Nat :=
  c + o.d * 128 + o.a * 4096 + o.code * 131072 + o.fmt * 33554432 + o.rm * 4194304

def OpFloatCvt.dec (w : Nat) : OpFloatCvt :=
  ⟨fld w 7 5, fld w 12 5, fld w 17 2, fld w 25 2, fld w 22 3⟩

def OpFmadd.enc (o : OpFmadd) (c : Nat) : Nat :=
  c + o.d * 128 + o.a * 4096 + o.b * 131072 + o.c * 134217728 + o.fmt * 33554432 + o.rm * 4194304

def OpFmadd.dec (w : Nat) : OpFmadd :=
  ⟨fld w 7 5, fld w 12 5, fld w 17 5, fld w 27 5, fld w 25 2, fld w 22 3⟩

def OpAmo.enc (o : OpAmo) (c : Nat) : Nat :=
  c + o.d * 128 + o.a * 4096 + o.b * 131072 + o.ord * 1073741824 + o.w * 536870912 + o.scope * 4194304

def OpAmo.dec (w : Nat) : OpAmo :=
  ⟨fld w 7 5, fld w 12 5, fld w 17 5, fld w 30 2, fld w 29 1, fld w 22 3⟩

def OpCas2.enc (o : OpCas2) (c : Nat) : Nat :=
  c + o.d * 128 + o.a * 4096 + o.b * 131072 + o.ord * 1073741824 + o.scope * 4194304

def OpCas2.dec (w : Nat) : OpCas2 :=
  ⟨fld w 7 5, fld w 12 5, fld w 17 5, fld w 30 2, fld w 22 3⟩

def OpMfs.enc (o : OpMfs) (c : Nat) : Nat :=
  c + o.d * 128 + o.n * 131072

def OpMfs.dec (w : Nat) : OpMfs :=
  ⟨fld w 7 5, fld w 17 12⟩

def OpMts.enc (o : OpMts) (c : Nat) : Nat :=
  c + o.a * 4096 + o.n * 131072

def OpMts.dec (w : Nat) : OpMts :=
  ⟨fld w 12 5, fld w 17 12⟩

def OpImm10.enc (o : OpImm10) (c : Nat) : Nat :=
  c + o.imm * 4096

def OpImm10.dec (w : Nat) : OpImm10 :=
  ⟨fld w 12 10⟩

def OpAB.enc (o : OpAB) (c : Nat) : Nat :=
  c + o.a * 4096 + o.b * 131072

def OpAB.dec (w : Nat) : OpAB :=
  ⟨fld w 12 5, fld w 17 5⟩

def OpB.enc (o : OpB) (c : Nat) : Nat :=
  c + o.b * 131072

def OpB.dec (w : Nat) : OpB :=
  ⟨fld w 17 5⟩

def OpA.enc (o : OpA) (c : Nat) : Nat :=
  c + o.a * 4096

def OpA.dec (w : Nat) : OpA :=
  ⟨fld w 12 5⟩

def OpQput.enc (o : OpQput) (c : Nat) : Nat :=
  c + o.q * 128 + o.a * 4096

def OpQput.dec (w : Nat) : OpQput :=
  ⟨fld w 7 3, fld w 12 5⟩

def OpQget.enc (o : OpQget) (c : Nat) : Nat :=
  c + o.d * 128 + o.q * 4096

def OpQget.dec (w : Nat) : OpQget :=
  ⟨fld w 7 5, fld w 12 3⟩

def OpHint.enc (o : OpHint) (c : Nat) : Nat :=
  c + o.imm * 128

def OpHint.dec (w : Nat) : OpHint :=
  ⟨fld w 7 25⟩

def OpCM.enc (o : OpCM) (c : Nat) : Nat :=
  c + o.d * 4 + o.a * 1024 + o.imm * 32

def OpCM.dec (w : Nat) : OpCM :=
  ⟨fld w 2 3, fld w 10 3, fld w 5 5⟩

def OpCI.enc (o : OpCI) (c : Nat) : Nat :=
  c + o.d * 4 + o.imm * 128

def OpCI.dec (w : Nat) : OpCI :=
  ⟨fld w 2 5, fld w 7 6⟩

def OpCJ.enc (o : OpCJ) (c : Nat) : Nat :=
  c + o.off * 4

def OpCJ.dec (w : Nat) : OpCJ :=
  ⟨fld w 2 11⟩

def OpCB.enc (o : OpCB) (c : Nat) : Nat :=
  c + o.a * 1024 + o.off * 4

def OpCB.dec (w : Nat) : OpCB :=
  ⟨fld w 10 3, fld w 2 8⟩

def OpCR.enc (o : OpCR) (c : Nat) : Nat :=
  c + o.d * 128 + o.b * 4

def OpCR.dec (w : Nat) : OpCR :=
  ⟨fld w 7 5, fld w 2 5⟩

def OpC1.enc (o : OpC1) (c : Nat) : Nat :=
  c + o.d * 128

def OpC1.dec (w : Nat) : OpC1 :=
  ⟨fld w 7 5⟩

def OpVsetl.enc (o : OpVsetl) (c : Nat) : Nat :=
  c + o.d * 128 + o.a * 4096 + o.sew * 131072

def OpVsetl.dec (w : Nat) : OpVsetl :=
  ⟨fld w 7 5, fld w 12 5, fld w 17 2⟩

def OpVcfg.enc (o : OpVcfg) (c : Nat) : Nat :=
  c + o.d * 128 + o.sew * 2097152 + o.nreg * 131072

def OpVcfg.dec (w : Nat) : OpVcfg :=
  ⟨fld w 7 5, fld w 21 2, fld w 17 2⟩

def OpV.enc (o : OpV) (c : Nat) : Nat :=
  c + o.ok * 1073741824 + o.k * 4194304 + o.b * 131072 + o.a * 4096 + o.d * 128

def OpV.dec (p : Option Modifier) (w : Nat) : OpV :=
  ⟨p, fld w 30 2, fld w 22 3, fld w 17 5, fld w 12 5, fld w 7 5⟩

def OpVun.enc (o : OpVun) (c : Nat) : Nat :=
  c + o.k * 4194304 + o.a * 4096 + o.d * 128

def OpVun.dec (p : Option Modifier) (w : Nat) : OpVun :=
  ⟨p, fld w 22 3, fld w 12 5, fld w 7 5⟩

def OpVcvt.enc (o : OpVcvt) (c : Nat) : Nat :=
  c + o.t * 33554432 + o.k * 4194304 + o.src * 131072 + o.a * 4096 + o.d * 128

def OpVcvt.dec (p : Option Modifier) (w : Nat) : OpVcvt :=
  ⟨p, fld w 25 4, fld w 22 3, fld w 17 4, fld w 12 5, fld w 7 5⟩

def OpVcvtRs.enc (o : OpVcvtRs) (c : Nat) : Nat :=
  c + o.t * 33554432 + o.ok * 1073741824 + o.k * 4194304 + o.b * 131072 + o.a * 4096 + o.d * 128

def OpVcvtRs.dec (p : Modifier) (w : Nat) : OpVcvtRs :=
  ⟨p, fld w 25 4, fld w 30 2, fld w 22 3, fld w 17 5, fld w 12 5, fld w 7 5⟩

def OpVcmp.enc (o : OpVcmp) (c : Nat) : Nat :=
  c + o.ok * 1073741824 + o.k * 4194304 + o.b * 131072 + o.a * 4096 + o.d * 128

def OpVcmp.dec (p : Option Modifier) (w : Nat) : OpVcmp :=
  ⟨p, fld w 30 2, fld w 22 3, fld w 17 5, fld w 12 5, fld w 7 3⟩

def OpVqget.enc (o : OpVqget) (c : Nat) : Nat :=
  c + o.k * 4194304 + o.q * 4096 + o.d * 128

def OpVqget.dec (p : Option Modifier) (w : Nat) : OpVqget :=
  ⟨p, fld w 22 3, fld w 12 3, fld w 7 5⟩

def OpVqput.enc (o : OpVqput) (c : Nat) : Nat :=
  c + o.ok * 1073741824 + o.b * 131072 + o.a * 4096 + o.q * 128

def OpVqput.dec (p : Option Modifier) (w : Nat) : OpVqput :=
  ⟨p, fld w 30 2, fld w 17 5, fld w 12 5, fld w 7 3⟩

def OpKlogic.enc (o : OpKlogic) (c : Nat) : Nat :=
  c + o.k * 4194304 + o.b * 131072 + o.a * 4096 + o.d * 128

def OpKlogic.dec (p : Option Modifier) (w : Nat) : OpKlogic :=
  ⟨p, fld w 22 3, fld w 17 4, fld w 12 4, fld w 7 4⟩

def OpKcount.enc (o : OpKcount) (c : Nat) : Nat :=
  c + o.k * 4194304 + o.a * 4096 + o.d * 128

def OpKcount.dec (p : Option Modifier) (w : Nat) : OpKcount :=
  ⟨p, fld w 22 3, fld w 12 4, fld w 7 5⟩

def OpVcompact.enc (o : OpVcompact) (c : Nat) : Nat :=
  c + o.b * 131072 + o.a * 4096 + o.d * 128

def OpVcompact.dec (p : Option Modifier) (w : Nat) : OpVcompact :=
  ⟨p, fld w 17 3, fld w 12 5, fld w 7 5⟩

def OpVbd.enc (o : OpVbd) (c : Nat) : Nat :=
  c + o.ok * 1073741824 + o.k * 4194304 + o.b * 131072 + o.d * 128

def OpVbd.dec (p : Option Modifier) (w : Nat) : OpVbd :=
  ⟨p, fld w 30 2, fld w 22 3, fld w 17 5, fld w 7 5⟩

def OpVad.enc (o : OpVad) (c : Nat) : Nat :=
  c + o.ok * 1073741824 + o.k * 4194304 + o.a * 4096 + o.d * 128

def OpVad.dec (p : Option Modifier) (w : Nat) : OpVad :=
  ⟨p, fld w 30 2, fld w 22 3, fld w 12 5, fld w 7 5⟩

def OpVget.enc (o : OpVget) (c : Nat) : Nat :=
  c + o.ok * 1073741824 + o.b * 131072 + o.a * 4096 + o.d * 128

def OpVget.dec (p : Option Modifier) (w : Nat) : OpVget :=
  ⟨p, fld w 30 2, fld w 17 5, fld w 12 5, fld w 7 5⟩

def OpVrand.enc (o : OpVrand) (c : Nat) : Nat :=
  c + o.k * 4194304 + o.b * 131072 + o.a * 4096 + o.d * 128

def OpVrand.dec (p : Option Modifier) (w : Nat) : OpVrand :=
  ⟨p, fld w 22 3, fld w 17 5, fld w 12 5, fld w 7 5⟩

def OpVmem.enc (o : OpVmem) (c : Nat) : Nat :=
  c + o.k * 4194304 + o.b * 131072 + o.a * 4096 + o.d * 128

def OpVmem.dec (p : Option Modifier) (w : Nat) : OpVmem :=
  ⟨p, fld w 22 3, fld w 17 5, fld w 12 5, fld w 7 5⟩

def OpVmemX.enc (o : OpVmemX) (c : Nat) : Nat :=
  c + o.iw * 33554432 + o.k * 4194304 + o.b * 131072 + o.a * 4096 + o.d * 128

def OpVmemX.dec (p : Option Modifier) (w : Nat) : OpVmemX :=
  ⟨p, fld w 25 2, fld w 22 3, fld w 17 5, fld w 12 5, fld w 7 5⟩

def OpVmem1.enc (o : OpVmem1) (c : Nat) : Nat :=
  c + o.k * 4194304 + o.a * 4096 + o.d * 128

def OpVmem1.dec (p : Option Modifier) (w : Nat) : OpVmem1 :=
  ⟨p, fld w 22 3, fld w 12 5, fld w 7 5⟩

def OpBarArr.enc (o : OpBarArr) (c : Nat) : Nat :=
  c + o.d * 128 + o.n * 131072

def OpBarArr.dec (p : Option Modifier) (w : Nat) : OpBarArr :=
  ⟨p, fld w 7 5, fld w 17 3⟩

def OpBarWait.enc (o : OpBarWait) (c : Nat) : Nat :=
  c + o.a * 4096 + o.n * 131072

def OpBarWait.dec (p : Option Modifier) (w : Nat) : OpBarWait :=
  ⟨p, fld w 12 5, fld w 17 3⟩

def OpTlwait.enc (o : OpTlwait) (c : Nat) : Nat :=
  c + o.d * 128 + o.tl * 4096 + o.b * 131072

def OpTlwait.dec (w : Nat) : OpTlwait :=
  ⟨fld w 7 5, fld w 12 4, fld w 17 5⟩

def OpTlread.enc (o : OpTlread) (c : Nat) : Nat :=
  c + o.d * 128 + o.tl * 4096

def OpTlread.dec (w : Nat) : OpTlread :=
  ⟨fld w 7 5, fld w 12 4⟩

def OpTladv.enc (o : OpTladv) (c : Nat) : Nat :=
  c + o.tl * 4096 + o.b * 131072

def OpTladv.dec (w : Nat) : OpTladv :=
  ⟨fld w 12 4, fld w 17 5⟩

def OpBob.enc (o : OpBob) (c : Nat) : Nat :=
  c + o.bn * 4096

def OpBob.dec (w : Nat) : OpBob :=
  ⟨fld w 12 3⟩

def OpCpystat.enc (o : OpCpystat) (c : Nat) : Nat :=
  c + o.d * 128 + o.bn * 4096

def OpCpystat.dec (w : Nat) : OpCpystat :=
  ⟨fld w 7 5, fld w 12 3⟩

def OpXa.enc (o : OpXa) (c : Nat) : Nat :=
  c + o.xa * 17592186044416

def OpXa.dec (w : Nat) : OpXa :=
  ⟨fld w 44 5⟩

def OpMld.enc (o : OpMld) (c : Nat) : Nat :=
  c + o.td * 131072 + o.xa * 17592186044416 + o.xb * 562949953421312

def OpMld.dec (w : Nat) : OpMld :=
  ⟨fld w 17 9, fld w 44 5, fld w 49 5⟩

def OpMst.enc (o : OpMst) (c : Nat) : Nat :=
  c + o.ta * 67108864 + cond o.la 16384 0 + o.xa * 17592186044416 + o.xb * 562949953421312

def OpMst.dec (w : Nat) : OpMst :=
  ⟨fld w 26 9, bitAt w 14, fld w 44 5, fld w 49 5⟩

def OpTd.enc (o : OpTd) (c : Nat) : Nat :=
  c + o.td * 131072

def OpTd.dec (w : Nat) : OpTd :=
  ⟨fld w 17 9⟩

def OpTa.enc (o : OpTa) (c : Nat) : Nat :=
  c + o.ta * 67108864

def OpTa.dec (w : Nat) : OpTa :=
  ⟨fld w 26 9⟩

def OpMma.enc (o : OpMma) (c : Nat) : Nat :=
  c + o.td * 131072 + o.ta * 67108864 + o.tb * 34359738368 + cond o.la 16384 0 + cond o.lb 32768 0

def OpMma.dec (w : Nat) : OpMma :=
  ⟨fld w 17 9, fld w 26 9, fld w 35 9, bitAt w 14, bitAt w 15⟩

def OpMmag.enc (o : OpMmag) (c : Nat) : Nat :=
  c + o.td * 131072 + o.va * 67108864 + o.tb * 34359738368 + cond o.lb 32768 0 + o.xa * 17592186044416

def OpMmag.dec (w : Nat) : OpMmag :=
  ⟨fld w 17 9, fld w 26 6, fld w 35 9, bitAt w 15, fld w 44 5⟩

def OpMtov.enc (o : OpMtov) (c : Nat) : Nat :=
  c + o.vd * 131072 + o.ta * 67108864 + o.xa * 17592186044416

def OpMtov.dec (w : Nat) : OpMtov :=
  ⟨fld w 17 6, fld w 26 9, fld w 44 5⟩

def OpVtom.enc (o : OpVtom) (c : Nat) : Nat :=
  c + o.td * 131072 + o.va * 67108864 + o.xa * 17592186044416

def OpVtom.dec (w : Nat) : OpVtom :=
  ⟨fld w 17 9, fld w 26 6, fld w 44 5⟩

def OpMtrans.enc (o : OpMtrans) (c : Nat) : Nat :=
  c + o.td * 131072 + o.ta * 67108864 + cond o.la 16384 0 + o.xa * 17592186044416

def OpMtrans.dec (w : Nat) : OpMtrans :=
  ⟨fld w 17 9, fld w 26 9, bitAt w 14, fld w 44 5⟩

def OpMcvt.enc (o : OpMcvt) (c : Nat) : Nat :=
  c + o.td * 131072 + o.ta * 67108864 + o.tb * 34359738368 + cond o.la 16384 0 + cond o.lb 32768 0 + o.xa * 17592186044416

def OpMcvt.dec (w : Nat) : OpMcvt :=
  ⟨fld w 17 9, fld w 26 9, fld w 35 9, bitAt w 14, bitAt w 15, fld w 44 5⟩

def OpMsend.enc (o : OpMsend) (c : Nat) : Nat :=
  c + o.ta * 67108864 + cond o.la 16384 0 + o.xa * 17592186044416

def OpMsend.dec (w : Nat) : OpMsend :=
  ⟨fld w 26 9, bitAt w 14, fld w 44 5⟩

def OpCpy.enc (o : OpCpy) (c : Nat) : Nat :=
  c + o.bb * 576460752303423488 + o.xa * 17592186044416 + o.xb * 562949953421312 + o.xc * 18014398509481984

def OpCpy.dec (w : Nat) : OpCpy :=
  ⟨fld w 59 3, fld w 44 5, fld w 49 5, fld w 54 5⟩

def OpCpyrows.enc (o : OpCpyrows) (c : Nat) : Nat :=
  c + o.bb * 576460752303423488 + o.va * 67108864 + o.kb * 34359738368 + o.xa * 17592186044416 + o.xb * 562949953421312 + o.xc * 18014398509481984

def OpCpyrows.dec (w : Nat) : OpCpyrows :=
  ⟨fld w 59 3, fld w 26 6, fld w 35 3, fld w 44 5, fld w 49 5, fld w 54 5⟩

def OpCpyv.enc (o : OpCpyv) (c : Nat) : Nat :=
  c + o.bb * 576460752303423488 + o.vd * 131072 + o.xa * 17592186044416 + o.xb * 562949953421312

def OpCpyv.dec (w : Nat) : OpCpyv :=
  ⟨fld w 59 3, fld w 17 6, fld w 44 5, fld w 49 5⟩

def OpG3.enc (o : OpG3) (c : Nat) : Nat :=
  c + o.d * 4194304 + o.a * 262144 + o.b * 16384

def OpG3.dec (w : Nat) : OpG3 :=
  ⟨fld w 22 4, fld w 18 4, fld w 14 4⟩

def OpGi.enc (o : OpGi) (c : Nat) : Nat :=
  c + o.d * 4194304 + o.a * 262144 + o.imm * 1

def OpGi.dec (w : Nat) : OpGi :=
  ⟨fld w 22 4, fld w 18 4, fld w 0 18⟩

def OpGsh.enc (o : OpGsh) (c : Nat) : Nat :=
  c + o.d * 4194304 + o.a * 262144 + o.sh * 1

def OpGsh.dec (w : Nat) : OpGsh :=
  ⟨fld w 22 4, fld w 18 4, fld w 0 5⟩

def OpGlui.enc (o : OpGlui) (c : Nat) : Nat :=
  c + o.d * 4194304 + o.imm * 1

def OpGlui.dec (w : Nat) : OpGlui :=
  ⟨fld w 22 4, fld w 0 18⟩

def OpGb.enc (o : OpGb) (c : Nat) : Nat :=
  c + o.a * 4194304 + o.b * 262144 + o.off * 1

def OpGb.dec (w : Nat) : OpGb :=
  ⟨fld w 22 4, fld w 18 4, fld w 0 10⟩

def OpGl.enc (o : OpGl) (c : Nat) : Nat :=
  c + o.d * 4194304 + o.a * 262144 + o.b * 16384 + o.jm * 256

def OpGl.dec (w : Nat) : OpGl :=
  ⟨fld w 22 4, fld w 18 4, fld w 14 4, fld w 8 2⟩

def OpGcmp.enc (o : OpGcmp) (c : Nat) : Nat :=
  c + o.d * 4194304 + o.a * 262144 + o.b * 16384 + o.jm * 256

def OpGcmp.dec (w : Nat) : OpGcmp :=
  ⟨fld w 22 2, fld w 18 4, fld w 14 4, fld w 8 2⟩

def OpJ3.enc (o : OpJ3) (c : Nat) : Nat :=
  c + o.d * 4194304 + o.a * 262144 + o.b * 16384

def OpJ3.dec (w : Nat) : OpJ3 :=
  ⟨fld w 22 2, fld w 18 2, fld w 14 2⟩

def OpJtoh.enc (o : OpJtoh) (c : Nat) : Nat :=
  c + o.d * 4194304 + o.a * 262144

def OpJtoh.dec (w : Nat) : OpJtoh :=
  ⟨fld w 22 4, fld w 18 2⟩

def OpHtoj.enc (o : OpHtoj) (c : Nat) : Nat :=
  c + o.d * 4194304 + o.a * 262144

def OpHtoj.dec (w : Nat) : OpHtoj :=
  ⟨fld w 22 2, fld w 18 4⟩

def OpGbcst.enc (o : OpGbcst) (c : Nat) : Nat :=
  c + o.d * 4194304 + o.a * 262144 + o.jm * 256

def OpGbcst.dec (w : Nat) : OpGbcst :=
  ⟨fld w 22 4, fld w 18 4, fld w 8 2⟩

def OpGlane.enc (o : OpGlane) (c : Nat) : Nat :=
  c + o.d * 4194304 + o.a * 262144 + o.lane * 1

def OpGlane.dec (w : Nat) : OpGlane :=
  ⟨fld w 22 4, fld w 18 4, fld w 0 3⟩

def OpPfresh.enc (o : OpPfresh) (c : Nat) : Nat :=
  c + o.d * 4194304 + o.a * 262144 + o.imm * 1

def OpPfresh.dec (w : Nat) : OpPfresh :=
  ⟨fld w 22 2, fld w 18 4, fld w 0 18⟩

def OpLoop.enc (o : OpLoop) (c : Nat) : Nat :=
  c + o.a * 4194304 + o.max * 16384 + o.len * 1

def OpLoop.dec (w : Nat) : OpLoop :=
  ⟨fld w 22 4, fld w 14 8, fld w 0 10⟩

def OpEmit.enc (o : OpEmit) (c : Nat) : Nat :=
  c + o.a * 262144 + o.b * 16384 + o.n * 1024

def OpEmit.dec (w : Nat) : OpEmit :=
  ⟨fld w 18 4, fld w 14 4, fld w 10 3⟩

def OpKtrap.enc (o : OpKtrap) (c : Nat) : Nat :=
  c + o.imm * 1

def OpKtrap.dec (w : Nat) : OpKtrap :=
  ⟨fld w 0 8⟩

/-- The prefix word, bits [31:0] (R264). -/
def Modifier.enc (m : Modifier) : Nat :=
  127 + m.rm * 512 + m.sat * 4096 + m.scope * 8192 + m.ord * 65536 + m.o * 262144 + m.p * 524288 + m.fe * 1048576 +
  m.dh * 4194304 + m.ah * 8388608 + m.bh * 16777216

def Modifier.dec (w : Nat) : Modifier :=
  ⟨fld w 9 3, fld w 12 1, fld w 13 3, fld w 16 2, fld w 18 1, fld w 19 1, fld w 20 2, fld w 22 1, fld w 23 1, fld w 24 1⟩

/-- A base word behind its prefix, if it has one (R263, R265). -/
def withMod (p : Option Modifier) (w : Nat) : Code :=
  match p with
  | none => ⟨4, w⟩
  | some m => ⟨8, m.enc + w * 4294967296⟩

/-- A LOAD, LOADF or STORE word, behind an all-default prefix when `long`. -/
def withLong (long : Bool) (w : Nat) : Code :=
  cond long (withMod (some Modifier.default) w) (withMod none w)

/-- The base words of the loads of R296: LOAD minors 0 to 6, then LOADF minors 1 to 3. -/
def loadBase (kind : Nat) : Nat := if kind < 7 then 3 + kind * 4194304 else 7 + (kind - 6) * 4194304

def OpLoadFe.enc (o : OpLoadFe) (fe : Nat) : Code :=
  withMod (some { Modifier.default with fe := fe }) (OpLoad.enc ⟨true, o.d, o.a, o.imm⟩ (loadBase o.kind))

def OpStoreFill.enc (o : OpStoreFill) : Code :=
  withMod (some { Modifier.default with fe := 3 }) (OpStore.enc ⟨true, o.b, o.a, o.imm⟩ (11 + o.kind * 4194304))

/-- VLD or VLDX, VST or VSTX, behind the prefix (R346, R359). -/
def OpVmemFe.enc (o : OpVmemFe) (st : Nat) : Code :=
  withMod (some o.p) (OpVmemX.enc ⟨none, o.iw, o.k, o.b, o.a, o.d⟩ (107 + (st + cond o.indexed 1 0) * 134217728))

/-- The bits of an instruction; a device event has none. -/
def encode (i : Instr) : Code :=
  match i with
  | .ldI8 o => withLong o.long (o.enc 0x3)
  | .ldI16 o => withLong o.long (o.enc 0x400003)
  | .ldI32 o => withLong o.long (o.enc 0x800003)
  | .ldI64 o => withLong o.long (o.enc 0xc00003)
  | .ldN8 o => withLong o.long (o.enc 0x1000003)
  | .ldN16 o => withLong o.long (o.enc 0x1400003)
  | .ldN32 o => withLong o.long (o.enc 0x1800003)
  | .ldF16 o => withLong o.long (o.enc 0x400007)
  | .ldF32 o => withLong o.long (o.enc 0x800007)
  | .ldF64 o => withLong o.long (o.enc 0xc00007)
  | .stN8 o => withLong o.long (o.enc 0xb)
  | .stN16 o => withLong o.long (o.enc 0x40000b)
  | .stN32 o => withLong o.long (o.enc 0x80000b)
  | .stN64 o => withLong o.long (o.enc 0xc0000b)
  | .stF16 o => withLong o.long (o.enc 0x140000b)
  | .stF32 o => withLong o.long (o.enc 0x180000b)
  | .stF64 o => withLong o.long (o.enc 0x1c0000b)
  | .ldFe o => o.enc 1
  | .ldTake o => o.enc 2
  | .stFill o => o.enc
  | .addi o => ⟨4, o.enc 0x17⟩
  | .lui o => ⟨4, o.enc 0x1b⟩
  | .addpc o => ⟨4, o.enc 0x1f⟩
  | .slli o => ⟨4, o.enc 0x13⟩
  | .srli o => ⟨4, o.enc 0x400013⟩
  | .srai o => ⟨4, o.enc 0x800013⟩
  | .andi o => ⟨4, o.enc 0xc00013⟩
  | .ori o => ⟨4, o.enc 0x1000013⟩
  | .xori o => ⟨4, o.enc 0x1400013⟩
  | .setlti o => ⟨4, o.enc 0x1800013⟩
  | .setltiu o => ⟨4, o.enc 0x1c00013⟩
  | .add o => ⟨4, o.enc 0x2b⟩
  | .sub o => ⟨4, o.enc 0x40002b⟩
  | .andR o => ⟨4, o.enc 0x80002b⟩
  | .orR o => ⟨4, o.enc 0xc0002b⟩
  | .xorR o => ⟨4, o.enc 0x100002b⟩
  | .sll o => ⟨4, o.enc 0x140002b⟩
  | .srl o => ⟨4, o.enc 0x180002b⟩
  | .sra o => ⟨4, o.enc 0x1c0002b⟩
  | .setlt o => ⟨4, o.enc 0x200002b⟩
  | .setltu o => ⟨4, o.enc 0x240002b⟩
  | .minR o => ⟨4, o.enc 0x280002b⟩
  | .maxR o => ⟨4, o.enc 0x2c0002b⟩
  | .minu o => ⟨4, o.enc 0x300002b⟩
  | .maxu o => ⟨4, o.enc 0x340002b⟩
  | .andinv o => ⟨4, o.enc 0x380002b⟩
  | .orinv o => ⟨4, o.enc 0x3c0002b⟩
  | .mul o => ⟨4, o.enc 0x400002b⟩
  | .mulhi o => ⟨4, o.enc 0x440002b⟩
  | .mulhiu o => ⟨4, o.enc 0x480002b⟩
  | .mulhmix o => ⟨4, o.enc 0x4c0002b⟩
  | .div o => ⟨4, o.enc 0x500002b⟩
  | .divu o => ⟨4, o.enc 0x540002b⟩
  | .rem o => ⟨4, o.enc 0x580002b⟩
  | .remu o => ⟨4, o.enc 0x5c0002b⟩
  | .ixadd1 o => ⟨4, o.enc 0x600002b⟩
  | .ixadd2 o => ⟨4, o.enc 0x640002b⟩
  | .ixadd3 o => ⟨4, o.enc 0x680002b⟩
  | .ixadd4 o => ⟨4, o.enc 0x6c0002b⟩
  | .zlead o => ⟨4, o.enc 0x700002b⟩
  | .ztrail o => ⟨4, o.enc 0x740002b⟩
  | .ones o => ⟨4, o.enc 0x780002b⟩
  | .jal o => ⟨4, o.enc 0x23⟩
  | .jalr o => ⟨4, o.enc 0x27⟩
  | .beq o => ⟨4, o.enc 0x2f⟩
  | .bne o => ⟨4, o.enc 0x33⟩
  | .blt o => ⟨4, o.enc 0x37⟩
  | .bge o => ⟨4, o.enc 0x3b⟩
  | .bltu o => ⟨4, o.enc 0x3f⟩
  | .bgeu o => ⟨4, o.enc 0x43⟩
  | .fadd o => ⟨4, o.enc 0x47⟩
  | .fsub o => ⟨4, o.enc 0x8000047⟩
  | .fmul o => ⟨4, o.enc 0x10000047⟩
  | .fdiv o => ⟨4, o.enc 0x18000047⟩
  | .fsqrt o => ⟨4, o.enc 0x20000047⟩
  | .fmin o => ⟨4, o.enc 0x28000047⟩
  | .fmax o => ⟨4, o.enc 0x30000047⟩
  | .fsgcpy o => ⟨4, o.enc 0x38000047⟩
  | .fsginv o => ⟨4, o.enc 0x38400047⟩
  | .fsgxor o => ⟨4, o.enc 0x38800047⟩
  | .fcmpeq o => ⟨4, o.enc 0x40000047⟩
  | .fcmplt o => ⟨4, o.enc 0x48000047⟩
  | .fcmple o => ⟨4, o.enc 0x50000047⟩
  | .fkind o => ⟨4, o.enc 0x58000047⟩
  | .ftoi o => ⟨4, o.enc 0x60000047⟩
  | .itof o => ⟨4, o.enc 0x68000047⟩
  | .ftof o => ⟨4, o.enc 0x70000047⟩
  | .fbitsx o => ⟨4, o.enc 0x7a000047⟩
  | .xbitsf o => ⟨4, o.enc 0x7a400047⟩
  | .fmadd o => ⟨4, o.enc 0x4b⟩
  | .amoSwap o => ⟨4, o.enc 0x4f⟩
  | .amoAdd o => ⟨4, o.enc 0x200004f⟩
  | .amoAnd o => ⟨4, o.enc 0x400004f⟩
  | .amoOr o => ⟨4, o.enc 0x600004f⟩
  | .amoXor o => ⟨4, o.enc 0x800004f⟩
  | .amoMin o => ⟨4, o.enc 0xa00004f⟩
  | .amoMax o => ⟨4, o.enc 0xc00004f⟩
  | .amoMinu o => ⟨4, o.enc 0xe00004f⟩
  | .amoMaxu o => ⟨4, o.enc 0x1000004f⟩
  | .amoFadd o => ⟨4, o.enc 0x1200004f⟩
  | .amoFmax o => ⟨4, o.enc 0x1400004f⟩
  | .amoCas o => ⟨4, o.enc 0x1600004f⟩
  | .cas2 o => ⟨4, o.enc 0x3800004f⟩
  | .mfs o => ⟨4, o.enc 0x53⟩
  | .mts o => ⟨4, o.enc 0x20000053⟩
  | .fenceSv => ⟨4, 0x57⟩
  | .fenceVs => ⟨4, 0x400057⟩
  | .fenceVv => ⟨4, 0x800057⟩
  | .fenceAll => ⟨4, 0xc00057⟩
  | .syscall o => ⟨4, o.enc 0x2000057⟩
  | .breakTrap o => ⟨4, o.enc 0x2400057⟩
  | .eret => ⟨4, 0x2800057⟩
  | .wfe => ⟨4, 0x2c00057⟩
  | .exitTask => ⟨4, 0x3000057⟩
  | .yieldTask => ⟨4, 0x3400057⟩
  | .tlbiPg o => ⟨4, o.enc 0x4000057⟩
  | .tlbiAll o => ⟨4, o.enc 0x4400057⟩
  | .cwb o => ⟨4, o.enc 0x6000057⟩
  | .cinv o => ⟨4, o.enc 0x6400057⟩
  | .icinv o => ⟨4, o.enc 0x6800057⟩
  | .icinvall => ⟨4, 0x6c00057⟩
  | .qput o => ⟨4, o.enc 0x8000057⟩
  | .qget o => ⟨4, o.enc 0x8400057⟩
  | .qpeek o => ⟨4, o.enc 0x8800057⟩
  | .spawn o => ⟨4, o.enc 0xa000057⟩
  | .nop => ⟨4, 0x7b⟩
  | .hint o => ⟨4, o.enc 0x7b⟩
  | .cLdI64 o => ⟨2, o.enc 0x0⟩
  | .cLdI32 o => ⟨2, o.enc 0x2000⟩
  | .cStN64 o => ⟨2, o.enc 0x4000⟩
  | .cStN32 o => ⟨2, o.enc 0x6000⟩
  | .cLdF64 o => ⟨2, o.enc 0x8000⟩
  | .cStF64 o => ⟨2, o.enc 0xa000⟩
  | .cNop => ⟨2, 0x1⟩
  | .cAddi o => ⟨2, o.enc 0x1⟩
  | .cLi o => ⟨2, o.enc 0x2001⟩
  | .cLui o => ⟨2, o.enc 0x4001⟩
  | .cSlli o => ⟨2, o.enc 0x6001⟩
  | .cAndi o => ⟨2, o.enc 0x8001⟩
  | .cJ o => ⟨2, o.enc 0xa001⟩
  | .cBeqz o => ⟨2, o.enc 0xc001⟩
  | .cBnez o => ⟨2, o.enc 0xe001⟩
  | .cMv o => ⟨2, o.enc 0x2⟩
  | .cAdd o => ⟨2, o.enc 0x1002⟩
  | .cJr o => ⟨2, o.enc 0x2002⟩
  | .cJalr o => ⟨2, o.enc 0x3002⟩
  | .cSub o => ⟨2, o.enc 0x4002⟩
  | .cAnd o => ⟨2, o.enc 0x5002⟩
  | .cOr o => ⟨2, o.enc 0x6002⟩
  | .cXor o => ⟨2, o.enc 0x7002⟩
  | .vsetl o => ⟨4, o.enc 0x5b⟩
  | .vcfg o => ⟨4, o.enc 0x2000005b⟩
  | .vadd o => withMod o.p (o.enc 0x5f)
  | .vsub o => withMod o.p (o.enc 0x200005f)
  | .vsubr o => withMod o.p (o.enc 0x400005f)
  | .vmul o => withMod o.p (o.enc 0x600005f)
  | .vmulhi o => withMod o.p (o.enc 0x800005f)
  | .vmulhiu o => withMod o.p (o.enc 0xa00005f)
  | .vdiv o => withMod o.p (o.enc 0xc00005f)
  | .vdivu o => withMod o.p (o.enc 0xe00005f)
  | .vrem o => withMod o.p (o.enc 0x1000005f)
  | .vremu o => withMod o.p (o.enc 0x1200005f)
  | .vand o => withMod o.p (o.enc 0x1400005f)
  | .vor o => withMod o.p (o.enc 0x1600005f)
  | .vxor o => withMod o.p (o.enc 0x1800005f)
  | .vsll o => withMod o.p (o.enc 0x1a00005f)
  | .vsrl o => withMod o.p (o.enc 0x1c00005f)
  | .vsra o => withMod o.p (o.enc 0x1e00005f)
  | .vmin o => withMod o.p (o.enc 0x2000005f)
  | .vmax o => withMod o.p (o.enc 0x2200005f)
  | .vminu o => withMod o.p (o.enc 0x2400005f)
  | .vmaxu o => withMod o.p (o.enc 0x2600005f)
  | .vaddsat o => withMod o.p (o.enc 0x2800005f)
  | .vaddsatu o => withMod o.p (o.enc 0x2a00005f)
  | .vsubsat o => withMod o.p (o.enc 0x2c00005f)
  | .vsubsatu o => withMod o.p (o.enc 0x2e00005f)
  | .vmulq o => withMod o.p (o.enc 0x3000005f)
  | .vmulw o => withMod o.p (o.enc 0x3200005f)
  | .vmulwu o => withMod o.p (o.enc 0x3400005f)
  | .vmacw o => withMod o.p (o.enc 0x3600005f)
  | .vnarrows o => withMod o.p (o.enc 0x3800005f)
  | .vnarrowu o => withMod o.p (o.enc 0x3a00005f)
  | .vfadd o => withMod o.p (o.enc 0x63)
  | .vfsub o => withMod o.p (o.enc 0x2000063)
  | .vfrsub o => withMod o.p (o.enc 0x4000063)
  | .vfmul o => withMod o.p (o.enc 0x6000063)
  | .vfdiv o => withMod o.p (o.enc 0x8000063)
  | .vfmin o => withMod o.p (o.enc 0xa000063)
  | .vfmax o => withMod o.p (o.enc 0xc000063)
  | .vfma o => withMod o.p (o.enc 0xe000063)
  | .vfnma o => withMod o.p (o.enc 0x10000063)
  | .vfsgcpy o => withMod o.p (o.enc 0x12000063)
  | .vfsginv o => withMod o.p (o.enc 0x14000063)
  | .vfsgxor o => withMod o.p (o.enc 0x16000063)
  | .vfsqrt o => withMod o.p (o.enc 0x18000063)
  | .vfexp2 o => withMod o.p (o.enc 0x18020063)
  | .vflog2 o => withMod o.p (o.enc 0x18040063)
  | .vfrcp o => withMod o.p (o.enc 0x18060063)
  | .vfrsqrt o => withMod o.p (o.enc 0x18080063)
  | .vfcvt o => withMod o.p (o.enc 0x20000063)
  | .vfcvtRs o => withMod (some o.p) (o.enc 0x20000063)
  | .vcmpeq o => withMod o.p (o.enc 0x67)
  | .vcmpne o => withMod o.p (o.enc 0x2000067)
  | .vcmplt o => withMod o.p (o.enc 0x4000067)
  | .vcmple o => withMod o.p (o.enc 0x6000067)
  | .vcmpltu o => withMod o.p (o.enc 0x8000067)
  | .vcmpleu o => withMod o.p (o.enc 0xa000067)
  | .vqget o => withMod o.p (o.enc 0xc000067)
  | .vqput o => withMod o.p (o.enc 0xe000067)
  | .vfcmpeq o => withMod o.p (o.enc 0x10000067)
  | .vfcmpne o => withMod o.p (o.enc 0x12000067)
  | .vfcmplt o => withMod o.p (o.enc 0x14000067)
  | .vfcmple o => withMod o.p (o.enc 0x16000067)
  | .kand o => withMod o.p (o.enc 0x18000067)
  | .kor o => withMod o.p (o.enc 0x1a000067)
  | .kxor o => withMod o.p (o.enc 0x1c000067)
  | .kandinv o => withMod o.p (o.enc 0x1e000067)
  | .kcount o => withMod o.p (o.enc 0x20000067)
  | .kffs o => withMod o.p (o.enc 0x22000067)
  | .vshup o => withMod o.p (o.enc 0x24000067)
  | .vshdn o => withMod o.p (o.enc 0x26000067)
  | .vpick o => withMod o.p (o.enc 0x28000067)
  | .vcompact o => withMod o.p (o.enc 0x2a000067)
  | .vassign o => withMod o.p (o.enc 0x2c000067)
  | .vramp o => withMod o.p (o.enc 0x2e000067)
  | .vfoldadd o => withMod o.p (o.enc 0x30000067)
  | .vfoldmin o => withMod o.p (o.enc 0x32000067)
  | .vfoldmax o => withMod o.p (o.enc 0x34000067)
  | .vredmaxi o => withMod o.p (o.enc 0x36000067)
  | .vgetx o => withMod o.p (o.enc 0x38000067)
  | .vgetf o => withMod o.p (o.enc 0x3a000067)
  | .vscan o => withMod o.p (o.enc 0x3c000067)
  | .vrand o => withMod o.p (o.enc 0x7e000067)
  | .vld o => withMod o.p (o.enc 0x6b)
  | .vldx o => withMod o.p (o.enc 0x800006b)
  | .vldff o => withMod o.p (o.enc 0x1000006b)
  | .vldsh o => withMod o.p (o.enc 0x1800006b)
  | .vlda o => withMod o.p (o.enc 0x2000006b)
  | .vst o => withMod o.p (o.enc 0x4000006b)
  | .vstx o => withMod o.p (o.enc 0x4800006b)
  | .vstsh o => withMod o.p (o.enc 0x5800006b)
  | .vldFe o => o.enc 0
  | .vldTake o => o.enc 0
  | .vstFill o => o.enc 8
  | .barArr o => withMod o.p (o.enc 0x8000006b)
  | .barWait o => withMod o.p (o.enc 0x8800006b)
  | .vamoSwap o => withMod o.p (o.enc 0x6f)
  | .vamoAdd o => withMod o.p (o.enc 0x1000006f)
  | .vamoAnd o => withMod o.p (o.enc 0x2000006f)
  | .vamoOr o => withMod o.p (o.enc 0x3000006f)
  | .vamoXor o => withMod o.p (o.enc 0x4000006f)
  | .vamoMin o => withMod o.p (o.enc 0x5000006f)
  | .vamoMax o => withMod o.p (o.enc 0x6000006f)
  | .vamoMinu o => withMod o.p (o.enc 0x7000006f)
  | .vamoMaxu o => withMod o.p (o.enc 0x8000006f)
  | .vamoFadd o => withMod o.p (o.enc 0x9000006f)
  | .vamoFmax o => withMod o.p (o.enc 0xa000006f)
  | .vamoCas o => withMod o.p (o.enc 0xb000006f)
  | .tlwaitReg o => ⟨4, o.enc 0x73⟩
  | .tlwaitMem o => ⟨4, o.enc 0x400073⟩
  | .tlread o => ⟨4, o.enc 0x800073⟩
  | .tladv o => ⟨4, o.enc 0xc00073⟩
  | .feclr o => ⟨4, o.enc 0x1000073⟩
  | .cpyabort o => ⟨4, o.enc 0x1400073⟩
  | .cpystat o => ⟨4, o.enc 0x1800073⟩
  | .mcfg o => ⟨8, o.enc 0xff⟩
  | .mld o => ⟨8, o.enc 0x2ff⟩
  | .mst o => ⟨8, o.enc 0x4ff⟩
  | .mzero o => ⟨8, o.enc 0x6ff⟩
  | .mma o => ⟨8, o.enc 0x8ff⟩
  | .mmag o => ⟨8, o.enc 0xaff⟩
  | .mtov o => ⟨8, o.enc 0xcff⟩
  | .vtom o => ⟨8, o.enc 0xeff⟩
  | .mtrans o => ⟨8, o.enc 0x10ff⟩
  | .mcvt o => ⟨8, o.enc 0x12ff⟩
  | .mpref o => ⟨8, o.enc 0x14ff⟩
  | .mdrop o => ⟨8, o.enc 0x16ff⟩
  | .msend o => ⟨8, o.enc 0x18ff⟩
  | .mopen o => ⟨8, o.enc 0x1aff⟩
  | .mscale o => ⟨8, o.enc 0x1cff⟩
  | .madd o => ⟨8, o.enc 0x1eff⟩
  | .cpy o => ⟨8, o.enc 0x20ff⟩
  | .cpyrows o => ⟨8, o.enc 0x22ff⟩
  | .cpyv o => ⟨8, o.enc 0x24ff⟩
  | .cpyred o => ⟨8, o.enc 0x26ff⟩
  | .golpinAdd o => ⟨4, o.enc 0x4000000⟩
  | .golpinSub o => ⟨4, o.enc 0x4000400⟩
  | .golpinAnd o => ⟨4, o.enc 0x4000800⟩
  | .golpinOr o => ⟨4, o.enc 0x4000c00⟩
  | .golpinXor o => ⟨4, o.enc 0x4001000⟩
  | .golpinSll o => ⟨4, o.enc 0x4001400⟩
  | .golpinSrl o => ⟨4, o.enc 0x4001800⟩
  | .golpinSra o => ⟨4, o.enc 0x4001c00⟩
  | .golpinMin o => ⟨4, o.enc 0x4002000⟩
  | .golpinMax o => ⟨4, o.enc 0x4002400⟩
  | .golpinMinu o => ⟨4, o.enc 0x4002800⟩
  | .golpinMaxu o => ⟨4, o.enc 0x4002c00⟩
  | .golpinMul o => ⟨4, o.enc 0x4003000⟩
  | .golpinSetlt o => ⟨4, o.enc 0x4003400⟩
  | .golpinSetltu o => ⟨4, o.enc 0x4003800⟩
  | .golpinAddi o => ⟨4, o.enc 0x8000000⟩
  | .golpinAndi o => ⟨4, o.enc 0xc000000⟩
  | .golpinOri o => ⟨4, o.enc 0x10000000⟩
  | .golpinXori o => ⟨4, o.enc 0x14000000⟩
  | .golpinSlli o => ⟨4, o.enc 0x18000000⟩
  | .golpinSrli o => ⟨4, o.enc 0x1c000000⟩
  | .golpinSrai o => ⟨4, o.enc 0x20000000⟩
  | .golpinLui o => ⟨4, o.enc 0x24000000⟩
  | .golpinBeq o => ⟨4, o.enc 0x28000000⟩
  | .golpinBne o => ⟨4, o.enc 0x2c000000⟩
  | .golpinBlt o => ⟨4, o.enc 0x30000000⟩
  | .golpinBge o => ⟨4, o.enc 0x34000000⟩
  | .golpinBltu o => ⟨4, o.enc 0x38000000⟩
  | .golpinBgeu o => ⟨4, o.enc 0x3c000000⟩
  | .laddVv o => ⟨4, o.enc 0x40000000⟩
  | .lsubVv o => ⟨4, o.enc 0x40000400⟩
  | .landVv o => ⟨4, o.enc 0x40000800⟩
  | .lorVv o => ⟨4, o.enc 0x40000c00⟩
  | .lxorVv o => ⟨4, o.enc 0x40001000⟩
  | .lminVv o => ⟨4, o.enc 0x40001400⟩
  | .lmaxVv o => ⟨4, o.enc 0x40001800⟩
  | .lminuVv o => ⟨4, o.enc 0x40001c00⟩
  | .lmaxuVv o => ⟨4, o.enc 0x40002000⟩
  | .lmulVv o => ⟨4, o.enc 0x40002400⟩
  | .lfaddVv o => ⟨4, o.enc 0x40002800⟩
  | .lfmaxVv o => ⟨4, o.enc 0x40002c00⟩
  | .lfminVv o => ⟨4, o.enc 0x40003000⟩
  | .lbfaddVv o => ⟨4, o.enc 0x40003400⟩
  | .laddVs o => ⟨4, o.enc 0x44000000⟩
  | .lsubVs o => ⟨4, o.enc 0x44000400⟩
  | .landVs o => ⟨4, o.enc 0x44000800⟩
  | .lorVs o => ⟨4, o.enc 0x44000c00⟩
  | .lxorVs o => ⟨4, o.enc 0x44001000⟩
  | .lminVs o => ⟨4, o.enc 0x44001400⟩
  | .lmaxVs o => ⟨4, o.enc 0x44001800⟩
  | .lminuVs o => ⟨4, o.enc 0x44001c00⟩
  | .lmaxuVs o => ⟨4, o.enc 0x44002000⟩
  | .lmulVs o => ⟨4, o.enc 0x44002400⟩
  | .lfaddVs o => ⟨4, o.enc 0x44002800⟩
  | .lfmaxVs o => ⟨4, o.enc 0x44002c00⟩
  | .lfminVs o => ⟨4, o.enc 0x44003000⟩
  | .lbfaddVs o => ⟨4, o.enc 0x44003400⟩
  | .lcmpeq o => ⟨4, o.enc 0x48000000⟩
  | .lcmpne o => ⟨4, o.enc 0x48000400⟩
  | .lcmplt o => ⟨4, o.enc 0x48000800⟩
  | .lcmpltu o => ⟨4, o.enc 0x48000c00⟩
  | .lcmpfeq o => ⟨4, o.enc 0x48001000⟩
  | .lcmpflt o => ⟨4, o.enc 0x48001400⟩
  | .lcmpfle o => ⟨4, o.enc 0x48001800⟩
  | .jand o => ⟨4, o.enc 0x4c000000⟩
  | .jor o => ⟨4, o.enc 0x4c000400⟩
  | .jxor o => ⟨4, o.enc 0x4c000800⟩
  | .jandinv o => ⟨4, o.enc 0x4c000c00⟩
  | .jtoh o => ⟨4, o.enc 0x4c001000⟩
  | .htoj o => ⟨4, o.enc 0x4c001400⟩
  | .jcount o => ⟨4, o.enc 0x4c001800⟩
  | .lbcst o => ⟨4, o.enc 0x50000000⟩
  | .lext o => ⟨4, o.enc 0x54000000⟩
  | .lins o => ⟨4, o.enc 0x58000000⟩
  | .lredadd o => ⟨4, o.enc 0x5c000000⟩
  | .lredfadd o => ⟨4, o.enc 0x5c000400⟩
  | .lredmax o => ⟨4, o.enc 0x5c000800⟩
  | .lredmaxu o => ⟨4, o.enc 0x5c000c00⟩
  | .lredfmax o => ⟨4, o.enc 0x5c001000⟩
  | .lredfmin o => ⟨4, o.enc 0x5c001400⟩
  | .pld o => ⟨4, o.enc 0x60000000⟩
  | .pst o => ⟨4, o.enc 0x64000000⟩
  | .pldl o => ⟨4, o.enc 0x68000000⟩
  | .pstl o => ⟨4, o.enc 0x6c000000⟩
  | .sld o => ⟨4, o.enc 0x70000000⟩
  | .sst o => ⟨4, o.enc 0x74000000⟩
  | .sldl o => ⟨4, o.enc 0x78000000⟩
  | .sstl o => ⟨4, o.enc 0x7c000000⟩
  | .pfresh o => ⟨4, o.enc 0x80000000⟩
  | .golpinLoop o => ⟨4, o.enc 0x84000000⟩
  | .emitSt o => ⟨4, o.enc 0x88000000⟩
  | .emitWin o => ⟨4, o.enc 0x88002000⟩
  | .fwd => ⟨4, 0x8c000000⟩
  | .golpinDrop => ⟨4, 0x90000000⟩
  | .reply => ⟨4, 0x94000000⟩
  | .ktrap o => ⟨4, o.enc 0x98000000⟩
  | .golpinBudgetExpiry _ => ⟨0, 0⟩
  | .golpinPacketStart _ => ⟨0, 0⟩
  | .emitDelivery _ => ⟨0, 0⟩
  | .ualinkPacketIngress _ => ⟨0, 0⟩
  | .reducingWriteAnswer _ => ⟨0, 0⟩
  | .reducingWriteResend _ => ⟨0, 0⟩
  | .remoteRequestPacket _ => ⟨0, 0⟩
  | .remoteAnswer _ => ⟨0, 0⟩
  | .msendLanding _ => ⟨0, 0⟩
  | .msendAnswer _ => ⟨0, 0⟩
  | .msendRetry _ => ⟨0, 0⟩
  | .schedulingStep => ⟨0, 0⟩
  | .contextSaveComplete _ => ⟨0, 0⟩
  | .taskRetirement _ => ⟨0, 0⟩
  | .barrierPoll _ => ⟨0, 0⟩
  | .tlwaitPoll _ => ⟨0, 0⟩
  | .wfeTimeout _ => ⟨0, 0⟩
  | .deferredTrapEntry _ => ⟨0, 0⟩
  | .pagerFaultRecord => ⟨0, 0⟩
  | .vectorInstructionComplete _ => ⟨0, 0⟩
  | .laneArbitration _ => ⟨0, 0⟩
  | .tileUnitIssue _ => ⟨0, 0⟩
  | .tileInstructionComplete _ => ⟨0, 0⟩
  | .tileFillComplete _ => ⟨0, 0⟩
  | .bobbinCommandStart _ => ⟨0, 0⟩
  | .bobbinElementLanding _ => ⟨0, 0⟩
  | .bobbinCommandComplete _ => ⟨0, 0⟩
  | .bobbinFault _ => ⟨0, 0⟩
  | .bankArbiterGrant _ => ⟨0, 0⟩
  | .scratchpadBankGrant _ => ⟨0, 0⟩
  | .refreshWindowOpen _ => ⟨0, 0⟩
  | .refreshWindowClose _ => ⟨0, 0⟩
  | .refreshCalendarChange _ => ⟨0, 0⟩
  | .dramTemperatureCrossing _ => ⟨0, 0⟩
  | .l1Eviction _ => ⟨0, 0⟩
  | .l2Eviction _ => ⟨0, 0⟩
  | .walkComplete _ => ⟨0, 0⟩
  | .tlbInvalidationReceipt _ => ⟨0, 0⟩
  | .tlbInvalidationAck _ => ⟨0, 0⟩
  | .shootdownComplete _ => ⟨0, 0⟩
  | .bankOffline _ => ⟨0, 0⟩
  | .offlineAccessRetry _ => ⟨0, 0⟩
  | .coreQuiescePoint _ => ⟨0, 0⟩
  | .notifyScan _ => ⟨0, 0⟩
  | .notifyNotice _ => ⟨0, 0⟩
  | .queueMap => ⟨0, 0⟩
  | .queueUnmap _ => ⟨0, 0⟩
  | .watchdogExpiry _ => ⟨0, 0⟩
  | .galleryArbitration _ => ⟨0, 0⟩
  | .galarbApply _ => ⟨0, 0⟩
  | .powerSample _ => ⟨0, 0⟩
  | .thermalTrip => ⟨0, 0⟩
  | .timeMessageSend => ⟨0, 0⟩
  | .timeMessageReceipt _ => ⟨0, 0⟩
  | .timeMasterLoss => ⟨0, 0⟩
  | .linkFailure _ => ⟨0, 0⟩
  | .ehrezPacketReceipt _ => ⟨0, 0⟩
  | .ehrezWrite _ => ⟨0, 0⟩
  | .ehrezReadRequest _ => ⟨0, 0⟩
  | .ehrezReadResponse _ => ⟨0, 0⟩
  | .ehrezAcknowledgement _ => ⟨0, 0⟩
  | .ehrezRetransmit _ => ⟨0, 0⟩
  | .powerOn => ⟨0, 0⟩
  | .bootRequest => ⟨0, 0⟩
  | .bootPacket _ => ⟨0, 0⟩
  | .identity => ⟨0, 0⟩
  | .attestation _ => ⟨0, 0⟩
  | .setPackageNumber _ => ⟨0, 0⟩
  | .setPillarPhase _ => ⟨0, 0⟩
  | .setGtime _ => ⟨0, 0⟩
  | .setTimeMaster _ => ⟨0, 0⟩
  | .setQueueTableBase _ => ⟨0, 0⟩
  | .configureFaultRing _ => ⟨0, 0⟩
  | .configureTraceRing _ => ⟨0, 0⟩
  | .configureErrorLog _ => ⟨0, 0⟩
  | .writeGalarb _ => ⟨0, 0⟩
  | .readWdt _ => ⟨0, 0⟩
  | .readGestat _ => ⟨0, 0⟩
  | .readEnergyCounter => ⟨0, 0⟩
  | .readCutwork _ => ⟨0, 0⟩
  | .gangChange _ => ⟨0, 0⟩
  | .golpinLoadKernel _ => ⟨0, 0⟩
  | .golpinUnloadKernel _ => ⟨0, 0⟩
  | .golpinWriteFlowEntry _ => ⟨0, 0⟩
  | .golpinSetEmitRange _ => ⟨0, 0⟩
  | .golpinSetEventArea _ => ⟨0, 0⟩
  | .closeReductionRecord _ => ⟨0, 0⟩
  | .openConnection _ => ⟨0, 0⟩
  | .closeConnection _ => ⟨0, 0⟩
  | .partitionControl _ => ⟨0, 0⟩
  | .queueEnable _ => ⟨0, 0⟩
  | .queueDisable _ => ⟨0, 0⟩
  | .setRoot _ => ⟨0, 0⟩
  | .setTrapRouting _ => ⟨0, 0⟩
  | .installOwnerKeys _ => ⟨0, 0⟩
  | .setPowerGrant _ => ⟨0, 0⟩
  | .gateCore _ => ⟨0, 0⟩
  | .ungateCore _ => ⟨0, 0⟩
  | .partitionDrainSave _ => ⟨0, 0⟩
  | .partitionDrainEnd _ => ⟨0, 0⟩
  | .partitionReset _ => ⟨0, 0⟩
  | .contextRepair _ => ⟨0, 0⟩
  | .contextExport _ => ⟨0, 0⟩
  | .contextImport _ => ⟨0, 0⟩
  | .taskResume _ => ⟨0, 0⟩
  | .taskEnd _ => ⟨0, 0⟩
  | .timeClockEdge => ⟨0, 0⟩
  | .homeL2Grant _ => ⟨0, 0⟩

/-- LOAD, LOADF, with FE in the prefix (R296, R298). -/
def candLoad (p : Option Modifier) (kind w : Nat) : Option Instr :=
  let long := p.isSome
  let fe : OpLoadFe := ⟨kind, fld w 7 5, fld w 12 5, fld w 17 5 + fld w 25 7 * 32⟩
  match (p.map (·.fe)).getD 0 with
  | 0 =>
    match kind with
    | 0 => some (.ldI8 (.dec long w))
    | 1 => some (.ldI16 (.dec long w))
    | 2 => some (.ldI32 (.dec long w))
    | 3 => some (.ldI64 (.dec long w))
    | 4 => some (.ldN8 (.dec long w))
    | 5 => some (.ldN16 (.dec long w))
    | 6 => some (.ldN32 (.dec long w))
    | 7 => some (.ldF16 (.dec long w))
    | 8 => some (.ldF32 (.dec long w))
    | 9 => some (.ldF64 (.dec long w))
    | _ => none
  | 1 => some (.ldFe fe)
  | 2 => some (.ldTake fe)
  | _ => none

/-- STORE, with FE in the prefix (R296, R298). -/
def candStore (p : Option Modifier) (w : Nat) : Option Instr :=
  let long := p.isSome
  match (p.map (·.fe)).getD 0 with
  | 0 =>
    match fld w 22 3 with
    | 0 => some (.stN8 (.dec long w))
    | 1 => some (.stN16 (.dec long w))
    | 2 => some (.stN32 (.dec long w))
    | 3 => some (.stN64 (.dec long w))
    | 5 => some (.stF16 (.dec long w))
    | 6 => some (.stF32 (.dec long w))
    | 7 => some (.stF64 (.dec long w))
    | _ => none
  | 3 => some (.stFill ⟨fld w 22 3, fld w 17 5, fld w 12 5, fld w 7 5 + fld w 25 7 * 32⟩)
  | _ => none

/-- OPIMM (R293). -/
def candOpimm (w : Nat) : Option Instr :=
  match fld w 22 3 with
  | 0 => some (.slli (.dec w))
  | 1 => some (.srli (.dec w))
  | 2 => some (.srai (.dec w))
  | 3 => some (.andi (.dec w))
  | 4 => some (.ori (.dec w))
  | 5 => some (.xori (.dec w))
  | 6 => some (.setlti (.dec w))
  | 7 => some (.setltiu (.dec w))
  | _ => none

/-- OP, by func7 and minor (R294). -/
def candOp (w : Nat) : Option Instr :=
  match fld w 25 7 * 8 + fld w 22 3 with
  | 0 => some (.add (.dec w))
  | 1 => some (.sub (.dec w))
  | 2 => some (.andR (.dec w))
  | 3 => some (.orR (.dec w))
  | 4 => some (.xorR (.dec w))
  | 5 => some (.sll (.dec w))
  | 6 => some (.srl (.dec w))
  | 7 => some (.sra (.dec w))
  | 8 => some (.setlt (.dec w))
  | 9 => some (.setltu (.dec w))
  | 10 => some (.minR (.dec w))
  | 11 => some (.maxR (.dec w))
  | 12 => some (.minu (.dec w))
  | 13 => some (.maxu (.dec w))
  | 14 => some (.andinv (.dec w))
  | 15 => some (.orinv (.dec w))
  | 16 => some (.mul (.dec w))
  | 17 => some (.mulhi (.dec w))
  | 18 => some (.mulhiu (.dec w))
  | 19 => some (.mulhmix (.dec w))
  | 20 => some (.div (.dec w))
  | 21 => some (.divu (.dec w))
  | 22 => some (.rem (.dec w))
  | 23 => some (.remu (.dec w))
  | 24 => some (.ixadd1 (.dec w))
  | 25 => some (.ixadd2 (.dec w))
  | 26 => some (.ixadd3 (.dec w))
  | 27 => some (.ixadd4 (.dec w))
  | 28 => some (.zlead (.dec w))
  | 29 => some (.ztrail (.dec w))
  | 30 => some (.ones (.dec w))
  | _ => none

/-- FOP (R299). -/
def candFop (w : Nat) : Option Instr :=
  match fld w 27 5 with
  | 0 => some (.fadd (.dec w))
  | 1 => some (.fsub (.dec w))
  | 2 => some (.fmul (.dec w))
  | 3 => some (.fdiv (.dec w))
  | 4 => some (.fsqrt (.dec w))
  | 5 => some (.fmin (.dec w))
  | 6 => some (.fmax (.dec w))
  | 8 => some (.fcmpeq (.dec w))
  | 9 => some (.fcmplt (.dec w))
  | 10 => some (.fcmple (.dec w))
  | 11 => some (.fkind (.dec w))
  | 12 => some (.ftoi (.dec w))
  | 13 => some (.itof (.dec w))
  | 14 => some (.ftof (.dec w))
  | _ => none

/-- The FOP operations with a variant code in [24:22] (R299). -/
def candFopVariant (w : Nat) : Option Instr :=
  match fld w 27 5 * 8 + fld w 22 3 with
  | 56 => some (.fsgcpy (.dec w))
  | 57 => some (.fsginv (.dec w))
  | 58 => some (.fsgxor (.dec w))
  | 120 => some (.fbitsx (.dec w))
  | 121 => some (.xbitsf (.dec w))
  | _ => none

/-- AMO (R302). -/
def candAmo (w : Nat) : Option Instr :=
  match fld w 25 4 with
  | 0 => some (.amoSwap (.dec w))
  | 1 => some (.amoAdd (.dec w))
  | 2 => some (.amoAnd (.dec w))
  | 3 => some (.amoOr (.dec w))
  | 4 => some (.amoXor (.dec w))
  | 5 => some (.amoMin (.dec w))
  | 6 => some (.amoMax (.dec w))
  | 7 => some (.amoMinu (.dec w))
  | 8 => some (.amoMaxu (.dec w))
  | 9 => some (.amoFadd (.dec w))
  | 10 => some (.amoFmax (.dec w))
  | 11 => some (.amoCas (.dec w))
  | 12 => some (.cas2 (.dec w))
  | _ => none

/-- SR (R306). -/
def candSr (w : Nat) : Option Instr :=
  match fld w 29 3 with
  | 0 => some (.mfs (.dec w))
  | 1 => some (.mts (.dec w))
  | _ => none

/-- SYS (R307). -/
def candSys (w : Nat) : Option Instr :=
  match fld w 25 7 * 8 + fld w 22 3 with
  | 0 => some .fenceSv
  | 1 => some .fenceVs
  | 2 => some .fenceVv
  | 3 => some .fenceAll
  | 8 => some (.syscall (.dec w))
  | 9 => some (.breakTrap (.dec w))
  | 10 => some .eret
  | 11 => some .wfe
  | 12 => some .exitTask
  | 13 => some .yieldTask
  | 16 => some (.tlbiPg (.dec w))
  | 17 => some (.tlbiAll (.dec w))
  | 24 => some (.cwb (.dec w))
  | 25 => some (.cinv (.dec w))
  | 26 => some (.icinv (.dec w))
  | 27 => some .icinvall
  | 32 => some (.qput (.dec w))
  | 33 => some (.qget (.dec w))
  | 34 => some (.qpeek (.dec w))
  | 40 => some (.spawn (.dec w))
  | _ => none

/-- VSET (R322, R323). -/
def candVset (w : Nat) : Option Instr :=
  match fld w 29 3 with
  | 0 => some (.vsetl (.dec w))
  | 1 => some (.vcfg (.dec w))
  | _ => none

/-- VINT (R324). -/
def candVint (p : Option Modifier) (w : Nat) : Option Instr :=
  match fld w 25 5 with
  | 0 => some (.vadd (.dec p w))
  | 1 => some (.vsub (.dec p w))
  | 2 => some (.vsubr (.dec p w))
  | 3 => some (.vmul (.dec p w))
  | 4 => some (.vmulhi (.dec p w))
  | 5 => some (.vmulhiu (.dec p w))
  | 6 => some (.vdiv (.dec p w))
  | 7 => some (.vdivu (.dec p w))
  | 8 => some (.vrem (.dec p w))
  | 9 => some (.vremu (.dec p w))
  | 10 => some (.vand (.dec p w))
  | 11 => some (.vor (.dec p w))
  | 12 => some (.vxor (.dec p w))
  | 13 => some (.vsll (.dec p w))
  | 14 => some (.vsrl (.dec p w))
  | 15 => some (.vsra (.dec p w))
  | 16 => some (.vmin (.dec p w))
  | 17 => some (.vmax (.dec p w))
  | 18 => some (.vminu (.dec p w))
  | 19 => some (.vmaxu (.dec p w))
  | 20 => some (.vaddsat (.dec p w))
  | 21 => some (.vaddsatu (.dec p w))
  | 22 => some (.vsubsat (.dec p w))
  | 23 => some (.vsubsatu (.dec p w))
  | 24 => some (.vmulq (.dec p w))
  | 25 => some (.vmulw (.dec p w))
  | 26 => some (.vmulwu (.dec p w))
  | 27 => some (.vmacw (.dec p w))
  | 28 => some (.vnarrows (.dec p w))
  | 29 => some (.vnarrowu (.dec p w))
  | _ => none

/-- VFLT with VOP[4] = 0 (R326). -/
def candVflt (p : Option Modifier) (w : Nat) : Option Instr :=
  match fld w 25 5 with
  | 0 => some (.vfadd (.dec p w))
  | 1 => some (.vfsub (.dec p w))
  | 2 => some (.vfrsub (.dec p w))
  | 3 => some (.vfmul (.dec p w))
  | 4 => some (.vfdiv (.dec p w))
  | 5 => some (.vfmin (.dec p w))
  | 6 => some (.vfmax (.dec p w))
  | 7 => some (.vfma (.dec p w))
  | 8 => some (.vfnma (.dec p w))
  | 9 => some (.vfsgcpy (.dec p w))
  | 10 => some (.vfsginv (.dec p w))
  | 11 => some (.vfsgxor (.dec p w))
  | _ => none

/-- VFUN (R326). -/
def candVfun (p : Option Modifier) (w : Nat) : Option Instr :=
  match fld w 17 5 with
  | 0 => some (.vfsqrt (.dec p w))
  | 1 => some (.vfexp2 (.dec p w))
  | 2 => some (.vflog2 (.dec p w))
  | 3 => some (.vfrcp (.dec p w))
  | 4 => some (.vfrsqrt (.dec p w))
  | _ => none

/-- VFCVT (R328), and its stochastic form when the prefix holds RM = 100 (R331). -/
def candVfcvt (p : Option Modifier) (w : Nat) : Option Instr :=
  match p with
  | none => some (.vfcvt (.dec p w))
  | some m => if m.rm = 4 then some (.vfcvtRs (.dec m w)) else some (.vfcvt (.dec p w))

/-- VMASK (R332). -/
def candVmask (p : Option Modifier) (w : Nat) : Option Instr :=
  match fld w 25 5 with
  | 0 => some (.vcmpeq (.dec p w))
  | 1 => some (.vcmpne (.dec p w))
  | 2 => some (.vcmplt (.dec p w))
  | 3 => some (.vcmple (.dec p w))
  | 4 => some (.vcmpltu (.dec p w))
  | 5 => some (.vcmpleu (.dec p w))
  | 6 => some (.vqget (.dec p w))
  | 7 => some (.vqput (.dec p w))
  | 8 => some (.vfcmpeq (.dec p w))
  | 9 => some (.vfcmpne (.dec p w))
  | 10 => some (.vfcmplt (.dec p w))
  | 11 => some (.vfcmple (.dec p w))
  | 12 => some (.kand (.dec p w))
  | 13 => some (.kor (.dec p w))
  | 14 => some (.kxor (.dec p w))
  | 15 => some (.kandinv (.dec p w))
  | 16 => some (.kcount (.dec p w))
  | 17 => some (.kffs (.dec p w))
  | 18 => some (.vshup (.dec p w))
  | 19 => some (.vshdn (.dec p w))
  | 20 => some (.vpick (.dec p w))
  | 21 => some (.vcompact (.dec p w))
  | 22 => some (.vassign (.dec p w))
  | 23 => some (.vramp (.dec p w))
  | 24 => some (.vfoldadd (.dec p w))
  | 25 => some (.vfoldmin (.dec p w))
  | 26 => some (.vfoldmax (.dec p w))
  | 27 => some (.vredmaxi (.dec p w))
  | 28 => some (.vgetx (.dec p w))
  | 29 => some (.vgetf (.dec p w))
  | 30 => some (.vscan (.dec p w))
  | 31 => some (.vrand (.dec p w))
  | _ => none

/-- VMEM (R346), the FE field of the prefix choosing the qualified forms (R359). -/
noncomputable def candVmem (p : Option Modifier) (w : Nat) : Option Instr :=
  let fe (m : Modifier) (ix : Bool) : OpVmemFe := ⟨m, ix, fld w 25 2, fld w 22 3, fld w 17 5, fld w 12 5, fld w 7 5⟩
  match p, (p.map (·.fe)).getD 0, fld w 27 5 with
  | _, 0, 0 => some (.vld (.dec p w))
  | _, 0, 1 => some (.vldx (.dec p w))
  | _, 0, 2 => some (.vldff (.dec p w))
  | _, 0, 3 => some (.vldsh (.dec p w))
  | _, 0, 4 => some (.vlda (.dec p w))
  | _, 0, 8 => some (.vst (.dec p w))
  | _, 0, 9 => some (.vstx (.dec p w))
  | _, 0, 11 => some (.vstsh (.dec p w))
  | _, 0, 16 => some (.barArr (.dec p w))
  | _, 0, 17 => some (.barWait (.dec p w))
  | some m, 1, 0 => some (.vldFe (fe m false))
  | some m, 1, 1 => some (.vldFe (fe m true))
  | some m, 2, 0 => some (.vldTake (fe m false))
  | some m, 2, 1 => some (.vldTake (fe m true))
  | some m, 3, 8 => some (.vstFill (fe m false))
  | some m, 3, 9 => some (.vstFill (fe m true))
  | _, _, _ => none

/-- VAMO (R347). -/
noncomputable def candVamo (p : Option Modifier) (w : Nat) : Option Instr :=
  match fld w 28 4 with
  | 0 => some (.vamoSwap (.dec p w))
  | 1 => some (.vamoAdd (.dec p w))
  | 2 => some (.vamoAnd (.dec p w))
  | 3 => some (.vamoOr (.dec p w))
  | 4 => some (.vamoXor (.dec p w))
  | 5 => some (.vamoMin (.dec p w))
  | 6 => some (.vamoMax (.dec p w))
  | 7 => some (.vamoMinu (.dec p w))
  | 8 => some (.vamoMaxu (.dec p w))
  | 9 => some (.vamoFadd (.dec p w))
  | 10 => some (.vamoFmax (.dec p w))
  | 11 => some (.vamoCas (.dec p w))
  | _ => none

/-- CTL (R390). -/
noncomputable def candCtl (w : Nat) : Option Instr :=
  match fld w 22 3 with
  | 0 => some (.tlwaitReg (.dec w))
  | 1 => some (.tlwaitMem (.dec w))
  | 2 => some (.tlread (.dec w))
  | 3 => some (.tladv (.dec w))
  | 4 => some (.feclr (.dec w))
  | 5 => some (.cpyabort (.dec w))
  | 6 => some (.cpystat (.dec w))
  | _ => none

/-- The 32-bit majors that take no prefix (R260). -/
noncomputable def candPlain (w : Nat) : Option Instr :=
  match fld w 2 5 with
  | 0 => candLoad none (fld w 22 3) w
  | 1 => candLoad none (if fld w 22 3 = 0 then 10 else fld w 22 3 + 6) w
  | 2 => candStore none w
  | 4 => candOpimm w
  | 5 => some (.addi (.dec w))
  | 6 => some (.lui (.dec w))
  | 7 => some (.addpc (.dec w))
  | 8 => some (.jal (.dec w))
  | 9 => some (.jalr (.dec w))
  | 10 => candOp w
  | 11 => some (.beq (.dec w))
  | 12 => some (.bne (.dec w))
  | 13 => some (.blt (.dec w))
  | 14 => some (.bge (.dec w))
  | 15 => some (.bltu (.dec w))
  | 16 => some (.bgeu (.dec w))
  | 17 => (candFop w).orElse (fun _ => candFopVariant w)
  | 18 => some (.fmadd (.dec w))
  | 19 => candAmo w
  | 20 => candSr w
  | 21 => candSys w
  | 22 => candVset w
  | 23 => candVint none w
  | 24 => if fld w 29 1 = 1 then candVfcvt none w else if fld w 25 5 = 12 then candVfun none w else candVflt none w
  | 25 => candVmask none w
  | 26 => candVmem none w
  | 27 => candVamo none w
  | 28 => candCtl w
  | 30 => if fld w 7 25 = 0 then some .nop else some (.hint (.dec w))
  | _ => none

/-- A base instruction behind a modifier prefix (R265). -/
noncomputable def candPrefixed (m : Modifier) (w : Nat) : Option Instr :=
  match fld w 2 5 with
  | 0 => candLoad (some m) (fld w 22 3) w
  | 1 => candLoad (some m) (if fld w 22 3 = 0 then 10 else fld w 22 3 + 6) w
  | 2 => candStore (some m) w
  | 23 => candVint (some m) w
  | 24 => if fld w 29 1 = 1 then candVfcvt (some m) w else if fld w 25 5 = 12 then candVfun (some m) w else candVflt (some m) w
  | 25 => candVmask (some m) w
  | 26 => candVmem (some m) w
  | 27 => candVamo (some m) w
  | _ => none

/-- Format W (R266, R267). -/
noncomputable def candW (w : Nat) : Option Instr :=
  match fld w 9 5 with
  | 0 => some (.mcfg (.dec w))
  | 1 => some (.mld (.dec w))
  | 2 => some (.mst (.dec w))
  | 3 => some (.mzero (.dec w))
  | 4 => some (.mma (.dec w))
  | 5 => some (.mmag (.dec w))
  | 6 => some (.mtov (.dec w))
  | 7 => some (.vtom (.dec w))
  | 8 => some (.mtrans (.dec w))
  | 9 => some (.mcvt (.dec w))
  | 10 => some (.mpref (.dec w))
  | 11 => some (.mdrop (.dec w))
  | 12 => some (.msend (.dec w))
  | 13 => some (.mopen (.dec w))
  | 14 => some (.mscale (.dec w))
  | 15 => some (.madd (.dec w))
  | 16 => some (.cpy (.dec w))
  | 17 => some (.cpyrows (.dec w))
  | 18 => some (.cpyv (.dec w))
  | 19 => some (.cpyred (.dec w))
  | _ => none

/-- The compressed map: quadrant, f3 and, in quadrant 10, bit 12 (R269). -/
def candCompressed (w : Nat) : Option Instr :=
  match fld w 0 2, fld w 13 3 with
  | 0, 0 => some (.cLdI64 (.dec w))
  | 0, 1 => some (.cLdI32 (.dec w))
  | 0, 2 => some (.cStN64 (.dec w))
  | 0, 3 => some (.cStN32 (.dec w))
  | 0, 4 => some (.cLdF64 (.dec w))
  | 0, 5 => some (.cStF64 (.dec w))
  | 1, 0 => if w = 1 then some .cNop else some (.cAddi (.dec w))
  | 1, 1 => some (.cLi (.dec w))
  | 1, 2 => some (.cLui (.dec w))
  | 1, 3 => some (.cSlli (.dec w))
  | 1, 4 => some (.cAndi (.dec w))
  | 1, 5 => some (.cJ (.dec w))
  | 1, 6 => some (.cBeqz (.dec w))
  | 1, 7 => some (.cBnez (.dec w))
  | 2, 0 => if fld w 12 1 = 0 then some (.cMv (.dec w)) else some (.cAdd (.dec w))
  | 2, 1 => if fld w 12 1 = 0 then some (.cJr (.dec w)) else some (.cJalr (.dec w))
  | 2, 2 => if fld w 12 1 = 0 then some (.cSub (.dec w)) else some (.cAnd (.dec w))
  | 2, 3 => if fld w 12 1 = 0 then some (.cOr (.dec w)) else some (.cXor (.dec w))
  | _, _ => none

/-- The Golpin opcodes by op and fn (R405). -/
noncomputable def candGolpin (w : Nat) : Option Instr :=
  match fld w 26 6 with
  | 1 =>
    match fld w 10 4 with
    | 0 => some (.golpinAdd (.dec w))
    | 1 => some (.golpinSub (.dec w))
    | 2 => some (.golpinAnd (.dec w))
    | 3 => some (.golpinOr (.dec w))
    | 4 => some (.golpinXor (.dec w))
    | 5 => some (.golpinSll (.dec w))
    | 6 => some (.golpinSrl (.dec w))
    | 7 => some (.golpinSra (.dec w))
    | 8 => some (.golpinMin (.dec w))
    | 9 => some (.golpinMax (.dec w))
    | 10 => some (.golpinMinu (.dec w))
    | 11 => some (.golpinMaxu (.dec w))
    | 12 => some (.golpinMul (.dec w))
    | 13 => some (.golpinSetlt (.dec w))
    | 14 => some (.golpinSetltu (.dec w))
    | _ => none
  | 2 => some (.golpinAddi (.dec w))
  | 3 => some (.golpinAndi (.dec w))
  | 4 => some (.golpinOri (.dec w))
  | 5 => some (.golpinXori (.dec w))
  | 6 => some (.golpinSlli (.dec w))
  | 7 => some (.golpinSrli (.dec w))
  | 8 => some (.golpinSrai (.dec w))
  | 9 => some (.golpinLui (.dec w))
  | 10 => some (.golpinBeq (.dec w))
  | 11 => some (.golpinBne (.dec w))
  | 12 => some (.golpinBlt (.dec w))
  | 13 => some (.golpinBge (.dec w))
  | 14 => some (.golpinBltu (.dec w))
  | 15 => some (.golpinBgeu (.dec w))
  | 16 =>
    match fld w 10 4 with
    | 0 => some (.laddVv (.dec w))
    | 1 => some (.lsubVv (.dec w))
    | 2 => some (.landVv (.dec w))
    | 3 => some (.lorVv (.dec w))
    | 4 => some (.lxorVv (.dec w))
    | 5 => some (.lminVv (.dec w))
    | 6 => some (.lmaxVv (.dec w))
    | 7 => some (.lminuVv (.dec w))
    | 8 => some (.lmaxuVv (.dec w))
    | 9 => some (.lmulVv (.dec w))
    | 10 => some (.lfaddVv (.dec w))
    | 11 => some (.lfmaxVv (.dec w))
    | 12 => some (.lfminVv (.dec w))
    | 13 => some (.lbfaddVv (.dec w))
    | _ => none
  | 17 =>
    match fld w 10 4 with
    | 0 => some (.laddVs (.dec w))
    | 1 => some (.lsubVs (.dec w))
    | 2 => some (.landVs (.dec w))
    | 3 => some (.lorVs (.dec w))
    | 4 => some (.lxorVs (.dec w))
    | 5 => some (.lminVs (.dec w))
    | 6 => some (.lmaxVs (.dec w))
    | 7 => some (.lminuVs (.dec w))
    | 8 => some (.lmaxuVs (.dec w))
    | 9 => some (.lmulVs (.dec w))
    | 10 => some (.lfaddVs (.dec w))
    | 11 => some (.lfmaxVs (.dec w))
    | 12 => some (.lfminVs (.dec w))
    | 13 => some (.lbfaddVs (.dec w))
    | _ => none
  | 18 =>
    match fld w 10 4 with
    | 0 => some (.lcmpeq (.dec w))
    | 1 => some (.lcmpne (.dec w))
    | 2 => some (.lcmplt (.dec w))
    | 3 => some (.lcmpltu (.dec w))
    | 4 => some (.lcmpfeq (.dec w))
    | 5 => some (.lcmpflt (.dec w))
    | 6 => some (.lcmpfle (.dec w))
    | _ => none
  | 19 =>
    match fld w 10 4 with
    | 0 => some (.jand (.dec w))
    | 1 => some (.jor (.dec w))
    | 2 => some (.jxor (.dec w))
    | 3 => some (.jandinv (.dec w))
    | 4 => some (.jtoh (.dec w))
    | 5 => some (.htoj (.dec w))
    | 6 => some (.jcount (.dec w))
    | _ => none
  | 20 => some (.lbcst (.dec w))
  | 21 => some (.lext (.dec w))
  | 22 => some (.lins (.dec w))
  | 23 =>
    match fld w 10 4 with
    | 0 => some (.lredadd (.dec w))
    | 1 => some (.lredfadd (.dec w))
    | 2 => some (.lredmax (.dec w))
    | 3 => some (.lredmaxu (.dec w))
    | 4 => some (.lredfmax (.dec w))
    | 5 => some (.lredfmin (.dec w))
    | _ => none
  | 24 => some (.pld (.dec w))
  | 25 => some (.pst (.dec w))
  | 26 => some (.pldl (.dec w))
  | 27 => some (.pstl (.dec w))
  | 28 => some (.sld (.dec w))
  | 29 => some (.sst (.dec w))
  | 30 => some (.sldl (.dec w))
  | 31 => some (.sstl (.dec w))
  | 32 => some (.pfresh (.dec w))
  | 33 => some (.golpinLoop (.dec w))
  | 34 => if fld w 13 1 = 0 then some (.emitSt (.dec w)) else some (.emitWin (.dec w))
  | 35 => some .fwd
  | 36 => some .golpinDrop
  | 37 => some .reply
  | 38 => some (.ktrap (.dec w))
  | _ => none

/-- A candidate is accepted when it is well formed and encodes to the bits that were read. -/
def accept (c : Option Instr) (code : Code) : Except Reject Instr :=
  match c with
  | none => .error .unassigned
  | some i => if i.wf && decide (encode i = code) then .ok i else .error .badField

/-- The length in bytes that the first parcel fixes (R254). -/
def instrLen (w : Nat) : Nat :=
  if fld w 0 2 = 3 then (if fld w 2 5 = 31 then 8 else 4) else 2

/-- The Yeles instruction whose bits, from its first parcel upward, are the low bits of `w` (R253, R254, R263). -/
noncomputable def decodeYeles (w : Nat) : Except Reject Instr :=
  if fld w 0 2 = 3 then
    if fld w 2 5 = 31 then
      if fld w 7 2 = 0 then
        if fld w 32 2 = 3 then accept (candPrefixed (.dec w) (fld w 32 32)) ⟨8, fld w 0 64⟩ else .error .unassigned
      else if fld w 7 2 = 1 then accept (candW w) ⟨8, fld w 0 64⟩ else .error .unassigned
    else accept (candPlain (fld w 0 32)) ⟨4, fld w 0 32⟩
  else accept (candCompressed (fld w 0 16)) ⟨2, fld w 0 16⟩

/-- The Golpin instruction of one 32-bit word (R405). -/
noncomputable def decodeGolpin (w : Nat) : Except Reject Instr := accept (candGolpin (fld w 0 32)) ⟨4, fld w 0 32⟩

/-- The bytes of a word, lowest address first (R41, R253). -/
def wordBytes (n w : Nat) : List Byte := (List.range n).map (fun i => BitVec.ofNat 8 (w / 2 ^ (8 * i)))

/-- The number that bytes hold, lowest address first (R41). -/
def bytesNat (bs : List Byte) : Nat := bs.foldr (fun b acc => b.toNat + 256 * acc) 0

/-- The Yeles decoder on bytes as they lie in memory; the missing bytes of a short list read 0. -/
noncomputable def decodeBytes (bs : List Byte) : Except Reject Instr := decodeYeles (bytesNat bs)

/-- The instruction of a row of the opcode table. A 32-bit word whose low two bits are not 11 can only be a Golpin word; one
whose low bits are 11 is read as Yeles first, and as Golpin when it is no Yeles instruction. -/
noncomputable def decodeTableWord (nbits w : Nat) : Option Instr :=
  let bytes := wordBytes (nbits / 8) w
  let yeles := (decodeBytes bytes).toOption
  let golpin := (decodeGolpin (bytesNat bytes)).toOption
  if nbits = 32 then
    if fld w 0 2 = 3 then yeles.orElse (fun _ => golpin) else golpin
  else yeles

end Sys2Proof
end

