-- ==== Sys2Proof/Machine/Raw.lean ====
section
/-! DEFINITION. The decoder's result in a form that the compiler can build: it builds no constructor of `Instr` beyond the 245th.
`Raw.instr` gives the instruction; the functions of this file answer what those of Decode answer, as the lemmas say. -/

namespace Sys2Proof.Machine

/-- A decoded instruction. -/
inductive Raw where
  | low (i : Instr)
  | barArr (o : OpBarArr)
  | barWait (o : OpBarWait)
  | vamoSwap (o : OpVmemX)
  | vamoAdd (o : OpVmemX)
  | vamoAnd (o : OpVmemX)
  | vamoOr (o : OpVmemX)
  | vamoXor (o : OpVmemX)
  | vamoMin (o : OpVmemX)
  | vamoMax (o : OpVmemX)
  | vamoMinu (o : OpVmemX)
  | vamoMaxu (o : OpVmemX)
  | vamoFadd (o : OpVmemX)
  | vamoFmax (o : OpVmemX)
  | vamoCas (o : OpVmemX)
  | tlwaitReg (o : OpTlwait)
  | tlwaitMem (o : OpRRR)
  | tlread (o : OpTlread)
  | tladv (o : OpTladv)
  | feclr (o : OpAB)
  | cpyabort (o : OpBob)
  | cpystat (o : OpCpystat)
  | mcfg (o : OpXa)
  | mld (o : OpMld)
  | mst (o : OpMst)
  | mzero (o : OpTd)
  | mma (o : OpMma)
  | mmag (o : OpMmag)
  | mtov (o : OpMtov)
  | vtom (o : OpVtom)
  | mtrans (o : OpMtrans)
  | mcvt (o : OpMcvt)
  | mpref (o : OpTa)
  | mdrop (o : OpTd)
  | msend (o : OpMsend)
  | mopen (o : OpTd)
  | mscale (o : OpMcvt)
  | madd (o : OpMcvt)
  | cpy (o : OpCpy)
  | cpyrows (o : OpCpyrows)
  | cpyv (o : OpCpyv)
  | cpyred (o : OpCpy)
  | golpinAdd (o : OpG3)
  | golpinSub (o : OpG3)
  | golpinAnd (o : OpG3)
  | golpinOr (o : OpG3)
  | golpinXor (o : OpG3)
  | golpinSll (o : OpG3)
  | golpinSrl (o : OpG3)
  | golpinSra (o : OpG3)
  | golpinMin (o : OpG3)
  | golpinMax (o : OpG3)
  | golpinMinu (o : OpG3)
  | golpinMaxu (o : OpG3)
  | golpinMul (o : OpG3)
  | golpinSetlt (o : OpG3)
  | golpinSetltu (o : OpG3)
  | golpinAddi (o : OpGi)
  | golpinAndi (o : OpGi)
  | golpinOri (o : OpGi)
  | golpinXori (o : OpGi)
  | golpinSlli (o : OpGsh)
  | golpinSrli (o : OpGsh)
  | golpinSrai (o : OpGsh)
  | golpinLui (o : OpGlui)
  | golpinBeq (o : OpGb)
  | golpinBne (o : OpGb)
  | golpinBlt (o : OpGb)
  | golpinBge (o : OpGb)
  | golpinBltu (o : OpGb)
  | golpinBgeu (o : OpGb)
  | laddVv (o : OpGl)
  | lsubVv (o : OpGl)
  | landVv (o : OpGl)
  | lorVv (o : OpGl)
  | lxorVv (o : OpGl)
  | lminVv (o : OpGl)
  | lmaxVv (o : OpGl)
  | lminuVv (o : OpGl)
  | lmaxuVv (o : OpGl)
  | lmulVv (o : OpGl)
  | lfaddVv (o : OpGl)
  | lfmaxVv (o : OpGl)
  | lfminVv (o : OpGl)
  | lbfaddVv (o : OpGl)
  | laddVs (o : OpGl)
  | lsubVs (o : OpGl)
  | landVs (o : OpGl)
  | lorVs (o : OpGl)
  | lxorVs (o : OpGl)
  | lminVs (o : OpGl)
  | lmaxVs (o : OpGl)
  | lminuVs (o : OpGl)
  | lmaxuVs (o : OpGl)
  | lmulVs (o : OpGl)
  | lfaddVs (o : OpGl)
  | lfmaxVs (o : OpGl)
  | lfminVs (o : OpGl)
  | lbfaddVs (o : OpGl)
  | lcmpeq (o : OpGcmp)
  | lcmpne (o : OpGcmp)
  | lcmplt (o : OpGcmp)
  | lcmpltu (o : OpGcmp)
  | lcmpfeq (o : OpGcmp)
  | lcmpflt (o : OpGcmp)
  | lcmpfle (o : OpGcmp)
  | jand (o : OpJ3)
  | jor (o : OpJ3)
  | jxor (o : OpJ3)
  | jandinv (o : OpJ3)
  | jtoh (o : OpJtoh)
  | htoj (o : OpHtoj)
  | jcount (o : OpJtoh)
  | lbcst (o : OpGbcst)
  | lext (o : OpGlane)
  | lins (o : OpGlane)
  | lredadd (o : OpGl)
  | lredfadd (o : OpGl)
  | lredmax (o : OpGl)
  | lredmaxu (o : OpGl)
  | lredfmax (o : OpGl)
  | lredfmin (o : OpGl)
  | pld (o : OpGi)
  | pst (o : OpGi)
  | pldl (o : OpGi)
  | pstl (o : OpGi)
  | sld (o : OpGi)
  | sst (o : OpGi)
  | sldl (o : OpGi)
  | sstl (o : OpGi)
  | pfresh (o : OpPfresh)
  | golpinLoop (o : OpLoop)
  | emitSt (o : OpEmit)
  | emitWin (o : OpEmit)
  | fwd
  | golpinDrop
  | reply
  | ktrap (o : OpKtrap)

/-- The instruction. -/
noncomputable def Raw.instr (r : Raw) : Instr :=
  match r with
  | .low i => i
  | .barArr o => .barArr o
  | .barWait o => .barWait o
  | .vamoSwap o => .vamoSwap o
  | .vamoAdd o => .vamoAdd o
  | .vamoAnd o => .vamoAnd o
  | .vamoOr o => .vamoOr o
  | .vamoXor o => .vamoXor o
  | .vamoMin o => .vamoMin o
  | .vamoMax o => .vamoMax o
  | .vamoMinu o => .vamoMinu o
  | .vamoMaxu o => .vamoMaxu o
  | .vamoFadd o => .vamoFadd o
  | .vamoFmax o => .vamoFmax o
  | .vamoCas o => .vamoCas o
  | .tlwaitReg o => .tlwaitReg o
  | .tlwaitMem o => .tlwaitMem o
  | .tlread o => .tlread o
  | .tladv o => .tladv o
  | .feclr o => .feclr o
  | .cpyabort o => .cpyabort o
  | .cpystat o => .cpystat o
  | .mcfg o => .mcfg o
  | .mld o => .mld o
  | .mst o => .mst o
  | .mzero o => .mzero o
  | .mma o => .mma o
  | .mmag o => .mmag o
  | .mtov o => .mtov o
  | .vtom o => .vtom o
  | .mtrans o => .mtrans o
  | .mcvt o => .mcvt o
  | .mpref o => .mpref o
  | .mdrop o => .mdrop o
  | .msend o => .msend o
  | .mopen o => .mopen o
  | .mscale o => .mscale o
  | .madd o => .madd o
  | .cpy o => .cpy o
  | .cpyrows o => .cpyrows o
  | .cpyv o => .cpyv o
  | .cpyred o => .cpyred o
  | .golpinAdd o => .golpinAdd o
  | .golpinSub o => .golpinSub o
  | .golpinAnd o => .golpinAnd o
  | .golpinOr o => .golpinOr o
  | .golpinXor o => .golpinXor o
  | .golpinSll o => .golpinSll o
  | .golpinSrl o => .golpinSrl o
  | .golpinSra o => .golpinSra o
  | .golpinMin o => .golpinMin o
  | .golpinMax o => .golpinMax o
  | .golpinMinu o => .golpinMinu o
  | .golpinMaxu o => .golpinMaxu o
  | .golpinMul o => .golpinMul o
  | .golpinSetlt o => .golpinSetlt o
  | .golpinSetltu o => .golpinSetltu o
  | .golpinAddi o => .golpinAddi o
  | .golpinAndi o => .golpinAndi o
  | .golpinOri o => .golpinOri o
  | .golpinXori o => .golpinXori o
  | .golpinSlli o => .golpinSlli o
  | .golpinSrli o => .golpinSrli o
  | .golpinSrai o => .golpinSrai o
  | .golpinLui o => .golpinLui o
  | .golpinBeq o => .golpinBeq o
  | .golpinBne o => .golpinBne o
  | .golpinBlt o => .golpinBlt o
  | .golpinBge o => .golpinBge o
  | .golpinBltu o => .golpinBltu o
  | .golpinBgeu o => .golpinBgeu o
  | .laddVv o => .laddVv o
  | .lsubVv o => .lsubVv o
  | .landVv o => .landVv o
  | .lorVv o => .lorVv o
  | .lxorVv o => .lxorVv o
  | .lminVv o => .lminVv o
  | .lmaxVv o => .lmaxVv o
  | .lminuVv o => .lminuVv o
  | .lmaxuVv o => .lmaxuVv o
  | .lmulVv o => .lmulVv o
  | .lfaddVv o => .lfaddVv o
  | .lfmaxVv o => .lfmaxVv o
  | .lfminVv o => .lfminVv o
  | .lbfaddVv o => .lbfaddVv o
  | .laddVs o => .laddVs o
  | .lsubVs o => .lsubVs o
  | .landVs o => .landVs o
  | .lorVs o => .lorVs o
  | .lxorVs o => .lxorVs o
  | .lminVs o => .lminVs o
  | .lmaxVs o => .lmaxVs o
  | .lminuVs o => .lminuVs o
  | .lmaxuVs o => .lmaxuVs o
  | .lmulVs o => .lmulVs o
  | .lfaddVs o => .lfaddVs o
  | .lfmaxVs o => .lfmaxVs o
  | .lfminVs o => .lfminVs o
  | .lbfaddVs o => .lbfaddVs o
  | .lcmpeq o => .lcmpeq o
  | .lcmpne o => .lcmpne o
  | .lcmplt o => .lcmplt o
  | .lcmpltu o => .lcmpltu o
  | .lcmpfeq o => .lcmpfeq o
  | .lcmpflt o => .lcmpflt o
  | .lcmpfle o => .lcmpfle o
  | .jand o => .jand o
  | .jor o => .jor o
  | .jxor o => .jxor o
  | .jandinv o => .jandinv o
  | .jtoh o => .jtoh o
  | .htoj o => .htoj o
  | .jcount o => .jcount o
  | .lbcst o => .lbcst o
  | .lext o => .lext o
  | .lins o => .lins o
  | .lredadd o => .lredadd o
  | .lredfadd o => .lredfadd o
  | .lredmax o => .lredmax o
  | .lredmaxu o => .lredmaxu o
  | .lredfmax o => .lredfmax o
  | .lredfmin o => .lredfmin o
  | .pld o => .pld o
  | .pst o => .pst o
  | .pldl o => .pldl o
  | .pstl o => .pstl o
  | .sld o => .sld o
  | .sst o => .sst o
  | .sldl o => .sldl o
  | .sstl o => .sstl o
  | .pfresh o => .pfresh o
  | .golpinLoop o => .golpinLoop o
  | .emitSt o => .emitSt o
  | .emitWin o => .emitWin o
  | .fwd => .fwd
  | .golpinDrop => .golpinDrop
  | .reply => .reply
  | .ktrap o => .ktrap o

/-- Its well-formedness and its encoding. -/
def Raw.wf (r : Raw) : Bool :=
  match r with
  | .low i => i.wf
  | .barArr o => o.inRange && modOk o.p { scope := true }
  | .barWait o => o.inRange && modOk o.p { scope := true }
  | .vamoSwap o => o.inRange && modOk o.p (memAdmit false true true true)
  | .vamoAdd o => o.inRange && modOk o.p (memAdmit false true true true)
  | .vamoAnd o => o.inRange && modOk o.p (memAdmit false true true true)
  | .vamoOr o => o.inRange && modOk o.p (memAdmit false true true true)
  | .vamoXor o => o.inRange && modOk o.p (memAdmit false true true true)
  | .vamoMin o => o.inRange && modOk o.p (memAdmit false true true true)
  | .vamoMax o => o.inRange && modOk o.p (memAdmit false true true true)
  | .vamoMinu o => o.inRange && modOk o.p (memAdmit false true true true)
  | .vamoMaxu o => o.inRange && modOk o.p (memAdmit false true true true)
  | .vamoFadd o => o.inRange && modOk o.p (memAdmit false true true true)
  | .vamoFmax o => o.inRange && modOk o.p (memAdmit false true true true)
  | .vamoCas o => o.inRange && modOk o.p (memAdmit false true true true)
  | .tlwaitReg o => o.inRange
  | .tlwaitMem o => o.inRange
  | .tlread o => o.inRange
  | .tladv o => o.inRange
  | .feclr o => o.inRange
  | .cpyabort o => o.inRange
  | .cpystat o => o.inRange
  | .mcfg o => o.inRange
  | .mld o => o.inRange
  | .mst o => o.inRange
  | .mzero o => o.inRange
  | .mma o => o.inRange
  | .mmag o => o.inRange
  | .mtov o => o.inRange
  | .vtom o => o.inRange
  | .mtrans o => o.inRange
  | .mcvt o => o.inRange
  | .mpref o => o.inRange
  | .mdrop o => o.inRange
  | .msend o => o.inRange
  | .mopen o => o.inRange
  | .mscale o => o.inRange
  | .madd o => o.inRange
  | .cpy o => o.inRange && decide (o.xc % 4 = 0) && !decide (o.xc = 0)
  | .cpyrows o => o.inRange
  | .cpyv o => o.inRange
  | .cpyred o => o.inRange
  | .golpinAdd o => o.inRange
  | .golpinSub o => o.inRange
  | .golpinAnd o => o.inRange
  | .golpinOr o => o.inRange
  | .golpinXor o => o.inRange
  | .golpinSll o => o.inRange
  | .golpinSrl o => o.inRange
  | .golpinSra o => o.inRange
  | .golpinMin o => o.inRange
  | .golpinMax o => o.inRange
  | .golpinMinu o => o.inRange
  | .golpinMaxu o => o.inRange
  | .golpinMul o => o.inRange
  | .golpinSetlt o => o.inRange
  | .golpinSetltu o => o.inRange
  | .golpinAddi o => o.inRange
  | .golpinAndi o => o.inRange
  | .golpinOri o => o.inRange
  | .golpinXori o => o.inRange
  | .golpinSlli o => o.inRange
  | .golpinSrli o => o.inRange
  | .golpinSrai o => o.inRange
  | .golpinLui o => o.inRange
  | .golpinBeq o => o.inRange
  | .golpinBne o => o.inRange
  | .golpinBlt o => o.inRange
  | .golpinBge o => o.inRange
  | .golpinBltu o => o.inRange
  | .golpinBgeu o => o.inRange
  | .laddVv o => o.inRange
  | .lsubVv o => o.inRange
  | .landVv o => o.inRange
  | .lorVv o => o.inRange
  | .lxorVv o => o.inRange
  | .lminVv o => o.inRange
  | .lmaxVv o => o.inRange
  | .lminuVv o => o.inRange
  | .lmaxuVv o => o.inRange
  | .lmulVv o => o.inRange
  | .lfaddVv o => o.inRange
  | .lfmaxVv o => o.inRange
  | .lfminVv o => o.inRange
  | .lbfaddVv o => o.inRange
  | .laddVs o => o.inRange
  | .lsubVs o => o.inRange
  | .landVs o => o.inRange
  | .lorVs o => o.inRange
  | .lxorVs o => o.inRange
  | .lminVs o => o.inRange
  | .lmaxVs o => o.inRange
  | .lminuVs o => o.inRange
  | .lmaxuVs o => o.inRange
  | .lmulVs o => o.inRange
  | .lfaddVs o => o.inRange
  | .lfmaxVs o => o.inRange
  | .lfminVs o => o.inRange
  | .lbfaddVs o => o.inRange
  | .lcmpeq o => o.inRange
  | .lcmpne o => o.inRange
  | .lcmplt o => o.inRange
  | .lcmpltu o => o.inRange
  | .lcmpfeq o => o.inRange
  | .lcmpflt o => o.inRange
  | .lcmpfle o => o.inRange
  | .jand o => o.inRange
  | .jor o => o.inRange
  | .jxor o => o.inRange
  | .jandinv o => o.inRange
  | .jtoh o => o.inRange
  | .htoj o => o.inRange
  | .jcount o => o.inRange
  | .lbcst o => o.inRange
  | .lext o => o.inRange
  | .lins o => o.inRange
  | .lredadd o => o.inRange
  | .lredfadd o => o.inRange
  | .lredmax o => o.inRange
  | .lredmaxu o => o.inRange
  | .lredfmax o => o.inRange
  | .lredfmin o => o.inRange
  | .pld o => o.inRange
  | .pst o => o.inRange
  | .pldl o => o.inRange
  | .pstl o => o.inRange
  | .sld o => o.inRange
  | .sst o => o.inRange
  | .sldl o => o.inRange
  | .sstl o => o.inRange
  | .pfresh o => o.inRange
  | .golpinLoop o => o.inRange
  | .emitSt o => o.inRange
  | .emitWin o => o.inRange
  | .fwd => true
  | .golpinDrop => true
  | .reply => true
  | .ktrap o => o.inRange

def Raw.enc (r : Raw) : Code :=
  match r with
  | .low i => encode i
  | .barArr o => withMod o.p (o.enc 0x8000006b)
  | .barWait o => withMod o.p (o.enc 0x8800006b)
  | .vamoSwap o => withMod o.p (o.enc 0x6f)
  | .vamoAdd o => withMod o.p (o.enc 0x1000006f)
  | .vamoAnd o => withMod o.p (o.enc 0x2000006f)
  | .vamoOr o => withMod o.p (o.enc 0x3000006f)
  | .vamoXor o => withMod o.p (o.enc 0x4000006f)
  | .vamoMin o => withMod o.p (o.enc 0x5000006f)
  | .vamoMax o => withMod o.p (o.enc 0x6000006f)
  | .vamoMinu o => withMod o.p (o.enc 0x7000006f)
  | .vamoMaxu o => withMod o.p (o.enc 0x8000006f)
  | .vamoFadd o => withMod o.p (o.enc 0x9000006f)
  | .vamoFmax o => withMod o.p (o.enc 0xa000006f)
  | .vamoCas o => withMod o.p (o.enc 0xb000006f)
  | .tlwaitReg o => ⟨4, o.enc 0x73⟩
  | .tlwaitMem o => ⟨4, o.enc 0x400073⟩
  | .tlread o => ⟨4, o.enc 0x800073⟩
  | .tladv o => ⟨4, o.enc 0xc00073⟩
  | .feclr o => ⟨4, o.enc 0x1000073⟩
  | .cpyabort o => ⟨4, o.enc 0x1400073⟩
  | .cpystat o => ⟨4, o.enc 0x1800073⟩
  | .mcfg o => ⟨8, o.enc 0xff⟩
  | .mld o => ⟨8, o.enc 0x2ff⟩
  | .mst o => ⟨8, o.enc 0x4ff⟩
  | .mzero o => ⟨8, o.enc 0x6ff⟩
  | .mma o => ⟨8, o.enc 0x8ff⟩
  | .mmag o => ⟨8, o.enc 0xaff⟩
  | .mtov o => ⟨8, o.enc 0xcff⟩
  | .vtom o => ⟨8, o.enc 0xeff⟩
  | .mtrans o => ⟨8, o.enc 0x10ff⟩
  | .mcvt o => ⟨8, o.enc 0x12ff⟩
  | .mpref o => ⟨8, o.enc 0x14ff⟩
  | .mdrop o => ⟨8, o.enc 0x16ff⟩
  | .msend o => ⟨8, o.enc 0x18ff⟩
  | .mopen o => ⟨8, o.enc 0x1aff⟩
  | .mscale o => ⟨8, o.enc 0x1cff⟩
  | .madd o => ⟨8, o.enc 0x1eff⟩
  | .cpy o => ⟨8, o.enc 0x20ff⟩
  | .cpyrows o => ⟨8, o.enc 0x22ff⟩
  | .cpyv o => ⟨8, o.enc 0x24ff⟩
  | .cpyred o => ⟨8, o.enc 0x26ff⟩
  | .golpinAdd o => ⟨4, o.enc 0x4000000⟩
  | .golpinSub o => ⟨4, o.enc 0x4000400⟩
  | .golpinAnd o => ⟨4, o.enc 0x4000800⟩
  | .golpinOr o => ⟨4, o.enc 0x4000c00⟩
  | .golpinXor o => ⟨4, o.enc 0x4001000⟩
  | .golpinSll o => ⟨4, o.enc 0x4001400⟩
  | .golpinSrl o => ⟨4, o.enc 0x4001800⟩
  | .golpinSra o => ⟨4, o.enc 0x4001c00⟩
  | .golpinMin o => ⟨4, o.enc 0x4002000⟩
  | .golpinMax o => ⟨4, o.enc 0x4002400⟩
  | .golpinMinu o => ⟨4, o.enc 0x4002800⟩
  | .golpinMaxu o => ⟨4, o.enc 0x4002c00⟩
  | .golpinMul o => ⟨4, o.enc 0x4003000⟩
  | .golpinSetlt o => ⟨4, o.enc 0x4003400⟩
  | .golpinSetltu o => ⟨4, o.enc 0x4003800⟩
  | .golpinAddi o => ⟨4, o.enc 0x8000000⟩
  | .golpinAndi o => ⟨4, o.enc 0xc000000⟩
  | .golpinOri o => ⟨4, o.enc 0x10000000⟩
  | .golpinXori o => ⟨4, o.enc 0x14000000⟩
  | .golpinSlli o => ⟨4, o.enc 0x18000000⟩
  | .golpinSrli o => ⟨4, o.enc 0x1c000000⟩
  | .golpinSrai o => ⟨4, o.enc 0x20000000⟩
  | .golpinLui o => ⟨4, o.enc 0x24000000⟩
  | .golpinBeq o => ⟨4, o.enc 0x28000000⟩
  | .golpinBne o => ⟨4, o.enc 0x2c000000⟩
  | .golpinBlt o => ⟨4, o.enc 0x30000000⟩
  | .golpinBge o => ⟨4, o.enc 0x34000000⟩
  | .golpinBltu o => ⟨4, o.enc 0x38000000⟩
  | .golpinBgeu o => ⟨4, o.enc 0x3c000000⟩
  | .laddVv o => ⟨4, o.enc 0x40000000⟩
  | .lsubVv o => ⟨4, o.enc 0x40000400⟩
  | .landVv o => ⟨4, o.enc 0x40000800⟩
  | .lorVv o => ⟨4, o.enc 0x40000c00⟩
  | .lxorVv o => ⟨4, o.enc 0x40001000⟩
  | .lminVv o => ⟨4, o.enc 0x40001400⟩
  | .lmaxVv o => ⟨4, o.enc 0x40001800⟩
  | .lminuVv o => ⟨4, o.enc 0x40001c00⟩
  | .lmaxuVv o => ⟨4, o.enc 0x40002000⟩
  | .lmulVv o => ⟨4, o.enc 0x40002400⟩
  | .lfaddVv o => ⟨4, o.enc 0x40002800⟩
  | .lfmaxVv o => ⟨4, o.enc 0x40002c00⟩
  | .lfminVv o => ⟨4, o.enc 0x40003000⟩
  | .lbfaddVv o => ⟨4, o.enc 0x40003400⟩
  | .laddVs o => ⟨4, o.enc 0x44000000⟩
  | .lsubVs o => ⟨4, o.enc 0x44000400⟩
  | .landVs o => ⟨4, o.enc 0x44000800⟩
  | .lorVs o => ⟨4, o.enc 0x44000c00⟩
  | .lxorVs o => ⟨4, o.enc 0x44001000⟩
  | .lminVs o => ⟨4, o.enc 0x44001400⟩
  | .lmaxVs o => ⟨4, o.enc 0x44001800⟩
  | .lminuVs o => ⟨4, o.enc 0x44001c00⟩
  | .lmaxuVs o => ⟨4, o.enc 0x44002000⟩
  | .lmulVs o => ⟨4, o.enc 0x44002400⟩
  | .lfaddVs o => ⟨4, o.enc 0x44002800⟩
  | .lfmaxVs o => ⟨4, o.enc 0x44002c00⟩
  | .lfminVs o => ⟨4, o.enc 0x44003000⟩
  | .lbfaddVs o => ⟨4, o.enc 0x44003400⟩
  | .lcmpeq o => ⟨4, o.enc 0x48000000⟩
  | .lcmpne o => ⟨4, o.enc 0x48000400⟩
  | .lcmplt o => ⟨4, o.enc 0x48000800⟩
  | .lcmpltu o => ⟨4, o.enc 0x48000c00⟩
  | .lcmpfeq o => ⟨4, o.enc 0x48001000⟩
  | .lcmpflt o => ⟨4, o.enc 0x48001400⟩
  | .lcmpfle o => ⟨4, o.enc 0x48001800⟩
  | .jand o => ⟨4, o.enc 0x4c000000⟩
  | .jor o => ⟨4, o.enc 0x4c000400⟩
  | .jxor o => ⟨4, o.enc 0x4c000800⟩
  | .jandinv o => ⟨4, o.enc 0x4c000c00⟩
  | .jtoh o => ⟨4, o.enc 0x4c001000⟩
  | .htoj o => ⟨4, o.enc 0x4c001400⟩
  | .jcount o => ⟨4, o.enc 0x4c001800⟩
  | .lbcst o => ⟨4, o.enc 0x50000000⟩
  | .lext o => ⟨4, o.enc 0x54000000⟩
  | .lins o => ⟨4, o.enc 0x58000000⟩
  | .lredadd o => ⟨4, o.enc 0x5c000000⟩
  | .lredfadd o => ⟨4, o.enc 0x5c000400⟩
  | .lredmax o => ⟨4, o.enc 0x5c000800⟩
  | .lredmaxu o => ⟨4, o.enc 0x5c000c00⟩
  | .lredfmax o => ⟨4, o.enc 0x5c001000⟩
  | .lredfmin o => ⟨4, o.enc 0x5c001400⟩
  | .pld o => ⟨4, o.enc 0x60000000⟩
  | .pst o => ⟨4, o.enc 0x64000000⟩
  | .pldl o => ⟨4, o.enc 0x68000000⟩
  | .pstl o => ⟨4, o.enc 0x6c000000⟩
  | .sld o => ⟨4, o.enc 0x70000000⟩
  | .sst o => ⟨4, o.enc 0x74000000⟩
  | .sldl o => ⟨4, o.enc 0x78000000⟩
  | .sstl o => ⟨4, o.enc 0x7c000000⟩
  | .pfresh o => ⟨4, o.enc 0x80000000⟩
  | .golpinLoop o => ⟨4, o.enc 0x84000000⟩
  | .emitSt o => ⟨4, o.enc 0x88000000⟩
  | .emitWin o => ⟨4, o.enc 0x88002000⟩
  | .fwd => ⟨4, 0x8c000000⟩
  | .golpinDrop => ⟨4, 0x90000000⟩
  | .reply => ⟨4, 0x94000000⟩
  | .ktrap o => ⟨4, o.enc 0x98000000⟩

theorem Raw.wf_instr (r : Raw) : r.instr.wf = r.wf := by cases r <;> rfl
theorem Raw.enc_instr (r : Raw) : encode r.instr = r.enc := by cases r <;> rfl

/-- `candVmem`. -/
def rawVmem (p : Option Modifier) (w : Nat) : Option Raw :=
  let fe (m : Modifier) (ix : Bool) : OpVmemFe := ⟨m, ix, fld w 25 2, fld w 22 3, fld w 17 5, fld w 12 5, fld w 7 5⟩
  match p, (p.map (·.fe)).getD 0, fld w 27 5 with
  | _, 0, 0 => some (.low (.vld (.dec p w)))
  | _, 0, 1 => some (.low (.vldx (.dec p w)))
  | _, 0, 2 => some (.low (.vldff (.dec p w)))
  | _, 0, 3 => some (.low (.vldsh (.dec p w)))
  | _, 0, 4 => some (.low (.vlda (.dec p w)))
  | _, 0, 8 => some (.low (.vst (.dec p w)))
  | _, 0, 9 => some (.low (.vstx (.dec p w)))
  | _, 0, 11 => some (.low (.vstsh (.dec p w)))
  | _, 0, 16 => some (.barArr (.dec p w))
  | _, 0, 17 => some (.barWait (.dec p w))
  | some m, 1, 0 => some (.low (.vldFe (fe m false)))
  | some m, 1, 1 => some (.low (.vldFe (fe m true)))
  | some m, 2, 0 => some (.low (.vldTake (fe m false)))
  | some m, 2, 1 => some (.low (.vldTake (fe m true)))
  | some m, 3, 8 => some (.low (.vstFill (fe m false)))
  | some m, 3, 9 => some (.low (.vstFill (fe m true)))
  | _, _, _ => none

/-- `candVamo`. -/
def rawVamo (p : Option Modifier) (w : Nat) : Option Raw :=
  match fld w 28 4 with
  | 0 => some (.vamoSwap (.dec p w))
  | 1 => some (.vamoAdd (.dec p w))
  | 2 => some (.vamoAnd (.dec p w))
  | 3 => some (.vamoOr (.dec p w))
  | 4 => some (.vamoXor (.dec p w))
  | 5 => some (.vamoMin (.dec p w))
  | 6 => some (.vamoMax (.dec p w))
  | 7 => some (.vamoMinu (.dec p w))
  | 8 => some (.vamoMaxu (.dec p w))
  | 9 => some (.vamoFadd (.dec p w))
  | 10 => some (.vamoFmax (.dec p w))
  | 11 => some (.vamoCas (.dec p w))
  | _ => none

/-- `candCtl`. -/
def rawCtl (w : Nat) : Option Raw :=
  match fld w 22 3 with
  | 0 => some (.tlwaitReg (.dec w))
  | 1 => some (.tlwaitMem (.dec w))
  | 2 => some (.tlread (.dec w))
  | 3 => some (.tladv (.dec w))
  | 4 => some (.feclr (.dec w))
  | 5 => some (.cpyabort (.dec w))
  | 6 => some (.cpystat (.dec w))
  | _ => none

/-- `candPlain`. -/
def rawPlain (w : Nat) : Option Raw :=
  match fld w 2 5 with
  | 0 => (candLoad none (fld w 22 3) w).map .low
  | 1 => (candLoad none (if fld w 22 3 = 0 then 10 else fld w 22 3 + 6) w).map .low
  | 2 => (candStore none w).map .low
  | 4 => (candOpimm w).map .low
  | 5 => some (.low (.addi (.dec w)))
  | 6 => some (.low (.lui (.dec w)))
  | 7 => some (.low (.addpc (.dec w)))
  | 8 => some (.low (.jal (.dec w)))
  | 9 => some (.low (.jalr (.dec w)))
  | 10 => (candOp w).map .low
  | 11 => some (.low (.beq (.dec w)))
  | 12 => some (.low (.bne (.dec w)))
  | 13 => some (.low (.blt (.dec w)))
  | 14 => some (.low (.bge (.dec w)))
  | 15 => some (.low (.bltu (.dec w)))
  | 16 => some (.low (.bgeu (.dec w)))
  | 17 => ((candFop w).orElse (fun _ => candFopVariant w)).map .low
  | 18 => some (.low (.fmadd (.dec w)))
  | 19 => (candAmo w).map .low
  | 20 => (candSr w).map .low
  | 21 => (candSys w).map .low
  | 22 => (candVset w).map .low
  | 23 => (candVint none w).map .low
  | 24 => (if fld w 29 1 = 1 then candVfcvt none w else if fld w 25 5 = 12 then candVfun none w else candVflt none w).map .low
  | 25 => (candVmask none w).map .low
  | 26 => rawVmem none w
  | 27 => rawVamo none w
  | 28 => rawCtl w
  | 30 => if fld w 7 25 = 0 then some (.low .nop) else some (.low (.hint (.dec w)))
  | _ => none

/-- `candPrefixed`. -/
def rawPrefixed (m : Modifier) (w : Nat) : Option Raw :=
  match fld w 2 5 with
  | 0 => (candLoad (some m) (fld w 22 3) w).map .low
  | 1 => (candLoad (some m) (if fld w 22 3 = 0 then 10 else fld w 22 3 + 6) w).map .low
  | 2 => (candStore (some m) w).map .low
  | 23 => (candVint (some m) w).map .low
  | 24 => (if fld w 29 1 = 1 then candVfcvt (some m) w else if fld w 25 5 = 12 then candVfun (some m) w else candVflt (some m) w).map .low
  | 25 => (candVmask (some m) w).map .low
  | 26 => rawVmem (some m) w
  | 27 => rawVamo (some m) w
  | _ => none

/-- `candW`. -/
def rawW (w : Nat) : Option Raw :=
  match fld w 9 5 with
  | 0 => some (.mcfg (.dec w))
  | 1 => some (.mld (.dec w))
  | 2 => some (.mst (.dec w))
  | 3 => some (.mzero (.dec w))
  | 4 => some (.mma (.dec w))
  | 5 => some (.mmag (.dec w))
  | 6 => some (.mtov (.dec w))
  | 7 => some (.vtom (.dec w))
  | 8 => some (.mtrans (.dec w))
  | 9 => some (.mcvt (.dec w))
  | 10 => some (.mpref (.dec w))
  | 11 => some (.mdrop (.dec w))
  | 12 => some (.msend (.dec w))
  | 13 => some (.mopen (.dec w))
  | 14 => some (.mscale (.dec w))
  | 15 => some (.madd (.dec w))
  | 16 => some (.cpy (.dec w))
  | 17 => some (.cpyrows (.dec w))
  | 18 => some (.cpyv (.dec w))
  | 19 => some (.cpyred (.dec w))
  | _ => none

/-- `candGolpin`. -/
def rawGolpin (w : Nat) : Option Raw :=
  match fld w 26 6 with
  | 1 =>
    match fld w 10 4 with
    | 0 => some (.golpinAdd (.dec w))
    | 1 => some (.golpinSub (.dec w))
    | 2 => some (.golpinAnd (.dec w))
    | 3 => some (.golpinOr (.dec w))
    | 4 => some (.golpinXor (.dec w))
    | 5 => some (.golpinSll (.dec w))
    | 6 => some (.golpinSrl (.dec w))
    | 7 => some (.golpinSra (.dec w))
    | 8 => some (.golpinMin (.dec w))
    | 9 => some (.golpinMax (.dec w))
    | 10 => some (.golpinMinu (.dec w))
    | 11 => some (.golpinMaxu (.dec w))
    | 12 => some (.golpinMul (.dec w))
    | 13 => some (.golpinSetlt (.dec w))
    | 14 => some (.golpinSetltu (.dec w))
    | _ => none
  | 2 => some (.golpinAddi (.dec w))
  | 3 => some (.golpinAndi (.dec w))
  | 4 => some (.golpinOri (.dec w))
  | 5 => some (.golpinXori (.dec w))
  | 6 => some (.golpinSlli (.dec w))
  | 7 => some (.golpinSrli (.dec w))
  | 8 => some (.golpinSrai (.dec w))
  | 9 => some (.golpinLui (.dec w))
  | 10 => some (.golpinBeq (.dec w))
  | 11 => some (.golpinBne (.dec w))
  | 12 => some (.golpinBlt (.dec w))
  | 13 => some (.golpinBge (.dec w))
  | 14 => some (.golpinBltu (.dec w))
  | 15 => some (.golpinBgeu (.dec w))
  | 16 =>
    match fld w 10 4 with
    | 0 => some (.laddVv (.dec w))
    | 1 => some (.lsubVv (.dec w))
    | 2 => some (.landVv (.dec w))
    | 3 => some (.lorVv (.dec w))
    | 4 => some (.lxorVv (.dec w))
    | 5 => some (.lminVv (.dec w))
    | 6 => some (.lmaxVv (.dec w))
    | 7 => some (.lminuVv (.dec w))
    | 8 => some (.lmaxuVv (.dec w))
    | 9 => some (.lmulVv (.dec w))
    | 10 => some (.lfaddVv (.dec w))
    | 11 => some (.lfmaxVv (.dec w))
    | 12 => some (.lfminVv (.dec w))
    | 13 => some (.lbfaddVv (.dec w))
    | _ => none
  | 17 =>
    match fld w 10 4 with
    | 0 => some (.laddVs (.dec w))
    | 1 => some (.lsubVs (.dec w))
    | 2 => some (.landVs (.dec w))
    | 3 => some (.lorVs (.dec w))
    | 4 => some (.lxorVs (.dec w))
    | 5 => some (.lminVs (.dec w))
    | 6 => some (.lmaxVs (.dec w))
    | 7 => some (.lminuVs (.dec w))
    | 8 => some (.lmaxuVs (.dec w))
    | 9 => some (.lmulVs (.dec w))
    | 10 => some (.lfaddVs (.dec w))
    | 11 => some (.lfmaxVs (.dec w))
    | 12 => some (.lfminVs (.dec w))
    | 13 => some (.lbfaddVs (.dec w))
    | _ => none
  | 18 =>
    match fld w 10 4 with
    | 0 => some (.lcmpeq (.dec w))
    | 1 => some (.lcmpne (.dec w))
    | 2 => some (.lcmplt (.dec w))
    | 3 => some (.lcmpltu (.dec w))
    | 4 => some (.lcmpfeq (.dec w))
    | 5 => some (.lcmpflt (.dec w))
    | 6 => some (.lcmpfle (.dec w))
    | _ => none
  | 19 =>
    match fld w 10 4 with
    | 0 => some (.jand (.dec w))
    | 1 => some (.jor (.dec w))
    | 2 => some (.jxor (.dec w))
    | 3 => some (.jandinv (.dec w))
    | 4 => some (.jtoh (.dec w))
    | 5 => some (.htoj (.dec w))
    | 6 => some (.jcount (.dec w))
    | _ => none
  | 20 => some (.lbcst (.dec w))
  | 21 => some (.lext (.dec w))
  | 22 => some (.lins (.dec w))
  | 23 =>
    match fld w 10 4 with
    | 0 => some (.lredadd (.dec w))
    | 1 => some (.lredfadd (.dec w))
    | 2 => some (.lredmax (.dec w))
    | 3 => some (.lredmaxu (.dec w))
    | 4 => some (.lredfmax (.dec w))
    | 5 => some (.lredfmin (.dec w))
    | _ => none
  | 24 => some (.pld (.dec w))
  | 25 => some (.pst (.dec w))
  | 26 => some (.pldl (.dec w))
  | 27 => some (.pstl (.dec w))
  | 28 => some (.sld (.dec w))
  | 29 => some (.sst (.dec w))
  | 30 => some (.sldl (.dec w))
  | 31 => some (.sstl (.dec w))
  | 32 => some (.pfresh (.dec w))
  | 33 => some (.golpinLoop (.dec w))
  | 34 => if fld w 13 1 = 0 then some (.emitSt (.dec w)) else some (.emitWin (.dec w))
  | 35 => some .fwd
  | 36 => some .golpinDrop
  | 37 => some .reply
  | 38 => some (.ktrap (.dec w))
  | _ => none

/-- `accept`. -/
def rawAccept (c : Option Raw) (code : Code) : Except Reject Raw :=
  match c with
  | none => .error .unassigned
  | some r => if r.wf && decide (r.enc = code) then .ok r else .error .badField

/-- `decodeYeles`. -/
def rawYeles (w : Nat) : Except Reject Raw :=
  if fld w 0 2 = 3 then
    if fld w 2 5 = 31 then
      if fld w 7 2 = 0 then
        if fld w 32 2 = 3 then rawAccept (rawPrefixed (.dec w) (fld w 32 32)) ⟨8, fld w 0 64⟩ else .error .unassigned
      else if fld w 7 2 = 1 then rawAccept (rawW w) ⟨8, fld w 0 64⟩ else .error .unassigned
    else rawAccept (rawPlain (fld w 0 32)) ⟨4, fld w 0 32⟩
  else rawAccept ((candCompressed (fld w 0 16)).map .low) ⟨2, fld w 0 16⟩

/-- `decodeGolpin`. -/
def rawDecodeGolpin (w : Nat) : Except Reject Raw := rawAccept (rawGolpin (fld w 0 32)) ⟨4, fld w 0 32⟩

/-! The two decoders agree -/

theorem accept_raw (c : Option Raw) (code : Code) : accept (c.map Raw.instr) code = (rawAccept c code).map Raw.instr := by
  cases c with
  | none => rfl
  | some r =>
    simp only [Option.map_some, accept, rawAccept, Raw.wf_instr, Raw.enc_instr]
    split <;> rfl

theorem map_low (c : Option Instr) : (c.map Raw.low).map Raw.instr = c := by cases c <;> rfl

theorem candVmem_raw (p : Option Modifier) (w : Nat) : candVmem p w = (rawVmem p w).map Raw.instr := by
  unfold candVmem rawVmem
  dsimp only
  generalize (Option.map (fun x => x.fe) p).getD 0 = f
  generalize fld w 27 5 = n
  split <;> first | rfl | (split <;> first | rfl | simp_all)

theorem candVamo_raw (p : Option Modifier) (w : Nat) : candVamo p w = (rawVamo p w).map Raw.instr := by
  unfold candVamo rawVamo
  split <;> first | rfl | (split <;> first | rfl | simp_all)

theorem candCtl_raw (w : Nat) : candCtl w = (rawCtl w).map Raw.instr := by
  unfold candCtl rawCtl
  split <;> first | rfl | (split <;> first | rfl | simp_all)

theorem candW_raw (w : Nat) : candW w = (rawW w).map Raw.instr := by
  unfold candW rawW
  split <;> first | rfl | (split <;> first | rfl | simp_all)

theorem candGolpin_raw (w : Nat) : candGolpin w = (rawGolpin w).map Raw.instr := by
  unfold candGolpin rawGolpin
  generalize fld w 26 6 = n
  generalize fld w 10 4 = m
  generalize fld w 13 1 = e
  split <;> first | rfl | (rcases e with _ | e <;> rfl) | ((iterate 15 (rcases m with _ | m; · rfl)); rfl) | (split <;> first | rfl | simp_all)

theorem candPrefixed_raw (m : Modifier) (w : Nat) : candPrefixed m w = (rawPrefixed m w).map Raw.instr := by
  unfold candPrefixed rawPrefixed
  generalize fld w 2 5 = n
  split <;> first | rfl | exact candVmem_raw _ _ | exact candVamo_raw _ _ | exact (map_low _).symm | (split <;> first | rfl | simp_all)

theorem candPlain_raw (w : Nat) : candPlain w = (rawPlain w).map Raw.instr := by
  unfold candPlain rawPlain
  generalize fld w 2 5 = n
  split <;> first | rfl | exact candVmem_raw _ _ | exact candVamo_raw _ _ | exact candCtl_raw _ | exact (map_low _).symm | (split <;> first | rfl | contradiction)

theorem decodeYeles_raw (w : Nat) : decodeYeles w = (rawYeles w).map Raw.instr := by
  unfold decodeYeles rawYeles
  simp only [candPrefixed_raw, candPlain_raw, candW_raw, accept_raw]
  (repeat' split) <;> first | rfl | (rw [← accept_raw, map_low])

theorem decodeGolpin_raw (w : Nat) : decodeGolpin w = (rawDecodeGolpin w).map Raw.instr := by
  unfold decodeGolpin rawDecodeGolpin
  rw [candGolpin_raw, accept_raw]

end Sys2Proof.Machine
end

