-- ==== Sys2Proof/Machine/Thread.lean ====
section
/-! DEFINITION. The state of one thread: the registers of R62 to R80, the VIQ, the tile window and the bobbins (R159), and
the task that holds the slot. -/

namespace Sys2Proof.Machine

/-- Values by number: strictly rising keys. -/
abbrev Table (α : Type) := List (Nat × α)

inductive VIntOp where
  | add | sub | rsub | mul | mulhi | mulhiu | div | divu | rem | remu | and | or | xor | sll | srl | sra
  | min | max | minu | maxu | addsat | addsatu | subsat | subsatu | mulq | mulw | mulwu | macw | narrows | narrowu
  deriving DecidableEq, Repr

inductive VFltOp where
  | add | sub | rsub | mul | div | min | max | fma | fnma | sgcpy | sginv | sgxor
  deriving DecidableEq, Repr

inductive VFunOp where
  | sqrt | exp2 | log2 | rcp | rsqrt
  deriving DecidableEq, Repr

inductive CmpOp where
  | eq | ne | lt | le | ltu | leu | feq | fne | flt | fle
  deriving DecidableEq, Repr

/-- The atomic operations, in the order of R302 and R360; `cas2` is scalar only. -/
inductive AmoOp where
  | swap | add | and | or | xor | min | max | minu | maxu | fadd | fmax | cas | cas2
  deriving DecidableEq, Repr

/-- The second operand of a vector instruction: a v register, or the value captured at commit (R17, R316). -/
inductive VSrc where
  | reg (n : Nat)
  | val (w : Word)
  deriving DecidableEq, Repr

inductive VMemKind where
  | load | store | amo (op : AmoOp)
  deriving DecidableEq, Repr

/-- A vector memory access or atomic with its captured operands (R346 to R361). -/
structure VMem where
  kind : VMemKind
  d : Nat
  base : Word
  /-- byte distance of consecutive elements, unless indexed -/
  stride : Word
  /-- first index register and index bytes -/
  idx : Option (Nat × Nat)
  shaft : Bool
  /-- VLDFF -/
  first : Bool
  /-- VLDA -/
  acquire : Bool
  o : Bool
  p : Bool
  fe : Nat
  ord : Nat
  scope : Nat
  deriving DecidableEq, Repr

/-- What an MTOV reads once its tile has been fixed (R377): a dead tile, a physical tile, or the row that a stopped MTOV keeps. -/
inductive TilePin where
  | dead | phys (pt : Nat) | row (bytes : Table Byte)
  deriving DecidableEq, Repr

/-- A vector instruction in the VIQ. -/
inductive VOp where
  | int (op : VIntOp) (d a : Nat) (b : VSrc)
  | flt (op : VFltOp) (d a : Nat) (b : VSrc)
  | fun1 (op : VFunOp) (d a : Nat)
  | cvt (t src d a : Nat) (sat : Bool)
  | cvtRs (t src d a b : Nat) (sat : Bool)
  | cmp (op : CmpOp) (d a : Nat) (b : VSrc)
  | qget (d q : Nat)
  | qput (q a j : Nat)
  | klogic (op d a b : Nat)
  | kcount (d a : Nat)
  | kffs (d a : Nat)
  | shup (d a n : Nat)
  | shdn (d a n : Nat)
  | pick (d a : Nat) (b : VSrc)
  | compact (d a b : Nat)
  | assign (d : Nat) (b : VSrc)
  | ramp (d : Nat) (base : Word)
  | fold (op d a : Nat) (start : Word) (fp : Bool)
  | redmax (d a : Nat) (fp : Bool)
  | getx (d a j : Nat)
  | getf (d a j : Nat)
  | scan (d a : Nat) (start : Word) (fp : Bool)
  | rand (d : Nat) (key : Word) (ctr : Nat)
  | setl (v sew : Nat)
  | cfg (sew nreg : Nat)
  | fenceVv
  | mem (m : VMem)
  | barArr (d n scope : Nat)
  /-- `len`: length of the instruction at which the scalar stream holds -/
  | barWait (n scope target len : Nat)
  | mtov (d t row : Nat) (pin : Option TilePin)
  deriving DecidableEq, Repr

/-- Where an access lands: scratchpad of the issuing core, or a physical address with its type and PAC classes. -/
inductive Place where
  | spad (off : Nat)
  | phys (pa mtype pac : Nat)
  deriving DecidableEq, Repr

/-- An active element of a vector memory instruction: index, effective address, place. -/
structure VElem where
  i : Nat
  ea : Nat
  at' : Place
  deriving DecidableEq, Repr

/-- The probe section in hand of a vector memory instruction (R179, R180, R237): its first element, its end, the pages that it pins,
its elements that have not been issued, and those issued that have not performed, each with whether its request is under way. -/
structure VSect where
  first : Nat
  stop : Nat
  pages : List (Nat × Nat)
  todo : List VElem
  late : List (VElem × Bool)
  /-- the next group waits on a watermark or on a full/empty bit (R237) -/
  stuck : Bool
  /-- the section stops as soon as its issued elements have performed (R182, R212) -/
  halt : Bool
  /-- indices of its elements that have been issued -/
  gone : List Nat := []
  deriving DecidableEq, Repr

/-- An entry of the VIQ (R159, R249). -/
structure VEntry where
  /-- command number (R201) -/
  cmd : Nat
  /-- order of commit among the core's vector, tile and bobbin commands -/
  order : Nat
  /-- address of the instruction -/
  pc : Word
  /-- its bits -/
  bits : Nat
  op : VOp
  /-- mask field -/
  k : Nat
  /-- element width code and register count code at commit -/
  sew : Nat
  nreg : Nat
  /-- rounding mode, with dyn resolved at commit (R47) -/
  rm : Nat
  /-- SKEW.EDGE at commit (R77, R222) -/
  edge : Nat
  /-- the instruction has begun, and its trace record has been written (R220) -/
  began : Bool
  /-- start index (R237) -/
  start : Nat
  /-- the probe section in hand -/
  sect : Option VSect
  /-- the shoot-down at whose receipt the instruction gave up its pins: the next probe waits for its completion (R182) -/
  after : Option Nat := none
  /-- answers of remote packets still to come; of a barrier word, 1 or 2 once it has been asked for in another package or at a bank; and what
  the answers said (R362, R363) -/
  sent : Nat
  remoteTo : Nat
  answer : RemoteAnswerMsg
  /-- remote elements that have performed at their targets (R131) -/
  kept : List Nat := []
  /-- elements at or above the start index that have performed: a stop falls between groups of `grp` indices, and none of them performs
  again (R103, R131, R237) -/
  past : List Nat := []
  grp : Nat := 1
  /-- the address of an element that a frozen bobbin guards: the next probe waits until the watermark has passed it (R212) -/
  frozenAt : Option Nat := none
  /-- elements below this index have had their granules filled (R359) -/
  filled : Nat
  /-- the word of a captured scalar operand has an uncorrectable error (R240, R241) -/
  bad : Bool := false
  /-- which of its captured words that is -/
  badWord : Nat := 0
  deriving DecidableEq, Repr

/-- A read-back queue entry: its command, and the x or f register that waits (R18). -/
structure RbEntry where
  cmd : Nat
  isF : Bool
  reg : Nat
  deriving DecidableEq, Repr

/-- A tile instruction in the window, with its captured operands (R369). `shape` is the TSHAPE value resolved at commit. -/
inductive TOp where
  | mcfg (v : Word)
  | mld (td : Nat) (base stride : Word)
  | mst (ta : Nat) (la : Bool) (base stride : Word)
  | mzero (td : Nat)
  | mma (td ta tb : Nat) (la lb : Bool) (shape : Word)
  /-- `nreg`: register count code at commit -/
  | mmag (td va tb : Nat) (lb : Bool) (base shape : Word) (nreg : Nat)
  | vtom (td va row nreg : Nat)
  | mtrans (td ta : Nat) (la : Bool) (c : Nat)
  | mcvt (td ta tb : Nat) (la lb : Bool) (ctl rm : Nat)
  | mpref (ta : Nat)
  | mdrop (td : Nat)
  | msend (ta : Nat) (la : Bool) (dest : Word)
  | mopen (td : Nat)
  | mscale (td ta tb : Nat) (la lb : Bool) (rm : Nat)
  | madd (td ta tb : Nat) (la lb : Bool) (fmt rm : Nat)
  deriving DecidableEq, Repr

/-- Where a tile send stands (R383). -/
inductive SendState where
  | unsent | sent | retry (since : Nat) | landed
  deriving DecidableEq, Repr

/-- An entry of the tile window (R160). -/
structure TEntry where
  cmd : Nat
  order : Nat
  pc : Word
  bits : Nat
  op : TOp
  issued : Bool
  complete : Bool
  /-- architectural tile and physical tile of each renamed destination -/
  dst : List (Nat × Nat)
  send : SendState
  /-- FSTAT flags that completion has added (R50) -/
  flags : BitVec 6
  /-- the 16-byte pieces of an MLD or MST that have been issued, and those that have performed (R69, R372) -/
  asked : List Nat := []
  came : List Nat := []
  /-- their places, as they translated and were checked when the instruction issued (R372) -/
  places : List (Nat × Place) := []
  /-- the bytes of the rows of A that an MMAG has gathered so far (R104, R376) -/
  got : Table Byte := []
  deriving DecidableEq, Repr

/-- STATE of a Pricking entry (R186). -/
inductive TileState where
  | dead | live | receivable
  deriving DecidableEq, Repr

/-- What the 6-bit SEC-DED code of one of the two copies of a Pricking entry or tile tag reports: no error, one that it corrects, or
an uncorrectable one (R186, R187, R192). -/
inductive Copy where
  | good | single | lost
  deriving DecidableEq, Repr

/-- A Pricking entry (R186), with its two copies: they hold the same fields, as far as their codes report them good. -/
structure PEntry where
  state : TileState
  res : Bool
  dirty : Bool
  ptile : Nat
  c1 : Copy := .good
  c2 : Copy := .good
  deriving DecidableEq, Repr

/-- The work of a bobbin command (R386 to R389). -/
inductive BOp where
  | cpy (esz n0 n1 n2 d0 d1 d2 : Nat) (s0 s1 s2 : Int)
  | rows (len n iw va kb nreg : Nat)
  | cpyv (dir count vd esz nreg regBytes : Nat)
  | red (op esz n : Nat)
  deriving DecidableEq, Repr

/-- A reducing packet of which a transmission is unanswered, or that has no answer *applied* yet (R413). -/
structure RedPacket where
  seq : Nat
  count : Nat
  data : List Byte
  /-- GTIME of the last transmission, or of the retry answer -/
  since : Nat
  retry : Bool
  /-- transmissions that are unanswered, and whether an answer *applied* has come -/
  out : Nat
  done : Bool
  deriving DecidableEq, Repr

/-- What a bobbin waits for: an answer of another package to a read or write, an Ehrez packet of a connection to be answered (R429,
R435), or the answer of a coherence point to a read, or to the landing of `n` elements from element `i` on (R419). -/
inductive BWait where
  | remoteRead | remoteWrite | hostRead (conn seq : Nat) | hostWrite (conn seq : Nat) | pointRead | pointWrite (i n : Nat)
  deriving DecidableEq, Repr

/-- An accepted bobbin command (R385). -/
structure BCmd where
  num : Nat
  op : BOp
  dst : Word
  src : Word
  /-- order of commit within the core (R19, R209) -/
  order : Nat
  started : Bool
  /-- the row addresses of a CPYROWS, fixed at its start (R387) -/
  rowSrc : List Word
  /-- reduction sequence of a CPYRED (R414) -/
  seq : Nat
  /-- remote parts in flight, and the traversal indices whose parts are applied ahead of the watermark -/
  sent : List RedPacket
  ahead : List Nat
  /-- source bytes held for the elements not yet landed, and the answer waited for -/
  got : List Byte
  io : Option BWait
  deriving DecidableEq, Repr

/-- BSTATn (R79): QD is the length of the command queue. -/
structure BStat where
  abt : Bool
  fcode : BitVec 16
  state : Nat
  deriving DecidableEq, Repr

/-- A bobbin: its accepted commands and its status. -/
structure Bobbin where
  queue : List BCmd
  stat : BStat
  deriving DecidableEq, Repr

/-- A deferred trap that has been detected and not entered (R231 to R235). -/
structure Pend where
  src : Nat
  code : Nat
  tval : Word
  tvpc : Word
  /-- VIQ command, tile command or bobbin that raised it -/
  cmd : Nat
  start : Nat
  /-- the record of R185 that routes 01 and 10 carry: KIND, LEVEL, ENTRY, INDEX, STRIDE, REMAIN -/
  kind : Nat
  level : Nat
  entry : Nat
  index : Nat
  stride : Nat
  remain : Nat
  /-- GTIME of the detection of a deferred trap (R219) -/
  time : Option Nat
  /-- the item beside v register words that the REPAIR section lists (R241): 0 DRAM word, 1 tile; and its key -/
  item : Option (Nat × Nat)
  /-- the step in which it was detected (R235) -/
  seen : Nat := 0
  deriving DecidableEq, Repr

/-- What the scalar stream waits on (R16, R18, R28); `stop`: a trap or a YIELD that pre-empts, until the streams have stopped (R237). -/
inductive WaitOn where
  | none | stop | viqFull | windowFull | bobbinFull | readback | vectorDone | tileDone | queue | timeline | granule | watermark
  | barrier | remote | shootdown | walk | event | drain | refresh | taskid | mtov
  deriving DecidableEq, Repr

/-- Free, placed, or saving (R156). -/
inductive SlotState where
  | free | placed | saving | draining
  deriving DecidableEq, Repr

/-- The identity and node fields of a task, as read at placement (R27, R249). -/
structure TaskInfo where
  part : Nat
  /-- user queue and hardware slot that dispatched it -/
  queue : Nat
  slot : Nat
  /-- run of the node in the table of live nodes -/
  run : Nat
  vgmin : Nat
  vgreq : Nat
  vshare : Nat
  /-- POWER field of the node record (R438) -/
  power : Nat
  cohort : Bool
  barbase : Word
  nbar : Nat
  /-- save area (R248) -/
  save : Nat
  /-- GTIME of the last placement or resumption -/
  since : Nat
  /-- placement order, for "pre-empted earliest" and "latest placement" -/
  order : Nat
  deriving DecidableEq, Repr

/-- One thread slot with the registers of the task it holds (R62). -/
structure Thread where
  pc : Word
  x : Table Word
  f : Table Word
  /-- v register bytes: register × 2^20 + byte offset; an unlisted byte reads 0 -/
  v : Table Byte
  /-- poisoned 64-bit words of v registers (R240) -/
  vpoison : List Nat
  /-- the core's vector storage units that hold the grant, in the order of the v bytes (R109) -/
  units : List Nat
  /-- units of the grant, counted from 0, that have been written since they were granted (R109) -/
  wrote : List Nat := []
  /-- words with an uncorrectable error that no read has found yet (R240) -/
  verr : List Nat
  /-- masks as bit sets: 1 to 7 are k1 to k7, 8 is ksel -/
  k : Table Nat
  q : Table (List Word)
  /-- positions of the entries of a queue whose words have an uncorrectable error (R240) -/
  qbad : Table (List Nat)
  tl : Table Word
  wm : Table Word
  /-- VL, MVL and VCFG as the vector stream has them -/
  vl : Nat
  mvl : Nat
  sew : Nat
  nreg : Nat
  /-- MVL and VCFG as the scalar stream knows them at commit (R64, R317, R322) -/
  cmvl : Nat
  csew : Nat
  cnreg : Nat
  /-- requested length of the last VSETL (R322) -/
  reqLen : Word
  vgrant : Nat
  gang : Nat
  tshape : Word
  /-- MAPB.BASE -/
  mapb : Nat
  skew : Nat
  taskid : Nat
  nodeid : Word
  repl : Nat
  repln : Nat
  owner : Nat
  fstat : BitVec 6
  frm : Nat
  hnd : Bool
  tsrc : Nat
  tcode : Nat
  tepc : Word
  tvpc : Word
  tval : Word
  nkeep : Nat
  tpos : Nat
  tstart : Nat
  tvec : Word
  qcfg : BitVec 32
  refgrp : Nat
  /-- event flag of R310 -/
  event : Bool
  wfeSince : Option Nat
  viq : List VEntry
  rbq : List RbEntry
  win : List TEntry
  prick : Table PEntry
  bob : Table Bobbin
  /-- last command number given: 0 vector, 1 tile, 2 + n bobbin n (R201) -/
  cmds : Table Nat
  pend : List Pend
  slot : SlotState
  wait : WaitOn
  /-- the access in execution has waited for a watermark: it bypasses clean L1 lines (R138) -/
  freed : Bool
  /-- the answer of a remote scalar access: false with an error (R436), true with the bytes read -/
  remote : Option (Bool × Nat)
  /-- the issued access that the scalar stream holds for: the bits of its instruction, and its place -/
  away : Option (Nat × Place)
  /-- a shoot-down that the scalar stream waits for -/
  shoot : Option Nat
  /-- pre-empted at a YIELD (R32), with its cohort (R31) -/
  yielded : Bool
  withCohort : Bool
  /-- a pre-emption asked for while the scalar stream holds for an answer (R30): with the cohort, ready for resumption -/
  stopReq : Option (Bool × Bool)
  info : TaskInfo
  deriving DecidableEq, Repr

end Sys2Proof.Machine
end

