-- ==== Sys2Proof/Machine/Package.lean ====
section
/-! DEFINITION. The state of the package outside its threads: cores, pillars, caches, TLBs, tables, queues, the gallery, the
Golpin engines, the host transport, power and time. -/

namespace Sys2Proof.Machine

/-- A line of an L1 data cache (R97): its bytes at their offsets, which of them are valid and dirty, which threads dirtied it,
and its owner (R112). `spans` are those of the vector memory instructions that have completed since the line was filled, each with its
thread: before a scalar access of that thread to bytes of one of them, the line leaves if it is clean (R122). -/
structure L1Line where
  bytes : Table Byte
  valid : List Nat
  dirty : List Nat
  threads : List Nat
  owner : Nat
  spans : List (Nat × Int × Int)
  deriving DecidableEq, Repr

/-- A line of an L1 instruction cache (R99). -/
structure ICLine where
  bytes : Table Byte
  owner : Nat
  deriving DecidableEq, Repr

/-- An L2 line's tag: its owner and whether HBM4 is stale (R96, R112). The bytes are those of the main tier. -/
structure L2Line where
  owner : Nat
  dirty : Bool
  deriving DecidableEq, Repr

/-- A TLB entry (R176): the leaf with the level it was read at. -/
structure TlbEntry where
  owner : Nat
  /-- log2 of the page size -/
  size : Nat
  /-- virtual address ÷ page size -/
  page : Nat
  level : Nat
  leaf : Nat
  /-- vector memory instructions that pin the entry, their number being its pin count (R179): thread and command -/
  pins : List (Nat × Nat)
  doomed : Bool
  /-- tick of the last use, for least-recently-used replacement -/
  used : Nat
  deriving DecidableEq, Repr

/-- A TLB with its invalidation sequence number (R182). -/
structure Tlb where
  seq : Nat
  entries : List TlbEntry
  deriving DecidableEq, Repr

/-- A walk in flight (R178, R183): the core that began it, with the numbers recorded then, and the other cores that wait for its result,
each with the number that its TLB had. -/
structure Walk where
  core : Nat
  owner : Nat
  va : Nat
  coreSeq : Nat
  llSeq : Nat
  others : Table Nat
  /-- the walk has ended in a fault, which the cores of `others` have not yet taken (R178) -/
  failed : Bool := false
  deriving DecidableEq, Repr

/-- A shoot-down in progress (R182): TLBs that have not received it, and TLBs that have not acknowledged. -/
structure Shoot where
  owner : Nat
  /-- virtual address and log2 of the page size; none: every page of the owner -/
  page : Option (Nat × Nat)
  toReceive : List Nat
  toAck : List Nat
  /-- the ROOT that completes a SET_ROOT message -/
  root : Option Nat
  deriving DecidableEq, Repr

/-- A physical tile with its tag (R187), row-ready bits (R69) and bytes; an unlisted byte is 0. -/
structure PTile where
  used : Bool
  owner : Nat
  mapb : Nat
  tile : Nat
  dirty : Bool
  poison : Bool
  ready : List Nat
  rows : Table Byte
  /-- tick of the last use -/
  lru : Nat
  /-- a fill is in progress -/
  filling : Bool
  /-- the 16-byte pieces that a fill has asked for, and those that have come (R69, R188) -/
  asked : List Nat := []
  came : List Nat := []
  /-- 64-bit words of its rows that have an uncorrectable error (R240) -/
  bad : List Nat := []
  /-- the two copies of the tag (R187, R192) -/
  c1 : Copy := .good
  c2 : Copy := .good
  deriving DecidableEq, Repr

/-- Power state of a core (R244). -/
inductive GateState where
  | on | quiescing | gated
  deriving DecidableEq, Repr

/-- What a core holds beside its threads. -/
structure Core where
  l1d : Table L1Line
  l1i : Table ICLine
  tlb : Tlb
  tiles : Table PTile
  /-- last thread served by each tile unit (R160) -/
  last : Table Nat
  /-- lane groups that drew in the previous cycle (R222), and ballast operations performed in it -/
  drew : Nat
  ballast : Nat
  gate : GateState
  /-- arithmetic clock in units of 10 MHz, and the economy lane ratio (R437, R439) -/
  clock : Nat
  econ : Bool
  /-- commits of the core to its VIQs, tile windows and bobbins so far (R19, R209) -/
  commits : Nat
  /-- owner tags of the vector storage units that have been granted since power came (R109, R110) -/
  units : Table Nat
  /-- requests to the near and to the main tier that are unanswered (R6) -/
  nearOut : Nat
  mainOut : Nat
  /-- tasks that have left the core since the last power sample (R225) -/
  left : List Nat := []
  deriving DecidableEq, Repr

/-- A cutwork entry (R193). -/
structure Cut where
  hsa : Nat
  hsb : Nat
  gw : Nat
  dorm : Bool
  head : Bool
  good : Bool
  deriving DecidableEq, Repr

/-- What a pillar holds: last-level TLB, walker, L2, refresh phase and calendar (R93). -/
structure Pillar where
  tlb : Tlb
  walks : List Walk
  l2 : Table L2Line
  phi : Nat
  hot : Bool
  /-- the calendar that takes effect at a period boundary (R93) -/
  change : Option (Bool × Nat)
  /-- bank groups whose window is open: core × 64 + group -/
  shut : List Nat
  deriving DecidableEq, Repr

/-- A memory request that travels in a packet (R163, R164): bytes of up to three lines at a physical address. `full` reads a granule of a
scratchpad if it is full, and empties it for .take; `fill` writes into one and fills it; `empty` is FECLR (R104, R105). -/
inductive MemReq where
  | read (len : Nat)
  | write (bytes : List Byte) (mask : Nat)
  | amo (op : AmoOp) (w : Nat) (data cmp : Nat)
  | reduce (op : Nat) (esz : Nat) (bytes : List Byte) (fresh : Nat)
  | full (clear : Bool) (len : Nat)
  | fill (bytes : List Byte)
  | empty (len : Nat)
  deriving DecidableEq, Repr

/-- Where the answer of a packet goes: nobody; the sender of UALink packet `tag` through a port block, `part` being the position of the
packet among the parts of the request × 8 + their number; the scalar stream of a thread; its load of `n` bytes at `va`, which fills
their L1 line (R97, R418); an element of a vector instruction; line `i` of a tile instruction or of a fill; a bobbin; the host
connection whose head packet is served, with the same `part`; or a core, by a VC, that discards it, the task that asked having ended (R245). -/
inductive ReplyTo where
  | none
  | ualink (blk src tag part : Nat)
  | scalar (h : Nat)
  | line (h va n : Nat)
  | vector (h cmd i : Nat)
  | tile (h cmd i : Nat)
  | bobbin (h bn : Nat)
  | host (c part : Nat)
  | gone (c vc : Nat)
  deriving DecidableEq, Repr

/-- A packet of the gallery: request with owner and destination address, or response. -/
inductive Payload where
  | req (pa owner : Nat) (r : MemReq) (reply : ReplyTo)
  | resp (pa : Nat) (reply : ReplyTo) (status : Nat) (bytes : List Byte)
  deriving DecidableEq, Repr

/-- A flit: its destination pillar and output port there, its VC, its age at the head of its buffer (R165), and its payload. -/
structure Flit where
  dest : Nat
  exit : Nat
  vc : Nat
  age : Nat
  load : Payload
  deriving DecidableEq, Repr

/-- The arbitration state of one output port of one plane (R165), with the GALARB value it applies (R215). -/
structure PortArb where
  cls : Nat
  served : Nat
  ip : Table Nat
  galarb : Nat
  deriving DecidableEq, Repr

/-- A request waiting at a coherence point. At a bank, `input` is the arbiter input by which it came, or 5 for the shaft (R91); at a
scratchpad, its class: 0 a landing, 1 + 8 × slot + n a bobbin, 33 the tile unit, 34 the vector unit, 35 + slot a scalar stream (R104).
`got` are the bytes that the lines of its packet before this one have returned, and `bad` whether one of them failed. -/
structure BankReq where
  input : Nat
  pa : Nat
  owner : Nat
  req : MemReq
  reply : ReplyTo
  /-- consecutive denials (R104) -/
  denied : Nat
  got : List Byte
  bad : Bool
  deriving DecidableEq, Repr

/-- A near-tier bank: round-robin pointer, waiting requests, and whether it is offline (R91, R242). `lost`: the last copy of its
repair table fails its check too, and every granule reads as poisoned. -/
structure Bank where
  ptr : Nat
  waiting : List BankReq
  offline : Bool
  lost : Bool
  deriving DecidableEq, Repr

/-- A kernel in its slot (R402). -/
structure Kernel where
  owner : Nat
  words : List Nat
  deriving DecidableEq, Repr

/-- A reduction record (R415): bit k of MAP marks element ANCHOR + k as applied. -/
structure RedRec where
  sender : Nat
  srcpkg : Nat
  thread : Nat
  total : Nat
  anchor : Nat
  cmd : Nat
  map : Nat
  deriving DecidableEq, Repr

/-- A packet in an engine's input queue, with the flow index it matched and its fresh mask (R166, R415). -/
structure EnginePacket where
  pkt : UalinkPacket
  flow : Nat
  fresh : Nat
  deriving DecidableEq, Repr

/-- A queued emit (R412). -/
structure Emit where
  dest : Nat
  owner : Nat
  bytes : List Byte
  deriving DecidableEq, Repr

/-- One loop in progress (R409): index of its first body instruction, index after its body, iterations left. -/
structure LoopFrame where
  start : Nat
  stop : Nat
  left : Nat
  deriving DecidableEq, Repr

/-- A Golpin engine (R396, R397). -/
structure Engine where
  kernels : Table Kernel
  /-- flow-state memory, 256 KiB; an unlisted byte is 0 -/
  state : Table Byte
  /-- poisoned 64-bit words of it (R400), and words with an error that their code corrects at the next read (R396, R410) -/
  poison : List Nat
  single : List Nat
  input : List EnginePacket
  /-- the packet in the engine, with its changed window -/
  cur : Option EnginePacket
  window : Table Byte
  h : Table (BitVec 32)
  /-- y registers: register × 8 + lane -/
  y : Table (BitVec 32)
  j : Table (BitVec 8)
  pc : Nat
  loops : List LoopFrame
  cyc : Nat
  pkts : Nat
  traps : Nat
  flow : Nat
  kslot : Nat
  busy : Bool
  /-- state stores of the packet, in program order (R401) -/
  stores : List (Nat × Byte)
  /-- 64-bit words that one of its stores has covered whole (R400) -/
  whole : List Nat
  emits : List Emit
  /-- emits that have left the engine after a commit and not yet performed -/
  outbox : List Emit
  deriving DecidableEq, Repr

/-- An event area of an owner on a port block (R404). -/
structure EventArea where
  base : Nat
  n : Nat
  prod : Nat
  cons : Nat
  lost : Nat
  deriving DecidableEq, Repr

/-- A port block: flow table, emit ranges (owner × 4 + index), event areas by owner, records of the reduction cache, least recently used
first (R197, R404, R415), the ingress queue of each UALink port, and the port served last, the Ethernet port being 6 (R166). -/
structure PortBlock where
  flows : Table FlowEntry
  ranges : Table (Nat × Nat)
  areas : Table EventArea
  cache : List (Nat × RedRec)
  ingress : Table (List UalinkPacket)
  served : Nat
  deriving DecidableEq, Repr

/-- A hardware queue slot that holds a user queue (R151, R154, R157, R216). -/
structure HwSlot where
  queue : Nat
  /-- HEAD and the notify value last read -/
  head : Nat
  notify : Nat
  weight : Nat
  prio : Nat
  part : Nat
  credit : Nat
  age : Nat
  since : Nat
  /-- GTIME since which the queue has not been pending -/
  idle : Option Nat
  /-- the run of the validated head node -/
  run : Option Nat
  wdlim : Nat
  wdcount : Nat
  wdfrac : Nat
  exp : Bool
  /-- GTIME of the last rise of the timer: a restart in that nanosecond wins over an expiry (R216) -/
  rose : Nat := 0
  deriving DecidableEq, Repr

/-- A node that has been validated, and its replicas (R21 to R23). -/
structure NodeRun where
  node : Nat
  queue : Nat
  slot : Nat
  part : Nat
  codeobj : Nat
  entry : Nat
  /-- pc, QCFG, VCFG and NBAR of the selected entry, and the text range of the selected image -/
  pc : Nat
  qcfg : Nat
  vcfg : Nat
  nbar : Nat
  imgLo : Nat
  imgHi : Nat
  width : Nat
  cohort : Bool
  vshare : Nat
  args : Nat
  repln : Nat
  vgmin : Nat
  vgreq : Nat
  donetl : Nat
  doneval : Nat
  power : Nat
  barbase : Nat
  edges : List (Nat × Nat)
  /-- found ready (R22) -/
  ready : Bool
  /-- replicas that have been placed, and those of them that have not ended -/
  started : Nat
  live : Nat
  err : Bool
  failed : Bool
  deriving DecidableEq, Repr

/-- A partition (R147) with its scheduling and drain state. -/
structure Partition where
  owner : Nat
  cores : List Nat
  grant : Nat
  poolBase : Nat
  poolLen : Nat
  agestep : Nat
  drained : Bool
  /-- round-robin pointer of each level (R154) -/
  rp : Table Nat
  /-- microseconds above the grant (R440) -/
  overUs : Nat
  /-- areas of the pool in use: base and length -/
  areas : List (Nat × Nat)
  /-- a drain whose stops have not all ended: the count that its answer carries (R246) -/
  owed : Option Nat
  deriving DecidableEq, Repr

/-- A ring in memory (R185, R220, R432). -/
structure Ring where
  base : Nat
  n : Nat
  mask : Nat
  prod : Nat
  cons : Nat
  lost : Nat
  deriving DecidableEq, Repr

/-- The header of a section of a container (R248). -/
structure Section where
  type : Nat
  sver : Nat
  req : Bool
  /-- bytes, header included -/
  len : Nat
  deriving DecidableEq, Repr

/-- A saved-state container (R248, R249): its header fields, its sections 1 to 6, and what they hold as the thread record they restore. -/
structure Saved where
  magic : Nat
  cver : Nat
  rev : Nat
  step : Nat
  feat : Nat
  gtime : Nat
  /-- core the context last ran on, for the recall of R189 -/
  core : Nat
  gang : Nat
  secs : List Section
  thr : Thread
  /-- REPAIR section: kind of the item and its key (R241) -/
  repair : List (Nat × Nat)
  /-- the container is being written (R252) -/
  saving : Bool
  /-- ready for resumption by the scheduler, or waiting for a task-control message (R236, R431) -/
  ready : Bool
  /-- order of pre-emption -/
  order : Nat
  deriving DecidableEq, Repr

/-- An owner (R169, R196, R441, R92). -/
structure Owner where
  root : Nat
  routing : Nat
  /-- how many key pairs have been installed; granules of an earlier pair decrypt to unrelated values -/
  keyVer : Nat
  exportKey : Nat
  deriving DecidableEq, Repr

/-- The words of a TASKID: owner, timelines as last seen, and the counter block (R204, R224). -/
structure TaskWords where
  owner : Nat
  tl : Table Word
  ctr : Table Nat
  deriving DecidableEq, Repr

/-- A device packet that waits for its acknowledgement (R427): times sent, GTIME of the last send. -/
structure OutPacket where
  pkt : EhrezPacket
  sends : Nat
  since : Nat
  deriving DecidableEq, Repr

/-- An Ehrez connection (R427, R428). -/
structure Conn where
  opened : Bool
  failed : Bool
  owner : Nat
  base : Nat
  len : Nat
  rd : Bool
  wr : Bool
  hostLen : Nat
  /-- SEQ expected next from the host, and SEQ of the next device packet -/
  expect : Nat
  nextSeq : Nat
  inq : List EhrezPacket
  outq : List OutPacket
  closing : Bool
  /-- statuses other than 0 of packets of the host, by SEQ, which a duplicate is told again (R427) -/
  failures : Table Nat
  /-- the requests by which the access of the head packet travels the gallery, how many of them have gone out, and the answers that have
  come: request, status, bytes -/
  parts : List (Nat × MemReq)
  asked : Nat
  back : List (Nat × Nat × List Byte)
  deriving DecidableEq, Repr

/-- A control message that may wait, once it has begun, for the end of its effect (R195, R244, R402, R403, R429). -/
inductive HeldMsg where
  | gang (o : OpGang) | load (o : OpKernel) | unload (o : OpKernelSlot) | flow (o : OpFlow) | close (o : OpConn)
  | gate (o : OpCore) | ungate (o : OpCore)
  deriving DecidableEq, Repr

/-- Where the boot stands (R443). -/
inductive BootState where
  | off | requesting | running
  deriving DecidableEq, Repr

/-- Who waits for the answer to a request to another package (R363, R413, R436): the scalar stream of a thread, one of its vector
instructions with the elements of the packet, a bobbin, a packet of its CPYRED, a tile send; the update of a node's completion word (R23), with the partition, the queue, the
node and the word; or nobody. -/
inductive RemoteFrom where
  | scalar (h : Nat)
  | vector (h cmd : Nat) (idxs : List Nat)
  | bobbin (h bn : Nat)
  | reduce (h bn seq : Nat)
  | send (h cmd : Nat)
  | update (part queue node word : Nat)
  | nobody
  deriving DecidableEq, Repr

/-- A request to another package that is not answered, with the UALink port by which it left (R436). -/
structure RemoteReq where
  src : RemoteFrom
  port : Nat
  deriving DecidableEq, Repr

/-- A packet that the package sends over UALink; the answer names a request by its tag. -/
inductive OutMsg where
  /-- `kind`: 0 read, 1 write, 2 + code atomic, 100 completion update -/
  | access (tag pkg addr len : Nat) (kind : Nat) (data : Nat)
  /-- a request packet for a slot of the target's request window (R435) -/
  | request (pkg addr : Nat) (r : RequestPacket)
  | reducing (pkg : Nat) (h bn seq : Nat) (p : UalinkPacket)
  /-- a tile for a slot of the target's landing window (R435) -/
  | send (pkg addr : Nat) (m : SendMsg)
  | sendAnswer (pkg h cmd ans : Nat)
  | answer (pkg tag status : Nat) (bytes : List Byte)
  | requestAnswer (pkg tag : Nat) (a : RemoteAnswerMsg)
  | write (pkg addr owner : Nat) (bytes : List Byte)
  | time (ns : Nat)
  /-- a packet on the Ethernet port that waits for no acknowledgement: an acknowledgement or a boot request -/
  | ehrez (p : EhrezPacket)
  deriving DecidableEq, Repr

/-- An answer of the device to a control message (R430): its code, status and words. -/
structure CtlAnswer where
  code : Nat
  status : Nat
  data : List Nat
  deriving DecidableEq, Repr

/-- A trap record on its way to the pager or to system software (R185, R236). -/
structure FaultRec where
  time : Nat
  va : Nat
  stride : Nat
  remain : Nat
  task : Nat
  thread : Nat
  owner : Nat
  kind : Nat
  cause : Nat
  level : Nat
  bobbin : Nat
  index : Nat
  entry : Nat
  deriving DecidableEq, Repr

end Sys2Proof.Machine
end

