-- ==== Sys2Proof/Config.lean ====
section
/-! DEFINITION. What one implementation fixes, and the free values: constants without a body, of which nothing can be proved.
A free value is applied to `State.tick`, a counter that every step advances, and to what names the place it is read from. -/

namespace Sys2Proof.Config

/-- The byte that a read returns where no agent has written since power-on, or where the reader's key is not the writer's
(R88, R111, R445): tick, physical address. -/
opaque freeByte : Nat → Nat → Byte

/-- An approximation whose enclosure does not fix the result (R327): function, format, operand. -/
opaque approx : Nat → Nat → Nat → Nat

/-- A value that the manual names and does not state: tick, place. -/
opaque freeWord : Nat → Nat → Word

/-- Whether three cycles of the 2.1 GHz clock begin in a nanosecond, and not two (R9, R224): tick. -/
opaque cycleEdge : Nat → Bool

/-- Which line leaves a full cache (R97, R99, R96), as a position among those that may leave: tick, place. -/
opaque victim : Nat → Nat → Nat

/-- The identity of the part: serial number (item 0) and public keys (item 2) (R430, R442). -/
opaque identity : Nat → Nat

/-- The SHA-256 digest of a firmware image (R430, R442). -/
opaque digest : List Byte → Nat

/-- A signature under the device's identity key (R442): the report. -/
opaque sign : List Nat → Nat

/-- Whether a firmware image carries a valid RSA-3072 signature (R442, R443). -/
opaque imageValid : List Byte → Bool

/-- Decryption of a key message under the key-transport key (R441): the 96 bytes, or none when OAEP refuses. -/
opaque oaep : Nat → Option Nat

/-- An exported container: AES-256-GCM under an export key (R444). -/
opaque gcmSeal : Nat → Machine.Saved → Nat

/-- Verification and decryption of an exported container (R444): key, the bytes as a number; none when the tag fails. -/
opaque gcmOpen : Nat → Nat → Option Machine.Saved

/-- Bytes of a section of a container, in units of 64 beyond the first (R248, R249): tick, section type. -/
opaque sectionLen : Nat → Nat → Nat

/-- What another package answers to a read or write that a scheduler of this package makes there (R24): tick, address; none: a
remote error. -/
opaque remoteByte : Nat → Nat → Option Byte

/-- Which of the UALink ports that are up a request to another package takes: no rule says (R5, R436): its tag. -/
opaque linkOf : Nat → Nat

/-- Which way the power controller drives a lane ratio that every task accepts (R439): tick, core. -/
opaque economy : Nat → Nat → Bool

/-- Whether the power controller raises a core's arithmetic clock by one step at a sample (R437, R439): tick, core. -/
opaque clockRise : Nat → Nat → Bool

/-- The rate that the package's clock takes after a time message, before the bound of 200 parts per million (R218): tick,
difference to the master in nanoseconds. -/
opaque clockRate : Nat → Int → Int

/-- How many of the issue cycles of a task's instructions issued two of them (R16, R225), before the bound of half of the instructions:
tick, task. -/
opaque issuePairs : Nat → Nat → Nat

end Sys2Proof.Config
end

