-- ==== Sys2Proof/Machine/State.lean ====
section
/-! DEFINITION. The state of the package, as plain data, and the state right after reset. -/

namespace Sys2Proof.Machine

/-- Who moves next: a thread's scalar stream, a Golpin engine, or a device event. -/
inductive Turn where
  | thread (h : Nat)
  | engine (e : Nat)
  | event (i : Instr)
  deriving DecidableEq, Repr

/-- The whole package. The first group of fields is the model's own (see the assumption log); every other field is the
specification's. A `Table` lists its entries by rising key; what an unlisted key reads as is the default of its accessor. -/
structure State where
  /-- Model's own: who moves in the coming steps, and who moves when the list is empty. -/
  agenda : List Turn
  actor : Turn
  /-- Model's own: the thread, and the engine, whose instruction `exec` runs. -/
  hart : Nat
  eng : Nat
  /-- Model's own: the bits of the instruction in execution, which an illegal-instruction trap reports and a queue entry saves. -/
  ir : Nat
  /-- Model's own: counts steps; the stamp of free values and of least-recent use. -/
  tick : Nat
  /-- Model's own: true when the vector, tile and bobbin streams do what they can as soon as it is committed; false when they
  move only by their events. -/
  lockstep : Bool
  /-- Model's own: true when the accesses of cores and host travel the gallery and queue at the banks (R90, R104); false when they
  perform where they are made. -/
  travel : Bool
  /-- Model's own: an access of this turn has met a closed bank, so the turn is held and changes nothing (R94). -/
  stalled : Bool
  /-- Near and main tier (R83): bytes by physical address; a byte not listed has not been written since power-on. -/
  mem : List Host.Cell
  /-- Key under which each written 16-byte granule is stored (R111): granule, owner + 64 × key version. -/
  keys : Table Nat
  /-- 64-bit words of DRAM, by address ÷ 8, whose code is uncorrectable (R241, R242). -/
  badWords : List Nat
  /-- Scratchpads: core × 2^24 + offset; an unlisted byte reads 0 (R445). -/
  spad : List Host.Cell
  /-- Owner of each tagged 64-byte scratchpad line: (core × 2^24 + offset) ÷ 64 (R110). -/
  spadOwner : Table Nat
  /-- Full granules of the scratchpads: (core × 2^24 + offset) ÷ 16, rising (R105). -/
  spadFull : List Nat
  /-- Core numbers whose scratchpad bytes a change of gang has decoded anew (R195): an untagged line holds free values. -/
  spadLoose : List Nat
  threads : Table Thread
  cores : Table Core
  cutwork : Table Cut
  /-- defective half-slabs of each pillar, as manufacture found them (R194); State.reset's part has none -/
  defects : Table (List Nat)
  pillars : Table Pillar
  /-- near-tier banks: (core × 256 + lane) × 8 + bank -/
  banks : Table Bank
  /-- requests waiting at the home L2s and at the scratchpad banks (core × 256 + bank) -/
  l2Queue : Table (List BankReq)
  spadQueue : Table (List BankReq)
  schedTlb : Tlb
  shoots : Table Shoot
  shootNext : Nat
  /-- gallery input buffers: ((plane × 16 + pillar) × 5 + port) × 4 + VC; output ports: (plane × 16 + pillar) × 5 + port -/
  buffers : Table (List Flit)
  ports : Table PortArb
  galarb : Nat
  /-- packets that have left the mesh through a port block, oldest first -/
  egress : Table (List Payload)
  engines : Table Engine
  blocks : Table PortBlock
  owners : Table Owner
  parts : Table Partition
  slots : Table HwSlot
  /-- COUNT of WDT of a hardware slot that holds no queue (R216) -/
  wdHeld : Table Nat
  /-- unmapped pending queues: queue number and GTIME since when (R151, R152) -/
  pending : Table Nat
  runs : Table NodeRun
  runNext : Nat
  saved : Table Saved
  tasks : Table TaskWords
  /-- TASKID to try next, and placement order so far (R204) -/
  taskNext : Nat
  orderNext : Nat
  /-- last reduction sequence assigned (R414) -/
  redLast : Nat
  /-- results of the translation of portable images (R289): owner × 2^64 + code object, and 2 × image + 1 if it was accepted -/
  portable : List (Nat × Nat)
  queueBase : Option Nat
  faultRing : Option Ring
  /-- traps on their way to the pager that wait for a free record (R185) -/
  faultWait : List FaultRec
  traceRings : Table Ring
  traceSeq : Nat
  errorLog : Option Ring
  gtime : Nat
  gtimeSet : Bool
  /-- time master, rate in parts per million, time messages within 50 ns in a row, lock (R218) -/
  timeMaster : Option Nat
  rate : Int
  goodMsgs : Nat
  locked : Bool
  pkgNum : Option Nat
  /-- UALink ports that are down by failure (R436) -/
  linksDown : List Nat
  /-- requests to other packages that are unanswered, by tag, and the next tag (R363, R436) -/
  remotes : Table RemoteReq
  remoteNext : Nat
  /-- the time word, which the time messages of the master write (R218, R435) -/
  timeWord : Nat
  outbox : List OutMsg
  misdirected : Nat
  /-- package power in milliwatts at the last sample, energy in nanojoules, hot time above the cap (R225, R440) -/
  power : Nat
  /-- cap of the package in milliwatts (R430, R440) -/
  cap : Nat
  energy : Nat
  overUs : Nat
  tripped : Bool
  boot : BootState
  bootImage : List Byte
  bootRequests : Nat
  conns : Table Conn
  /-- packets waiting at the Ethernet port, and packets dropped (R168, R427) -/
  ethIn : Nat
  ethDrops : Nat
  answers : List CtlAnswer
  /-- codes of the control messages that have been received and not answered, oldest first, and the message that has begun and waits (R430) -/
  ctlIn : List Nat
  ctlHeld : Option HeldMsg
  deriving DecidableEq, Repr

/-- Why a step stops with a fault. -/
inductive Fault where
  /-- Raised by `step` when the agenda names, as a device event, an instruction that is none. Safe: nothing happens. -/
  | notAnEvent
  /-- Raised by `step` when the agenda names a thread or an engine that the package does not have. Safe: nothing happens. -/
  | noSuchAgent
  deriving DecidableEq, Repr

/-- Why a step is refused. -/
inductive Refusal where
  /-- Raised by an arm of `exec` whose instruction has no meaning yet. Safe: nothing happens. -/
  | notModelled (mnemonic : String)
  deriving DecidableEq, Repr

/-- A slot that holds no task (R27, R62, R156): every register at its reset value. -/
def TaskInfo.reset : TaskInfo :=
  { part := 0, queue := 0, slot := 0, run := 0, vgmin := 1, vgreq := 1, vshare := 8, power := 0, cohort := false
    barbase := 0, nbar := 0, save := 0, since := 0, order := 0 }

/-- The registers of a thread with their reset values; those that the manual gives at launch only are named in the log. -/
def Thread.reset : Thread :=
  { pc := 0, x := [], f := [], v := [], vpoison := [], units := [], verr := [], k := [], q := [], qbad := [], tl := [], wm := []
    vl := 0, mvl := 128, sew := 2, nreg := 2, cmvl := 128, csew := 2, cnreg := 2, reqLen := 0, vgrant := 1, gang := 1
    tshape := 0x1002040, mapb := 0, skew := 4, taskid := 0, nodeid := 0, repl := 0, repln := 1, owner := 0
    fstat := 0, frm := 0, hnd := false, tsrc := 0, tcode := 0, tepc := 0, tvpc := 0, tval := 0, nkeep := 0, tpos := 0
    tstart := 0, tvec := 0, qcfg := 0xFFFFFFFF, refgrp := 0, event := false, wfeSince := none
    viq := [], rbq := [], win := [], prick := [], bob := [], cmds := [], pend := []
    slot := .free, wait := .none, freed := false, remote := none, away := none, shoot := none, yielded := false, withCohort := false, stopReq := none
    info := TaskInfo.reset }

def Tlb.reset : Tlb := { seq := 0, entries := [] }

/-- A core at power-on: caches empty, tiles free, `last` of every unit naming thread 3 (R160). -/
def Core.reset : Core :=
  { l1d := [], l1i := [], tlb := Tlb.reset, tiles := [], last := [], drew := 0, ballast := 0, gate := .on
    clock := 210, econ := false, commits := 0, units := [], nearOut := 0, mainOut := 0 }

def Pillar.reset : Pillar :=
  { tlb := Tlb.reset, walks := [], l2 := [], phi := 0, hot := false, change := none, shut := [] }

/-- A cutwork entry at manufacture without defects (R194): cluster j takes half-slabs 2j and 2j + 1. -/
def Cut.reset (j : Nat) : Cut :=
  { hsa := 2 * j, hsb := 2 * j + 1, gw := 0, dorm := false, head := true, good := true }

/-- The half-slabs that cluster `j` takes: the two lowest good ones at positions j and j + 1 that are not yet taken (R194). -/
def slabsFor (bad taken : List Nat) (j : Nat) : List Nat :=
  ([2 * j, 2 * j + 1, 2 * j + 2, 2 * j + 3].filter (fun x => !bad.contains x && !taken.contains x)).take 2

/-- The half-slabs that the clusters below `j` have taken. -/
def slabsTaken (bad : List Nat) (j : Nat) : List Nat :=
  match j with
  | 0 => []
  | i + 1 => slabsTaken bad i ++ slabsFor bad (slabsTaken bad i) i

/-- The cutwork entry of cluster `j` as manufacture leaves it (R193, R194): without defects that of `Cut.reset`; a cluster that finds
fewer than two half-slabs does not ship. -/
def Cut.made (bad : List Nat) (j : Nat) : Cut :=
  match bad with
  | [] => Cut.reset j
  | _ =>
    match slabsFor bad (slabsTaken bad j) j with
    | [a, b] => { Cut.reset j with hsa := a, hsb := b }
    | _ => { Cut.reset j with good := false }

def Bank.reset : Bank := { ptr := 0, waiting := [], offline := false, lost := false }

/-- An output port at power-on (R165), with the reset value of GALARB (R214). -/
def PortArb.reset : PortArb := { cls := 0, served := 0, ip := [], galarb := 0x40004211 }

def Engine.reset : Engine :=
  { kernels := [], state := [], poison := [], single := [], whole := [], input := [], cur := none, window := [], h := [], y := [], j := []
    pc := 0, loops := [], cyc := 0, pkts := 0, traps := 0, flow := 0, kslot := 0, busy := false, stores := []
    emits := [], outbox := [] }

def PortBlock.reset : PortBlock := { flows := [], ranges := [], areas := [], cache := [], ingress := [], served := 5 }

/-- An owner at power-on: no translations (R169), every trap route 11 (R196). -/
def Owner.reset : Owner := { root := 0, routing := 2 ^ 128 - 1, keyVer := 0, exportKey := 0 }

def Partition.reset : Partition :=
  { owner := 0, cores := [], grant := 0, poolBase := 0, poolLen := 0, agestep := 256, drained := false, rp := []
    overUs := 0, areas := [], owed := none }

def Conn.reset : Conn :=
  { opened := false, failed := false, owner := 0, base := 0, len := 0, rd := false, wr := false, hostLen := 0
    expect := 0, nextSeq := 0, inq := [], outq := [], closing := false, failures := [], parts := [], asked := 0, back := [] }

def TaskWords.reset : TaskWords := { owner := 64, tl := [], ctr := [] }

/-- The package right after power-on (R443): nothing written, no gang, no partition, no task; the boot ROM asks for an image. -/
def State.reset : State :=
  { agenda := [], actor := .thread 0, hart := 0, eng := 0, ir := 0, tick := 0, lockstep := true, travel := true, stalled := false
    mem := [], keys := [], badWords := [], spad := [], spadOwner := [], spadFull := [], spadLoose := []
    threads := [], cores := [], cutwork := [], defects := [], pillars := [], banks := [], l2Queue := [], spadQueue := []
    schedTlb := Tlb.reset, shoots := [], shootNext := 0, buffers := [], ports := [], galarb := 0x40004211, egress := []
    engines := [], blocks := [], owners := [], parts := [], slots := [], wdHeld := [], pending := [], runs := [], runNext := 0
    saved := [], tasks := [], taskNext := 0, orderNext := 0, redLast := 0, portable := [], queueBase := none
    faultRing := none, faultWait := [], traceRings := [], traceSeq := 0, errorLog := none, gtime := 0, gtimeSet := false
    timeMaster := none, rate := 0, goodMsgs := 0, locked := false, pkgNum := none, linksDown := [], remotes := [], remoteNext := 0, timeWord := 0, outbox := []
    misdirected := 0, power := 0, cap := 2400000, energy := 0, overUs := 0, tripped := false, boot := .requesting, bootImage := []
    bootRequests := 0, conns := [], ethIn := 0, ethDrops := 0, answers := [], ctlIn := [], ctlHeld := none }

end Sys2Proof.Machine
end

