-- ==== Sys2Proof/Machine/Table.lean ====
section
/-! DEFINITION. Tables by number, byte strings as numbers, and small bit arithmetic. -/

namespace Sys2Proof.Machine

/-- The value at key `k`, or `d`. -/
def tget {α : Type} (t : Table α) (k : Nat) (d : α) : α :=
  match t with
  | [] => d
  | (k', v) :: r => if k' = k then v else tget r k d

/-- The value at key `k`, if it is listed. -/
def tfind {α : Type} (t : Table α) (k : Nat) : Option α :=
  match t with
  | [] => none
  | (k', v) :: r => if k' = k then some v else tfind r k

/-- Lists `v` at key `k`; the keys stay strictly rising. -/
def tput {α : Type} (t : Table α) (k : Nat) (v : α) : Table α :=
  match t with
  | [] => [(k, v)]
  | (k', v') :: r => if k < k' then (k, v) :: (k', v') :: r else if k' = k then (k, v) :: r else (k', v') :: tput r k v

/-- Lists nothing at key `k`. -/
def tdel {α : Type} (t : Table α) (k : Nat) : Table α := t.filter (fun p => !decide (p.1 = k))

/-- `tput`, but a value equal to the default is not listed. -/
def tset {α : Type} [DecidableEq α] (t : Table α) (k : Nat) (v d : α) : Table α :=
  if v = d then tdel t k else tput t k v

/-- The keys of a table are strictly rising. -/
def rising {α : Type} (t : Table α) : Bool :=
  match t with
  | [] => true
  | [_] => true
  | a :: b :: r => decide (a.1 < b.1) && rising (b :: r)

/-- A list of numbers as a set: insertion in rising order, removal. -/
def sadd (s : List Nat) (n : Nat) : List Nat :=
  match s with
  | [] => [n]
  | a :: r => if n < a then n :: a :: r else if a = n then a :: r else a :: sadd r n

def sdel (s : List Nat) (n : Nat) : List Nat := s.filter (fun a => !decide (a = n))

def shas (s : List Nat) (n : Nat) : Bool := s.any (fun a => decide (a = n))

/-- Counts from `lo` to `hi − 1`, applying `f`. -/
def forUp {σ : Type} (lo n : Nat) (f : Nat → σ → σ) (s : σ) : σ :=
  match n with
  | 0 => s
  | m + 1 => forUp (lo + 1) m f (f lo s)

/-- The least number from `lo` on, below `lo + n`, that meets `p`. -/
def firstUp (lo n : Nat) (p : Nat → Bool) : Option Nat :=
  match n with
  | 0 => none
  | m + 1 => if p lo then some lo else firstUp (lo + 1) m p

/-- Two's complement reading of the low `w` bits. -/
def sx (w n : Nat) : Int :=
  let m := n % 2 ^ w
  if 2 * m < 2 ^ w then (m : Int) else (m : Int) - (2 ^ w : Nat)

/-- An integer modulo 2^w. -/
def wrap (w : Nat) (i : Int) : Nat := (i % (2 ^ w : Nat)).toNat

/-- Sign-extension of a `w`-bit field to a register value. -/
def sextW (w n : Nat) : Word := BitVec.ofNat 64 (wrap 64 (sx w n))

/-- A register value from a number. -/
def toW (n : Nat) : Word := BitVec.ofNat 64 n

/-- Signed reading of a register value. -/
def wInt (x : Word) : Int := sx 64 x.toNat

/-- Number of bytes given as a little-endian list (R41). -/
def leNat (bs : List Byte) : Nat := bs.foldr (fun b n => b.toNat + 256 * n) 0

/-- The `n` low bytes of a number, lowest first (R41). -/
def natLe (n v : Nat) : List Byte :=
  match n with
  | 0 => []
  | m + 1 => BitVec.ofNat 8 v :: natLe m (v / 256)

/-- Bit `i` of a bit set held as a number, written. -/
def setBit (s i : Nat) (b : Bool) : Nat :=
  if s.testBit i then (if b then s else s - 2 ^ i) else (if b then s + 2 ^ i else s)

/-- Ceiling of a quotient. -/
def ceilDiv (a b : Nat) : Nat := (a + b - 1) / b

/-- log2 of the widths that are powers of two: 1, 2, 4, 8. -/
def log2w (n : Nat) : Nat := Nat.log2 n

/-- Number of set bits among the low `n`. -/
def popcount (n v : Nat) : Nat := forUp 0 n (fun i c => if v.testBit i then c + 1 else c) 0

/-- Places a value into an optional list. -/
def optList {α : Type} (o : Option α) : List α :=
  match o with
  | none => []
  | some a => [a]

end Sys2Proof.Machine
end

