-- ==== Sys2Proof/Machine/Access.lean ====
section
/-! DEFINITION. Accessors of the parts of State, the numbering of cores and threads, and the gangs (R2 to R4, R13, R193). -/

namespace Sys2Proof.Machine

def State.thr (s : State) (h : Nat) : Thread := tget s.threads h Thread.reset
def State.setThr (s : State) (h : Nat) (t : Thread) : State := { s with threads := tput s.threads h t }
/-- The thread whose instruction `exec` runs. -/
def State.cur (s : State) : Thread := s.thr s.hart
def State.setCur (s : State) (t : Thread) : State := s.setThr s.hart t
def State.core (s : State) (c : Nat) : Core := tget s.cores c Core.reset
def State.setCore (s : State) (c : Nat) (k : Core) : State := { s with cores := tput s.cores c k }
def State.pillar (s : State) (p : Nat) : Pillar := tget s.pillars p Pillar.reset
def State.setPillar (s : State) (p : Nat) (k : Pillar) : State := { s with pillars := tput s.pillars p k }
def State.cut (s : State) (c : Nat) : Cut := tget s.cutwork c (Cut.made (tget s.defects (c / 12) []) (c % 12))
def State.bank (s : State) (b : Nat) : Bank := tget s.banks b Bank.reset
def State.setBank (s : State) (b : Nat) (k : Bank) : State := { s with banks := tput s.banks b k }
def State.engine (s : State) (e : Nat) : Engine := tget s.engines e Engine.reset
def State.setEngine (s : State) (e : Nat) (k : Engine) : State := { s with engines := tput s.engines e k }
/-- The engine whose word `exec` runs. -/
def State.curEng (s : State) : Engine := s.engine s.eng
def State.setCurEng (s : State) (k : Engine) : State := s.setEngine s.eng k
def State.block (s : State) (b : Nat) : PortBlock := tget s.blocks b PortBlock.reset
def State.setBlock (s : State) (b : Nat) (k : PortBlock) : State := { s with blocks := tput s.blocks b k }
def State.owner (s : State) (o : Nat) : Owner := tget s.owners o Owner.reset
def State.setOwner (s : State) (o : Nat) (k : Owner) : State := { s with owners := tput s.owners o k }
def State.setPart (s : State) (p : Nat) (k : Partition) : State := { s with parts := tput s.parts p k }
def State.part (s : State) (p : Nat) : Partition := tget s.parts p Partition.reset
def State.conn (s : State) (c : Nat) : Conn := tget s.conns c Conn.reset
def State.setConn (s : State) (c : Nat) (k : Conn) : State := { s with conns := tput s.conns c k }
def State.words (s : State) (t : Nat) : TaskWords := tget s.tasks t TaskWords.reset
def State.setWords (s : State) (t : Nat) (k : TaskWords) : State := { s with tasks := tput s.tasks t k }

/-- Gang width that a cutwork code names (R193). -/
def gwWidth (gw : Nat) : Nat := if gw = 1 then 2 else if gw = 2 then 4 else 1

/-- Width of the core that cluster `c` belongs to. -/
def State.width (s : State) (c : Nat) : Nat := gwWidth (s.cut c).gw

/-- The head cluster of the core that cluster `c` belongs to (R4, R13). -/
def State.headOf (s : State) (c : Nat) : Nat := c - c % 12 % s.width c

/-- Whether number `c` names a core (R4). -/
def State.isCore (s : State) (c : Nat) : Bool := decide (c < 192) && (s.cut c).head && !(s.cut c).dorm

/-- The core and the slot of a package thread number (R3). -/
def coreOf (h : Nat) : Nat := h / 4
def slotOf (h : Nat) : Nat := h % 4
def pillarOf (c : Nat) : Nat := c / 12

/-- Whether number `h` names a thread (R4). -/
def State.isThread (s : State) (h : Nat) : Bool := decide (h < 768) && s.isCore (coreOf h)

/-- The four threads of a core. -/
def threadsOf (c : Nat) : List Nat := [4 * c, 4 * c + 1, 4 * c + 2, 4 * c + 3]

/-- Whether the slot holds a running task. -/
def Thread.live (t : Thread) : Bool := decide (t.slot = .placed) || decide (t.slot = .draining)

/-- x registers: x0 reads 0 and a write to it is discarded (R62). -/
def Thread.rx (t : Thread) (n : Nat) : Word := if n = 0 then 0 else tget t.x n 0
def Thread.wx (t : Thread) (n : Nat) (v : Word) : Thread := if n = 0 then t else { t with x := tset t.x n v 0 }
/-- f registers (R63). -/
def Thread.rf (t : Thread) (n : Nat) : Word := tget t.f n 0
def Thread.wf (t : Thread) (n : Nat) (v : Word) : Thread := { t with f := tset t.f n v 0 }
/-- Masks: k0 reads all ones and a write to it is discarded (R65); 8 is ksel. -/
def Thread.rk (t : Thread) (n : Nat) (i : Nat) : Bool := if n = 0 then true else (tget t.k n 0).testBit i
def Thread.wk (t : Thread) (n : Nat) (i : Nat) (b : Bool) : Thread :=
  if n = 0 then t else { t with k := tset t.k n (setBit (tget t.k n 0) i b) 0 }
/-- Timelines and watermarks. -/
def Thread.rtl (t : Thread) (n : Nat) : Word := tget t.tl n 0
def Thread.rwm (t : Thread) (n : Nat) : Word := tget t.wm n 0
def Thread.wwm (t : Thread) (n : Nat) (v : Word) : Thread := { t with wm := tset t.wm n v 0 }
def Thread.rq (t : Thread) (n : Nat) : List Word := tget t.q n []
def Thread.wq (t : Thread) (n : Nat) (l : List Word) : Thread := { t with q := tset t.q n l [] }

def Bobbin.reset : Bobbin := { queue := [], stat := { abt := false, fcode := 0, state := 0 } }
def Thread.bobbin (t : Thread) (n : Nat) : Bobbin := tget t.bob n Bobbin.reset
def Thread.setBobbin (t : Thread) (n : Nat) (b : Bobbin) : Thread := { t with bob := tset t.bob n b Bobbin.reset }

/-- COUNT and E of a timeline (R202). -/
def tlCount (w : Word) : Nat := w.toNat % 2 ^ 63
def tlErr (w : Word) : Bool := w.toNat.testBit 63
/-- The timeline value with the count raised to at least `n`, E kept (R202). -/
def tlRaise (w : Word) (n : Nat) (err : Bool) : Word := toW (max (tlCount w) n + cond (tlErr w || err) (2 ^ 63) 0)

/-- A timeline advance sets the event flag (R202, R310). A TLADV that leaves the value unchanged is no advance (DEDUCED, see the log). -/
def Thread.advance (t : Thread) (i n : Nat) (err : Bool) : Thread :=
  let v := tlRaise (t.rtl i) n err
  if v = t.rtl i then t else { t with tl := tset t.tl i v 0, event := true }

/-- FSTAT as software reads it (R50, R71): the flags of a tile instruction that is complete and has not retired stand beside it, since an
abandoned instruction gives none. -/
def Thread.fstatNow (t : Thread) : BitVec 6 := t.win.foldl (fun f e => f ||| e.flags) t.fstat

/-- FSTAT takes a value. -/
def Thread.setFstat (t : Thread) (v : BitVec 6) : Thread := { t with fstat := v, win := t.win.map (fun e => { e with flags := 0 }) }

/-- FSTAT flags are only ever set by instructions (R49). -/
def Thread.flag (t : Thread) (f : BitVec 6) : Thread := { t with fstat := t.fstat ||| f }

/-- Whether any task of an owner is live, placed or pre-empted: its sealed window is open (R92). -/
def State.ownerLive (s : State) (o : Nat) : Bool :=
  s.threads.any (fun p => !decide (p.2.slot = .free) && decide (p.2.owner = o)) ||
  s.saved.any (fun p => decide (p.2.thr.owner = o))

/-- The thread slot that holds a task. -/
def State.threadOfTask (s : State) (task : Nat) : Option Nat :=
  (s.threads.find? (fun p => !decide (p.2.slot = .free) && decide (p.2.taskid = task))).map (·.1)

end Sys2Proof.Machine
end

