-- ==== Sys2Proof/Machine/Mem.lean ====
section
/-! DEFINITION. The physical stores: DRAM under keys (R83, R95, R111, R445), scratchpads with owners and full/empty bits
(R100 to R110), and the bobbin guards on addresses (R138, R207 to R209). -/

namespace Sys2Proof.Machine

/-- What a physical address names (R83). -/
inductive Loc where
  | near (core off : Nat)
  | main (pillar : Nat)
  | apert (core off : Nat)
  | dev (off : Nat)
  | host (conn off : Nat)
  | remote (pkg la : Nat)
  | unassigned
  deriving DecidableEq, Repr

/-- The physical address map (R83, R95, R429). `near` gives the standard core that holds the byte and the offset in it. -/
def locOf (pa : Nat) : Loc :=
  if pa < 0x1800000000 then .near (12 * (pa / 0x180000000) + pa % 0x180000000 / 0x20000000) (pa % 0x180000000 % 0x20000000)
  else if 0x2000000000 ≤ pa ∧ pa < 0x8000000000 then .main ((pa - 0x2000000000) / 0x600000000)
  else if 0x10000000000 ≤ pa ∧ pa < 0x100C0000000 then .apert ((pa - 0x10000000000) / 0x1000000) (pa % 0x1000000)
  else if 0x18000000000 ≤ pa ∧ pa < 0x20000000000 then .dev (pa - 0x18000000000)
  else if 0x4000000000000 ≤ pa ∧ pa < 0x8000000000000 then .host (pa / 2 ^ 42 % 256) (pa % 2 ^ 42)
  else if 0x8000000000000 ≤ pa ∧ pa < 0x10000000000000 then .remote (pa / 2 ^ 41 % 1024) (pa % 2 ^ 41)
  else .unassigned

def isDram (pa : Nat) : Bool :=
  match locOf pa with
  | .near _ _ => true
  | .main _ => true
  | _ => false

/-- The home pillar of a near or main address (R95). -/
def homePillar (pa : Nat) : Nat :=
  match locOf pa with
  | .near c _ => pillarOf c
  | .main p => p
  | _ => 0

/-- The key tag of an owner: which pair encrypts its granulesOf now (R111, R441). -/
def State.keyTag (s : State) (o : Nat) : Nat := o + 64 * (s.owner o).keyVer

/-- One byte of DRAM as an owner reads it: the byte written under the owner's present key, otherwise a free value (R111, R445). -/
def State.dramByte (s : State) (o pa : Nat) : Byte :=
  match tfind s.mem pa with
  | some b => if tfind s.keys (pa / 16) = some (s.keyTag o) then b else Config.freeByte s.tick pa
  | none => Config.freeByte s.tick pa

/-- The other bytes of a granule written under another key no longer decrypt to what was stored (R111). -/
def State.dropGranule (s : State) (g : Nat) : State :=
  { s with mem := s.mem.filter (fun c => !decide (c.1 / 16 = g)) }

/-- Writes one byte of DRAM under an owner's key (R111). -/
def State.dramPut (s : State) (o pa : Nat) (b : Byte) : State :=
  let g := pa / 16
  let tag := s.keyTag o
  let s := if tfind s.keys g = some tag then s else { s.dropGranule g with keys := tput s.keys g tag }
  { s with mem := tput s.mem pa b }

/-- Consecutive bytes. -/
def bytesAt (n : Nat) (f : Nat → Byte) (a : Nat) : List Byte :=
  match n with
  | 0 => []
  | m + 1 => f a :: bytesAt m f (a + 1)

def putBytes (put : State → Nat → Byte → State) (s : State) (a : Nat) (bs : List Byte) : State :=
  match bs with
  | [] => s
  | b :: r => putBytes put (put s a b) (a + 1) r

/-- The lines of an L2 with room for one more: it holds 32 MiB (R96). -/
def l2Room (t : Table L2Line) (line v : Nat) : Table L2Line :=
  if (tfind t line).isSome || decide (t.length < 524288) then t else t.eraseIdx (v % t.length)

/-- Records the residency of a main line in its home L2 (R96, R112). -/
def State.l2Touch (s : State) (pa o : Nat) (write : Bool) : State :=
  match locOf pa with
  | .main p =>
    let pl := s.pillar p
    let line := pa / 64
    let d := match tfind pl.l2 line with
      | some l => decide (l.owner = o) && l.dirty
      | none => false
    s.setPillar p { pl with l2 := tput (l2Room pl.l2 line (Config.victim s.tick pa)) line { owner := o, dirty := d || write } }
  | _ => s

/-- Records the residency of every line that a range touches. -/
def State.l2TouchAll (s : State) (pa n o : Nat) (write : Bool) : State :=
  forUp (pa / 64) ((pa + n - 1) / 64 + 1 - pa / 64) (fun line s => s.l2Touch (64 * line) o write) s

/-- Reads of DRAM at the coherence point (R115). -/
def State.dramRead (s : State) (o pa n : Nat) : List Byte := bytesAt n (s.dramByte o) pa

/-- Writes of DRAM at the coherence point. -/
def State.dramWrite (s : State) (o pa : Nat) (bs : List Byte) : State :=
  putBytes (fun s a b => s.dramPut o a b) (s.l2TouchAll pa bs.length o true) pa bs

/-- The memory keeps its canonical form: addresses strictly rising. A byte that is not listed reads as a free value, so any
listed byte differs from what an unlisted address reads as. -/
def Memory.wf (m : List Host.Cell) : Bool := rising m

/-! Banks of the near tier -/

/-- Core, lane and bank of a near address (R87). -/
def State.bankOf (s : State) (pa : Nat) : Nat × Nat × Nat :=
  match locOf pa with
  | .near c off =>
    let head := s.headOf c
    let g := s.width c
    let o := (c - head) * 0x20000000 + off
    (head, o / 16 % (64 * g), o / (1024 * g) % 8)
  | _ => (0, 0, 0)

def bankKey (c lane bank : Nat) : Nat := (c * 256 + lane) * 8 + bank

/-- Whether the window of the bank group of an address is open (R94). -/
def State.shutAt (s : State) (pa : Nat) : Bool :=
  match locOf pa with
  | .near _ _ =>
    let (c, lane, _) := s.bankOf pa
    shas (s.pillar (pillarOf c)).shut (c * 64 + lane / 4)
  | _ => false

/-- Whether the bank of an address is offline and its last repair copy still good: accesses are answered retry (R242). -/
def State.offlineAt (s : State) (pa : Nat) : Bool :=
  match locOf pa with
  | .near _ _ =>
    let (c, lane, bank) := s.bankOf pa
    (s.bank (bankKey c lane bank)).offline && !(s.bank (bankKey c lane bank)).lost
  | _ => false

/-- Whether the coherence point of an address grants nothing now: an open refresh window (R94), or an offline bank (R242). -/
def State.closed (s : State) (pa : Nat) : Bool := s.shutAt pa || s.offlineAt pa

/-- The 16-byte granulesOf that an access touches, each in a bank of its own (R87). -/
def granulesOf (pa n : Nat) : List Nat := (List.range (ceilDiv (pa % 16 + n) 16)).map (fun i => pa / 16 * 16 + 16 * i)

/-- The same of the banks of an access, and of a line. -/
def State.closedFor (s : State) (pa n : Nat) : Bool := (granulesOf pa n).any s.closed
def State.lineShut (s : State) (l : Nat) : Bool := s.closedFor (64 * l) 64

/-- The state after an access of a turn that cannot wait by itself: with its bank closed, the whole turn is held (R94). -/
def State.holdAt (s : State) (pa : Nat) : State := if s.closed pa then { s with stalled := true } else s

/-- The same for an access of several lines. -/
def State.holdRange (s : State) (pa n : Nat) : State :=
  if s.closedFor pa n then { s with stalled := true } else s

/-- Whether a near address lies in a bank whose every granule reads as poisoned (R242). -/
def State.lostAt (s : State) (pa : Nat) : Bool :=
  match locOf pa with
  | .near _ _ =>
    let (c, lane, bank) := s.bankOf pa
    (s.bank (bankKey c lane bank)).lost
  | _ => false

/-- The lowest uncorrectable 64-bit word among the bytes of a DRAM access, as its physical address (R241, R242). -/
def State.badAt (s : State) (pa n : Nat) : Option Nat :=
  match (granulesOf pa n).find? s.lostAt with
  | some g => some (max g (pa / 8 * 8))
  | none => if isDram pa then (s.badWords.find? (fun w => decide (pa / 8 ≤ w) && decide (w ≤ (pa + n - 1) / 8))).map (8 * ·) else none

/-! Scratchpads -/

def spadKey (c off : Nat) : Nat := c * 2 ^ 24 + off

/-- A scratchpad byte as an owner reads it: zero where the line carries another owner or none (R110, R445); a free value where a
change of gang has decoded the bytes anew and nobody has written the line since (R195). -/
def State.spadByte (s : State) (o c off : Nat) : Byte :=
  match tfind s.spadOwner (spadKey c off / 64) with
  | some p => if p = o then tget s.spad (spadKey c off) 0 else 0
  | none => if shas s.spadLoose c then Config.freeByte s.tick (0x10000000000 + spadKey c off) else 0

/-- Tags a scratchpad line to its writer: the other bytes then read zero and its full/empty bits read empty (R110). -/
def State.spadTag (s : State) (o line : Nat) : State :=
  if tfind s.spadOwner line = some o then s
  else { s with
    spad := s.spad.filter (fun c => !decide (c.1 / 64 = line))
    spadOwner := tput s.spadOwner line o
    spadFull := s.spadFull.filter (fun g => !decide (g / 4 = line)) }

def State.spadPut (s : State) (o c off : Nat) (b : Byte) : State :=
  let s := s.spadTag o (spadKey c off / 64)
  { s with spad := tset s.spad (spadKey c off) b 0 }

def State.spadRead (s : State) (o c off n : Nat) : List Byte := bytesAt n (s.spadByte o c) off
def State.spadWrite (s : State) (o c off : Nat) (bs : List Byte) : State := putBytes (fun s a b => s.spadPut o c a b) s off bs

/-- Full/empty bit of the granule that holds an offset, as an owner sees it (R105, R110). -/
def State.isFull (s : State) (o c off : Nat) : Bool :=
  shas s.spadFull (spadKey c off / 16) && decide (tfind s.spadOwner (spadKey c off / 64) = some o)

/-- Sets a granule's bit; the event flags of the core's threads are set when it becomes full (R105, R310). -/
def State.fillGranule (s : State) (o c off : Nat) : State :=
  let s := s.spadTag o (spadKey c off / 64)
  let g := spadKey c off / 16
  if shas s.spadFull g then s
  else
    let s := { s with spadFull := sadd s.spadFull g }
    (threadsOf c).foldl (fun s h =>
      match tfind s.threads h with
      | some t => s.setThr h { t with event := true }
      | none => s) s

def State.clearGranule (s : State) (o c off : Nat) : State :=
  if tfind s.spadOwner (spadKey c off / 64) = some o then { s with spadFull := sdel s.spadFull (spadKey c off / 16) } else s

/-- Fills every granule that a range touches. -/
def State.fillRange (s : State) (o c off len : Nat) : State :=
  if len = 0 then s else forUp (off / 16) ((off + len - 1) / 16 + 1 - off / 16) (fun g s => s.fillGranule o c (16 * g)) s

/-! Bobbin guards -/

/-- The traversal index of the element of a box that holds byte `a`, by the algorithm of R208. -/
def boxIndex (d a esz n0 n1 n2 d0 d1 d2 : Nat) : Option Nat :=
  if a < d ∨ (n2 - 1) * d2 + (n1 - 1) * d1 + (n0 - 1) * d0 + esz ≤ a - d then none
  else
    let o := a - d
    let i2 := if 1 < n2 then min (o / d2) (n2 - 1) else 0
    let o := o - i2 * d2
    let i1 := if 1 < n1 then min (o / d1) (n1 - 1) else 0
    let o := o - i1 * d1
    let i0 := if 1 < n0 then min (o / d0) (n0 - 1) else 0
    let o := o - i0 * d0
    if esz ≤ o then none else some (i0 + n0 * (i1 + n1 * i2))

/-- Elements of a command (R207): a CPYROWS counts n until it starts and its active rows afterwards (R387). -/
def BCmd.count (c : BCmd) : Nat :=
  match c.op with
  | .cpy _ n0 n1 n2 _ _ _ _ _ _ => n0 * n1 * n2
  | .rows _ n _ _ _ _ => if c.started then c.rowSrc.length else n
  | .cpyv _ cnt _ esz _ rb => cnt * rb / esz
  | .red _ _ n => n

/-- The element of a command's memory destination that holds a byte address (R208). -/
def BCmd.guardIndex (c : BCmd) (a : Nat) : Option Nat :=
  match c.op with
  | .cpy e n0 n1 n2 d0 d1 d2 _ _ _ => boxIndex c.dst.toNat a e n0 n1 n2 d0 d1 d2
  | .rows l _ _ _ _ _ => if c.count = 0 then none else boxIndex c.dst.toNat a l c.count 1 1 l 0 0
  | .cpyv dir _ _ e _ _ => if dir = 1 then boxIndex c.dst.toNat a e c.count 1 1 e 0 0 else none
  | .red _ e n => boxIndex c.dst.toNat a e n 1 1 e 0 0

/-- The watermark that bounds a command: 0 until it starts (R138, R206). -/
def Thread.markOf (t : Thread) (bn : Nat) (c : BCmd) : Nat := if c.started then tlCount (t.rwm bn) else 0

/-- Whether a byte is guarded at or above the watermark by a command of a placed thread of the core, committed before `order`
when one is given (R138, R209). -/
def State.guardedByte (s : State) (c : Nat) (order : Option Nat) (a : Nat) : Bool :=
  (threadsOf c).any (fun h =>
    match tfind s.threads h with
    | none => false
    | some t => t.live && t.bob.any (fun b => b.2.queue.any (fun q =>
        (match order with
          | some n => decide (q.order < n)
          | none => true) &&
        (match q.guardIndex a with
          | some i => decide (t.markOf b.1 q ≤ i)
          | none => false))))

/-- Whether any byte of a range is guarded. -/
def State.guarded (s : State) (c : Nat) (order : Option Nat) (a n : Nat) : Bool :=
  (List.range n).any (fun i => s.guardedByte c order (a + i))

end Sys2Proof.Machine
end

