-- ==== Sys2Proof/Machine/Translate.lean ====
section
/-! DEFINITION. Translation and access checks: canonical form and window (R81, R82), the walk (R169 to R175), TLBs (R176, R183),
permissions and access kinds (R85, R86, R92, R174). -/

namespace Sys2Proof.Machine

/-- Kinds of access (R85, R174). -/
inductive Acc where
  | fetch | sload | sstore | satomic | vload | vstore | vatomic | shaftLoad | shaftStore | tload | tstore | bsrc | bdst
  | maint
  deriving DecidableEq, Repr

/-- A trap cause with the LEVEL and ENTRY of the fault record (R173, R185). -/
structure XErr where
  code : Nat
  level : Nat := 0
  entry : Nat := 0
  deriving DecidableEq, Repr

/-- The outcome of a translation: the state with its TLBs used, a fault, or a walk that has to be waited for. -/
inductive XRes where
  | ok (s : State) (p : Place)
  | err (s : State) (e : XErr)
  | miss (s : State)

/-- Bits [63:57] equal bit 56 (R81). -/
def canonical (va : Nat) : Bool := decide (va / 2 ^ 56 = 0) || decide (va / 2 ^ 56 = 255)

/-- The scratchpad window (R82). -/
def spadBase : Nat := 0x00FFFF0000000000
def inWindow (va : Nat) : Bool := decide (spadBase ≤ va) && decide (va < spadBase + 2 ^ 24)

/-- Index of a level's table (R170). -/
def levelIndex (lvl va : Nat) : Nat :=
  match lvl with
  | 3 => va / 2 ^ 39 % 2 ^ 18
  | 2 => va / 2 ^ 30 % 512
  | 1 => va / 2 ^ 21 % 512
  | _ => va / 2 ^ 16 % 32

/-- log2 of the page size of a leaf (R170). -/
def leafSize (lvl e : Nat) : Nat :=
  match lvl with
  | 2 => 30
  | 1 => if e / 32 % 4 = 1 then 26 else 21
  | _ => 16

def leafPa (e : Nat) : Nat := e / 2 ^ 26 % 2 ^ 36 * 2 ^ 16
def leafType (e : Nat) : Nat := e / 256 % 8
def leafPac (e : Nat) : Nat := e / 2048 % 8
def leafSeal (e : Nat) : Bool := e.testBit 14

/-- The memory type that a physical address must carry (R83, R84). -/
def typeOf (pa : Nat) : Option Nat :=
  match locOf pa with
  | .near _ _ => some 0
  | .main _ => some 1
  | .remote _ _ => some 2
  | .host _ _ => some 3
  | .apert _ _ => some 4
  | .dev _ => some 4
  | .unassigned => none

/-- A table entry with no reserved bit and an aligned NEXT (R171). -/
def tableOk (lvl e : Nat) : Bool :=
  decide (e / 2 ^ 52 = 0) && decide (e / 4 % 64 = 0) && (decide (lvl = 1) || decide (e / 256 % 16 = 0))

/-- A leaf that is not malformed (R172, R174). -/
def leafOk (owner lvl e : Nat) : Bool :=
  decide (e / 2 ^ 62 = 0) && !e.testBit 15 && !e.testBit 7 &&
  (decide (e / 32 % 4 = 0) || (decide (lvl = 1) && decide (e / 32 % 4 = 1))) &&
  decide (leafPa e % 2 ^ leafSize lvl e = 0) &&
  decide (typeOf (leafPa e) = some (leafType e)) &&
  decide (e / 2 ^ 16 % 16 = (if leafType e < 2 then homePillar (leafPa e) else 0)) &&
  (!leafSeal e || decide (leafType e = 0)) &&
  decide (e / 2 ^ 20 % 64 = owner)

/-- The walk of R173 from a level down; `a` is the address of the entry, `up` the entry whose NEXT gave it. An entry is used as its
bytes read, also where its word is uncorrectable (DESIGN CHOICE, log 77). -/
def State.walkFrom (s : State) (owner va : Nat) (lvl : Nat) (a up : Nat) : Except XErr (Nat × Nat) :=
  if !isDram a then .error { code := 7, level := min (lvl + 1) 3, entry := up }
  else
    let e := leNat (s.dramRead owner a 8)
    if !e.testBit 0 then .error { code := 6, level := lvl, entry := e }
    else if e.testBit 1 then
      if !tableOk lvl e then .error { code := 7, level := lvl, entry := e }
      else match lvl with
        | 0 => .error { code := 7, level := 0, entry := e }
        | l + 1 => s.walkFrom owner va l (e / 256 % 2 ^ 44 * 256 + 8 * levelIndex l va) e
    else if decide (lvl = 3) || !leafOk owner lvl e then .error { code := 7, level := lvl, entry := e }
    else .ok (lvl, e)

/-- A walk from the owner's ROOT (R169, R173). -/
def State.walk (s : State) (owner va : Nat) : Except XErr (Nat × Nat) :=
  let root := (s.owner owner).root
  if root = 0 then .error { code := 6, level := 3, entry := 0 }
  else s.walkFrom owner va 3 (root + 8 * levelIndex 3 va) 0

/-- The addresses of the entries that a walk reads, from a level down (R173). -/
def State.walkReads (s : State) (owner va : Nat) (lvl : Nat) (a : Nat) : List Nat :=
  if !isDram a then []
  else
    let e := leNat (s.dramRead owner a 8)
    match lvl with
    | 0 => [a]
    | l + 1 => a :: (if e.testBit 0 && e.testBit 1 then s.walkReads owner va l (e / 256 % 2 ^ 44 * 256 + 8 * levelIndex l va) else [])

/-- Every entry that the walk of an address reads. -/
def State.walkPath (s : State) (owner va : Nat) : List Nat :=
  let root := (s.owner owner).root
  if root = 0 then [] else s.walkReads owner va 3 (root + 8 * levelIndex 3 va)

/-- The L2 lines that a walk's reads make resident (R96). -/
def State.walkTouch (s : State) (owner : Nat) (l : List Nat) : State := l.foldl (fun s a => s.l2Touch a owner false) s

/-- An entry of a TLB that serves an address; a doomed entry serves only the instruction that pinned it (R182). -/
def Tlb.find (t : Tlb) (owner va : Nat) : Option TlbEntry :=
  t.entries.find? (fun e => decide (e.owner = owner) && decide (va / 2 ^ e.size = e.page) && !e.doomed)

/-- The use of an entry (R176): it becomes the first of the list. -/
def Tlb.touch (t : Tlb) (owner va tick : Nat) : Tlb :=
  let hit := fun (e : TlbEntry) => decide (e.owner = owner) && decide (va / 2 ^ e.size = e.page) && !e.doomed
  { t with entries := (t.entries.filter hit).map (fun e => { e with used := tick }) ++ t.entries.filter (fun e => !hit e) }

/-- The victim of a full set: the least recently used entry that is not pinned (R176, R179). Entries lie in the order of their use, the
latest first, so among those last used in one step the last of the list was used first. -/
def Tlb.victim (es : List TlbEntry) (inSet : TlbEntry → Bool) : Option TlbEntry :=
  es.foldl (fun v e => if inSet e && e.pins.isEmpty then
      (match v with
        | none => some e
        | some x => if e.used ≤ x.used then some e else v) else v) none

/-- Fills an entry into the set of at most `cap` entries that `inSet` describes. -/
def Tlb.fill (t : Tlb) (cap : Nat) (inSet : TlbEntry → Bool) (e : TlbEntry) : Tlb :=
  let es := t.entries.filter (fun x => !(decide (x.owner = e.owner) && decide (x.size = e.size) && decide (x.page = e.page) && x.pins.isEmpty))
  let es := if (es.filter inSet).length < cap then es
    else match Tlb.victim es inSet with
      | some v => es.erase v
      | none => es
  { t with entries := e :: es }

def fillCore (t : Tlb) (e : TlbEntry) : Tlb := t.fill 64 (fun x => decide (x.page % 16 = e.page % 16)) e
def fillLast (t : Tlb) (e : TlbEntry) : Tlb := t.fill 8192 (fun _ => true) e
def fillSched (t : Tlb) (e : TlbEntry) : Tlb := t.fill 256 (fun _ => true) e

def newEntry (owner va lvl leaf tick : Nat) : TlbEntry :=
  { owner := owner, size := leafSize lvl leaf, page := va / 2 ^ leafSize lvl leaf, level := lvl, leaf := leaf, pins := []
    doomed := false, used := tick }

/-- The TLB path of an access: none for the schedulers (scheduler TLB and pillar 0), or the issuing core (R176). -/
def State.pathPillar (core : Option Nat) : Nat :=
  match core with
  | some c => pillarOf c
  | none => 0

def State.firstTlb (s : State) (core : Option Nat) : Tlb :=
  match core with
  | some c => (s.core c).tlb
  | none => s.schedTlb

def State.setFirstTlb (s : State) (core : Option Nat) (t : Tlb) : State :=
  match core with
  | some c => s.setCore c { s.core c with tlb := t }
  | none => { s with schedTlb := t }

def fillFirst (core : Option Nat) (t : Tlb) (e : TlbEntry) : Tlb :=
  match core with
  | some _ => fillCore t e
  | none => fillSched t e

/-- The outcome of a lookup: the level and leaf, a fault, or a walk begun (R178). -/
inductive LeafRes where
  | ok (s : State) (lvl leaf : Nat)
  | err (s : State) (e : XErr)
  | miss (s : State)

/-- Whether an entry maps a byte of the page that a shoot-down names (R182, R312); none: every page of the owner. -/
def TlbEntry.hit (owner : Nat) (page : Option (Nat × Nat)) (e : TlbEntry) : Bool :=
  decide (e.owner = owner) &&
  (match page with
    | none => true
    | some (va, size) =>
      let lo := va / 2 ^ size * 2 ^ size
      decide (e.page * 2 ^ e.size < lo + 2 ^ size) && decide (lo < (e.page + 1) * 2 ^ e.size))

/-- The number of a TLB in a shoot-down: core, 192 + pillar of a last level, 208 the schedulers'. -/
def tlbNumber (core : Option Nat) : Nat := core.getD 208

/-- Whether a shoot-down of an entry of a last-level TLB has reached the TLB before it and not yet that one, which may serve it nothing
meanwhile (R183). -/
def State.overtaken (s : State) (core : Option Nat) (e : TlbEntry) : Bool :=
  s.shoots.any (fun k => e.hit k.2.owner k.2.page && !shas k.2.toReceive (tlbNumber core) &&
    shas k.2.toReceive (192 + State.pathPillar core))

/-- A miss of a core joins the walk of its page that is in flight (R178). -/
def Walk.join (w : Walk) (c seq : Nat) : Walk :=
  if w.core = c ∨ (tfind w.others c).isSome then w else { w with others := tput w.others c seq }

/-- Whether a walk in flight is of the page, of 2^size bytes, that an address lies in (R178). -/
def Walk.serves (w : Walk) (owner va size : Nat) : Bool :=
  !w.failed && decide (w.owner = owner) && decide (w.va / 2 ^ size = va / 2 ^ size)

/-- Whether a walk of the address has ended in a fault that the core still has to take (R178, R183). -/
def Walk.told (w : Walk) (owner va c seq : Nat) : Bool :=
  w.failed && decide (w.owner = owner) && decide (w.va / 65536 = va / 65536) && decide (tfind w.others c = some seq)

/-- The walks that a pillar holds in flight (R178). -/
def Pillar.inFlight (k : Pillar) : Nat := k.walks.countP (fun w => !w.failed)

/-- log2 of the size of the page that an address lies in; an address whose walk faults counts as in a page of 64 KiB. -/
def State.walkSize (s : State) (owner va : Nat) : Nat :=
  match s.walk owner va with
  | .ok r => leafSize r.1 r.2
  | .error _ => 16

/-- A core takes the fault of a walk that it waited for. -/
def Pillar.takeFault (k : Pillar) (owner va c seq : Nat) : Pillar :=
  { k with walks := k.walks.filterMap (fun w =>
      if w.told owner va c seq then (match tdel w.others c with
        | [] => none
        | l => some { w with others := l })
      else some w) }

/-- A miss of a core in both TLBs (R178): it joins the walk of its page, begins one, or waits for a free one. A walk that has ended in a
fault gives it to each core that waited, once, while the page still faults (DESIGN CHOICE, log 101). -/
def State.missWalk (s : State) (c owner va : Nat) : LeafRes :=
  let p := pillarOf c
  let pl := s.pillar p
  let seq := (s.core c).tlb.seq
  let begin' := fun (pl : Pillar) =>
    if pl.walks.any (fun w => w.serves owner va (s.walkSize owner va)) then
      LeafRes.miss (s.setPillar p { pl with walks := pl.walks.map (fun w => if w.serves owner va (s.walkSize owner va) then w.join c seq else w) })
    else if 32 ≤ pl.inFlight then .miss (s.setPillar p pl)
    else .miss (s.setPillar p { pl with walks := pl.walks ++
      [{ core := c, owner := owner, va := va, coreSeq := seq, llSeq := pl.tlb.seq, others := [] }] })
  if pl.walks.any (fun w => w.told owner va c seq) then
    match s.walk owner va with
    | .error e => .err (s.setPillar p (pl.takeFault owner va c seq)) e
    | .ok _ => begin' (pl.takeFault owner va c seq)
  else begin' pl

/-- A walk that is done as part of the access: in lockstep, and for the schedulers, which wait while a walk of the page is in flight or
none is free (R178). It waits at a closed bank (R94). -/
def State.walkNow (s : State) (core : Option Nat) (owner va : Nat) : LeafRes :=
  let p := State.pathPillar core
  let pl := s.pillar p
  let path := s.walkPath owner va
  if path.any s.closed || (!s.lockstep && (decide (32 ≤ pl.inFlight) || pl.walks.any (fun w => w.serves owner va (s.walkSize owner va)))) then
    .miss s
  else
    let u := s.walkTouch owner path
    match s.walk owner va with
    | .error e => .err u e
    | .ok (lvl, leaf) =>
      let ent := newEntry owner va lvl leaf s.tick
      let u := u.setPillar p { u.pillar p with tlb := fillLast pl.tlb ent }
      .ok (u.setFirstTlb core (fillFirst core (s.firstTlb core) ent)) lvl leaf

/-- Looks a page up along its TLB path, walking on a miss (R176, R178, R183). -/
def State.leafOf (s : State) (core : Option Nat) (owner va : Nat) : LeafRes :=
  let t := s.firstTlb core
  match t.find owner va with
  | some e => .ok (s.setFirstTlb core (t.touch owner va s.tick)) e.level e.leaf
  | none =>
    let p := State.pathPillar core
    let pl := s.pillar p
    match pl.tlb.find owner va with
    | some e =>
      if s.overtaken core e then .miss s
      else
        let s := s.setPillar p { pl with tlb := pl.tlb.touch owner va s.tick }
        .ok (s.setFirstTlb core (fillFirst core t (newEntry owner va e.level e.leaf s.tick))) e.level e.leaf
    | none =>
      match (if s.lockstep then none else core) with
      | some c => s.missWalk c owner va
      | none => s.walkNow core owner va

/-- A cause with LEVEL and ENTRY of the leaf that the walk of an address has ended at (R185); 0 where there is none. -/
def State.leafErr (s : State) (core : Option Nat) (owner va code : Nat) : XErr :=
  match (s.firstTlb core).find owner va with
  | some e => { code := code, level := e.level, entry := e.leaf }
  | none => (match s.walk owner va with
    | .ok r => { code := code, level := r.1, entry := r.2 }
    | .error _ => { code := code })

/-- Which permissions an access needs (R174): a maintenance lookup needs none (R313). -/
def needRd (k : Acc) : Bool :=
  match k with
  | .sload | .vload | .shaftLoad | .tload | .bsrc | .satomic | .vatomic => true
  | _ => false
def needWr (k : Acc) : Bool :=
  match k with
  | .sstore | .vstore | .shaftStore | .tstore | .bdst | .satomic | .vatomic => true
  | _ => false

def permitted (k : Acc) (e : Nat) : Bool :=
  (!needRd k || e.testBit 2) && (!needWr k || e.testBit 3) && (!decide (k = .fetch) || e.testBit 4)

/-- The access kinds that each type admits (R85); `dev` says that the address lies in a device window. -/
def admits (k : Acc) (mtype : Nat) (dev : Bool) : Bool :=
  match k with
  | .fetch | .tload | .tstore => decide (mtype < 2)
  | .shaftLoad | .shaftStore => decide (mtype = 0)
  | .sload => decide (mtype < 3) || (decide (mtype = 4) && dev)
  | .sstore | .satomic | .vload | .vstore | .vatomic => decide (mtype < 3)
  | .bsrc | .bdst => decide (mtype < 4) || (decide (mtype = 4) && !dev)
  | .maint => true

/-- Translates and checks an access of `n` bytes at a virtual address: window and canonical form, walk, permission, kind,
own package number, sealed page (R81, R82, R85, R86, R92, R174). -/
def State.translate (s : State) (core : Option Nat) (owner : Nat) (k : Acc) (va n : Nat) : XRes :=
  if inWindow va then
    let g := match core with
      | some c => s.width c
      | none => 0
    if va - spadBase + n ≤ g * 2 ^ 22 ∧ k ≠ .fetch ∧ k ≠ .shaftLoad ∧ k ≠ .shaftStore then .ok s (.spad (va - spadBase))
    else .err s { code := 5 }
  else if !canonical va then .err s { code := 5 }
  else match s.leafOf core owner va with
    | .err s e => .err s e
    | .miss s => .miss s
    | .ok s lvl leaf =>
      let pa := leafPa leaf + va % 2 ^ leafSize lvl leaf
      let dev := match locOf pa with
        | .dev _ => true
        | _ => false
      let own := match locOf pa with
        | .remote p _ => decide (s.pkgNum = some p)
        | _ => false
      let bad := fun (code : Nat) => XRes.err s { code := code, level := lvl, entry := leaf }
      if !permitted k leaf then bad 8
      else if !admits k (leafType leaf) dev || own then bad 5
      else if needWr k && leafSeal leaf && s.ownerLive owner then bad 9
      else .ok s (.phys pa (leafType leaf) (leafPac leaf))

/-- Whether the leaf's PAC carries an atomic class: 11, 12 or 13 (R172). -/
def pacHas (pac cls : Nat) : Bool := pac.testBit (cls - 11)

end Sys2Proof.Machine
end

