-- ==== Sys2Proof/Machine/Cache.lean ====
section
/-! DEFINITION. The L1 caches of a core (R97 to R99, R112, R117, R122), the banks and refresh windows of near addresses
(R87, R91, R94), and the device-window words (R204, R205, R224). -/

namespace Sys2Proof.Machine

/-! The L1 data cache -/

def State.l1Find (s : State) (c line : Nat) : Option L1Line := tfind (s.core c).l1d line

def State.l1Put (s : State) (c line : Nat) (l : L1Line) : State :=
  s.setCore c { s.core c with l1d := tput (s.core c).l1d line l }

/-- Invalidates a line without writing it back. -/
def State.l1Drop (s : State) (c line : Nat) : State := s.setCore c { s.core c with l1d := tdel (s.core c).l1d line }

/-- The offsets of the dirty bytes of a line. -/
def L1Line.dirtyOffs (l : L1Line) : List Nat := (List.range 64).filter (shas l.dirty)

/-- A write-back (R97): the dirty bytes are written under the line's owner, and the line is clean. -/
def State.l1WriteBack (s : State) (c line : Nat) : State :=
  match s.l1Find c line with
  | none => s
  | some l =>
    if l.dirty.isEmpty then s
    else
      let s := l.dirtyOffs.foldl (fun s off => s.dramPut l.owner (64 * line + off) (tget l.bytes off 0))
        (s.l2Touch (64 * line) l.owner true)
      s.l1Put c line { l with dirty := [], threads := [] }

/-- Write-back and invalidation. -/
def State.l1Flush (s : State) (c line : Nat) : State := (s.l1WriteBack c line).l1Drop c line

def State.l1Lines (s : State) (c : Nat) : List Nat := (s.core c).l1d.map (·.1)

/-- Whether a thread dirtied a line. -/
def State.l1DirtiedBy (s : State) (c h line : Nat) : Bool :=
  match s.l1Find c line with
  | some l => shas l.threads h
  | none => false

/-- Writes back every line that a thread dirtied (R98). -/
def State.l1WriteBackThread (s : State) (c h : Nat) : State :=
  (s.l1Lines c).foldl (fun s line => if s.l1DirtiedBy c h line then s.l1WriteBack c line else s) s

/-- Writes back and invalidates the whole cache; a line whose bank is closed holds the turn (R94). -/
def State.l1FlushAll (s : State) (c : Nat) : State := (s.l1Lines c).foldl (fun s l => (s.holdAt (64 * l)).l1Flush c l) s

/-- Invalidates every line that no thread has dirtied (R98). -/
def State.l1DropClean (s : State) (c : Nat) : State :=
  s.setCore c { s.core c with l1d := (s.core c).l1d.filter (fun p => !p.2.threads.isEmpty) }

/-- Serves an access under another owner as a miss: the line is written back and leaves (R112). -/
def State.l1OwnerMiss (s : State) (c line o : Nat) : State :=
  match s.l1Find c line with
  | none => s
  | some l => if l.owner = o then s else s.l1Flush c line

/-- Offsets of an access within its line; an aligned scalar access never leaves it (R297). -/
def offsets (pa n : Nat) : List Nat := (List.range n).map (fun i => pa % 64 + i)

/-- A line that is allocated without a read (R97). -/
def L1Line.empty (o : Nat) : L1Line := { bytes := [], valid := [], dirty := [], threads := [], owner := o, spans := [] }

/-- A scalar store (R97, R117): the line is allocated without a read, and the stored bytes are valid and dirty. -/
def State.l1Store (s : State) (c h o pa : Nat) (bs : List Byte) : State :=
  let line := pa / 64
  let s := s.l1OwnerMiss c line o
  let l := (s.l1Find c line).getD (L1Line.empty o)
  let offs := offsets pa bs.length
  s.l1Put c line { l with
    bytes := (offs.zip bs).foldl (fun t p => tput t p.1 p.2) l.bytes
    valid := offs.foldl sadd l.valid
    dirty := offs.foldl sadd l.dirty
    threads := sadd l.threads h }

/-- The bytes of a line after a fill from `src`: dirty bytes stay; guarded bytes that the load does not touch are not filled (R97). -/
def State.l1FillFrom (s : State) (c va pa n : Nat) (l : L1Line) (src : Nat → Byte) : L1Line :=
  let keep := (List.range 64).filter (fun i =>
    shas l.dirty i || (decide (pa % 64 ≤ i) && decide (i < pa % 64 + n)) || !s.guardedByte c none (va - va % 64 + i))
  { l with
    bytes := keep.map (fun i => (i, if shas l.dirty i then tget l.bytes i 0 else src i))
    valid := keep
    spans := [] }

/-- A fill from the coherence point. -/
def State.l1Filled (s : State) (c o va pa n : Nat) (l : L1Line) : L1Line :=
  s.l1FillFrom c va pa n l (fun i => s.dramByte o (64 * (pa / 64) + i))

/-- A scalar load (R97, R117): a hit when every byte is valid, otherwise it performs at the coherence point and fills the line.
`bypass` is a load released by a watermark: the bytes that no store has dirtied are read anew (R138). -/
def State.l1Load (s : State) (c o va pa n : Nat) (bypass : Bool) : State × List Byte :=
  let line := pa / 64
  let s := s.l1OwnerMiss c line o
  let l := (s.l1Find c line).getD (L1Line.empty o)
  let offs := offsets pa n
  if offs.all (fun i => shas (if bypass then l.dirty else l.valid) i) then (s, offs.map (fun i => tget l.bytes i 0))
  else
    let s := s.l2Touch pa o false
    let l := s.l1Filled c o va pa n l
    (s.l1Put c line l, offs.map (fun i => tget l.bytes i 0))

/-- Whether the cache serves a scalar load: every byte is valid, or, where clean bytes are bypassed, dirty (R97, R138). -/
def State.l1Serves (s : State) (c o pa n : Nat) (bypass : Bool) : Bool :=
  match s.l1Find c (pa / 64) with
  | none => false
  | some l => decide (l.owner = o) && (offsets pa n).all (fun i => shas (if bypass then l.dirty else l.valid) i)

/-- Whether a scalar load of these bytes hits (R97). -/
def State.l1Hit (s : State) (c o pa n : Nat) : Bool :=
  match s.l1Find c (pa / 64) with
  | none => false
  | some l => decide (l.owner = o) && (offsets pa n).all (fun i => shas l.valid i)

/-- The span of a vector memory instruction of thread `h` that has completed: every line of the core keeps it until it is filled again
(R122). -/
def L1Line.spanned (l : L1Line) (h : Nat) (lo hi : Int) : L1Line :=
  if l.spans.any (fun x => decide (x.1 = h) && decide (x.2.1 ≤ lo) && decide (hi ≤ x.2.2)) then l
  else { l with spans := (h, lo, hi) :: l.spans }

/-- The invalidation of R122 before a scalar access of thread `h` to `n` bytes at `va`, physical address `pa`: their line leaves if no thread
has dirtied it and a vector memory instruction of the thread over one of the bytes has completed since it was filled. -/
def State.l1Renew (s : State) (c h va pa n : Nat) : State :=
  match s.l1Find c (pa / 64) with
  | none => s
  | some l =>
    if l.threads.isEmpty && l.spans.any (fun x => decide (x.1 = h) && decide (x.2.1 < (va : Int) + n) && decide ((va : Int) < x.2.2))
    then s.l1Drop c (pa / 64) else s

/-! The L1 instruction cache -/

/-- An instruction cache holds 64 KiB, 1,024 lines (R99): of a full one a line leaves when a fetch fills another. -/
def icRoom (t : Table ICLine) (v : Nat) : Table ICLine := if t.length < 1024 then t else t.eraseIdx (v % t.length)

def State.icRoom (s : State) (c : Nat) : State :=
  s.setCore c { s.core c with l1i := Machine.icRoom (s.core c).l1i (Config.victim s.tick (192 + c)) }

/-- Fetches two bytes, filling the line from the coherence point when it is not cached under the owner (R99, R112). -/
def State.icFetch (s : State) (c o pa : Nat) : State × List Byte :=
  let line := pa / 64
  let k := s.core c
  match (tfind k.l1i line).filter (fun l => decide (l.owner = o)) with
  | some l => (s, [tget l.bytes (pa % 64) 0, tget l.bytes (pa % 64 + 1) 0])
  | none =>
    let s := (s.icRoom c).l2Touch pa o false
    let bs := (List.range 64).map (fun i => (i, s.dramByte o (64 * line + i)))
    (s.setCore c { s.core c with l1i := tput (s.core c).l1i line { bytes := bs, owner := o } },
      [tget bs (pa % 64) 0, tget bs (pa % 64 + 1) 0])

def State.icDrop (s : State) (c line : Nat) : State := s.setCore c { s.core c with l1i := tdel (s.core c).l1i line }
def State.icDropAll (s : State) (c : Nat) : State := s.setCore c { s.core c with l1i := [] }

/-! Capacity, and the evictions that the model chooses (R97, R99, R117) -/

/-- A line whose bank is closed keeps what no write-back has taken; its clean bytes leave. -/
def State.l1Trim (s : State) (c line : Nat) : State :=
  match s.l1Find c line with
  | none => s
  | some l =>
    if l.dirty.isEmpty then s.l1Drop c line
    else s.l1Put c line { l with valid := l.dirty, bytes := l.bytes.filter (fun b => shas l.dirty b.1) }

/-- Evicts every line of a core: a dirty line whose bank is closed keeps its dirty bytes only. -/
def State.l1Evict (s : State) (c : Nat) : State :=
  (s.l1Lines c).foldl (fun s l => if s.lineShut l then s.l1Trim c l else s.l1Flush c l) s

/-- The lines of a full L1 that may leave: a dirty line waits while its bank is closed. -/
def State.l1Victims (s : State) (c : Nat) : List Nat :=
  ((s.core c).l1d.filter (fun p => p.2.dirty.isEmpty || !s.lineShut p.1)).map (·.1)

/-- An L1 data cache holds 64 KiB, 1,024 lines (R97): one of a full cache leaves before the next instruction. -/
def State.l1Room (s : State) (c : Nat) : State :=
  if (s.core c).l1d.length < 1024 then s
  else
    match (s.l1Victims c)[Config.victim s.tick c % (s.l1Victims c).length]? with
    | some l => s.l1Flush c l
    | none => s

/-- What a line holds after the part of its fill that one bank grants, the bytes `bs` from offset `at'`: with the first part the clean bytes
that it held leave, and the parts after it add theirs. -/
def L1Line.granted (l new : L1Line) (at' len : Nat) : L1Line :=
  let here := fun (i : Nat) => decide (at' ≤ i) && decide (i < at' + len)
  let kept := (List.range 64).filter (fun i => if here i then shas new.valid i else if at' = 0 then shas l.dirty i else shas l.valid i)
  { l with
    bytes := kept.map (fun i => (i, if here i then tget new.bytes i 0 else tget l.bytes i 0))
    valid := kept
    spans := if at' = 0 then [] else l.spans }

/-- A scalar load of `n` bytes whose line is read at its coherence point (R97, R117, R418), `bs` being what one bank grants of it, from offset
`at'`: it fills the cache there, beside the bytes that stores have dirtied, and returns them merged. With no line that may leave a full
cache, the line leaves at once. -/
def State.l1Grant (s : State) (c o va pa n at' : Nat) (bs : List Byte) : State × List Byte :=
  let s := s.l1OwnerMiss c (pa / 64) o
  let old := (s.l1Find c (pa / 64)).getD (L1Line.empty o)
  let new := s.l1FillFrom c va pa n old (fun i => bs.getD (i - at') 0)
  let s := if (s.l1Find c (pa / 64)).isSome then s else s.l1Room c
  (if (s.l1Find c (pa / 64)).isNone && decide (1024 ≤ (s.core c).l1d.length) then s
    else s.l1Put c (pa / 64) (old.granted new at' bs.length),
    (List.range bs.length).map (fun i => tget new.bytes (at' + i) 0))

/-- Whether a line that a thread dirtied waits for its bank. -/
def State.dirtyShut (s : State) (h : Nat) : Bool :=
  (s.core (coreOf h)).l1d.any (fun p => shas p.2.threads h && s.lineShut p.1)

/-! Device-window words -/

/-- Timeline `i` of a TASKID: the register of the task while it is live, otherwise the last value (R204). -/
def State.timelineWord (s : State) (task i : Nat) : Word :=
  match s.threadOfTask task with
  | some h => (s.thr h).rtl i
  | none =>
    match s.saved.find? (fun p => decide (p.1 = task)) with
    | some p => p.2.thr.rtl i
    | none => tget (s.words task).tl i 0

/-- Counter `i` of a task counter block (R224). -/
def State.counterWord (s : State) (task i : Nat) : Word := toW (tget (s.words task).ctr i 0)

/-- Adds to a counter of a task (R224). -/
def State.count (s : State) (task i n : Nat) : State :=
  let w := s.words task
  s.setWords task { w with ctr := tput w.ctr i (tget w.ctr i 0 + n) }

/-- An aligned 8-byte read of a timeline word or a counter block by an owner (R205, R224, R435); none: the access fault. -/
def State.devRead (s : State) (o off n : Nat) : Option Word :=
  if n ≠ 8 ∨ off % 8 ≠ 0 ∨ 0xC000000 ≤ off then none
  else
    let task := if off < 0x8000000 then off / 128 else (off - 0x8000000) / 64
    if (s.words task).owner ≠ o then some 0
    else if off < 0x8000000 then some (s.timelineWord task (off % 128 / 8))
    else some (s.counterWord task (off % 64 / 8))

end Sys2Proof.Machine
end

