-- ==== Sys2Proof/Machine/Gallery.lean ====
section
/-! DEFINITION. Requests under way: the gallery's input buffers (R163), the packets of up to three lines that carry a range (R163, R167,
R419), the queues at the coherence points (R91, R101, R104, R115), and how a core posts an access (R6, R90, R164). -/

namespace Sys2Proof.Machine

/-- Bytes that a request covers. -/
def MemReq.size (r : MemReq) : Nat :=
  match r with
  | .read n => n
  | .write bs _ => bs.length
  | .amo _ w _ _ => w
  | .reduce _ _ bs _ => bs.length
  | .full _ n => n
  | .fill bs => bs.length
  | .empty n => n

/-! Buffers, entry pillars and injection -/

def bufKey (plane p port vc : Nat) : Nat := ((plane * 16 + p) * 5 + port) * 4 + vc
def portKey (plane p port : Nat) : Nat := (plane * 16 + p) * 5 + port
def State.buffer (s : State) (k : Nat) : List Flit := tget s.buffers k []
def State.setBuffer (s : State) (k : Nat) (l : List Flit) : State := { s with buffers := tset s.buffers k l [] }

/-- The pillar by which a port block exchanges packets with a column (R163), and its outward port there. -/
def blockPillar (blk col : Nat) : Nat :=
  let x := if blk % 2 = 0 then (if col = 0 then 0 else 1) else (if col = 3 then 3 else 2)
  if blk < 2 then x else 12 + x
def blockPort (blk : Nat) : Nat := if blk < 2 then 1 else 3

/-- Home pillar of a request (R95): the coherence point of its address. -/
def reqPillar (pa : Nat) : Nat :=
  match locOf pa with
  | .apert c _ => pillarOf c
  | _ => homePillar pa

/-- Puts a flit into an input buffer of 8 places, if there is room (R163). -/
def State.inject (s : State) (plane p port : Nat) (f : Flit) : Option State :=
  let k := bufKey plane p port f.vc
  if (s.buffer k).length < 8 then some (s.setBuffer k (s.buffer k ++ [f])) else none

/-- Bank of a scratchpad offset (R101). -/
def spadBank (g off : Nat) : Nat :=
  let l := Nat.log2 g
  (off / 16 % 2 ^ (6 + l)) ^^^ (off / 2 ^ (10 + l) % 2 ^ (6 + l))

/-- Key of a scratchpad bank's queue; requests that come while the core quiesces wait under a key of their own (R244). -/
def spadKeyOf (c bank : Nat) (held : Bool) : Nat := c * 256 + bank + cond held 65536 0

/-- A request reaches its coherence point's arbiter (R91, R104, R115); `held` says of which cores the landings are held back (R244). -/
def State.arriveAs (s : State) (p : Nat) (held : Nat → Bool) (q : BankReq) : State :=
  match locOf q.pa with
  | .near _ _ =>
    let (c, lane, bank) := s.bankOf q.pa
    let k := bankKey c lane bank
    s.setBank k { s.bank k with waiting := (s.bank k).waiting ++ [q] }
  | .apert c off =>
    let k := spadKeyOf c (spadBank (s.width c) off) (held c)
    { s with spadQueue := tput s.spadQueue k (tget s.spadQueue k [] ++ [q]) }
  | _ => { s with l2Queue := tput s.l2Queue p (tget s.l2Queue p [] ++ [q]) }

def State.arrive (s : State) (p input pa o : Nat) (r : MemReq) (reply : ReplyTo) : State :=
  s.arriveAs p (fun c => decide ((s.core c).gate = .quiescing))
    { input := input, pa := pa, owner := o, req := r, reply := reply, denied := 0, got := [], bad := false }

/-! Packets -/

/-- Bytes of a range at `a` that one packet carries: up to three whole lines of one home (R163, R167). -/
def packetRun (a n : Nat) : Nat :=
  let m := min n (192 - a % 64)
  let kind : Nat → Nat := fun x => match locOf x with
    | .near _ _ => 0
    | .main _ => 1
    | .apert c _ => 2 + c
    | _ => 300
  if reqPillar a = reqPillar (a + m - 1) ∧ kind a = kind (a + m - 1) then m else min n (64 - a % 64)

/-- Bytes from an address that one bank holds: of the near tier and of a scratchpad a granule, elsewhere a line (R91, R101, R115). -/
def bankRun (pa : Nat) : Nat :=
  match locOf pa with
  | .near _ _ | .apert _ _ => 16 - pa % 16
  | _ => 64 - pa % 64

/-- A request cut after the bytes of its first bank: that part, and the rest with its address. -/
def MemReq.cut (r : MemReq) (pa : Nat) : MemReq × Option (Nat × MemReq) :=
  let n := bankRun pa
  match r with
  | .read k => if k ≤ n then (r, none) else (.read n, some (pa + n, .read (k - n)))
  | .write bs mask =>
    if bs.length ≤ n then (r, none) else (.write (bs.take n) (mask % 2 ^ n), some (pa + n, .write (bs.drop n) (mask / 2 ^ n)))
  | .amo _ _ _ _ | .full _ _ | .fill _ => (r, none)
  | .empty k => if k ≤ n then (r, none) else (.empty n, some (pa + n, .empty (k - n)))
  | .reduce op e bs fresh =>
    let k := ceilDiv n e
    if bs.length ≤ k * e then (r, none)
    else (.reduce op e (bs.take (k * e)) (fresh % 2 ^ k), some (pa + k * e, .reduce op e (bs.drop (k * e)) (fresh / 2 ^ k)))

/-! Answers to a task that has ended -/

/-- The thread that an answer goes to, and its VC on the response plane (R164). -/
def ReplyTo.thread (r : ReplyTo) : Option (Nat × Nat) :=
  match r with
  | .scalar h | .line h _ _ | .vector h _ _ => some (h, 2)
  | .tile h _ _ | .bobbin h _ => some (h, 3)
  | .none | .ualink _ _ _ _ | .host _ _ | .gone _ _ => Option.none

def ReplyTo.drop (h : Nat) (r : ReplyTo) : ReplyTo :=
  match r.thread with
  | some (k, vc) => if k = h then .gone (coreOf h) vc else r
  | Option.none => r

def Payload.drop (h : Nat) (x : Payload) : Payload :=
  match x with
  | .req pa o r reply => .req pa o r (reply.drop h)
  | .resp pa reply st bs => .resp pa (reply.drop h) st bs

def dropReqs (h : Nat) (l : List BankReq) : List BankReq := l.map (fun q => { q with reply := q.reply.drop h })

/-- The thread that waits for an answer of another package. -/
def RemoteFrom.thread (r : RemoteFrom) : Option Nat :=
  match r with
  | .scalar h | .vector h _ _ | .bobbin h _ | .reduce h _ _ | .send h _ => some h
  | .update _ _ _ _ | .nobody => none

/-- A task ends: what it has injected performs, and its responses are discarded (R245). -/
def State.discard (s : State) (h : Nat) : State :=
  { s with
    buffers := s.buffers.map (fun b => (b.1, b.2.map (fun f => { f with load := f.load.drop h })))
    l2Queue := s.l2Queue.map (fun b => (b.1, dropReqs h b.2))
    spadQueue := s.spadQueue.map (fun b => (b.1, dropReqs h b.2))
    banks := s.banks.map (fun b => (b.1, { b.2 with waiting := dropReqs h b.2.waiting }))
    remotes := s.remotes.filter (fun x => !decide (x.2.src.thread = some h)) }

/-! Accesses of a core -/

/-- VCs of the request plane (R164). -/
def vcScalar : Nat := 0
def vcRelaxed : Nat := 1
def vcBulk : Nat := 3

/-- Whether a place lies in another package. -/
def Place.far (p : Place) : Bool :=
  match p with
  | .phys pa _ _ => (match locOf pa with
    | .remote _ _ => true
    | _ => false)
  | .spad _ => false

/-- Requests of a thread to other packages that are unanswered (R6): of its scalar stream, its vector instructions, its tile sends and its
bobbins. -/
def Thread.remoteOut (t : Thread) : Nat :=
  (match t.away with
    | some (_, p) => cond (p.far && t.remote.isNone) 1 0
    | none => 0) +
  t.viq.foldl (fun n e => n + e.sent) 0 + t.win.countP (fun e => decide (e.send = .sent)) +
  t.bob.foldl (fun n b => b.2.queue.foldl (fun n q => q.sent.foldl (fun n p => n + p.out)
    (n + cond (decide (q.io = some .remoteRead) || decide (q.io = some .remoteWrite)) 1 0)) n) 0

/-- Whether a core may send `n` requests more to other packages (R6). -/
def State.farRoom (s : State) (c n : Nat) : Bool :=
  decide ((threadsOf c).foldl (fun m h => m + (s.thr h).remoteOut) n ≤ 1024 * s.width c)

/-- The UALink ports that are up: none until the package number is set (R434), and none that has failed (R436). -/
def State.linksUp (s : State) : List Nat :=
  if s.pkgNum.isNone then [] else (List.range 24).filter (fun p => !shas s.linksDown p)

/-- Sends a request to another package by a port that is up, and notes who waits for its answer; none where no port is up: the request is
answered with an error at once (R434, R436). Which port it takes is a free value. -/
def State.askRemote (s : State) (src : RemoteFrom) (m : Nat → OutMsg) : Option State :=
  match s.linksUp with
  | [] => none
  | p :: r =>
    some { s with remotes := tput s.remotes s.remoteNext { src := src, port := (p :: r).getD (Config.linkOf s.remoteNext % 24 % (r.length + 1)) p }
                  remoteNext := s.remoteNext + 1, outbox := s.outbox ++ [m s.remoteNext] }

/-- The answer to a request has come. -/
def State.remoteDone (s : State) (src : RemoteFrom) : State :=
  match s.remotes.find? (fun x => decide (x.2.src = src)) with
  | some x => { s with remotes := tdel s.remotes x.1 }
  | none => s

/-- A read over UALink covers whole lines: 64, 128 or 256 bytes, aligned to their size, around `n` bytes at `a` (R433). -/
def ualinkRead (a n : Nat) : Nat × Nat :=
  if a % 64 + n ≤ 64 then (a / 64 * 64, 64) else if a % 128 + n ≤ 128 then (a / 128 * 128, 128) else (a / 256 * 256, 256)

/-- The bytes asked for, of those that such a read returns. -/
def ualinkBytes (a n v : Nat) : List Byte := ((natLe (ualinkRead a n).2 v).drop (a - (ualinkRead a n).1)).take n

/-- The slots of sender package `p` and thread `h` in the request and landing windows of a target (R435). -/
def requestSlot (p h : Nat) : Nat := 0x1A000000000 + (1024 * p + h) * 0x10000
def landingSlot (p h : Nat) : Nat := 0x1B000000000 + (1024 * p + h) * 0x20000

/-- Whether a request of a core may go out beside those that are unanswered (R6). -/
def State.mayPost (s : State) (c pa : Nat) : Bool :=
  match locOf pa with
  | .near _ _ => decide ((s.core c).nearOut < 1536 * s.width c)
  | .main _ => decide ((s.core c).mainOut < 2048 * s.width c)
  | .remote _ _ => s.farRoom c 1
  | _ => true

/-- Counts a request of a core that goes out, or the answer to one. -/
def State.posted (s : State) (c pa : Nat) (back : Bool) : State :=
  let k := s.core c
  let f := fun (n : Nat) => if back then n - 1 else n + 1
  match locOf pa with
  | .near _ _ => s.setCore c { k with nearOut := f k.nearOut }
  | .main _ => s.setCore c { k with mainOut := f k.mainOut }
  | _ => s

/-- An access of a core goes out: to a bank of its own scratchpad under its class (R104), to a bank above which it stands through the
shaft (R87), or into the gallery at the local input of its pillar's router (R90, R163, R420); none while there is no room. -/
def State.post (s : State) (c vc o cls : Nat) (shaft : Bool) (p : Place) (r : MemReq) (reply : ReplyTo) : Option State :=
  match p with
  | .spad off => some (s.arrive (pillarOf c) cls (0x10000000000 + c * 2 ^ 24 + off) o r reply)
  | .phys pa _ _ =>
    if !s.mayPost c pa then none
    else if shaft then some ((s.arrive (pillarOf c) 5 pa o r reply).posted c pa false)
    else (s.inject 0 (pillarOf c) 0 { dest := reqPillar pa, exit := 0, vc := vc, age := 0, load := .req pa o r reply }).map
      fun s => s.posted c pa false

end Sys2Proof.Machine
end

