-- ==== Sys2Proof/Machine/Queue.lean ====
section
/-! DEFINITION. What the schedulers and record writers share: accesses under an owner's translations (R24, R148), queue
descriptors (R148), event records (R153), interrupts and the error log (R432), fault records (R185), trace records (R220), and
the completion update of a node (R23). -/

namespace Sys2Proof.Machine

/-! Accesses through the scheduler TLB -/

/-- Outcome of an access: the bytes read and the state, or a cause code. -/
inductive SRes where
  | ok (s : State) (bs : List Byte)
  | err (s : State) (code : Nat)

def remoteBytes (tick pa n : Nat) : Option (List Byte) :=
  ((List.range n).mapM (fun i => Config.remoteByte tick (pa + i)))

/-- A read of `n` bytes by a scheduler (R24, R148). One that meets a closed bank (R94), or a walk that cannot go on, holds the whole turn:
`State.turn` takes it back. The scratchpad window holds no byte for a scheduler: an access fault (DESIGN CHOICE, log 18). -/
def State.schedRead (s : State) (owner va n : Nat) : SRes :=
  match s.translate none owner .sload va n with
  | .err s e => .err s e.code
  | .miss _ => .ok { s with stalled := true } (List.replicate n 0)
  | .ok s (.spad _) => .err s 5
  | .ok s (.phys pa _ _) =>
    match locOf pa with
    | .near _ _ => .ok (s.holdAt pa) (s.dramRead owner pa n)
    | .main _ => .ok (s.l2Touch pa owner false) (s.dramRead owner pa n)
    | .dev off =>
      match s.devRead owner off n with
      | some w => .ok s (natLe 8 w.toNat)
      | none => .err s 5
    | .remote _ _ =>
      match (if s.linksUp.isEmpty then none else remoteBytes s.tick pa n) with
      | some bs => .ok s bs
      | none => .err s 13
    | _ => .err s 5

/-- A write by a scheduler; the scratchpad window as `State.schedRead` says (DESIGN CHOICE, log 18). -/
def State.schedWrite (s : State) (owner va : Nat) (bs : List Byte) : SRes :=
  match s.translate none owner .sstore va bs.length with
  | .err s e => .err s e.code
  | .miss _ => .ok { s with stalled := true } []
  | .ok s (.spad _) => .err s 5
  | .ok s (.phys pa _ _) =>
    match locOf pa with
    | .near _ _ => .ok ((s.holdAt pa).dramWrite owner pa bs) []
    | .main _ => .ok (s.dramWrite owner pa bs) []
    | .remote p la =>
      match (if s.linksUp.isEmpty then none else Config.remoteByte s.tick pa) with
      | some _ => .ok { s with outbox := s.outbox ++ [.write p la owner bs] } []
      | none => .err s 13
    | _ => .err s 5

/-- Writes into physical memory of the tiers under owner 0 (R111): descriptors, fault ring, error log. -/
def State.sysWrite (s : State) (pa : Nat) (bs : List Byte) : State := (s.holdAt pa).dramWrite 0 pa bs

/-! User queue descriptors -/

def State.descAddr (s : State) (q : Nat) : Nat := s.queueBase.getD 0 + 64 * q
def State.qRead (s : State) (q off n : Nat) : Nat := leNat (s.dramRead 0 (s.descAddr q + off) n)
/-- The descriptor is read at its coherence point: its line is in the L2 (R96), and a closed bank holds the turn (R94). -/
def State.qTouch (s : State) (q : Nat) : State := (s.holdAt (s.descAddr q)).l2Touch (s.descAddr q) 0 false
def State.qWrite (s : State) (q off n v : Nat) : State := s.sysWrite (s.descAddr q + off) (natLe n v)

/-- CTL and its fields. -/
def State.qCtl (s : State) (q : Nat) : Nat := s.qRead q 0x28 4
def ctlEn (c : Nat) : Bool := c.testBit 0
def ctlPrio (c : Nat) : Nat := c / 2 % 8
def ctlWeight (c : Nat) : Nat := if c / 16 % 16 = 0 then 1 else c / 16 % 16
def ctlLogsz (c : Nat) : Nat := c / 256 % 32
def ctlEvlog (c : Nat) : Nat := c / 8192 % 32
def ctlPart (c : Nat) : Nat := c / 2 ^ 18 % 64
def ctlMapped (c : Nat) : Bool := c.testBit 24
def ctlExp (c : Nat) : Bool := c.testBit 25
def State.qCtlBit (s : State) (q bit : Nat) (b : Bool) : State := s.qWrite q 0x28 4 (setBit (s.qCtl q) bit b)

/-- The hardware slot that a queue holds. -/
def State.slotOf (s : State) (q : Nat) : Option Nat := (s.slots.find? (fun p => decide (p.2.queue = q))).map (·.1)

/-- The 32 bytes of an event record (R153). -/
def State.eventBytes (s : State) (q kind cause node data : Nat) : List Byte :=
  natLe 8 s.gtime ++ natLe 2 kind ++ natLe 2 cause ++ natLe 1 ((s.slotOf q).getD 0xFF) ++ natLe 1 (ctlPart (s.qCtl q)) ++
  natLe 2 0 ++ natLe 8 node ++ natLe 8 data

/-- Writes an event record, or counts it as lost (R153). -/
def State.queueEvent (s : State) (q kind cause node data : Nat) : State :=
  let s := s.qTouch q
  let ctl := s.qCtl q
  let tail := s.qRead q 0x30 8
  let lost := fun (s : State) => s.qWrite q 0x2E 2 (min 65535 (s.qRead q 0x2E 2 + 1))
  if (tail + 2 ^ 64 - s.qRead q 0x38 8) % 2 ^ 64 = 2 ^ ctlEvlog ctl then lost s
  else
    match s.schedWrite (s.part (ctlPart ctl)).owner (s.qRead q 0x10 8 + 32 * (tail % 2 ^ ctlEvlog ctl))
        (s.eventBytes q kind cause node data) with
    | .ok s _ => s.qWrite q 0x30 8 ((tail + 1) % 2 ^ 64)
    | .err s _ => lost s

/-! Ehrez packets of the device, interrupts, error log -/

/-- Sends a packet on a connection; it stays until it is acknowledged (R427). -/
def State.sendPacket (s : State) (c type addr status : Nat) (data : List Byte) : State :=
  let k := s.conn c
  let pkt : EhrezPacket := { ver := 1, type := type, conn := c, seq := k.nextSeq, ack := k.expect, len := data.length
                             addr := addr, status := status, rsvd := 0, data := data }
  s.setConn c { k with nextSeq := (k.nextSeq + 1) % 2 ^ 32, outq := k.outq ++ [{ pkt := pkt, sends := 1, since := s.gtime }] }

/-- An interrupt on the service connection with its 64-byte record (R432). -/
def State.interrupt (s : State) (bs : List Byte) : State :=
  if (s.conn 0).opened then s.sendPacket 0 6 0 0 (bs ++ List.replicate (64 - bs.length) 0) else s

/-- Kinds of the error log, numbered from 1 in the order of R432 (DESIGN CHOICE, log 100). -/
def logCorrected : Nat := 1
def logMasked : Nat := 2
def logUncorrectable : Nat := 3
def logOffline : Nat := 4
def logLink : Nat := 5
def logThermal : Nat := 6

/-- The 32 bytes of an error-log record: GTIME, kind and location, at places that no rule states (DESIGN CHOICE, log 100). -/
def State.logBytes (s : State) (kind loc : Nat) : List Byte := natLe 8 s.gtime ++ natLe 8 kind ++ natLe 16 loc

/-- Writes an error-log record; one that finds the ring full is counted as lost (R432). -/
def State.errorRecord (s : State) (kind loc : Nat) : State :=
  match s.errorLog with
  | none => s
  | some r =>
    if r.prod - r.cons = 2 ^ r.n then { s with errorLog := some { r with lost := r.lost + 1 } }
    else { s.sysWrite (r.base + 32 * (r.prod % 2 ^ r.n)) (s.logBytes kind loc) with errorLog := some { r with prod := r.prod + 1 } }

/-! Fault records -/

def FaultRec.bytes (f : FaultRec) : List Byte :=
  natLe 8 f.time ++ natLe 8 f.va ++ natLe 8 f.stride ++ natLe 8 f.remain ++ natLe 4 f.task ++ natLe 2 f.thread ++
  natLe 1 f.owner ++ natLe 1 f.kind ++ natLe 2 f.cause ++ natLe 1 f.level ++ natLe 1 f.bobbin ++ natLe 4 f.index ++
  natLe 8 f.entry ++ natLe 8 0

/-- The record of a trap of a thread (R185), with the time at which the trap was detected (R219). For a cause without a virtual address VA
is TVAL, and LEVEL and ENTRY are 0 (DESIGN CHOICE, log 94). -/
def State.faultRec (s : State) (h : Nat) (p : Pend) : FaultRec :=
  -- a bobbin has stopped at its watermark when its trap is entered (R211, R413)
  let moved := if p.src = 3 then tlCount ((s.thr h).rwm p.cmd) - p.index else 0
  { time := p.time.getD s.gtime, va := p.tval.toNat, stride := p.stride, remain := p.remain - moved, task := (s.thr h).taskid, thread := h
    owner := (s.thr h).owner, kind := p.kind, cause := p.code, level := p.level, bobbin := if p.src = 3 then p.cmd else 0
    index := p.index + moved, entry := p.entry }

/-- Moves the oldest waiting fault into the ring if a record is free; the producer count follows the write (R185). -/
def State.writeFault (s : State) : State :=
  match s.faultRing, s.faultWait with
  | some r, f :: rest =>
    if r.prod - r.cons = 2 ^ r.n then s
    else { s.sysWrite (r.base + 64 * (r.prod % 2 ^ r.n)) f.bytes with
           faultRing := some { r with prod := r.prod + 1 }, faultWait := rest }
  | _, _ => s

/-! Trace records -/

/-- The 32 bytes of a trace record (R220). -/
def State.traceBytes (s : State) (kind ctx thread task value : Nat) : List Byte :=
  natLe 8 s.gtime ++ natLe 4 s.traceSeq ++ natLe 1 kind ++ natLe 1 ctx ++ natLe 2 thread ++ natLe 4 task ++
  natLe 2 (s.pkgNum.getD 0) ++ natLe 1 (if s.locked then 1 else 0) ++ natLe 1 0 ++ natLe 8 value

/-- Writes a trace record of a partition's ring when its kind is set in the mask (R220). SEQ advances with each record that is written, not
with one that is dropped (DESIGN CHOICE, log 82). -/
def State.traceRec (s : State) (part kind ctx thread task value : Nat) : State :=
  match tfind s.traceRings part with
  | none => s
  | some r =>
    if !r.mask.testBit kind then s
    else
      let lost := fun (s : State) => { s with traceRings := tput s.traceRings part { r with lost := min (2 ^ 32 - 1) (r.lost + 1) } }
      if r.prod - r.cons = 2 ^ r.n then lost s
      else
        match s.schedWrite (s.part part).owner (r.base + 32 * (r.prod % 2 ^ r.n)) (s.traceBytes kind ctx thread task value) with
        | .ok s _ => { s with traceRings := tput s.traceRings part { r with prod := r.prod + 1 }
                              traceSeq := (s.traceSeq + 1) % 2 ^ 32 }
        | .err s _ => lost s

/-- A trace record of a thread (R220). -/
def State.trace (s : State) (h kind ctx value : Nat) : State :=
  if s.traceRings.isEmpty then s
  else s.traceRec (s.thr h).info.part kind ctx h (s.thr h).taskid value

/-- A trace record of KIND 9 in every ring (R220). -/
def State.traceClock (s : State) : State := s.traceRings.foldl (fun s r => s.traceRec r.1 9 0xFF 0 0 0) s

/-- System software is told that the package is locked or no longer is (R218), by an interrupt whose record is a trace record of KIND 9, which
carries LOCK, padded with zeros (DESIGN CHOICE, log 104). -/
def State.reportLock (s : State) : State := s.interrupt (s.traceBytes 9 0xFF 0 0 0)

/-- Advances a timeline of a thread (R74, R202), with its trace record. `ctx` codes: 0 vector, 1 tile, 2 + n bobbin. -/
def State.advance (s : State) (h i n : Nat) (err : Bool) : State :=
  let t := (s.thr h).advance i n err
  if t.rtl i = (s.thr h).rtl i then s else (s.setThr h t).trace h 1 (if i < 10 then i else 10) (t.rtl i).toNat

/-! Completion of a node -/

/-- The value of the completion word after the update (R23): the larger count, and the error flag set or kept. -/
def completionValue (old val : Nat) (err : Bool) : Nat :=
  max (old % 2 ^ 63) (val % 2 ^ 63) + (if err || old.testBit 63 then 2 ^ 63 else 0)

/-- The atomic update of the word at DONETL; a fault becomes an event record of KIND 5 (R23, R24), one that another package reports with its
answer too. -/
def State.completeNode (s : State) (r : NodeRun) : State :=
  if r.donetl = 0 ∨ r.donetl % 8 ≠ 0 then s
  else
    let owner := (s.part r.part).owner
    let refuse := fun (s : State) (c : Nat) => s.queueEvent r.queue 5 c r.node r.donetl
    match s.translate none owner .satomic r.donetl 8 with
    | .err s e => refuse s e.code
    | .miss _ => { s with stalled := true }
    | .ok s (.spad _) => refuse s 5
    | .ok s' (.phys pa _ pac) =>
      if !pacHas pac 11 then refuse s' 11
      else match locOf pa with
        | .remote p la =>
          (match s'.askRemote (.update r.part r.queue r.node r.donetl) (fun tag =>
              .access tag p la 8 100 (r.doneval % 2 ^ 63 + (if r.err || r.failed then 2 ^ 63 else 0))) with
          | some s' => s'
          | none => refuse s' 13)
        | _ => (s'.holdAt pa).dramWrite owner pa (natLe 8 (completionValue (leNat (s'.dramRead owner pa 8)) r.doneval (r.err || r.failed)))

/-- Removes a node whose replicas have all been placed, or that failed, once none is live (R23). -/
def State.settleRun (s : State) (id : Nat) : State :=
  match tfind s.runs id with
  | none => s
  | some r =>
    if r.live = 0 ∧ (r.failed = true ∨ r.repln ≤ r.started) then { s.completeNode r with runs := tdel s.runs id } else s

/-- One replica of a node ends (R23, R34). -/
def State.replicaEnds (s : State) (id : Nat) (err : Bool) : State :=
  match tfind s.runs id with
  | none => s
  | some r => { s with runs := tput s.runs id { r with live := r.live - 1, err := r.err || err } }.settleRun id

end Sys2Proof.Machine
end

