-- ==== Sys2Proof/Machine/VReg.lean ====
section
/-! DEFINITION. Vector register storage: elements of register groups (R64, R109, R239), poisoned words (R240), masks (R65), and
the addresses of vector memory elements (R348, R351). -/

namespace Sys2Proof.Machine

/-- MVL of a VCFG under a grant (R26, R78's table). -/
def mvlOf (g sew nreg : Nat) : Nat := g * 16384 / (2 ^ (3 + nreg) * 2 ^ sew)

/-- Bytes of one v register (R64). -/
def Thread.regBytes (t : Thread) (nreg : Nat) : Nat := t.vgrant * 16384 / 2 ^ (3 + nreg)

/-- Storage key of byte `o` of the group that begins at register `r`. -/
def Thread.vKey (t : Thread) (nreg r o : Nat) : Nat := (r + o / t.regBytes nreg) * 2 ^ 20 + o % t.regBytes nreg

/-- Unit of the grant that holds byte `o` of a group's bytes: a unit holds as many bytes of every register, so that a grant that grows adds
units to the end of each (DESIGN CHOICE, log 76). -/
def Thread.unitAt (t : Thread) (nreg o : Nat) : Nat := o % t.regBytes nreg / (16384 / 2 ^ (3 + nreg))

/-- The clean mark of a unit of the grant (R109): nothing has been written to it since it was granted. -/
def Thread.clean (t : Thread) (u : Nat) : Bool := !shas t.wrote u

def readV (v : Table Byte) (k : Nat) (n : Nat) : Nat :=
  match n with
  | 0 => 0
  | m + 1 => (tget v k 0).toNat + 256 * readV v (k + 1) m

def writeV (v : Table Byte) (k : Nat) (n x : Nat) : Table Byte :=
  match n with
  | 0 => v
  | m + 1 => writeV (tset v k (BitVec.ofNat 8 x) 0) (k + 1) m (x / 256)

/-- Element `i` of `w` bytes of a group; a byte never written reads 0 (R27, R109). -/
def Thread.vGet (t : Thread) (nreg r w i : Nat) : Nat := readV t.v (t.vKey nreg r (i * w)) w

def Thread.vPut (t : Thread) (nreg r w i x : Nat) : Thread :=
  { t with v := writeV t.v (t.vKey nreg r (i * w)) w x, wrote := sadd t.wrote (t.unitAt nreg (i * w)) }

/-- Whether every word of the v registers can be read. -/
def Thread.vSound (t : Thread) : Bool := t.vpoison.isEmpty && t.verr.isEmpty

/-- Whether the word of an element is poisoned, or has an uncorrectable error (R240). -/
def Thread.vBad (t : Thread) (nreg r w i : Nat) : Bool :=
  !t.vSound && (shas t.vpoison (t.vKey nreg r (i * w) / 8) || shas t.verr (t.vKey nreg r (i * w) / 8))

/-- Words whose elements the range [lo, hi) writes whole lose their poison, and their error (R240); elements of `w` bytes, or nibbles where `w`
is 0. -/
def Thread.vHeal (t : Thread) (nreg r w lo hi : Nat) (act : Nat → Bool) : Thread :=
  if t.vSound then t
  else
    let per := if w = 0 then 16 else 8 / w
    let whole := (List.range (hi / per + 1)).filter (fun j =>
      decide (lo ≤ j * per) && decide (j * per + per ≤ hi) && (List.range per).all (fun x => act (j * per + x)))
    let keep := fun (p : Nat) => !whole.any (fun j => decide (t.vKey nreg r (j * 8) / 8 = p))
    { t with vpoison := t.vpoison.filter keep, verr := t.verr.filter keep }

/-- Every element of every register becomes 0 (R64). -/
def Thread.vClear (t : Thread) : Thread := { t with v := [], vpoison := [], verr := [] }

/-- Mask bits at and above a bound read 0 (R65). -/
def Thread.kTrim (t : Thread) (bound : Nat) : Thread := { t with k := t.k.map (fun p => (p.1, p.2 % 2 ^ bound)) }

/-- The target of BAR.WAIT: v rounded up to a multiple of REPLN (R366). -/
def Thread.barTarget (t : Thread) (v : Word) : Nat := ceilDiv v.toNat t.repln * t.repln

/-- Activity of element `i` under a mask field (R316). -/
def Thread.active (t : Thread) (k i : Nat) : Bool := t.rk k i

/-- A group of registers: first number, count, element bytes. -/
structure VGrp where
  r : Nat
  n : Nat
  w : Nat
  deriving DecidableEq, Repr

/-- A group begins at a multiple of its count and lies below the register count (R64, R318). -/
def VGrp.fits (c : Nat) (g : VGrp) : Bool := decide (g.r % g.n = 0) && decide (g.r + g.n ≤ c)
def VGrp.apart (a b : VGrp) : Bool := decide (a.r + a.n ≤ b.r) || decide (b.r + b.n ≤ a.r)
/-- The overlap rule of R239; `strict` asks for disjoint groups. -/
def VGrp.pairOk (strict : Bool) (d s : VGrp) : Bool := d.apart s || (!strict && decide (d = s))

/-! Element addresses -/

/-- ea(i) of R351; index elements are read when the instruction executes. -/
def Thread.eaOf (t : Thread) (nreg : Nat) (m : VMem) (i : Nat) : Nat :=
  match m.idx with
  | some (r, iw) => (m.base.toNat + t.vGet nreg r iw i) % 2 ^ 64
  | none => wrap 64 ((m.base.toNat : Int) + i * wInt m.stride)

/-- The scratchpad granule that an address names. -/
def granuleOf (a : Nat) : Nat := (a - 0x00FFFF0000000000) / 16

/-- Sets the bits of the granules that elements [filled, hi) of a store with .fill have written (R359). -/
def State.fillWritten (s : State) (h : Nat) (e : VEntry) (hi : Nat) : State :=
  match e.op with
  | .mem m =>
    match m.kind, m.fe with
    | .store, 3 =>
      forUp e.filled (hi - e.filled) (fun i s =>
        if (s.thr h).active e.k i then
          s.fillGranule (s.thr h).owner (coreOf h) ((s.thr h).eaOf e.nreg m i - 0x00FFFF0000000000)
        else s) s
    | _, _ => s
  | _ => s

end Sys2Proof.Machine
end

