-- ==== Sys2Proof/Machine/Task.lean ====
section
/-! DEFINITION. The life of a task: stopping (R30, R71), saving (R248), release (R33), ending in error (R34, R245), and the
power and VRF sums that placement reads (R26, R439). -/

namespace Sys2Proof.Machine

/-! Tiles of a context on its core -/

/-- Backing address of architectural tile `t` (R108). -/
def tileBacking (g mapb t : Nat) : Nat := mapb * 2 ^ 23 + t * (16384 * g)

/-- A physical tile that carries a context's tag (R187). -/
def PTile.ofContext (p : PTile) (owner mapb : Nat) : Bool :=
  p.used && decide (p.owner = owner) && decide (p.mapb = mapb)

/-- The 64-bit words of a tile that cannot be read: those with an uncorrectable error, or all of a poisoned tile (R187, R240). -/
def PTile.badWords (p : PTile) (g : Nat) : List Nat := if p.poison then List.range (2048 * g) else p.bad

/-- Writes a tile's rows to its backing (R188). A word that cannot be read is uncorrectable there too (DESIGN CHOICE, log 78). -/
def State.spillTile (s : State) (g : Nat) (p : PTile) : State :=
  let a := tileBacking g p.mapb p.tile
  let s := (s.holdRange a (16384 * g)).dramWrite p.owner a ((List.range (16384 * g)).map (fun i => tget p.rows i 0))
  { s with badWords := (p.badWords g).foldl (fun l i => sadd l (a / 8 + i)) s.badWords }

/-- Spills a dirty physical tile and frees it (R188). The counter of R224 goes to the task that holds the area. -/
def State.evictTile (s : State) (c pt : Nat) : State :=
  match tfind (s.core c).tiles pt with
  | none => s
  | some p =>
    let task := ((s.threads.find? (fun x => !decide (x.2.slot = .free) && decide (x.2.owner = p.owner) &&
      decide (x.2.mapb = p.mapb))).map (fun x => x.2.taskid)).orElse (fun _ =>
      (s.saved.find? (fun x => decide (x.2.thr.owner = p.owner) && decide (x.2.thr.mapb = p.mapb))).map (·.1))
    let s := if p.used && p.dirty then
        let s := s.spillTile (s.width c) p
        match task with
        | some k => s.count k 6 1
        | none => s
      else s
    { s with
      cores := tput s.cores c { s.core c with tiles := tdel (s.core c).tiles pt }
      threads := s.threads.map (fun x =>
        if decide (coreOf x.1 = c) && !decide (x.2.slot = .free) && decide (x.2.owner = p.owner) && decide (x.2.mapb = p.mapb) then
          (x.1, { x.2 with prick := x.2.prick.map (fun e =>
            if e.1 = p.tile ∧ e.2.res = true ∧ e.2.ptile = pt then (e.1, { e.2 with res := false, dirty := false }) else e) })
        else x) }

/-- Spills and frees every physical tile of a core (R195, R244, R247). -/
def State.evictAll (s : State) (c : Nat) : State := ((s.core c).tiles.map (·.1)).foldl (fun s pt => s.evictTile c pt) s

/-- Frees without a spill every physical tile of a released area (R191). -/
def State.freeContextTiles (s : State) (owner mapb : Nat) : State :=
  { s with cores := s.cores.map (fun c => (c.1, { c.2 with tiles := c.2.tiles.filter (fun p => !(p.2.ofContext owner mapb)) })) }

/-- Frees physical tiles of a core. -/
def State.freeTiles (s : State) (c : Nat) (pts : List Nat) : State :=
  pts.foldl (fun s pt => s.setCore c { s.core c with tiles := tdel (s.core c).tiles pt }) s

/-! Pins of vector memory instructions -/

/-- Releases the pins of the holders that `p` describes; doomed entries that nothing pins leave (R182). -/
def Tlb.unpin (t : Tlb) (p : Nat × Nat → Bool) : Tlb :=
  let es := t.entries.map (fun e => { e with pins := e.pins.filter (fun x => !p x) })
  { t with entries := es.filter (fun e => !(e.doomed && e.pins.isEmpty)) }

/-- Releases every pin that a thread holds in its core TLB. -/
def State.unpin (s : State) (h : Nat) : State :=
  let c := coreOf h
  s.setCore c { s.core c with tlb := (s.core c).tlb.unpin (fun x => decide (x.1 = h)) }

/-- Releases the pins of one instruction (R179). -/
def State.unpinCmd (s : State) (h cmd : Nat) : State :=
  let c := coreOf h
  s.setCore c { s.core c with tlb := (s.core c).tlb.unpin (fun x => decide (x = (h, cmd))) }

/-! Stopping -/

/-- A tile entry abandoned at a stop; a send that has been acknowledged stays complete (R71, R131). -/
def TEntry.abandon (e : TEntry) : TEntry :=
  match e.send with
  | .landed => e
  | _ => { e with issued := false, complete := false, dst := [], send := .unsent, flags := 0, asked := [], came := [], places := [], got := [] }

/-- A bobbin stops at its watermark: source bytes of elements still to land are read again, and elements of a CPYRED that have landed
beyond it do not land twice (R30, R211). -/
def BCmd.stop (c : BCmd) : BCmd := { c with sent := [], got := [], io := none }

/-- A vector entry at a stop: it probes again when it resumes (R179), at the start of a group; elements that have performed beyond it do not
perform again (R131, R237). A packet whose answer is still to come is sent again. -/
def VEntry.stop (e : VEntry) : VEntry :=
  let first := if e.sect.isSome then e.start / e.grp * e.grp else e.start
  { e with sect := none, sent := 0, start := first, past := (List.range (e.start - first)).foldl (fun l i => sadd l (first + i)) e.past
           remoteTo := if e.sent = 0 then e.remoteTo else 0 }

/-- Whether issued elements of an entry have not performed (R94, R237). -/
def VEntry.late (e : VEntry) : Bool :=
  match e.sect with
  | some x => !x.late.isEmpty
  | none => false

/-- Whether an answer to the vector stream, to a tile access or to a tile send is still to come, or an issued element still to perform:
the streams stop only when it has (R94, R237, R384). -/
def Thread.outstanding (t : Thread) : Bool :=
  t.viq.any (fun e => decide (e.sent ≠ 0) || e.late) || t.win.any (fun e => decide (e.send = .sent) || decide (e.asked ≠ e.came))

/-- Whether the streams of a thread are being stopped: for a pre-emption that has been asked for, or for a trap or a YIELD that pre-empts.
They issue nothing more, and what they have issued performs (R71, R237). -/
def Thread.stopping (t : Thread) : Bool := t.stopReq.isSome || decide (t.wait = .stop)

/-- The registers of a thread as a stop leaves them (R30, R71, R231): the event flag is not saved (R310). -/
def Thread.stop (t : Thread) : Thread :=
  { t with
    viq := t.viq.map VEntry.stop
    win := t.win.map TEntry.abandon
    bob := t.bob.map (fun b => (b.1, { b.2 with queue := b.2.queue.map BCmd.stop }))
    wait := .none, remote := none, away := none, shoot := none, event := false, wfeSince := none, stopReq := none }

/-- A stopped store with .fill sets the bits of the granules that its performed elements have written (R359). -/
def State.fillStopped (s : State) (h : Nat) : State :=
  match (s.thr h).viq with
  | [] => s
  | e :: _ =>
    let s := s.fillWritten h e e.start
    s.setThr h { s.thr h with viq := (s.thr h).viq.map (fun x => if x.cmd = e.cmd then { x with filled := max x.filled x.start } else x) }

/-- The MTOVs of a thread after the renamed tiles `gone` have been freed: those that read one of them wait for its producer to
restart (R71). -/
def Thread.unfix (t : Thread) (gone : List Nat) : Thread :=
  { t with viq := t.viq.map (fun e => match e.op with
      | .mtov d a r (some (.phys pt)) => if shas gone pt then { e with op := .mtov d a r none } else e
      | _ => e) }

/-- A stopped MTOV whose tile was fixed keeps the row that it reads (R377). -/
def Thread.keepRows (t : Thread) (tiles : Table PTile) : Thread :=
  { t with viq := t.viq.map (fun e => match e.op with
      | .mtov d a r (some (.phys pt)) =>
        (match tfind tiles pt with
          | some p => { e with op := .mtov d a r (some (.row ((p.rows.filter (fun b => decide (b.1 / (256 * t.gang) = r))).map
              (fun b => (b.1 % (256 * t.gang), b.2))))) }
          | none => { e with op := .mtov d a r none })
      | _ => e) }

/-- Stops the streams of a thread: renamed destinations are freed, fills in progress too, pins released (R30, R71). -/
def State.stopStreams (s : State) (h : Nat) : State :=
  let s := s.fillStopped h
  let t := s.thr h
  let c := coreOf h
  let renamed := t.win.foldl (fun l e => l ++ (match e.send with
    | .landed => []
    | _ => e.dst.map (·.2))) []
  let s := (s.freeTiles c renamed).unpin h
  let k := s.core c
  let fills := (k.tiles.filter (fun p => p.2.filling && p.2.ofContext t.owner t.mapb)).map (·.1)
  let s := s.setCore c { k with tiles := k.tiles.filter (fun p => !(p.2.filling && p.2.ofContext t.owner t.mapb)) }
  s.setThr h ((t.unfix (renamed ++ fills)).keepRows k.tiles).stop

/-- Bobbins frozen by traps that have been entered resume at their watermarks (R211, R233). -/
def Thread.resumeBobbins (t : Thread) : Thread :=
  { t with bob := t.bob.map (fun b =>
      if b.2.stat.state = 2 ∧ !(t.pend.any (fun p => decide (p.src = 3) && decide (p.cmd = b.1))) then
        (b.1, { b.2 with stat := { b.2.stat with state := 1 } })
      else b) }

/-! Saving -/

/-- The sections that a KF-192 writes, at SVER 1 and with REQ = 1 (R249); no rule states how many bytes the items of one take, but the v
registers of a grant of `grant` units take 16 KiB each, and all of them fit in the save area (R248). -/
def newSections (tick grant : Nat) : List Section :=
  [1, 2, 3, 4, 5, 6].map (fun k =>
    { type := k, sver := 1, req := true, len := 64 * (1 + Config.sectionLen tick k % 1024) + (if k = 2 then 16384 * grant else 0) })

/-- The sections of a container: the REPAIR section stands last, while it lists an item (R241, R249). -/
def Saved.sections (v : Saved) : List Section :=
  v.secs ++ (if v.repair.isEmpty then [] else
    [{ type := 7, sver := 1, req := true, len := 64 * (1 + Config.sectionLen v.repair.length 7 % 1024) }])

/-- LEN of a container (R248). -/
def Saved.len (v : Saved) : Nat := v.sections.foldl (fun n x => n + x.len) 64

/-- FLAGS of a container (R248): REPAIR, COHORT, YIELD. -/
def Saved.flags (v : Saved) : Nat := cond v.repair.isEmpty 0 1 + cond v.thr.withCohort 2 0 + cond v.thr.yielded 4 0

/-- The 64 bytes of a container's header (R248). -/
def Saved.header (v : Saved) : List Byte :=
  natLe 4 v.magic ++ natLe 2 v.cver ++ natLe 1 v.rev ++ natLe 1 v.step ++ natLe 8 v.feat ++ natLe 4 v.len ++
  natLe 2 v.sections.length ++ natLe 1 v.gang ++ natLe 1 v.flags ++ natLe 4 v.thr.taskid ++ natLe 1 v.thr.owner ++ natLe 3 0 ++
  natLe 8 v.gtime ++ natLe 8 v.thr.nodeid.toNat ++ natLe 16 0

/-- The 8 bytes of a section's header (R248). -/
def Section.header (x : Section) : List Byte := natLe 8 (2 ^ 32 * x.len + 2 ^ 31 * cond x.req 1 0 + 2 ^ 8 * x.sver + x.type)

/-- Writes section headers from an address on. -/
def State.putSections (s : State) (o a : Nat) (l : List Section) : State :=
  match l with
  | [] => s
  | x :: r => (s.dramWrite o a x.header).putSections o (a + x.len) r

/-- Writes a task's container into its save area, under the owner's key (R248). How the items of a section are laid out is not stated:
their bytes are free values. -/
def State.putContainer (s : State) (task : Nat) : State :=
  match tfind s.saved task with
  | none => s
  | some v =>
    let a := v.thr.info.save
    let s := { s with mem := s.mem.filter (fun x => !(decide (a ≤ x.1) && decide (x.1 < a + v.len))) }
    (s.dramWrite v.thr.owner a v.header).putSections v.thr.owner (a + 64) v.sections

/-- The container of a task whose save begins (R248), with the part's REV, STEP and FEAT (R286). -/
def Saved.fresh (s : State) (h : Nat) (ready : Bool) : Saved :=
  { magic := 0x5653464B, cver := 1, rev := 4, step := 1, feat := 0x3FFF, gtime := s.gtime
    gang := (s.thr h).gang, secs := newSections s.tick (s.thr h).vgrant
    core := coreOf h, thr := s.thr h, repair := [], saving := true, ready := ready, order := s.orderNext }

/-- Pre-emption of a placed task (R30): it stops, and its context begins to be saved (R156, R248). The lines that it dirtied leave the L1
when the save ends (`State.saveDone`), so a resumption on another core finds them in memory (DESIGN CHOICE, log 84). -/
def State.preempt (s : State) (h : Nat) (yielded cohort ready : Bool) : State :=
  let s := s.trace h 7 0xFF 0
  let s := s.stopStreams h
  let t := { s.thr h with yielded := yielded, withCohort := cohort, slot := .saving }
  let s := s.setThr h t
  { s with saved := tput s.saved t.taskid (Saved.fresh s h ready), orderNext := s.orderNext + 1 }

/-- Whether a bobbin waits for an answer from beyond the package (R413, R429). -/
def Thread.bobbinsOut (t : Thread) : Bool :=
  t.bob.any (fun b => b.2.queue.any (fun q => !q.sent.isEmpty || q.io.isSome))

/-- Whether the thread holds for an answer, so that a stop waits for it (R30, R231, R237, R413). -/
def Thread.holding (t : Thread) : Bool :=
  decide (t.wait = .remote) || decide (t.wait = .shootdown) || t.outstanding || t.bobbinsOut

/-- A stop asked for from outside the task: at once, or once the answer that the scalar stream holds for has come (R30). -/
def State.requestStop (s : State) (h : Nat) (cohort ready : Bool) : State :=
  if (s.thr h).holding then s.setThr h { s.thr h with stopReq := some (cohort, ready) }
  else s.preempt h false cohort ready

/-! Release -/

/-- Releases the areas of a task (R33, R191): backing and save area return to the pool. -/
def State.releaseAreas (s : State) (t : Thread) : State :=
  let p := s.part t.info.part
  let s := s.setPart t.info.part { p with areas := p.areas.filter (fun a => !(decide (a.1 = t.mapb * 2 ^ 23) || decide (a.1 = t.info.save))) }
  s.freeContextTiles t.owner t.mapb

/-- The timeline words keep the values that the task leaves (R204). -/
def State.keepWords (s : State) (t : Thread) : State :=
  s.setWords t.taskid { s.words t.taskid with tl := t.tl }

/-- The task of a slot leaves its core: the next power sample still gives it a share (R225). -/
def State.leaves (s : State) (h : Nat) : State :=
  let k := s.core (coreOf h)
  s.setCore (coreOf h) { k with left := sadd k.left (s.thr h).taskid }

/-- The task of a placed or draining slot leaves it: everything is released and the slot is free (R33, R156). -/
def State.freeSlot (s : State) (h : Nat) (err : Bool) : State :=
  let t := s.thr h
  let s := (s.keepWords t).unpin h
  let s := s.releaseAreas t
  let s := { (s.discard h).leaves h with threads := tdel s.threads h, saved := tdel s.saved t.taskid }
  s.replicaEnds t.info.run err

/-- A pre-empted task ends in error (R34): its container and areas are released. -/
def State.dropSaved (s : State) (task : Nat) : State :=
  match tfind s.saved task with
  | none => s
  | some v =>
    let s := (s.keepWords v.thr).releaseAreas v.thr
    { s with saved := tdel s.saved task }.replicaEnds v.thr.info.run true

/-- Whether the watchdog of the slot that dispatched a task has expired (R158, R422). -/
def State.expired (s : State) (t : Thread) : Bool :=
  match tfind s.slots t.info.slot with
  | some k => k.exp && decide (k.queue = t.info.queue)
  | none => false

/-- The tasks of a cohort: thread slots and containers of one node run (R31). -/
def State.cohortSlots (s : State) (run : Nat) : List Nat :=
  (s.threads.filter (fun p => p.2.live && p.2.info.cohort && decide (p.2.info.run = run))).map (·.1)
def State.cohortSaved (s : State) (run : Nat) : List Nat :=
  (s.saved.filter (fun p => p.2.thr.info.cohort && decide (p.2.thr.info.run = run) )).map (·.1)

/-- Ends in error the task of one slot, whatever its state (R34, R245). The lines that it dirtied are evicted first (R97), as the
completion update covers its stores (R125): while the bank of one is closed, the turn is held (R94). -/
def State.endSlot (s : State) (h : Nat) : State :=
  if s.dirtyShut h then { s with stalled := true } else (s.l1WriteBackThread (coreOf h) h).freeSlot h true

/-- A task of a thread slot ends in error, and with it its whole cohort (R34). -/
def State.endInError (s : State) (h : Nat) : State :=
  let t := s.thr h
  if t.info.cohort then
    let s := ((s.threads.filter (fun p => !decide (p.2.slot = .free) && p.2.info.cohort && decide (p.2.info.run = t.info.run))).map
      (·.1)).foldl (fun s x => s.endSlot x) s
    (s.cohortSaved t.info.run).foldl (fun s x => s.dropSaved x) s
  else s.endSlot h

/-- The same for a pre-empted task (R431). -/
def State.endSaved (s : State) (task : Nat) : State :=
  match tfind s.saved task with
  | none => s
  | some v =>
    match s.threadOfTask task with
    | some h => s.endInError h
    | none =>
      if v.thr.info.cohort then
        let s := ((s.threads.filter (fun p => !decide (p.2.slot = .free) && p.2.info.cohort &&
          decide (p.2.info.run = v.thr.info.run))).map (·.1)).foldl (fun s x => s.endSlot x) s
        (s.cohortSaved v.thr.info.run).foldl (fun s x => s.dropSaved x) s
      else s.dropSaved task

/-! Sums of placement -/

/-- Power charge of a task in milliwatts (R438). -/
def powerCharge (power : Nat) : Nat := if power % 2 ^ 32 = 0 then 3125 else power % 2 ^ 32
def powerFmin (power : Nat) : Nat := power / 2 ^ 40 % 256
def powerBoost (power : Nat) : Bool := power.testBit 32
def powerEcon (power : Nat) : Bool := power.testBit 33

/-- Charges of a partition's placed tasks (R439). -/
def State.partCharge (s : State) (p : Nat) : Nat :=
  s.threads.foldl (fun n x => if x.2.live && decide (x.2.info.part = p) then n + powerCharge x.2.info.power else n) 0

/-- Grants held on a core: tasks placed, and tasks whose slot is not yet free (R26, R156). -/
def State.coreGrants (s : State) (c : Nat) : Nat :=
  (threadsOf c).foldl (fun n h =>
    match tfind s.threads h with
    | some t => if t.slot = .free then n else n + t.vgrant
    | none => n) 0

/-- The units of a core that no task but that of slot `h` holds, lowest first (R109). -/
def State.freeUnits (s : State) (h : Nat) : List Nat :=
  let c := coreOf h
  let held := (threadsOf c).flatMap (fun x => if x = h ∨ (s.thr x).slot = .free then [] else (s.thr x).units)
  (List.range (64 * s.width c)).filter (fun u => !shas held u)

/-- Grants the lowest free units of the core to the task of slot `h`, and tags them with its owner (R109, R110). Freed units keep their tags
and are not scrubbed. -/
def State.grantUnits (s : State) (h : Nat) : State :=
  let t := s.thr h
  let k := s.core (coreOf h)
  let l := (s.freeUnits h).take t.vgrant
  (s.setCore (coreOf h) { k with units := l.foldl (fun u x => tput u x t.owner) k.units }).setThr h { t with units := l }

def State.slotFree (s : State) (h : Nat) : Bool :=
  match tfind s.threads h with
  | some t => decide (t.slot = .free)
  | none => true

def State.freeSlots (s : State) (c : Nat) : Nat := (threadsOf c).countP (fun h => s.slotFree h)

end Sys2Proof.Machine
end

