-- ==== Sys2Proof/Machine/Node.lean ====
section
/-! DEFINITION. Nodes: reading a node record, its validation (R20, R21, R438), the code object and the choice of an image (R280 to
R289), readiness (R22, R24) and failure (R23). -/

namespace Sys2Proof.Machine

/-- Outcome of a read of several words by the graph scheduler: the bytes, or the address that faults (R24, R153). -/
inductive SWords where
  | ok (s : State) (bs : List Byte)
  | err (s : State) (addr : Nat)

/-- Reads `n` words of 8 bytes under an owner's translations (R20, R284). -/
def State.schedWords (s : State) (owner va n : Nat) : SWords :=
  match n with
  | 0 => .ok s []
  | m + 1 =>
    match s.schedRead owner va 8 with
    | .err s _ => .err s va
    | .ok s bs =>
      match s.schedWords owner (va + 8) m with
      | .ok s r => .ok s (bs ++ r)
      | .err s a => .err s a

/-- A little-endian field of a record. -/
def recField (bs : List Byte) (off n : Nat) : Nat := leNat ((bs.drop off).take n)

/-! Code objects -/

/-- An image descriptor (R282). -/
structure ImageDesc where
  index : Nat
  kind : Nat
  rev : Nat
  step : Nat
  textlen : Nat
  feat : Nat
  off : Nat
  len : Nat
  entoff : Nat
  rsvd : Nat
  deriving DecidableEq, Repr

def ImageDesc.read (i : Nat) (bs : List Byte) : ImageDesc :=
  { index := i, kind := recField bs 0 1, rev := recField bs 1 1, step := recField bs 2 1, textlen := recField bs 4 4
    feat := recField bs 8 8, off := recField bs 0x10 8, len := recField bs 0x18 8, entoff := recField bs 0x20 8
    rsvd := recField bs 3 1 + recField bs 0x28 24 }

/-- A descriptor whose reserved bytes are 0 and whose fields have the values that R282 allows. One that breaks R282 in a way that R284 does
not list, as a portable one with a REV or STEP, fails the node with cause 8 (DESIGN CHOICE, log 41). -/
def ImageDesc.ok (d : ImageDesc) : Bool :=
  decide (d.rsvd = 0) && decide (d.kind < 2) && decide (d.off % 65536 = 0) && decide (d.entoff % 16 = 0) &&
  (decide (d.kind = 0) || (decide (d.rev = 0) && decide (d.step = 0)))

/-- The part's REV, STEP and FEAT (R286). -/
def partRev : Nat := 4
def partStep : Nat := 1
def partFeat : Nat := 0x3FFF

/-- Whether every bit of `f` is a feature of the part. -/
def featOk (f : Nat) : Bool := decide (f &&& partFeat = f)

/-- Whether the part admits a native image (R287). -/
def ImageDesc.admitted (d : ImageDesc) : Bool :=
  featOk d.feat && decide (d.rev ≤ partRev) &&
  (decide (d.feat / 2 ^ 32 = 0) || (decide (d.rev = partRev) && decide (d.step = partStep)))

/-- The native image that R285 selects. -/
def selectNative (ds : List ImageDesc) : Option ImageDesc :=
  let nat := ds.filter (fun d => decide (d.kind = 0) && d.admitted)
  match nat.find? (fun d => decide (d.rev = partRev) && decide (d.step = partStep)) with
  | some d => some d
  | none => nat.foldl (fun b d => match b with
      | none => some d
      | some x => if x.rev < d.rev ∨ (x.rev = d.rev ∧ x.step < d.step) then some d else some x) none

/-- The starts of the instructions of a text decoded linearly from `pos`; none when a word is unassigned or crosses the end
(R289). -/
def textStarts (bs : List Byte) (pos fuel : Nat) : Option (List Nat) :=
  match fuel with
  | 0 => some []
  | n + 1 =>
    if bs.isEmpty then some []
    else
      let len := instrLen (leNat (bs.take 2))
      if bs.length < len then none
      else
        match rawYeles (leNat (bs.take len)) with
        | .error _ => none
        | .ok _ => (textStarts (bs.drop len) (pos + len) n).map (fun r => pos :: r)

/-- Outcome of the choice of an image: an image, none, or the address of a read that faults. -/
inductive ImagePick where
  | ok (s : State) (d : ImageDesc)
  | none (s : State)
  | err (s : State) (addr : Nat)

/-- The translation of a portable image, or its cached result (R289). -/
def State.translateImage (s : State) (owner co nent : Nat) (d : ImageDesc) : Except (State × Nat) (State × Bool) :=
  let key := owner * 2 ^ 64 + co
  if s.portable.any (fun p => decide (p = (key, 2 * d.index + 1))) then .ok (s, true)
  else if s.portable.any (fun p => decide (p = (key, 2 * d.index))) then .ok (s, false)
  else
    match s.schedWords owner (co + d.off) (ceilDiv d.textlen 8) with
    | .err s a => .error (s, a)
    | .ok s text =>
      match s.schedWords owner (co + d.entoff) (2 * nent) with
      | .err s a => .error (s, a)
      | .ok s ents =>
        let good := match textStarts (text.take d.textlen) 0 d.textlen with
          | none => false
          | some l => (List.range nent).all (fun e => l.any (fun p => decide (p = recField ents (16 * e) 8)))
        .ok ({ s with portable := s.portable ++ [(key, 2 * d.index + (if good then 1 else 0))] }, good)

/-- The first portable image that R289 accepts. -/
def State.selectPortable (s : State) (owner co nent : Nat) (ds : List ImageDesc) : ImagePick :=
  match ds with
  | [] => .none s
  | d :: r =>
    if decide (d.kind = 1) && decide (d.feat / 2 ^ 32 = 0) && d.admitted then
      match s.translateImage owner co nent d with
      | .error a => .err a.1 a.2
      | .ok (s, true) => .ok s d
      | .ok (s, false) => s.selectPortable owner co nent r
    else s.selectPortable owner co nent r

/-- The image of R285. -/
def State.selectImage (s : State) (owner co nent : Nat) (ds : List ImageDesc) : ImagePick :=
  match selectNative ds with
  | some d => .ok s d
  | none => s.selectPortable owner co nent ds

/-- Outcome of a check: the node as read, and the cause and DATA of the first condition that fails. -/
inductive NodeCheck where
  | ok (s : State) (r : NodeRun)
  | bad (s : State) (r : NodeRun) (cause data : Nat)

/-- The checks of R284 on the code object, in their order, and the entry that the node names (R281 to R283). -/
def State.checkCode (s : State) (owner : Nat) (r : NodeRun) : NodeCheck :=
  let co := r.codeobj
  let bad := fun (s : State) => NodeCheck.bad s r 8 0
  if co % 65536 ≠ 0 then bad s
  else match s.schedWords owner co 8 with
  | .err s a => .bad s r 9 a
  | .ok s hd =>
    let nimg := recField hd 6 2
    let nent := recField hd 8 4
    let imgtab := recField hd 0x18 8
    if recField hd 0 4 ≠ 0x4F43464B ∨ recField hd 4 2 ≠ 1 then bad s
    else if recField hd 0xC 4 ≠ 0 ∨ recField hd 0x28 24 ≠ 0 ∨ imgtab % 64 ≠ 0 then bad s
    else if nimg = 0 ∨ 16 < nimg ∨ nent = 0 ∨ 4096 < nent then bad s
    else match s.schedWords owner (co + imgtab) (8 * nimg) with
    | .err s a => .bad s r 9 a
    | .ok s tab =>
      let ds := (List.range nimg).map (fun i => ImageDesc.read i (tab.drop (64 * i)))
      if !ds.all ImageDesc.ok then bad s
      else if nent ≤ r.entry then bad s
      else match s.selectImage owner co nent ds with
      | .err s a => .bad s r 9 a
      | .none s => bad s
      | .ok s d =>
        match s.schedWords owner (co + d.entoff + 16 * r.entry) 2 with
        | .err s a => .bad s r 9 a
        | .ok s e =>
          let pcoff := recField e 0 8
          let vcfg := recField e 0xC 1
          let nbar := recField e 0xD 1
          if pcoff % 2 ≠ 0 ∨ d.textlen ≤ pcoff ∨ vcfg / 64 ≠ 0 ∨ vcfg / 4 % 4 ≠ 0 ∨ 8 < nbar ∨ recField e 0xE 2 ≠ 0 then bad s
          else .ok s { r with pc := (co + d.off + pcoff) % 2 ^ 64, qcfg := recField e 8 4, vcfg := vcfg, nbar := nbar
                              imgLo := co + d.off, imgHi := co + d.off + d.len }

/-! Node records -/

/-- A node of which nothing has been read. -/
def NodeRun.blank (node queue slot part : Nat) : NodeRun :=
  { node := node, queue := queue, slot := slot, part := part, codeobj := 0, entry := 0, pc := 0, qcfg := 0, vcfg := 0, nbar := 0
    imgLo := 0, imgHi := 0, width := 1, cohort := false, vshare := 8, args := 0, repln := 0, vgmin := 0, vgreq := 0, donetl := 0
    doneval := 0, power := 0, barbase := 0, edges := [], ready := false, started := 0, live := 0, err := false, failed := false }

/-- The fields of a node record (R20). -/
def NodeRun.read (r : NodeRun) (bs : List Byte) : NodeRun :=
  let flags := recField bs 0x0C 4
  let nedge := flags / 16 % 8
  { r with
    codeobj := recField bs 0 8, entry := recField bs 8 4, width := 2 ^ (flags % 4), cohort := flags.testBit 2
    vshare := if flags / 256 % 16 = 0 then 8 else flags / 256 % 16
    args := recField bs 0x10 8, repln := recField bs 0x18 4, vgmin := recField bs 0x1C 2, vgreq := recField bs 0x1E 2
    donetl := recField bs 0x20 8, doneval := recField bs 0x28 8, power := recField bs 0x30 8, barbase := recField bs 0x38 8
    edges := (List.range (min nedge 4)).map (fun i => (recField bs (0x40 + 16 * i) 8, recField bs (0x48 + 16 * i) 8)) }

/-- The cores of width g of a partition, by rising number. -/
def State.partCores (s : State) (p g : Nat) : List Nat :=
  ((s.part p).cores.foldl sadd []).filter (fun c => s.isCore c && decide (s.width c = g))

/-- The first address that breaks an alignment or non-zero rule, in the order WAITTL, DONETL, BARBASE (R21). -/
def NodeRun.badAddr (r : NodeRun) : Option Nat :=
  match r.edges.find? (fun e => decide (e.1 = 0) || decide (e.1 % 8 ≠ 0)) with
  | some e => some e.1
  | none =>
    if r.donetl % 8 ≠ 0 then some r.donetl
    else if r.cohort ∧ (r.barbase = 0 ∨ r.barbase % 64 ≠ 0) then some r.barbase
    else none

/-- Whether POWER is refused (R438). -/
def State.badPower (s : State) (r : NodeRun) : Bool :=
  decide (r.power / 2 ^ 48 ≠ 0) || decide (r.power / 2 ^ 34 % 64 ≠ 0) || decide (230 < powerFmin r.power) ||
  decide ((s.part r.part).grant < powerCharge r.power * (if r.cohort then r.repln else 1))

/-- The conditions of R21, in their order, up to the code object. -/
def State.checkNode (s : State) (r : NodeRun) (flags : Nat) : Option (Nat × Nat) :=
  if flags / 4096 ≠ 0 ∨ flags.testBit 7 ∨ flags.testBit 3 then some (1, 0)
  else if flags % 4 = 3 then some (2, 0)
  else if 4 < flags / 16 % 8 then some (3, 0)
  else if r.repln = 0 ∨ 65536 < r.repln then some (4, 0)
  else if r.vgmin = 0 ∨ r.vgreq < r.vgmin ∨ 64 * r.width < r.vgreq then some (5, 0)
  else match r.badAddr with
  | some a => some (11, a)
  | none =>
    if r.cohort ∧ 4 * (s.partCores r.part r.width).length < r.repln then some (6, 0)
    else if s.badPower r then some (7, 0)
    else none

/-- Validation of the node at an address (R21). -/
def State.validate (s : State) (node queue slot part : Nat) : NodeCheck :=
  let owner := (s.part part).owner
  let r := NodeRun.blank node queue slot part
  match s.schedWords owner node 16 with
  | .err s a => .bad s r 9 a
  | .ok s bs =>
    let r := r.read bs
    match s.checkNode r (recField bs 0x0C 4) with
    | some (c, d) => .bad s r c d
    | none => s.checkCode owner r

/-! Readiness -/

/-- Whether a node is ready (R22): not yet; yes; or the cause and DATA of its failure (R22, R24). -/
inductive Ready where
  | no (s : State)
  | yes (s : State)
  | fail (s : State) (cause data : Nat)

/-- Reads the edges in order; `e` says that an earlier word carried the error flag. -/
def State.readEdges (s : State) (owner : Nat) (edges : List (Nat × Nat)) (e : Bool) : Ready :=
  match edges with
  | [] => if e then .fail s 10 0 else .yes s
  | (a, v) :: r =>
    match s.schedRead owner a 8 with
    | .err s _ => .fail s 9 a
    | .ok s bs => if s.stalled = true then .no s else if leNat bs % 2 ^ 63 < v then .no s else s.readEdges owner r (e || decide (2 ^ 63 ≤ leNat bs))

/-! Heads of queues -/

def State.setSlot (s : State) (n : Nat) (k : HwSlot) : State := { s with slots := tput s.slots n k }

/-- Tasks that a slot has dispatched and that are live, placed or pre-empted (R152, R157). -/
def State.slotTasks (s : State) (n : Nat) (k : HwSlot) : Nat :=
  let mine := fun (i : TaskInfo) => decide (i.slot = n) && decide (i.queue = k.queue)
  (s.threads.filter (fun p => p.2.live && mine p.2.info)).length + (s.saved.filter (fun p => mine p.2.thr.info)).length

/-- Whether a slot's timer has reached its limit (R157, R216). -/
def HwSlot.atLimit (k : HwSlot) : Bool := decide (k.wdlim ≠ 0) && decide (k.wdlim * 1000 ≤ k.wdcount)

/-- The watchdog restarts (R157, R216): not one that has expired, nor one that reached its limit in an earlier nanosecond and whose record is
still to be written; the restart wins within the nanosecond of the rise. -/
def State.restartWdt (s : State) (n : Nat) : State :=
  match tfind s.slots n with
  | none => s
  | some k => if k.exp || (k.atLimit && !decide (k.rose = s.gtime)) then s else s.setSlot n { k with wdcount := 0, wdfrac := 0 }

/-- Whether a slot's queue is pending (R149). -/
def State.isPending (s : State) (k : HwSlot) : Bool := ctlEn (s.qCtl k.queue) && decide (k.notify ≠ k.head)

/-- Notes since when a slot's queue has not been pending (R152), and restarts the watchdog of one that ceases to be (R157). -/
def State.noteIdle (s : State) (n : Nat) : State :=
  match tfind s.slots n with
  | none => s
  | some k =>
    if s.isPending k then s.setSlot n { k with idle := none }
    else if k.idle.isSome then s
    else
      let s := s.setSlot n { k with idle := some s.gtime }
      if s.slotTasks n k = 0 then s.restartWdt n else s

/-- HEAD advances past the head entry (R150). -/
def State.advanceHead (s : State) (n : Nat) : State :=
  match tfind s.slots n with
  | none => s
  | some k =>
    let head := (k.head + 1) % 2 ^ 64
    ((s.setSlot n { k with head := head, run := none }).qWrite k.queue 0x18 8 head).noteIdle n

/-- A node that no slot holds in the table of nodes fails: its record, its completion update, and HEAD (R21, R23, R150). -/
def State.failNode (s : State) (n : Nat) (r : NodeRun) (cause data : Nat) : State :=
  ((s.queueEvent r.queue 1 cause r.node data).completeNode { r with failed := true }).advanceHead n

/-- A validated head node fails (R22, R24). -/
def State.failRun (s : State) (n id : Nat) (r : NodeRun) (cause data : Nat) : State :=
  let s := s.queueEvent r.queue 1 cause r.node data
  ({ s with runs := tput s.runs id { r with failed := true } }.settleRun id).advanceHead n

/-- Takes the entry at HEAD: entries of 0 and bad entries are skipped (R149); a node is validated (R21). An entry whose read fails in another
way than by its translation is skipped as a bad entry too, with cause 9 (DESIGN CHOICE, log 93). -/
def State.takeHead (s : State) (n fuel : Nat) : State :=
  match fuel with
  | 0 => s
  | f + 1 =>
    match tfind s.slots n with
    | none => s
    | some k =>
      if k.exp || k.run.isSome || !s.isPending k then s
      else
        let ctl := s.qCtl k.queue
        let owner := (s.part k.part).owner
        let skip := fun (s : State) => (s.advanceHead n).takeHead n f
        match s.schedRead owner (s.qRead k.queue 0 8 + 8 * (k.head % 2 ^ ctlLogsz ctl)) 8 with
        | .err s _ => skip (s.queueEvent k.queue 2 9 0 k.head)
        | .ok s bs =>
          let e := leNat bs
          if e = 0 then skip s
          else if e % 128 ≠ 0 then skip (s.queueEvent k.queue 2 1 e k.head)
          else
            match s.validate e k.queue n k.part with
            | .bad s r c d => (s.failNode n r c d).takeHead n f
            | .ok s r =>
              { s with runs := tput s.runs s.runNext r, runNext := s.runNext + 1 }.setSlot n { k with run := some s.runNext }

/-- The head of a slot is looked at: taken, validated, and tested for readiness (R21, R22, R150). -/
def State.lookHead (s : State) (n : Nat) : State :=
  let s := match tfind s.slots n with
    | some k => (s.qTouch k.queue).takeHead n (2 ^ ctlLogsz (s.qCtl k.queue))
    | none => s
  match tfind s.slots n with
  | none => s
  | some k =>
    match k.run.bind (fun id => (tfind s.runs id).map (fun r => (id, r))) with
    | none => s
    | some (id, r) =>
      if r.ready || k.exp then s
      else
        match s.readEdges (s.part k.part).owner r.edges false with
        | .no s => s
        | .yes s => { s with runs := tput s.runs id { r with ready := true } }
        | .fail s c d => s.failRun n id r c d

/-- A ready replica of the partition waits for a slot (R30, R311). -/
def State.replicaWaits (s : State) (p : Nat) : Bool :=
  s.slots.any (fun k => decide (k.2.part = p) && !k.2.exp && (match k.2.run.bind (tfind s.runs) with
    | some r => r.ready && decide (r.started < r.repln)
    | none => false))

end Sys2Proof.Machine
end

