-- ==== Sys2Proof/Machine/Sched.lean ====
section
/-! DEFINITION. The graph scheduler: placement (R25 to R29, R439), resumption (R32, R189, R250), the scheduling step (R154) and
pre-emption for a candidate (R155). -/

namespace Sys2Proof.Machine

/-! Room on cores -/

/-- A core as R26 sees it: its number, its free VRF units, and its free thread slots by rising number. -/
structure CoreRoom where
  core : Nat
  units : Nat
  slots : List Nat
  deriving DecidableEq, Repr

/-- The room of a core, counting the tasks of the slots `gone` as gone (R155). -/
def State.room (s : State) (gone : List Nat) (c : Nat) : CoreRoom :=
  let held := (threadsOf c).foldl (fun n h =>
    match tfind s.threads h with
    | some t => if decide (t.slot = .free) || shas gone h then n else n + t.vgrant
    | none => n) 0
  { core := c, units := 64 * s.width c - held, slots := (threadsOf c).filter (fun h => s.slotFree h || shas gone h) }

/-- The cores of width g of a partition that take tasks (R26): none while they are gated (R244). -/
def State.rooms (s : State) (p g : Nat) (gone : List Nat) : List CoreRoom :=
  ((s.partCores p g).filter (fun c => decide ((s.core c).gate = .on))).map (s.room gone)

/-- The first slot that yields a grant of at least `least` and at most `most`, and the rooms after it (R26). -/
def pickRoom (rs : List CoreRoom) (least most : Nat) : Option (Nat × Nat × List CoreRoom) :=
  match rs with
  | [] => none
  | r :: rest =>
    match r.slots with
    | [] => (pickRoom rest least most).map (fun x => (x.1, x.2.1, r :: x.2.2))
    | h :: hs =>
      let grant := min most (r.units / (hs.length + 1))
      if grant < least then (pickRoom rest least most).map (fun x => (x.1, x.2.1, r :: x.2.2))
      else some (h, grant, { r with units := r.units - grant, slots := hs } :: rest)

/-- Slots and grants of several replicas in order (R25). -/
def pickRooms (rs : List CoreRoom) (reqs : List (Nat × Nat)) : Option (List (Nat × Nat)) :=
  match reqs with
  | [] => some []
  | (least, most) :: r =>
    match pickRoom rs least most with
    | none => none
    | some (h, g, rs) => (pickRooms rs r).map (fun l => (h, g) :: l)

/-! The pool -/

/-- The lowest free address of a pool that is aligned to an area's size (R147). -/
def Partition.findArea (p : Partition) (size : Nat) : Option Nat :=
  (firstUp (ceilDiv p.poolBase size) (p.poolLen / size) (fun i =>
    decide (p.poolBase ≤ i * size) && decide (i * size + size ≤ p.poolBase + p.poolLen) &&
    !p.areas.any (fun a => decide (a.1 < i * size + size) && decide (i * size < a.1 + a.2)))).map (· * size)

/-- Takes the backing area and the save area of a replica (R25, R108, R248). -/
def Partition.takeAreas (p : Partition) (g : Nat) : Option (Partition × Nat × Nat) :=
  match p.findArea (8 * g * 2 ^ 20) with
  | none => none
  | some b =>
    let p := { p with areas := p.areas ++ [(b, 8 * g * 2 ^ 20)] }
    match p.findArea (2 * g * 2 ^ 20) with
    | none => none
    | some v => some ({ p with areas := p.areas ++ [(v, 2 * g * 2 ^ 20)] }, b, v)

/-- Whether areas for `n` replicas can be taken. -/
def Partition.hasAreas (p : Partition) (g n : Nat) : Bool :=
  match n with
  | 0 => true
  | m + 1 =>
    match p.takeAreas g with
    | none => false
    | some (p, _, _) => p.hasAreas g m

/-! Task numbers (R204) -/

def State.taskLive (s : State) (t : Nat) : Bool := (s.threadOfTask t).isSome || (tfind s.saved t).isSome

/-- The next number that no live task holds. -/
def State.newTask (s : State) : Option Nat :=
  (firstUp s.taskNext (2 ^ 20) (fun n => !s.taskLive (n % 2 ^ 20))).map (· % 2 ^ 20)

/-! Placement -/

/-- Whether a partition may place or resume now: it is not drained (R246), nor held at its lowest clock (R440). -/
def Partition.opened (p : Partition) : Bool := !p.drained && decide (p.overUs ≤ 20)

/-- Whether `n` more charges fit the partition's grant (R439). -/
def State.powerFits (s : State) (p charge n : Nat) : Bool := decide (s.partCharge p + charge * n ≤ (s.part p).grant)

/-- Whether the next replica of a node, or its whole cohort, can be placed (R25, R26). -/
def State.placeable (s : State) (r : NodeRun) : Bool :=
  let n := if r.cohort then r.repln else 1
  (pickRooms (s.rooms r.part r.width []) (List.replicate n (r.vgmin, r.vgreq))).isSome &&
  (s.part r.part).hasAreas r.width n && s.powerFits r.part (powerCharge r.power) n && s.newTask.isSome

/-- Frame and address of the `n` pages of 64 KiB from `va` on, as the scheduler finds them; none where one of them faults. A walk that
cannot go on holds the turn (R94, R178). -/
def State.imageFrames (s : State) (owner va n : Nat) : State × Option (List (Nat × Nat)) :=
  match n with
  | 0 => (s, some [])
  | m + 1 =>
    match s.translate none owner .maint va 1 with
    | .ok s (.phys pa _ _) =>
      let r := s.imageFrames owner (va + 65536) m
      (r.1, r.2.map ((pa / 65536, va) :: ·))
    | .ok s (.spad _) => (s, none)
    | .err s _ => (s, none)
    | .miss s => ({ s with stalled := true }, none)

/-- Invalidates the lines of an image in a core's instruction cache (R99, R290); the whole cache where a page of the image faults, since its
frame is not known then (DEDUCED, log 92). -/
def State.dropImage (s : State) (c owner lo hi : Nat) : State :=
  if (s.core c).l1i.isEmpty then s
  else match s.imageFrames owner (lo / 65536 * 65536) (hi / 65536 + 1 - lo / 65536) with
  | (s, none) => s.icDropAll c
  | (s, some frames) =>
    let inside := fun line => frames.any (fun f => decide (f.1 = line / 1024) &&
      decide (f.2 + line % 1024 * 64 < hi) && decide (lo < f.2 + line % 1024 * 64 + 64))
    s.setCore c { s.core c with l1i := (s.core c).l1i.filter (fun l => !inside l.1) }

/-- The state of a thread at launch (R27). -/
def launch (r : NodeRun) (owner task repl grant mapb save now order : Nat) : Thread :=
  let sew := r.vcfg / 16 % 4
  let nreg := r.vcfg % 4
  let mvl := mvlOf grant sew nreg
  { ((Thread.reset.wx 1 (toW r.args)).wx 2 (toW repl)).wx 3 (toW r.repln) with
    pc := toW r.pc, sew := sew, nreg := nreg, mvl := mvl, csew := sew, cnreg := nreg, cmvl := mvl
    qcfg := BitVec.ofNat 32 r.qcfg, vgrant := grant, gang := r.width, tshape := toW (64 + 64 * 2 ^ 7 + 256 * r.width * 2 ^ 16)
    mapb := mapb / 2 ^ 23, taskid := task
    nodeid := toW r.node, repl := repl, repln := r.repln, owner := owner, slot := .placed
    info := { part := r.part, queue := r.queue, slot := r.slot, run := 0, vgmin := r.vgmin, vgreq := r.vgreq, vshare := r.vshare
              power := r.power, cohort := r.cohort, barbase := toW r.barbase, nbar := r.nbar, save := save, since := now
              order := order } }

/-! The clock of a core (R437, R439, R440), in units of 10 MHz -/

/-- The cap of the package in milliwatts (R439, R440). -/
def packageCap : Nat := 2400000

/-- The POWER fields of the tasks placed on a core. -/
def State.corePowers (s : State) (c : Nat) : List Nat :=
  ((threadsOf c).filter (fun h => (s.thr h).live)).map (fun h => (s.thr h).info.power)

/-- Whether the package, or the partition of the core, has been above its bound for more than `us` samples. -/
def State.overCap (s : State) (c us : Nat) : Bool :=
  decide (us < s.overUs) || (match s.parts.find? (fun p => shas p.2.cores c) with
    | some p => decide (us < p.2.overUs)
    | none => false)

/-- A value of the clock's 50 MHz steps brought within its bounds: at least the largest FMIN, and at most 2.1 GHz but for tasks that all
boost. -/
def boundClock (clock : Nat) (powers : List Nat) (boost : Bool) : Nat :=
  let least := (powers.foldl (fun m p => max m (powerFmin p)) 105 + 4) / 5 * 5
  max least (min (if boost then 230 else 210) clock)

/-- A core's clock and lane ratio within what its placed tasks admit; above a bound for more than 20 µs it runs at 1.05 GHz. -/
def State.trimClock (s : State) (c : Nat) : State :=
  let ps := s.corePowers c
  let k := s.core c
  s.setCore c { k with
    clock := if s.overCap c 20 then 105 else boundClock k.clock ps (ps.all powerBoost && decide (s.power < packageCap))
    econ := k.econ && ps.all powerEcon }

/-- Places one replica of the run `id` on thread slot `h` with a grant (R25, R27, R99, R204). The lines of the core's L1 data cache are
evicted, so that the task finds what happened before its placement (R117, R125, R142). -/
def State.placeOne (s : State) (id h grant : Nat) : State :=
  match tfind s.runs id, s.newTask with
  | some r, some task =>
    match (s.part r.part).takeAreas r.width with
    | none => s
    | some (p, backing, save) =>
      let owner := (s.part r.part).owner
      let t := launch r owner task r.started grant backing save s.gtime s.orderNext
      let s := (s.setPart r.part p).setThr h { t with info := { t.info with run := id } }
      let s := s.grantUnits h
      let s := s.setWords task { owner := owner, tl := [], ctr := [] }
      let s := { s with taskNext := (task + 1) % 2 ^ 20
                        runs := tput s.runs id { r with started := r.started + 1, live := r.live + 1 } }
      ((s.dropImage (coreOf h) owner r.imgLo r.imgHi).l1Evict (coreOf h)).trimClock (coreOf h)
  | _, _ => s

/-- Writes zero to the eight barrier words (R24, R29); the address of a word that faults. -/
def State.clearBarrier (s : State) (owner base n : Nat) : Except (State × Nat) State :=
  match n with
  | 0 => .ok s
  | m + 1 =>
    match s.schedWrite owner base (natLe 8 0) with
    | .err s _ => .error (s, base)
    | .ok s _ => s.clearBarrier owner (base + 8) m

/-- HEAD advances when every replica of the head node has been placed (R150). -/
def State.placed (s : State) (n id : Nat) : State :=
  match tfind s.runs id with
  | some r => if r.repln ≤ r.started then s.advanceHead n else s
  | none => s

/-- Places up to `k` replicas one by one (R25, R154). -/
def State.placeSome (s : State) (id k : Nat) : State :=
  match k with
  | 0 => s
  | m + 1 =>
    match tfind s.runs id with
    | none => s
    | some r =>
      if r.repln ≤ r.started || !s.placeable r then s
      else
        match pickRoom (s.rooms r.part r.width []) r.vgmin r.vgreq with
        | none => s
        | some (h, g, _) => (s.placeOne id h g).placeSome id m

/-- The placements of a step are over: those of later ones are later (R155). -/
def State.nextOrder (s : State) : State := { s with orderNext := s.orderNext + 1 }

/-- Serves the head node of a slot: up to 8 replicas, or a whole cohort after its barrier words are zero (R24, R25, R29, R154). BARBASE is
read at the placement (R365); where the node record cannot be read then, the node fails with cause 9 (DEDUCED from R24, log 102). -/
def State.placeHead (s : State) (n id : Nat) (r : NodeRun) : State :=
  if r.cohort then
    match pickRooms (s.rooms r.part r.width []) (List.replicate r.repln (r.vgmin, r.vgreq)) with
    | none => s
    | some l =>
      let owner := (s.part r.part).owner
      match s.schedRead owner (r.node + 0x38) 8 with
      | .err s _ => s.failRun n id r 9 (r.node + 0x38)
      | .ok s bs =>
      let r := { r with barbase := leNat bs }
      match { s with runs := tput s.runs id r }.clearBarrier owner r.barbase 8 with
      | .error a => a.1.failRun n id r 9 a.2
      | .ok s => ((l.foldl (fun s p => s.placeOne id p.1 p.2) s).nextOrder.restartWdt n).placed n id
  else ((s.placeSome id 8).nextOrder.restartWdt n).placed n id

/-! Resumption -/

/-- The bounds of a resumption grant (R32). -/
def Saved.bounds (v : Saved) : Nat × Nat :=
  let t := v.thr
  if t.yielded then (t.info.vgmin, t.info.vgreq) else (t.vgrant, max t.vgrant t.info.vgreq)

/-- Whether a part accepts a section (R249 to R251): of a type that it knows, at a version of at most 1; of an unknown type, one that is not
required, which it skips. -/
def Section.ok (x : Section) : Bool := if 1 ≤ x.type ∧ x.type ≤ 7 then decide (x.sver ≤ 1) else !x.req

/-- Why a part refuses a container (R250), as the number that the answer carries: 1 MAGIC or CVER, 2 REV, 3 GANG, 4 FEAT, 5 REPAIR, 6 a
section (DESIGN CHOICE, log 79: no rule states how the reason is coded). -/
def Saved.reason (v : Saved) : Option Nat :=
  if v.magic ≠ 0x5653464B ∨ v.cver ≠ 1 then some 1
  else if partRev < v.rev then some 2
  else if v.gang ≠ v.thr.gang then some 3
  else if !featOk v.feat then some 4
  else if !v.repair.isEmpty then some 5
  else if !v.secs.all Section.ok then some 6
  else none

def Saved.refused (v : Saved) : Bool := v.reason.isSome

/-- What a part reads of the sections (R251): those of a lower version at its own, the fields that they lack at their reset values, and none
of an unknown type. -/
def Saved.upgrade (v : Saved) : Saved :=
  { v with secs := (v.secs.filter (fun x => decide (1 ≤ x.type ∧ x.type ≤ 7) && decide (x.sver ≤ 1))).map (fun x => { x with sver := 1 }) }

/-- 64-bit words of a container that are uncorrectable in its save area, as items of a REPAIR section (R243). -/
def State.badContainer (s : State) (v : Saved) : List (Nat × Nat) :=
  (s.badWords.filter (fun w => decide (v.thr.info.save ≤ 8 * w) && decide (8 * w < v.thr.info.save + v.len))).map (fun w => (0, 8 * w))

/-- The record of a refusal (R250): time, task, reason, at places that no rule states (DESIGN CHOICE, log 79). -/
def State.refusal (s : State) (task reason : Nat) : List Byte := natLe 8 s.gtime ++ natLe 4 task ++ natLe 4 reason

/-- A resumption reads the container of a ready task: one with an uncorrectable word lists it in its REPAIR section (R241, R243), and one that
the part refuses stays pre-empted until a message, with the reason to system software (R250, R431). -/
def State.readContainer (s : State) (v : Saved) : State :=
  if !v.ready || v.saving then s
  else
    let bad := (s.badContainer v).filter (fun x => !v.repair.any (fun y => decide (y = x)))
    let v := { v with repair := v.repair ++ bad }
    match v.reason with
    | none => s
    | some r =>
      let s := { s with saved := tput s.saved v.thr.taskid { v with ready := false } }
      (if bad.isEmpty then s else s.putContainer v.thr.taskid).interrupt (s.refusal v.thr.taskid r)

/-- The tasks that resume with a pre-empted task: itself, or every member that was pre-empted with its cohort, by rising replica
index (R31, R32). -/
def State.resumeGroup (s : State) (v : Saved) : List Saved :=
  if v.thr.withCohort then
    let l := ((s.saved.map (·.2)).filter (fun x => x.thr.withCohort && decide (x.thr.info.run = v.thr.info.run)))
    (List.range (v.thr.repln + 1)).filterMap (fun i => l.find? (fun x => decide (x.thr.repl = i)))
  else [v]

/-- Whether a member of a cohort that is being pre-empted as a whole has not stopped yet (R30, R31). -/
def State.cohortStopping (s : State) (v : Saved) : Bool :=
  v.thr.withCohort && s.threads.any (fun x => x.2.live && x.2.info.cohort && decide (x.2.info.run = v.thr.info.run) &&
    (match x.2.stopReq with
      | some (cohort, _) => cohort
      | none => false))

/-- The slots and grants at which a group resumes now, if it can (R32, R246, R252): every member that was pre-empted with the cohort has
stopped. -/
def State.resumeFit (s : State) (l : List Saved) : Option (List (Nat × Nat)) :=
  match l with
  | [] => none
  | v :: _ =>
    if s.cohortStopping v || l.any (fun x => !x.ready || x.saving || x.refused) then none
    else if l.foldl (fun n x => n + powerCharge x.thr.info.power) (s.partCharge v.thr.info.part) ≤ (s.part v.thr.info.part).grant then
      pickRooms (s.rooms v.thr.info.part v.thr.gang []) (l.map Saved.bounds)
    else none

/-- The registers of a task under its resumption grant (R32, R65). -/
def Thread.regrant (t : Thread) (g : Nat) : Thread :=
  if g = t.vgrant then t
  else
    let m := mvlOf g t.sew t.nreg
    let t' := (t.kTrim (min m t.mvl))
    let t' := if t.yielded then { t'.vClear with vl := 0 } else t'
    { t' with vgrant := g, mvl := m, cmvl := mvlOf g t.csew t.cnreg, wrote := t'.wrote.filter (fun u => decide (u < g)) }

/-- The orders of commit of a task's queued commands on the core that it resumes on. -/
def Thread.reorder (t : Thread) (base : Nat) : Thread :=
  { t with
    viq := t.viq.map (fun e => { e with order := e.order + base })
    win := t.win.map (fun e => { e with order := e.order + base })
    bob := t.bob.map (fun b => (b.1, { b.2 with queue := b.2.queue.map (fun q => { q with order := q.order + base }) })) }

def Thread.maxOrder (t : Thread) : Nat :=
  max (t.viq.foldl (fun n e => max n e.order) 0) (max (t.win.foldl (fun n e => max n e.order) 0)
    (t.bob.foldl (fun n b => b.2.queue.foldl (fun n q => max n q.order) n) 0))

/-- Entries of the Pricking whose physical tile no longer carries their tag lose RES (R189). -/
def Thread.recheckTiles (t : Thread) (tiles : Table PTile) : Thread :=
  { t with prick := t.prick.map (fun e =>
      if e.2.res then
        (match tfind tiles e.2.ptile with
          | some p => if p.ofContext t.owner t.mapb && decide (p.tile = e.1) then e else (e.1, { e.2 with res := false, dirty := false })
          | none => (e.1, { e.2 with res := false, dirty := false }))
      else e) }

/-- Spills and frees the tiles of a context that are resident on other cores (R32, R189). -/
def State.recallTiles (s : State) (owner mapb c : Nat) : State :=
  s.cores.foldl (fun s k =>
    if k.1 = c then s
    else (k.2.tiles.filter (fun p => p.2.ofContext owner mapb)).foldl (fun s p => s.evictTile k.1 p.1) s) s

/-- The bobbins that a fault has frozen (R211). -/
def Thread.frozenBobbins (t : Thread) : List Nat := (t.bob.filter (fun b => decide (b.2.stat.state = 2))).map (·.1)

/-- The bobbins frozen by a trap that system software or the pager has handled go on at their watermarks (R211, R233, R236): those of
which no trap is still to be entered, and, where the trap went to the thread's own handler, which is still running, none. -/
def Thread.thawed (t : Thread) : Thread := if t.hnd then t else t.resumeBobbins

/-- BARBASE, read from the node record again at a resumption (R365); where the record cannot be read, it stays. -/
def State.barrierBase (s : State) (t : Thread) : State × Word :=
  if t.info.cohort then
    match s.schedRead t.owner (t.nodeid.toNat + 0x38) 8 with
    | .ok s bs => (s, toW (leNat bs))
    | .err s _ => (s, t.info.barbase)
  else (s, t.info.barbase)

/-- Restores a container on slot `h` with a grant (R32, R189, R211, R250, R310). The core's L1 lines are evicted, as at a placement
(R117, R118). -/
def State.restore (s : State) (v : Saved) (h grant : Nat) : State :=
  let c := coreOf h
  let v := v.upgrade
  let s := s.recallTiles v.thr.owner v.thr.mapb c
  let (s, barbase) := s.barrierBase v.thr
  let k := s.core c
  let t := (((v.thr.regrant grant).reorder k.commits).recheckTiles k.tiles).thawed
  let t := { t with slot := .placed, yielded := false, withCohort := false, event := true
                    info := { t.info with since := s.gtime, barbase := barbase } }
  let s := s.setCore c { k with commits := k.commits + v.thr.maxOrder + 1 }
  let s := (((({ s.setThr h t with saved := tdel s.saved t.taskid }).grantUnits h).l1Evict c).trimClock c).trace h 8 0xFF 0
  (v.thr.frozenBobbins.filter (fun b => !shas t.frozenBobbins b)).foldl (fun s b => s.trace h 5 (2 + b) (t.rwm b).toNat) s

/-- Resumes a group at the slots and grants found for it. -/
def State.resumeAll (s : State) (l : List (Saved × Nat × Nat)) : State :=
  match l with
  | [] => s
  | (v, h, g) :: r => (s.restore v h g).resumeAll r

/-- Resumes a group if it can be; true when it has been. -/
def State.tryResume (s : State) (l : List Saved) : State × Bool :=
  match s.resumeFit l with
  | none => (s, false)
  | some at_ => (s.resumeAll (l.zip at_), true)

/-- Pre-empted tasks of a partition, earliest pre-empted first. -/
def State.preempted (s : State) (p : Nat) : List Saved :=
  let l := (s.saved.map (·.2)).filter (fun v => decide (v.thr.info.part = p) && (s.threadOfTask v.thr.taskid).isNone)
  l.foldl (fun acc v => (acc.filter (fun x => decide (x.order ≤ v.order))) ++ [v] ++ (acc.filter (fun x => decide (v.order < x.order)))) []

/-- Whether a pre-empted task belongs to a mapped slot (R154, R431). -/
def State.hasSlot (s : State) (v : Saved) : Bool :=
  match tfind s.slots v.thr.info.slot with
  | some k => decide (k.queue = v.thr.info.queue)
  | none => false

/-- The first pre-empted task of a slot whose group can be resumed now (R154). Where the task that was pre-empted earliest cannot be, the
next one that can is taken, and with none the head node is served (DESIGN CHOICE, log 93). -/
def State.resumable (s : State) (n : Nat) (k : HwSlot) : Option Saved :=
  (s.preempted k.part).find? (fun v => decide (v.thr.info.slot = n) && decide (v.thr.info.queue = k.queue) &&
    (s.resumeFit (s.resumeGroup v)).isSome)

/-! The scheduling step -/

/-- The ready head node of a slot; a disabled queue dispatches no new node (R149, R151). -/
def State.readyHead (s : State) (k : HwSlot) : Option (Nat × NodeRun) :=
  match k.run.bind (fun id => (tfind s.runs id).map (fun r => (id, r))) with
  | some (id, r) => if r.ready && (ctlEn (s.qCtl k.queue) || decide (r.started ≠ 0)) then some (id, r) else none
  | none => none

/-- Whether a slot is a candidate (R154); one whose watchdog has expired serves nothing (R158). -/
def State.isCandidate (s : State) (n : Nat) (k : HwSlot) : Bool :=
  !k.exp && ((s.resumable n k).isSome || (match s.readyHead k with
    | some (_, r) => s.placeable r
    | none => false))

/-- Serves a slot: its task that was pre-empted earliest, or its head node (R154). -/
def State.serve (s : State) (n : Nat) (k : HwSlot) : State :=
  match s.resumable n k with
  | some v => (s.tryResume (s.resumeGroup v)).1.restartWdt n
  | none =>
    match s.readyHead k with
    | some (id, r) => s.placeHead n id r
    | none => s

/-- The effective level of a slot (R154). -/
def HwSlot.level (k : HwSlot) (agestep : Nat) : Nat := min 7 (k.prio + k.age / agestep)

/-- The first slot of `cand` with credit, searching upward from `rp` and wrapping at 64 (R154). -/
def nextCredit (slots : Table HwSlot) (cand : List Nat) (rp : Nat) : Option Nat :=
  (firstUp rp 64 (fun n => shas cand (n % 64) && (match tfind slots (n % 64) with
    | some k => decide (0 < k.credit)
    | none => false))).map (· % 64)

/-- Changes the entries of some slots. -/
def State.mapSlots (s : State) (l : List Nat) (f : HwSlot → HwSlot) : State :=
  { s with slots := s.slots.map (fun p => if shas l p.1 then (p.1, f p.2) else p) }

/-- The algorithm of R154 among the candidates of a partition. -/
def State.serveOne (s : State) (p : Nat) (cand : List Nat) : State :=
  let step := (s.part p).agestep
  let lvlOf := fun n => match tfind s.slots n with
    | some k => k.level step
    | none => 0
  let lvl := cand.foldl (fun m n => max m (lvlOf n)) 0
  let top := cand.filter (fun n => decide (lvlOf n = lvl))
  let none0 := top.all (fun n => match tfind s.slots n with
    | some k => decide (k.credit = 0)
    | none => true)
  let s := if none0 then s.mapSlots top (fun k => { k with credit := k.weight }) else s
  match nextCredit s.slots top (tget (s.part p).rp lvl 0) with
  | none => s
  | some n =>
    match tfind s.slots n with
    | none => s
    | some k =>
      let s := s.serve n k
      let credit := k.credit - 1
      let s := s.mapSlots [n] (fun k => { k with credit := credit, age := 0 })
      let s := s.setPart p { s.part p with rp := tput (s.part p).rp lvl (if credit = 0 then (n + 1) % 64 else n) }
      s.mapSlots (cand.filter (fun m => decide (lvlOf m < lvl))) (fun k => { k with age := k.age + 1 })

/-! Pre-emption for a candidate -/

/-- Slots of a partition whose tasks are on their way out: saving, draining after EXIT, or asked to stop (R155, R156). -/
def State.leaving (s : State) (p : Nat) : List Nat :=
  (s.threads.filter (fun x => decide (x.2.info.part = p) && (decide (x.2.slot = .saving) || decide (x.2.slot = .draining) ||
    (decide (x.2.slot = .placed) && x.2.stopReq.isSome)))).map (·.1)

/-- Running tasks of a partition that a candidate of priority `prio` and width g may pre-empt (R155); the tasks of a slot whose watchdog has
expired run on (R422). -/
def State.victims (s : State) (p g prio : Nat) : List Nat :=
  (s.threads.filter (fun x => decide (x.2.slot = .placed) && x.2.stopReq.isNone && decide (x.2.info.part = p) && decide (x.2.gang = g) &&
    !s.expired x.2 && decide (50000 ≤ s.gtime - x.2.info.since) && decide (ctlPrio (s.qCtl x.2.info.queue) < prio))).map (·.1)

/-- The victim of R155: lowest PRIO, latest placement, highest thread number; the placements of one step are equally late. -/
def State.victimOf (s : State) (l : List Nat) : Option Nat :=
  let prio := fun h => ctlPrio (s.qCtl (s.thr h).info.queue)
  l.foldl (fun b h => match b with
    | none => some h
    | some x =>
      if prio h < prio x ∨ (prio h = prio x ∧ (s.thr x).info.order < (s.thr h).info.order) ∨
        (prio h = prio x ∧ (s.thr x).info.order = (s.thr h).info.order ∧ x < h) then some h else some x) none

/-- Pre-empts a task for the scheduler, with its whole cohort (R31, R155): it stays ready for resumption. -/
def State.preemptFor (s : State) (h : Nat) : State :=
  let t := s.thr h
  if t.info.cohort then (s.cohortSlots t.info.run).foldl (fun s x => s.requestStop x true true) s
  else s.requestStop h false true

/-- Whether `n` replicas of a node find their areas, and their charges a place in the grant once the tasks of the slots `gone` draw none
(R25, R439). -/
def State.fundable (s : State) (r : NodeRun) (n : Nat) (gone : List Nat) : Bool :=
  (s.part r.part).hasAreas r.width n &&
  { s with threads := s.threads.filter (fun x => !shas gone x.1) }.powerFits r.part (powerCharge r.power) n

/-- What R155 pre-empts in a step for a slot whose ready head finds no thread slot or VRF space: none when nothing is to be
pre-empted for it, and whether it is served by the tasks that are leaving. -/
def State.preemptChoice (s : State) (k : HwSlot) : Option Nat :=
  match s.readyHead k with
  | none => none
  | some (_, r) =>
    let reqs := List.replicate (if r.cohort then r.repln else 1) (r.vgmin, r.vgreq)
    let out := s.leaving r.part
    let fits := fun gone => (pickRooms (s.rooms r.part r.width gone) reqs).isSome
    if fits [] || fits out then none
    else
      let vs := s.victims r.part r.width k.prio
      if r.cohort && !(fits (out ++ vs) && s.fundable r r.repln (out ++ vs)) then none else s.victimOf vs

/-- Pre-emption of at most one task of a partition in a step (R155), for the slot of highest PRIO, the lowest number among equals (DESIGN
CHOICE, log 80). -/
def State.preemptStep (s : State) (p : Nat) : State :=
  let l := s.slots.filter (fun k => decide (k.2.part = p) && !k.2.exp && (s.preemptChoice k.2).isSome)
  let best := l.foldl (fun b k => match b with
    | none => some k
    | some x => if x.2.prio < k.2.prio then some k else some x) none
  match best.bind (fun k => s.preemptChoice k.2) with
  | some h => s.preemptFor h
  | none => s

/-- A pre-empted task whose slot has been unmapped resumes ahead of every candidate (R431); true when one has. -/
def State.resumeOrphan (s : State) (l : List Saved) : State × Bool :=
  match l with
  | [] => (s, false)
  | v :: r =>
    let x := s.tryResume (s.resumeGroup v)
    if x.2 then x else s.resumeOrphan r

/-- One partition in one scheduling step (R154, R155, R246, R440). -/
def State.stepPart (s : State) (p : Nat) : State :=
  if !(s.part p).opened then s
  else
    let s := (s.preempted p).foldl (fun s v => s.readContainer v) s
    let o := s.resumeOrphan ((s.preempted p).filter (fun v => !s.hasSlot v))
    let s := o.1
    if o.2 then s
    else
      let mine := (s.slots.filter (fun k => decide (k.2.part = p))).map (·.1)
      let s := mine.foldl (fun s n => s.lookHead n) s
      let cand := mine.filter (fun n => match tfind s.slots n with
        | some k => s.isCandidate n k
        | none => false)
      let s := s.preemptStep p
      if cand.isEmpty then s else s.serveOne p cand

/-- A scheduling step of the package (R154). -/
def State.schedule (s : State) : State := (s.parts.map (·.1)).foldl (fun s p => s.stepPart p) s

end Sys2Proof.Machine
end

