-- ==== Sys2Proof/Machine/Mapping.lean ====
section
/-! DEFINITION. The queue scheduler: notify words (R149, R151), mapping and unmapping (R151, R152), and the slot watchdog (R157, R158,
R216). -/

namespace Sys2Proof.Machine

/-- Clears CTL.EN: the queue dispatches nothing further (R149, R151). -/
def State.disableQueue (s : State) (q : Nat) : State := s.qCtlBit q 0 false

/-- Reads a queue's notify word; a read that faults clears EN and leaves a record of KIND 6 (R151). -/
def State.readNotify (s : State) (q : Nat) : State × Option Nat :=
  let s := s.qTouch q
  let va := s.qRead q 8 8
  match s.schedRead (s.part (ctlPart (s.qCtl q))).owner va 8 with
  | .ok s bs => (s, some (leNat bs))
  | .err s c => ((s.disableQueue q).queueEvent q 6 c 0 va, none)

/-- Whether a notify value overruns the ring (R149). -/
def State.overrun (s : State) (q head v : Nat) : Bool :=
  decide (2 ^ ctlLogsz (s.qCtl q) < (v + 2 ^ 64 - head) % 2 ^ 64)

/-- The record and the disabling of a ring overrun (R149). -/
def State.ringOverrun (s : State) (q v : Nat) : State := (s.queueEvent q 4 0 0 v).disableQueue q

/-- A slot reads its queue's notify word (R151). -/
def State.notice (s : State) (n : Nat) : State :=
  match tfind s.slots n with
  | none => s
  | some k =>
    let s := s.qTouch k.queue
    if !ctlEn (s.qCtl k.queue) then s.noteIdle n
    else
      match s.readNotify k.queue with
      | (s, none) => s.noteIdle n
      | (s, some v) =>
        let s := s.setSlot n { k with notify := v }
        let s := if s.overrun k.queue k.head v then s.ringOverrun k.queue v else s
        s.noteIdle n

/-- The scan reads the notify word of an enabled unmapped queue (R151). -/
def State.scanQueue (s : State) (q : Nat) : State :=
  if s.queueBase.isNone || decide (4096 ≤ q) || (s.slotOf q).isSome then s
  else if !ctlEn (s.qCtl q) then s.qTouch q
  else
    match s.readNotify q with
    | (s, none) => s
    | (s, some v) =>
      if s.overrun q (s.qRead q 0x18 8) v then s.ringOverrun q v
      else if v = s.qRead q 0x20 8 ∨ (tfind s.pending q).isSome = true then s
      else { s with pending := tput s.pending q s.gtime }

/-- The pending unmapped queues that are enabled. -/
def State.pendingOn (s : State) : Table Nat := s.pending.filter (fun x => ctlEn (s.qCtl x.1))

/-- The pending unmapped queue that is mapped first: highest PRIO, pending longest, lowest number (R151). -/
def State.nextPending (s : State) : Option Nat :=
  (s.pendingOn.foldl (fun b x => match b with
    | none => some x
    | some y =>
      if ctlPrio (s.qCtl y.1) < ctlPrio (s.qCtl x.1) ∨ (ctlPrio (s.qCtl y.1) = ctlPrio (s.qCtl x.1) ∧ x.2 < y.2) then some x else some y)
    (none : Option (Nat × Nat))).map (·.1)

/-- Maps a queue onto a free slot (R151, R216). Its notify word is read before it holds the slot, so the record of a faulting read names no
slot, 0xFF (DESIGN CHOICE, log 80). -/
def State.mapQueue (s : State) (n q : Nat) : State :=
  let r := s.readNotify q
  let s := { r.1 with pending := tdel r.1.pending q }
  let ctl := s.qCtl q
  let head := s.qRead q 0x18 8
  let k : HwSlot := { queue := q, head := head, notify := r.2.getD head, weight := ctlWeight ctl, prio := ctlPrio ctl, part := ctlPart ctl
                      credit := ctlWeight ctl, age := 0, since := s.gtime, idle := none, run := none
                      wdlim := s.qRead q 0x2C 2, wdcount := 0, wdfrac := 0, exp := false }
  let s := ({ s with wdHeld := tdel s.wdHeld n }.setSlot n k).qCtlBit q 24 true
  let s := match r.2 with
    | some v => if s.overrun q head v then s.ringOverrun q v else s
    | none => s
  s.noteIdle n

/-- A queue that is enabled again while it still holds a slot is mapped onto that slot anew; a head node some of whose replicas have been
placed stays (R148, R150), and so does an expiry, which only a partition reset clears (R216, R422). -/
def State.remap (s : State) (n q : Nat) : State :=
  let run := ((tfind s.slots n).bind (·.run)).filter (fun id => match tfind s.runs id with
    | some r => decide (r.started ≠ 0)
    | none => false)
  let old := (tfind s.slots n).filter (fun k => k.exp)
  let s := s.mapQueue n q
  match tfind s.slots n, old with
  | some k, none => s.setSlot n { k with run := run }
  | some k, some x =>
    (s.setSlot n { k with run := run, exp := true, wdcount := x.wdcount, wdfrac := x.wdfrac, rose := x.rose }).qCtlBit q 25 true
  | none, _ => s

/-- QUEUE_MAP: the free slot of lowest number (DESIGN CHOICE, log 80) goes to the next pending queue (R151). -/
def State.mapNext (s : State) : State :=
  match firstUp 0 64 (fun n => (tfind s.slots n).isNone), s.nextPending with
  | some n, some q => s.mapQueue n q
  | _, _ => s

/-- The three steps of an unmap (R152). -/
def State.unmapSlot (s : State) (n : Nat) : State :=
  match tfind s.slots n with
  | none => s
  | some k =>
    let q := k.queue
    let s := s.qWrite q 0x18 8 k.head
    let r := s.readNotify q
    let snap := r.2.getD k.head
    let s := r.1.qWrite q 0x20 8 snap
    let s := if r.2.isSome ∧ snap ≠ k.head then { s with pending := tput s.pending q s.gtime } else s
    { s.qCtlBit q 24 false with slots := tdel s.slots n, wdHeld := tset s.wdHeld n k.wdcount 0 }

/-- Whether a slot may be unmapped at all (R152). -/
def State.mayUnmap (s : State) (n : Nat) (k : HwSlot) : Bool :=
  decide (s.slotTasks n k = 0) && !k.exp && (match k.run.bind (tfind s.runs) with
    | some r => decide (r.started = 0)
    | none => true)

/-- Whether a slot is the one that R152's third case unmaps: no slot is free, and a queue of its partition with equal or higher PRIO
has been pending and unmapped for 100 µs. -/
def State.mustYield (s : State) (n : Nat) : Bool :=
  (firstUp 0 64 (fun m => (tfind s.slots m).isNone)).isNone &&
  s.pendingOn.any (fun x =>
    decide (100000 ≤ s.gtime - x.2) &&
    (let prio := ctlPrio (s.qCtl x.1)
     let l := s.slots.filter (fun k => s.mayUnmap k.1 k.2 && decide (k.2.part = ctlPart (s.qCtl x.1)) && decide (k.2.prio ≤ prio))
     let best := l.foldl (fun b k => match b with
        | none => some k
        | some y => if k.2.prio < y.2.prio ∨ (k.2.prio = y.2.prio ∧ k.2.since ≤ y.2.since) then some k else some y)
        (none : Option (Nat × HwSlot))
     decide (best.map (·.1) = some n)))

/-- QUEUE_UNMAP: unmaps a slot whose conditions hold (R152). A head node that has not begun is validated again when its queue is
mapped again. -/
def State.unmapIf (s : State) (n : Nat) : State :=
  let s := s.noteIdle n
  match tfind s.slots n with
  | none => s
  | some k =>
    let long := match k.idle with
      | some t => decide (10000 ≤ s.gtime - t)
      | none => false
    if s.mayUnmap n k && (long || !ctlEn (s.qCtl k.queue) || s.mustYield n) then
      let s := match k.run with
        | some id => { s with runs := tdel s.runs id }
        | none => s
      s.unmapSlot n
    else s

/-! The watchdog -/

/-- Whether a slot's timer counts (R157, R216). -/
def State.wdRuns (s : State) (n : Nat) (k : HwSlot) : Bool :=
  decide (k.wdlim ≠ 0) && !k.exp && !k.atLimit &&
  (decide (s.slotTasks n k ≠ 0) || (match k.run.bind (tfind s.runs) with
    | some r => r.ready
    | none => false))

/-- One nanosecond of a slot's timer (R216). -/
def State.wdTick (s : State) (n : Nat) : State :=
  match tfind s.slots n with
  | none => s
  | some k =>
    if !s.wdRuns n k then s
    else if k.wdfrac + 1 = 1000 then s.setSlot n { k with wdfrac := 0, wdcount := k.wdcount + 1, rose := s.gtime }
    else s.setSlot n { k with wdfrac := k.wdfrac + 1 }

/-- The node that a watchdog record names (R153): that of the earliest-placed live task of the slot, otherwise the head node. -/
def State.wdNode (s : State) (n : Nat) (k : HwSlot) : Nat :=
  let mine := fun (i : TaskInfo) => decide (i.slot = n) && decide (i.queue = k.queue)
  let l := (s.threads.filter (fun p => p.2.live && mine p.2.info)).map (·.2) ++
    ((s.saved.map (·.2.thr)).filter (fun t => mine t.info && (s.threads.filter (fun p => p.2.live && decide (p.2.taskid = t.taskid))).isEmpty))
  match l.foldl (fun b t => match b with
      | none => some t
      | some x => if t.info.order < x.info.order then some t else some x) (none : Option Thread) with
  | some t => t.nodeid.toNat
  | none =>
    match k.run.bind (tfind s.runs) with
    | some r => r.node
    | none => 0

/-- Expiry (R158, R432) of a slot that is at its limit: EXP, the record of KIND 3, and the interrupt. `now`: the nanosecond of the rise is
over. -/
def State.wdExpire (s : State) (n : Nat) (now : Bool) : State :=
  match tfind s.slots n with
  | none => s
  | some k =>
    if k.exp || !k.atLimit || (!now && decide (k.rose = s.gtime)) then s
    else
      let node := s.wdNode n k
      let live := s.slotTasks n k
      let s := (s.setSlot n { k with exp := true }).qCtlBit k.queue 25 true
      (s.queueEvent k.queue 3 0 node live).interrupt (s.eventBytes k.queue 3 0 node live)

/-- Expiry at the end of a nanosecond: a record that meets a closed bank waits for the next one (R94), and no restart withdraws it. -/
def State.wdExpireNow (s : State) (n : Nat) : State := if (s.wdExpire n true).stalled then s else s.wdExpire n true

/-- WDT of a slot (R216): a slot that holds no queue holds its count. -/
def State.wdt (s : State) (n : Nat) : Nat :=
  match tfind s.slots n with
  | none => tget s.wdHeld n 0
  | some k => k.wdcount + (if s.wdRuns n k then 2 ^ 31 else 0)

end Sys2Proof.Machine
end

