-- ==== Sys2Proof/Machine/Drain.lean ====
section
/-! DEFINITION. Drain and reset of a partition (R246, R247). -/

namespace Sys2Proof.Machine

/-- Traps detected and not entered are discarded by a drain; a bobbin that one of them froze runs again at the resumption. -/
def Thread.discardTraps (t : Thread) : Thread :=
  { t with
    pend := []
    bob := t.bob.map (fun b =>
      if b.2.stat.state = 2 ∧ t.pend.any (fun p => decide (p.src = 3) && decide (p.cmd = b.1)) = true then
        (b.1, { b.2 with stat := { b.2.stat with state := 1 } })
      else b) }

/-- The slots that hold tasks of a partition. -/
def State.partSlots (s : State) (p : Nat) : List Nat :=
  (s.threads.filter (fun x => !decide (x.2.slot = .free) && decide (x.2.info.part = p))).map (·.1)

/-- Ends the task that a slot held when the drain began, if it is still there. -/
def State.endTask (s : State) (h task : Nat) : State :=
  if (s.thr h).slot ≠ .free ∧ (s.thr h).taskid = task then s.endInError h else s

/-- A drain (R246): the partition is drained from now on; every placed task is pre-empted to wait for a message, or every live task
ends in error. The number of tasks stopped goes with the answer. -/
def State.drain (s : State) (p : Nat) (ends : Bool) : State × Nat :=
  let s := s.setPart p { s.part p with drained := true }
  let hs := s.partSlots p
  if ends then
    let pre := (s.saved.filter (fun x => decide (x.2.thr.info.part = p) && (s.threadOfTask x.1).isNone)).map (·.1)
    -- the records of the tasks stopped come before their completion updates (R423)
    let s0 := (hs.filter (fun h => (s.thr h).live)).foldl (fun a h => a.trace h 7 0xFF 0) s
    let s1 := hs.foldl (fun a h => a.endTask h (s.thr h).taskid) s0
    (pre.foldl (fun s t => s.endSaved t) s1, hs.length + pre.length)
  else
    let live := hs.filter (fun h => (s.thr h).live)
    (live.foldl (fun s h => (s.setThr h (s.thr h).discardTraps).requestStop h (s.thr h).info.cohort false) s, live.length)

/-- A run that a reset fails (R247): its node-fault record, whose CAUSE no rule gives (R23, R153); replicas never placed count as ended in
error, and HEAD advances. -/
def State.failReset (s : State) (n id : Nat) : State :=
  match tfind s.runs id with
  | some r =>
    let s := s.queueEvent r.queue 1 ((Config.freeWord s.tick n).toNat % 65536) r.node 0
    ({ s with runs := tput s.runs id { r with failed := true, err := true } }.settleRun id).advanceHead n
  | none => s.advanceHead n

/-- Fails the head node of a slot, taking it first if it has not been taken (R150, R247). -/
def State.resetHead (s : State) (n fuel : Nat) : State :=
  match fuel with
  | 0 => s
  | f + 1 =>
    match tfind s.slots n with
    | none => s
    | some k =>
      match k.run with
      | some id => s.failReset n id
      | none =>
        if !s.isPending k then s
        else
          let passed := match s.schedRead (s.part k.part).owner (s.qRead k.queue 0 8 + 8 * (k.head % 2 ^ ctlLogsz (s.qCtl k.queue))) 8 with
            | .err _ _ => true
            | .ok _ bs => decide (leNat bs % 128 ≠ 0) || decide (leNat bs = 0)
          let s := s.takeHead n 1
          match (tfind s.slots n).bind (·.run) with
          | some id => s.failReset n id
          | none => if passed then s.resetHead n f else s

/-- The five actions of a reset (R247). -/
def State.resetPart (s : State) (p : Nat) : State :=
  let s := (s.part p).cores.foldl (fun s c => (s.icDropAll c).l1FlushAll c) s
  let s := (s.part p).cores.foldl (fun s c => s.evictAll c) s
  let mine := s.slots.filter (fun k => decide (k.2.part = p))
  let s := mine.foldl (fun s k => (s.setSlot k.1 { k.2 with exp := false, wdcount := 0, wdfrac := 0 }).qCtlBit k.2.queue 25 false) s
  let s := mine.foldl (fun s k => s.resetHead k.1 (2 ^ ctlLogsz (s.qCtl k.2.queue))) s
  let s := (mine.filter (fun k => k.2.exp)).foldl (fun s k => s.unmapSlot k.1) s
  s.setPart p { s.part p with drained := false }

/-- Whether a partition has a placed task. -/
def State.partPlaced (s : State) (p : Nat) : Bool := s.threads.any (fun x => x.2.live && decide (x.2.info.part = p))

/-- Whether a partition has a live task, placed or pre-empted. -/
def State.partLive (s : State) (p : Nat) : Bool :=
  s.threads.any (fun x => !decide (x.2.slot = .free) && decide (x.2.info.part = p)) ||
  s.saved.any (fun x => decide (x.2.thr.info.part = p))

end Sys2Proof.Machine
end

