-- ==== Sys2Proof/Machine/Float.lean ====
section
/-! DEFINITION. Floating point (R44 to R54): every operation computes an exact value and rounds it once. A finite value is
(−1)^neg × m × 2^e with a natural m; a value too long to write exactly carries a sticky bit below its last place. -/

namespace Sys2Proof.Machine

/-- A floating-point format (R44). `inf` and `nan` say how the top exponent field is used. -/
structure FFmt where
  width : Nat
  expBits : Nat
  fracBits : Nat
  bias : Nat
  hasInf : Bool
  /-- e4m3: the top exponent is normal but for the all-ones code -/
  oneNan : Bool
  /-- e2m1: neither infinities nor NaNs -/
  plain : Bool

def f16 : FFmt := ⟨16, 5, 10, 15, true, false, false⟩
def bf16 : FFmt := ⟨16, 8, 7, 127, true, false, false⟩
def f32 : FFmt := ⟨32, 8, 23, 127, true, false, false⟩
def f64 : FFmt := ⟨64, 11, 52, 1023, true, false, false⟩
def e5m2 : FFmt := ⟨8, 5, 2, 15, true, false, false⟩
def e4m3 : FFmt := ⟨8, 4, 3, 7, false, true, false⟩
def e2m1 : FFmt := ⟨4, 2, 1, 1, false, false, true⟩

/-- A decoded value. -/
inductive FVal where
  | nan (signalling : Bool)
  | inf (neg : Bool)
  | fin (neg : Bool) (m : Nat) (e : Int)
  deriving DecidableEq, Repr

/-- FSTAT flags, bit 5 SAT, 4 NV, 3 DZ, 2 OF, 1 UF, 0 NX (R49). -/
abbrev FFlags := BitVec 6
def flSAT : FFlags := 32
def flNV : FFlags := 16
def flDZ : FFlags := 8
def flOF : FFlags := 4
def flUF : FFlags := 2
def flNX : FFlags := 1

/-- The sign bit. -/
def FFmt.sign (f : FFmt) (v : Nat) : Bool := v.testBit (f.width - 1)
def FFmt.expo (f : FFmt) (v : Nat) : Nat := v / 2 ^ f.fracBits % 2 ^ f.expBits
def FFmt.frac (f : FFmt) (v : Nat) : Nat := v % 2 ^ f.fracBits
def FFmt.signBit (f : FFmt) (neg : Bool) : Nat := cond neg (2 ^ (f.width - 1)) 0
def FFmt.infBits (f : FFmt) (neg : Bool) : Nat := f.signBit neg + (2 ^ f.expBits - 1) * 2 ^ f.fracBits

/-- The canonical NaN (R45). -/
def FFmt.canon (f : FFmt) : Nat :=
  if f.oneNan then 2 ^ (f.width - 1) - 1 else (2 ^ f.expBits - 1) * 2 ^ f.fracBits + 2 ^ (f.fracBits - 1)

/-- Magnitude bits of the largest finite value (R44). -/
def FFmt.maxBits (f : FFmt) : Nat :=
  if f.plain then 2 ^ (f.width - 1) - 1
  else if f.oneNan then 2 ^ (f.width - 1) - 2
  else (2 ^ f.expBits - 1) * 2 ^ f.fracBits - 1

/-- The value of a bit string (R44, R45). NaNs of the 8-bit formats are quiet. -/
def FFmt.decode (f : FFmt) (v : Nat) : FVal :=
  let e := f.expo v
  let fr := f.frac v
  if f.plain = false && decide (e = 2 ^ f.expBits - 1) && (!f.oneNan || decide (fr = 2 ^ f.fracBits - 1)) then
    if f.hasInf && decide (fr = 0) then .inf (f.sign v)
    else .nan (decide (8 < f.width) && !fr.testBit (f.fracBits - 1))
  else if e = 0 then .fin (f.sign v) fr (1 - (f.bias : Int) - f.fracBits)
  else .fin (f.sign v) (2 ^ f.fracBits + fr) ((e : Int) - f.bias - f.fracBits)

/-- Whether a magnitude between q and q + 1 units rounds up; `rem` of `den` is the part above q, `sticky` says that more lies
below it (R47). -/
def roundUp (rm : Nat) (neg : Bool) (q rem den : Nat) (sticky : Bool) : Bool :=
  let exact := decide (rem = 0) && !sticky
  match rm with
  | 0 => decide (den < 2 * rem) || (decide (2 * rem = den) && (sticky || decide (q % 2 = 1)))
  | 2 => neg && !exact
  | 3 => !neg && !exact
  | _ => false

/-- The sticky shift: m × 2^e in units of 2^u: quotient, remainder and denominator. -/
def toUnits (m : Nat) (e u : Int) : Nat × Nat × Nat :=
  if u ≤ e then (m * 2 ^ (e - u).toNat, 0, 1) else (m / 2 ^ (u - e).toNat, m % 2 ^ (u - e).toNat, 2 ^ (u - e).toNat)

/-- The unit of the last place of a magnitude m × 2^e in a format, the subnormal spacing at least (R44, R48). -/
def FFmt.ulpExp (f : FFmt) (m : Nat) (e : Int) : Int :=
  max (1 - (f.bias : Int) - f.fracBits) ((Nat.log2 m : Int) + e - f.fracBits)

/-- The bits of q × 2^u, where q has at most one bit more than the significand and u is at least the subnormal unit; the
exponent may exceed the format's, which the caller sees from the result's size. -/
def FFmt.magBits (f : FFmt) (q : Nat) (u : Int) : Nat :=
  let k := (u - (1 - (f.bias : Int) - f.fracBits)).toNat
  if q < 2 ^ f.fracBits then q
  else k * 2 ^ f.fracBits + q

/-- The delivered result of an overflow (R47, R51). -/
def FFmt.overflow (f : FFmt) (rm : Nat) (neg sat : Bool) : Nat :=
  let away := match rm with
    | 0 => true
    | 2 => neg
    | 3 => !neg
    | 4 => true
    | _ => false
  if f.hasInf && !sat && away then f.infBits neg else f.signBit neg + f.maxBits

/-- One rounding of (−1)^neg × (m × 2^e, and a little more when `sticky`) to a format (R47 to R49, R51). `u16` is the random
number of mode 100 (R48). A zero takes the given sign. -/
def FFmt.round (f : FFmt) (rm : Nat) (sat : Bool) (u16 : Nat) (neg : Bool) (m : Nat) (e : Int) (sticky : Bool) : Nat × FFlags :=
  if m = 0 ∧ sticky = false then (f.signBit neg, 0)
  else
    let u := f.ulpExp m e
    let (q, r, den) := toUnits m e u
    let up := if rm = 4 then decide (2 ^ 16 ≤ r * 2 ^ 16 / den + u16) else roundUp rm neg q r den sticky
    let q' := if up then q + 1 else q
    let inexact := !(decide (r = 0)) || sticky
    let bits := f.magBits q' u
    if f.maxBits < bits then (f.overflow rm neg sat, flOF ||| flNX)
    else
      -- tiny after rounding: rounded as if the exponent had no lower bound, the magnitude is still below the smallest normal
      let uf := (Nat.log2 m : Int) + e - f.fracBits
      let (q2, r2, den2) := toUnits m e uf
      let up2 := if rm = 4 then decide (2 ^ 16 ≤ r2 * 2 ^ 16 / den2 + u16) else roundUp rm neg q2 r2 den2 sticky
      let q2' := if up2 then q2 + 1 else q2
      let tiny := decide ((Nat.log2 q2' : Int) + uf < 1 - (f.bias : Int))
      let fl := if inexact then (if tiny then flNX ||| flUF else flNX) else 0
      (f.signBit neg + bits, fl)

/-- A decoded value delivered in a format under a rounding mode: special values as R45 and R51 state. -/
def FFmt.deliver (f : FFmt) (rm : Nat) (sat : Bool) (u16 : Nat) (v : FVal) : Nat × FFlags :=
  match v with
  | .nan s => (f.canon, if s then flNV else 0)
  | .inf n =>
    if sat then (f.signBit n + f.maxBits, 0)
    else if f.hasInf then (f.infBits n, 0)
    else (f.canon, flNV)
  | .fin n m e => f.round rm sat u16 n m e false

/-- Compares the magnitudes m × 2^e. -/
def magLt (m1 : Nat) (e1 : Int) (m2 : Nat) (e2 : Int) : Bool :=
  let e := min e1 e2
  decide (m1 * 2 ^ (e1 - e).toNat < m2 * 2 ^ (e2 - e).toNat)

/-- Exact sum of two finite values; the sign of an exact zero follows R47. -/
def finAdd (rm : Nat) (n1 : Bool) (m1 : Nat) (e1 : Int) (n2 : Bool) (m2 : Nat) (e2 : Int) : FVal :=
  let e := min e1 e2
  let a : Int := (if n1 then -1 else 1) * (m1 * 2 ^ (e1 - e).toNat : Nat)
  let b : Int := (if n2 then -1 else 1) * (m2 * 2 ^ (e2 - e).toNat : Nat)
  let s := a + b
  if s = 0 then .fin (if n1 = n2 then n1 else decide (rm = 2)) 0 e
  else .fin (decide (s < 0)) s.natAbs e

/-- NV of operands that are signalling NaNs (R45, R49). -/
def sigFlag (a b : FVal) : FFlags :=
  match a, b with
  | .nan true, _ => flNV
  | _, .nan true => flNV
  | _, _ => 0

/-- Addition of decoded values, exact but for special cases (R47, R49). -/
def valAdd (rm : Nat) (a b : FVal) : FVal × FFlags :=
  match a, b with
  | .nan _, _ => (.nan false, sigFlag a b)
  | _, .nan _ => (.nan false, sigFlag a b)
  | .inf x, .inf y => if x = y then (.inf x, 0) else (.nan false, flNV)
  | .inf x, _ => (.inf x, 0)
  | _, .inf y => (.inf y, 0)
  | .fin n1 m1 e1, .fin n2 m2 e2 => (finAdd rm n1 m1 e1 n2 m2 e2, 0)

def valNeg (a : FVal) : FVal :=
  match a with
  | .nan s => .nan s
  | .inf n => .inf (!n)
  | .fin n m e => .fin (!n) m e

/-- Exact product (R49). -/
def valMul (a b : FVal) : FVal × FFlags :=
  match a, b with
  | .nan _, _ => (.nan false, sigFlag a b)
  | _, .nan _ => (.nan false, sigFlag a b)
  | .inf x, .inf y => (.inf (x != y), 0)
  | .inf x, .fin n m _ => if m = 0 then (.nan false, flNV) else (.inf (x != n), 0)
  | .fin n m _, .inf y => if m = 0 then (.nan false, flNV) else (.inf (n != y), 0)
  | .fin n1 m1 e1, .fin n2 m2 e2 => (.fin (n1 != n2) (m1 * m2) (e1 + e2), 0)

/-- a + b in a format, one rounding. -/
def FFmt.add (f : FFmt) (rm a b : Nat) : Nat × FFlags :=
  let (v, fl) := valAdd rm (f.decode a) (f.decode b)
  let (r, fl') := f.deliver rm false 0 v
  (r, fl ||| fl')

def FFmt.neg (f : FFmt) (a : Nat) : Nat := a ^^^ 2 ^ (f.width - 1)

/-- a − b; the sign of a NaN operand is of no consequence. -/
def FFmt.sub (f : FFmt) (rm a b : Nat) : Nat × FFlags := f.add rm a (f.neg b)

def FFmt.mul (f : FFmt) (rm a b : Nat) : Nat × FFlags :=
  let (v, fl) := valMul (f.decode a) (f.decode b)
  let (r, fl') := f.deliver rm false 0 v
  (r, fl ||| fl')

/-- a × b + c with one rounding; 0 × ∞ and ∞ − ∞ set NV whatever c is (R301, R326). -/
def FFmt.fma (f : FFmt) (rm a b c : Nat) : Nat × FFlags :=
  let (p, fl1) := valMul (f.decode a) (f.decode b)
  let (v, fl2) := valAdd rm p (f.decode c)
  let (r, fl3) := f.deliver rm false 0 v
  (r, fl1 ||| fl2 ||| fl3)

/-- a ÷ b (R49): the quotient is taken to enough places, with a sticky bit. -/
def FFmt.div (f : FFmt) (rm a b : Nat) : Nat × FFlags :=
  match f.decode a, f.decode b with
  | .nan s, y => (f.canon, sigFlag (.nan s) y)
  | x, .nan s => (f.canon, sigFlag x (.nan s))
  | .inf _, .inf _ => (f.canon, flNV)
  | .inf x, .fin n _ _ => (f.infBits (x != n), 0)
  | .fin n _ _, .inf y => (f.signBit (n != y), 0)
  | .fin n1 m1 e1, .fin n2 m2 e2 =>
    if m2 = 0 then (if m1 = 0 then (f.canon, flNV) else (f.infBits (n1 != n2), flDZ))
    else if m1 = 0 then (f.signBit (n1 != n2), 0)
    else
      let sh := 2 * f.fracBits + 8 + Nat.log2 m2
      let q := m1 * 2 ^ sh / m2
      f.round rm false 0 (n1 != n2) q (e1 - e2 - sh) (!decide (m1 * 2 ^ sh % m2 = 0))

/-- Integer square root, rounded down, by bits. -/
def isqrtAux (n : Nat) (k r : Nat) : Nat :=
  match k with
  | 0 => r
  | j + 1 => if (r + 2 ^ j) * (r + 2 ^ j) ≤ n then isqrtAux n j (r + 2 ^ j) else isqrtAux n j r

def isqrt (n : Nat) : Nat := isqrtAux n (Nat.log2 n / 2 + 1) 0

/-- √a (R299). -/
def FFmt.sqrt (f : FFmt) (rm a : Nat) : Nat × FFlags :=
  match f.decode a with
  | .nan s => (f.canon, if s then flNV else 0)
  | .inf true => (f.canon, flNV)
  | .inf false => (f.infBits false, 0)
  | .fin n m e =>
    if m = 0 then (f.signBit n, 0)
    else if n then (f.canon, flNV)
    else
      let sh := 2 * f.fracBits + 8
      let odd := (e % 2).toNat
      let m' := m * 2 ^ (2 * sh + odd)
      let r := isqrt m'
      f.round rm false 0 false r ((e - odd) / 2 - sh) (!decide (r * r = m'))

/-- Order of two values that are not NaN: a < b, −0 below +0 when `signedZero` (R54). -/
def valLt (signedZero : Bool) (a b : FVal) : Bool :=
  match a, b with
  | .nan _, _ => false
  | _, .nan _ => false
  | .inf x, .inf y => x && !y
  | .inf x, .fin _ _ _ => x
  | .fin _ _ _, .inf y => !y
  | .fin n1 m1 e1, .fin n2 m2 e2 =>
    if m1 = 0 ∧ m2 = 0 then signedZero && n1 && !n2
    else if m1 = 0 then !n2
    else if m2 = 0 then n1
    else match n1, n2 with
      | true, false => true
      | false, true => false
      | false, false => magLt m1 e1 m2 e2
      | true, true => magLt m2 e2 m1 e1

def valEq (a b : FVal) : Bool :=
  match a, b with
  | .nan _, _ => false
  | _, .nan _ => false
  | _, _ => !valLt false a b && !valLt false b a

def isNan (a : FVal) : Bool :=
  match a with
  | .nan _ => true
  | _ => false

/-- minimumNumber and maximumNumber (R54). -/
def FFmt.minmax (f : FFmt) (isMax : Bool) (a b : Nat) : Nat × FFlags :=
  let x := f.decode a
  let y := f.decode b
  let fl := sigFlag x y
  if isNan x && isNan y then (f.canon, fl)
  else if isNan x then (b, fl)
  else if isNan y then (a, fl)
  else if valLt true x y then (if isMax then b else a, fl)
  else (if isMax then a else if valLt true y x then b else a, fl)

/-- The compares of R54: equal, less, less or equal; any signalling NaN sets NV. -/
def FFmt.cmpEq (f : FFmt) (a b : Nat) : Bool × FFlags := (valEq (f.decode a) (f.decode b), sigFlag (f.decode a) (f.decode b))
def FFmt.cmpLt (f : FFmt) (a b : Nat) : Bool × FFlags := (valLt false (f.decode a) (f.decode b), sigFlag (f.decode a) (f.decode b))
def FFmt.cmpLe (f : FFmt) (a b : Nat) : Bool × FFlags :=
  (valLt false (f.decode a) (f.decode b) || valEq (f.decode a) (f.decode b), sigFlag (f.decode a) (f.decode b))

/-- The class bit of FKIND (R299). -/
def FFmt.kind (f : FFmt) (a : Nat) : Nat :=
  match f.decode a with
  | .nan true => 8
  | .nan false => 9
  | .inf true => 0
  | .inf false => 7
  | .fin n m _ =>
    if m = 0 then (if n then 3 else 4)
    else if f.expo a = 0 then (if n then 2 else 5)
    else if n then 1 else 6

/-- Sign manipulation: 0 copy, 1 inverse, 2 exclusive or (R299, R326). -/
def FFmt.signOp (f : FFmt) (op a b : Nat) : Nat :=
  let s := match op with
    | 0 => f.sign b
    | 1 => !f.sign b
    | _ => f.sign a != f.sign b
  a % 2 ^ (f.width - 1) + f.signBit s

/-- A finite magnitude m × 2^e rounded to an integer (R52). -/
def toInteger (rm : Nat) (neg : Bool) (m : Nat) (e : Int) : Nat × Bool :=
  let (q, r, den) := toUnits m e 0
  (if roundUp rm neg q r den false then q + 1 else q, !decide (r = 0))

/-- Conversion to an integer of `w` bits (R52): the two's complement or plain bits. -/
def FFmt.toInt (f : FFmt) (rm w : Nat) (signed : Bool) (a : Nat) : Nat × FFlags :=
  let top : Int := if signed then 2 ^ (w - 1) - 1 else 2 ^ w - 1
  let bot : Int := if signed then -(2 ^ (w - 1)) else 0
  match f.decode a with
  | .nan _ => (0, flNV)
  | .inf n => (wrap w (if n then bot else top), flNV)
  | .fin n m e =>
    let (q, inexact) := toInteger rm n m e
    let v : Int := if n then -(q : Int) else q
    if v < bot then (wrap w bot, flNV)
    else if top < v then (wrap w top, flNV)
    else (wrap w v, if inexact then flNX else 0)

/-- Conversion of an integer to a format (R52). -/
def FFmt.ofInt (f : FFmt) (rm : Nat) (sat : Bool) (v : Int) : Nat × FFlags := f.round rm sat 0 (decide (v < 0)) v.natAbs 0 false

/-- Conversion between floating-point formats (R51). -/
def FFmt.convert (dst src : FFmt) (rm : Nat) (sat : Bool) (u16 a : Nat) : Nat × FFlags := dst.deliver rm sat u16 (src.decode a)

/-- The scalar format codes of R299. -/
def scalarFmt (code : Nat) : FFmt :=
  match code with
  | 0 => f32
  | 1 => f64
  | 2 => f16
  | _ => bf16

/-- The arithmetic format of a vector element width code (R317). -/
def sewFmt (sew : Nat) : FFmt :=
  match sew with
  | 1 => f16
  | 2 => f32
  | _ => f64

/-- The floating-point formats among the VFCVT codes (R328). -/
def cvtFmt (code : Nat) : FFmt :=
  match code with
  | 8 => e4m3
  | 9 => e5m2
  | 10 => f16
  | 11 => bf16
  | 12 => f32
  | 13 => f64
  | _ => e2m1

/-- Width in bits of a VFCVT code, e2m1 counted as 8 (R329). -/
def cvtWidth (code : Nat) : Nat :=
  match code with
  | 0 | 4 | 8 | 9 | 14 => 8
  | 1 | 5 | 10 | 11 => 16
  | 2 | 6 | 12 => 32
  | _ => 64

/-- One conversion by the codes of R328, e2m1 apart. -/
def cvtScalar (t src rm : Nat) (sat : Bool) (u16 a : Nat) : Nat × FFlags :=
  if t < 8 then (cvtFmt src).toInt rm (cvtWidth t) (decide (t < 4)) a
  else if src < 8 then (cvtFmt t).ofInt rm sat (if src < 4 then sx (cvtWidth src) a else (a : Int))
  else (cvtFmt t).convert (cvtFmt src) rm sat u16 a

/-- An element code of an MX block: y = element ÷ 2^e rounded to e2m1, clamped to 6 with NX only (R53). -/
def mxCode (rm u16 : Nat) (e : Int) (v : FVal) : Nat × FFlags :=
  match v with
  | .fin n m x =>
    let (r, fl) := e2m1.round rm false u16 n m (x - e) false
    (r, if fl = 0 then 0 else flNX)
  | _ => (0, 0)

/-- The shared exponent of an MX block: the magnitudes of its elements; none for a NaN or infinity (R53). -/
def mxExp (vs : List FVal) : Option Int :=
  vs.foldl (fun acc v =>
    match acc, v with
    | some e, .fin _ m x => if m = 0 then some e else some (max e (min (max ((Nat.log2 m : Int) + x - 2) (-127)) 127))
    | _, _ => none) (some (-127))

/-- The value of an e2m1 code under an e8m0 scale (R46). -/
def mxVal (scale code : Nat) : FVal :=
  if scale = 255 then .nan false
  else match e2m1.decode (code % 16) with
    | .fin n m e => .fin n m (e + (scale : Int) - 127)
    | v => v

end Sys2Proof.Machine
end

