-- ==== Sys2Proof/Machine/Approx.lean ====
section
/-! DEFINITION. The approximations of R327, from enclosures of the exact value, and the random numbers of R60. -/

namespace Sys2Proof.Machine

/-- Significant bits of an approximation (R327). -/
def approxBits (f : FFmt) : Nat := if f.width = 16 then 11 else if f.width = 32 then 22 else 40

/-- A positive magnitude truncated to `p` significant bits. -/
def truncBits (p n : Nat) : Nat :=
  if n = 0 then 0 else n / 2 ^ (Nat.log2 n + 1 - p) * 2 ^ (Nat.log2 n + 1 - p)

/-- Delivers a magnitude known to lie in [lo, hi] × 2^e, rounded towards zero twice; none when the enclosure does not fix the
result. `exact` says that lo = hi is the value itself. -/
def enclosed (f : FFmt) (neg : Bool) (lo hi : Nat) (e : Int) (exact : Bool) : Option (Nat × FFlags) :=
  let p := approxBits f
  let a := truncBits p lo
  if a = truncBits p hi then some (f.round 1 false 0 neg a e (!(exact && decide (a = lo)))) else none

/-- Working places of the fixed-point numbers of VFEXP2 and of VFLOG2, and places of an exponent's fraction: no operand of a format has
a place below them whose power of two is not 1 to 60 places. -/
def wp : Nat := 192
def lp : Nat := 320
def xp : Nat := 128

/-- 2^(2^−i) for i = 1 to n as fixed-point numbers rounded down, the first argument being 2^(2^−(i−1)). -/
def rootsOfTwo (n c : Nat) : List Nat :=
  match n with
  | 0 => []
  | m + 1 => let r := isqrt (c * 2 ^ wp); r :: rootsOfTwo m r

/-- Product of the roots of two that the fraction bits select; the bits are read from `i` down. -/
def expFrac (roots : List Nat) (fr i : Nat) (acc : Nat) : Nat :=
  match roots, i with
  | r :: rs, j + 1 => expFrac rs fr j (if fr.testBit j then acc * r / 2 ^ wp else acc)
  | _, _ => acc

/-- 2^x for finite x (R327): x = n + fr ÷ 2^xp, and an error below 2^10 units of the last place. -/
def exp2Val (f : FFmt) (neg : Bool) (m : Nat) (e : Int) : Option (Nat × FFlags) :=
  if m = 0 then some (f.round 1 false 0 false 1 0 false)
  else if 16 < (Nat.log2 m : Int) + e then
    some (if neg then (0, flUF ||| flNX) else (f.maxBits, flOF ||| flNX))
  else
    let (q, r, den) := toUnits m e (-xp)
    let inexact := decide (den ≠ 1) && decide (r ≠ 0)
    let x : Int := if neg then -(q : Int) - (if inexact then 1 else 0) else q
    let n := x / (2 ^ xp : Nat)
    let fr := (x % (2 ^ xp : Nat)).toNat
    if fr = 0 ∧ inexact = false then some (f.round 1 false 0 false 1 n false)
    else
      let v := expFrac (rootsOfTwo xp (2 * 2 ^ wp)) fr xp (2 ^ wp)
      let slack := if inexact then 2 ^ (wp - xp + 1) else 0
      -- the fraction's power lies strictly between 1 and 2
      enclosed f false (max (2 ^ wp) (v - 2 ^ 10)) (min (2 ^ (wp + 1) - 1) (v + 2 ^ 10 + slack)) (n - wp) false

/-- Bits of log2 y for y in [1, 2) enclosed by [lo, hi] ÷ 2^lp, by repeated squaring; none when the enclosure straddles 2. -/
def logBits (n lo hi acc : Nat) : Option Nat :=
  match n with
  | 0 => some acc
  | m + 1 =>
    let lo2 := lo * lo / 2 ^ lp
    let hi2 := hi * hi / 2 ^ lp + 1
    if 2 * 2 ^ lp ≤ lo2 then logBits m (lo2 / 2) (hi2 / 2 + 1) (2 * acc + 1)
    else if hi2 < 2 * 2 ^ lp then logBits m lo2 hi2 (2 * acc)
    else none

/-- log2 of m × 2^e, m positive (R327). -/
def log2Val (f : FFmt) (m : Nat) (e : Int) : Option (Nat × FFlags) :=
  let k := Nat.log2 m
  let ex : Int := (k : Int) + e
  if m = 2 ^ k then some (f.round 1 false 0 (decide (ex < 0)) ex.natAbs 0 false)
  else
    let y := m * 2 ^ (lp - k)
    match logBits 200 y y 0 with
    | none => none
    | some b =>
      let lo : Int := ex * (2 ^ 200 : Nat) + b
      if 0 ≤ lo then enclosed f false lo.toNat (lo.toNat + 1) (-200) false
      else enclosed f true ((-lo).toNat - 1) (-lo).toNat (-200) false

/-- 1 ÷ (m × 2^e), m positive (R327). -/
def rcpVal (f : FFmt) (neg : Bool) (m : Nat) (e : Int) : Nat × FFlags :=
  let s := Nat.log2 m + 64
  let q := 2 ^ s / m
  f.round 1 false 0 neg (truncBits (approxBits f) q) (-e - s) (decide (truncBits (approxBits f) q * m ≠ 2 ^ s))

/-- 1 ÷ √(m × 2^e), m positive (R327). -/
def rsqrtVal (f : FFmt) (m : Nat) (e : Int) : Nat × FFlags :=
  let odd := (e % 2).toNat
  let m' := m * 2 ^ odd
  let s := Nat.log2 m' + 64
  let r := isqrt (2 ^ (2 * s) / m')
  let t := truncBits (approxBits f) r
  f.round 1 false 0 false t (-((e - odd) / 2) - s) (decide (t * t * m' ≠ 2 ^ (2 * s)))

/-- VFUN (R326, R327): 0 VFSQRT, 1 VFEXP2, 2 VFLOG2, 3 VFRCP, 4 VFRSQRT. Where an enclosure does not fix the result, it is a
free value. -/
def vfun (op : VFunOp) (f : FFmt) (rm a : Nat) : Nat × FFlags :=
  let free (n : Nat) (o : Option (Nat × FFlags)) : Nat × FFlags :=
    o.getD (Config.approx n f.width a % 2 ^ f.width, flNX)
  match op, f.decode a with
  | .sqrt, _ => f.sqrt rm a
  | _, .nan s => (f.canon, if s then flNV else 0)
  | .exp2, .inf n => (if n then 0 else f.infBits false, 0)
  | .exp2, .fin n m e => free 1 (exp2Val f n m e)
  | .log2, .inf n => if n then (f.canon, flNV) else (f.infBits false, 0)
  | .log2, .fin n m e => if m = 0 then (f.infBits true, flDZ) else if n then (f.canon, flNV) else free 2 (log2Val f m e)
  | .rcp, .inf n => (f.signBit n, 0)
  | .rcp, .fin n m e => if m = 0 then (f.infBits n, flDZ) else rcpVal f n m e
  | .rsqrt, .inf n => if n then (f.canon, flNV) else (0, 0)
  | .rsqrt, .fin n m e => if m = 0 then (f.infBits n, flDZ) else if n then (f.canon, flNV) else rsqrtVal f m e

/-- One round of Philox-4×32 (R60): the counter words c0 to c3 under the key words. -/
def philoxRound (k0 k1 : Nat) (c : Nat × Nat × Nat × Nat) : Nat × Nat × Nat × Nat :=
  let p0 := 0xD2511F53 * c.1
  let p1 := 0xCD9E8D57 * c.2.2.1
  (p1 / 2 ^ 32 ^^^ c.2.1 ^^^ k0, p1 % 2 ^ 32, p0 / 2 ^ 32 ^^^ c.2.2.2 ^^^ k1, p0 % 2 ^ 32)

def philoxRun (n k0 k1 : Nat) (c : Nat × Nat × Nat × Nat) : Nat × Nat × Nat × Nat :=
  match n with
  | 0 => c
  | m + 1 => philoxRun m ((k0 + 0x9E3779B9) % 2 ^ 32) ((k1 + 0xBB67AE85) % 2 ^ 32) (philoxRound k0 k1 c)

/-- PHILOX(key, ctr): the four words w0 to w3 (R60). -/
def philox (key ctr : Nat) : Nat × Nat × Nat × Nat :=
  philoxRun 10 (key % 2 ^ 32) (key / 2 ^ 32 % 2 ^ 32)
    (ctr % 2 ^ 32, ctr / 2 ^ 32 % 2 ^ 32, ctr / 2 ^ 64 % 2 ^ 32, ctr / 2 ^ 96 % 2 ^ 32)

end Sys2Proof.Machine
end

