-- ==== Sys2Proof/Machine/Flags.lean ====
section
/-! DEFINITION. Flags and rounding: how a result reports into FSTAT (R42, R49), and which rounding mode an instruction uses
(R47). -/

namespace Sys2Proof.Machine

/-- The rounding mode of a field: 7 reads FMODE.RM when the instruction executes, or commits (R47, R300). -/
def Thread.rmOf (t : Thread) (field : Nat) : Nat := if field = 7 then t.frm else field

/-- Raises the flags of a result (R49). -/
def Thread.raise (t : Thread) (f : FFlags) : Thread := t.flag f

/-- The flag of a clamped integer result (R42). -/
def satFlag (b : Bool) : FFlags := cond b flSAT 0

/-- Clamps an integer to a signed or unsigned range, and says whether it was clamped (R42). -/
def clampInt (w : Nat) (signed : Bool) (v : Int) : Nat × Bool :=
  let lo : Int := if signed then -(2 ^ (w - 1) : Nat) else 0
  let hi : Int := if signed then (2 ^ (w - 1) : Nat) - 1 else (2 ^ w : Nat) - 1
  if v < lo then (wrap w lo, true) else if hi < v then (wrap w hi, true) else (wrap w v, false)

end Sys2Proof.Machine
end

