-- ==== Sys2Proof/Machine/Ops.lean ====
section
/-! DEFINITION. The named operations that the meanings share: how an instruction ends, taking a trap and returning from it
(R79, R196, R229 to R236), scalar memory accesses (R297, R298), atomics (R303 to R305) and queue registers (R73). -/

namespace Sys2Proof.Machine

abbrev Res := Host.Outcome State Fault Refusal

/-! Traps -/

/-- A trap without the fields of an address. -/
def Pend.plain (src code : Nat) (tval : Word) : Pend :=
  { src := src, code := code, tval := tval, tvpc := 0, cmd := 0, start := 0, kind := 0, level := 0, entry := 0, index := 0
    stride := 0, remain := 0, time := none, item := none }

/-- Code 64 for a DRAM word (R227, R241), with the KIND of its record (R185). -/
def Pend.dramWord (src kind w : Nat) : Pend := { Pend.plain src 64 (toW w) with kind := kind, item := some (0, w) }

/-- A scalar trap of an address, with the KIND, LEVEL and ENTRY of its record (R185). -/
def Pend.addr (code : Nat) (va : Word) (kind level entry : Nat) : Pend :=
  { Pend.plain 0 code va with kind := kind, level := level, entry := entry }

/-- The route of a cause for an owner (R196, R227). -/
def State.route (s : State) (owner code : Nat) : Nat :=
  if code = 64 then 2 else if 64 ≤ code then 3 else (s.owner owner).routing / 4 ^ code % 4

/-- Position of a VIQ entry by command number. -/
def viqPos (viq : List VEntry) (cmd : Nat) : Nat := (viq.takeWhile (fun e => !decide (e.cmd = cmd))).length

/-- The registers that a trap delivered to the thread's handler writes (R79, R229, R231 to R233). -/
def Thread.enter (t : Thread) (p : Pend) (pc : Word) : Thread :=
  let pos := viqPos t.viq p.cmd
  { t with
    hnd := true, tsrc := p.src, tcode := p.code, tepc := pc, tval := p.tval
    tvpc := if p.src = 1 then p.tvpc else 0
    tpos := if p.src = 1 then pos else 0
    nkeep := if p.src = 1 then t.viq.length - pos - 1 else 0
    tstart := if p.src = 1 then p.start else 0
    pc := t.tvec, wait := .none, freed := false, remote := none, away := none, shoot := none, wfeSince := none }

/-- Abandons the faulting tile instruction and every younger entry, with the traps of those (R232). -/
def State.abandonFrom (s : State) (h cmd : Nat) : State :=
  let t := s.thr h
  let renamed := t.win.foldl (fun l e => if e.cmd < cmd then l else l ++ (match e.send with
    | .landed => []
    | _ => e.dst.map (·.2))) []
  (s.freeTiles (coreOf h) renamed).setThr h { t.unfix renamed with
    win := t.win.map (fun e => if e.cmd < cmd then e else e.abandon)
    pend := t.pend.filter (fun p => !decide (p.src = 2) || decide (p.cmd < cmd)) }

/-- Every instruction of the VIQ in flight stops at its start index, and probes again when it goes on (R231, R237, R238). -/
def State.stopVector (s : State) (h : Nat) : State :=
  let s := (s.unpin h).fillStopped h
  s.setThr h { s.thr h with viq := (s.thr h).viq.map VEntry.stop }

/-- Stops what a deferred trap stops (R231, R232, R238). -/
def State.stopFor (s : State) (h : Nat) (p : Pend) : State :=
  if p.src = 0 then s
  else if p.src = 2 then (s.stopVector h).abandonFrom h p.cmd
  else s.stopVector h

/-- The items of a tile that cannot be read: its words, or the whole of a poisoned tile (R187, R241). -/
def PTile.items (p : PTile) : List (Nat × Nat) :=
  if p.poison then [(1, 65536 * p.tile + 65535)] else p.bad.map (fun w => (1, 65536 * p.tile + w))

/-- The poisoned items that a container lists after code 64 (R241): words of v registers, of queue registers, of VIQ entries and of resident
tiles, and the failing DRAM word. -/
def State.repairList (s : State) (h : Nat) (p : Pend) : List (Nat × Nat) :=
  let t := s.thr h
  (t.vpoison ++ t.verr).map (fun w => (2, w)) ++ t.qbad.flatMap (fun q => q.2.map (fun i => (3, 16 * q.1 + i))) ++
  (t.viq.filter (·.bad)).map (fun e => (4, e.cmd)) ++
  ((s.core (coreOf h)).tiles.filter (fun x => x.2.ofContext t.owner t.mapb)).flatMap (fun x => x.2.items) ++ optList p.item

/-- Pre-emption at trap entry (R236). -/
def State.preemptTrap (s : State) (h : Nat) (p : Pend) : State :=
  let task := (s.thr h).taskid
  let items := if p.code = 64 then s.repairList h p else []
  let s := s.preempt h false false false
  match tfind s.saved task with
  | some v => { s with saved := tput s.saved task { v with repair := items } }
  | none => s

/-- TAKING A TRAP at a boundary of the scalar stream, `pc` being the address of the first instruction not executed: to the
thread's handler, to the pager, to system software, or the end of the task (R79, R196, R227, R229 to R236). -/
def State.takeTrap (s : State) (h : Nat) (p : Pend) (pc : Word) : State :=
  let s := if p.code = 64 then (s.stopFor h p).errorRecord logUncorrectable p.tval.toNat else s.stopFor h p
  let t := s.thr h
  let record := s.faultRec h p
  let parked := s.setThr h { t with pc := pc, wait := .none, freed := false, remote := none, away := none }
  let toSystem := (parked.preemptTrap h p).interrupt record.bytes
  match s.route t.owner p.code with
  | 0 => if t.tvec = 0 ∨ t.hnd = true then s.endInError h else s.setThr h (t.enter p pc)
  | 1 =>
    match s.faultRing with
    | some _ => { parked.preemptTrap h p with faultWait := s.faultWait ++ [record] }.writeFault
    | none => toSystem
  | 2 => toSystem
  | _ =>
    let s := if p.code = 65 then (s.interrupt (s.logBytes logUncorrectable p.tval.toNat)).errorRecord logUncorrectable p.tval.toNat else s
    s.endInError h

/-- RETURN FROM A TRAP (R79, R309): HND is cleared, the pc is TEPC, and the bobbins frozen by the trap resume. -/
def State.returnFromTrap (s : State) (h : Nat) : State :=
  let t := s.thr h
  let frozen := (t.bob.filter (fun b => decide (b.2.stat.state = 2))).map (·.1)
  let s := s.setThr h { t.resumeBobbins with hnd := false, pc := t.tepc, wait := .none }
  frozen.foldl (fun s b => if ((s.thr h).bobbin b).stat.state = 1 then s.trace h 5 (2 + b) ((s.thr h).rwm b).toNat else s) s

/-! How an instruction ends -/

/-- The outcome of an operation inside an instruction: done with a value; a precise trap; or a wait, each with what the machine has
meanwhile done for it; after a wait the instruction restarts whole (R28). -/
inductive Out (α : Type) where
  | ok (s : State) (a : α)
  | trap (s : State) (p : Pend)
  | wait (w : WaitOn) (s : State)

def Out.bind {α β : Type} (o : Out α) (f : State → α → Out β) : Out β :=
  match o with
  | .ok s a => f s a
  | .trap s p => .trap s p
  | .wait w s => .wait w s

/-- The pc goes to `pc`; the instruction counts as retired (R224). -/
def State.retireTo (s : State) (pc : Word) : State :=
  (s.setCur { s.cur with pc := pc, wait := .none, freed := false, remote := none, away := none, shoot := none, wfeSince := none }).count s.cur.taskid 1 1

/-- The instruction is complete, and the pc moves past its `len` bytes. -/
def State.retire (s : State) (len : Nat) : State := s.retireTo (s.cur.pc + toW len)

/-- The scalar stream waits; the pc stays. An access that waits for a watermark is one that a watermark releases (R138). -/
def State.waiting (s : State) (w : WaitOn) : State := s.setCur { s.cur with wait := w, freed := s.cur.freed || decide (w = .watermark) }

/-- Whether a precise trap is discarded: the drain of the partition stops the thread (R246). The instruction executes again when the task
resumes. -/
def State.drops (s : State) : Bool := s.cur.stopReq.isSome && (s.part s.cur.info.part).drained

/-- A precise trap of the current instruction (R229). One that pre-empts the task waits until the streams have stopped (R71, R237). -/
def State.precise (s : State) (p : Pend) : State :=
  let r := s.route s.cur.owner p.code
  if s.drops then s.setCur { s.cur with wait := .none, freed := false, remote := none, away := none }
  else if (s.cur.outstanding || s.cur.bobbinsOut) && (decide (r = 1) || decide (r = 2)) then s.waiting .stop
  else s.takeTrap s.hart p s.cur.pc

/-- Ends an instruction of `len` bytes. -/
def Out.finish (o : Out Unit) (len : Nat) : Res :=
  match o with
  | .ok s' _ => .next (s'.retire len)
  | .trap s' p => .next (s'.precise p)
  | .wait w s' => .next (s'.waiting w)

/-- The illegal-instruction trap, whose TVAL is the instruction's bits (R227). -/
def State.illegal (s : State) : Pend := Pend.plain 0 1 (toW s.ir)

/-- An instruction that only changes the thread's registers. -/
def regOp (len : Nat) (s : State) (f : Thread → Thread) : Res := .next ((s.setCur (f s.cur)).retire len)

/-! Spans of vector memory instructions (R122) -/

/-- The bytes that a vector memory instruction may touch, as known at commit: every address for an indexed form, otherwise base to
the last element of MVL (R19, R122). -/
def VMem.reach (m : VMem) (grant sew nreg : Nat) : Int × Int :=
  if m.idx.isSome then (0, 2 ^ 64)
  else
    let reach := ((mvlOf grant sew nreg : Int) - 1) * wInt m.stride
    let b : Int := m.base.toNat
    (min b (b + reach), max b (b + reach) + (2 ^ sew : Nat))

/-- The span of R122: none with .p or for an instruction that is no memory access. -/
def VEntry.span (grant : Nat) (e : VEntry) : Option (Int × Int) :=
  match e.op with
  | .mem m => if m.p then none else some (m.reach grant e.sew e.nreg)
  | _ => none

/-- Whether a scalar access touches the span of an incomplete vector memory instruction of the thread. -/
def Thread.inSpan (t : Thread) (a n : Nat) : Bool :=
  t.viq.any (fun e => match e.span t.vgrant with
    | some (lo, hi) => decide (lo < (a : Int) + n) && decide ((a : Int) < hi)
    | none => false)

/-! Scalar memory accesses -/

/-- KIND of the fault record of an access kind (R185). -/
def kindOf (k : Acc) : Nat :=
  match k with
  | .fetch => 0
  | .sload => 1
  | .sstore | .satomic | .maint => 2
  | .vload | .shaftLoad => 3
  | .vstore | .vatomic | .shaftStore => 4
  | .tload | .tstore => 5
  | .bsrc => 6
  | .bdst => 7

/-- Translation for the scalar stream, with its traps and the wait for a walk (R174, R178); an access that has been issued keeps its
place. -/
def State.place (s : State) (k : Acc) (va : Word) (n : Nat) : Out Place :=
  match (if k = .fetch then none else s.cur.away) with
  | some x => .ok s x.2
  | none => match s.translate (some (coreOf s.hart)) s.cur.owner k va.toNat n with
  | .err s e => .trap s (Pend.addr e.code va (kindOf k) e.level e.entry)
  | .miss s => .wait .walk s
  | .ok s p => .ok s p

/-- A scalar trap of an access whose translation is complete, with LEVEL and ENTRY of its leaf (R185). -/
def State.leafTrap {α : Type} (s : State) (code : Nat) (va : Word) (kind : Nat) : Out α :=
  let e := s.leafErr (some (coreOf s.hart)) s.cur.owner va.toNat code
  .trap s (Pend.addr code va kind e.level e.entry)

/-- For .fe, .take and .fill the access fault of an address outside the window comes before that of a sealed page (R107, R230). -/
def Out.windowFirst (o : Out Place) (window : Bool) : Out Place :=
  match o with
  | .trap s p => .trap s (if window && decide (p.code = 9) then { p with code := 5 } else p)
  | r => r

/-- The checks of a scalar access before it performs, in the order of R230: alignment, translation, the scratchpad window for
.fe, .take and .fill (R107), then the waits for spans (R122) and watermarks (R138), and the invalidation of R122. An access that has been
issued has passed them. -/
def State.access (s : State) (k : Acc) (va : Word) (n : Nat) (window : Bool) : Out Place :=
  if s.cur.away.isSome then s.place k va n
  else if va.toNat % n ≠ 0 then .trap s (Pend.addr 4 va (kindOf k) 0 0)
  else ((s.place k va n).windowFirst window).bind fun s p =>
    let outside := match p with
      | .spad _ => false
      | .phys _ _ _ => window
    if outside then s.leafTrap 5 va (kindOf k)
    else if s.cur.inSpan va.toNat n then .wait .vectorDone s
    else if s.guarded (coreOf s.hart) none va.toNat n then .wait .watermark s
    else match p with
      | .spad _ => .ok s p
      | .phys pa _ _ => .ok (s.l1Renew (coreOf s.hart) s.hart va.toNat pa n) p

/-- The scalar stream issues an access and holds for its answer (R30, R231). -/
def State.depart (s : State) (p : Place) : State := s.setCur { s.cur with away := some (s.ir, p) }

/-- A remote scalar access: the request goes out once, and the stream holds for its answer (R363, R433, R436); a page is larger than what a
read covers, so that the virtual address tells which of its bytes are asked for. -/
def State.remoteAccess (s : State) (va : Word) (p : Place) (n kind data acc : Nat) : Out Nat :=
  match s.cur.remote with
  | some (true, v) => .ok s (if kind = 0 then leNat (ualinkBytes va.toNat n v) else v)
  | some (false, code) => s.leafTrap code va acc
  | none =>
    if s.cur.away.isSome then .wait .remote s
    else
      match p with
      | .phys pa _ _ => (match locOf pa with
        | .remote pkg la =>
          if !s.farRoom (coreOf s.hart) 1 then .wait .refresh s
          else
            let r := ualinkRead la n
            match s.askRemote (.scalar s.hart) (fun tag => if kind = 0 then .access tag pkg r.1 r.2 0 0 else .access tag pkg la n kind data) with
            | some s => .wait .remote (s.depart p)
            | none => s.leafTrap 13 va acc
        | _ => .wait .remote s)
      | .spad _ => .wait .remote s

/-- A scalar access of the package while accesses travel (R90, R104, R164, R418, R420): its request goes out once, on VC0 or to a bank of
the own scratchpad, and the stream holds for the answer. `acc` is the KIND of its fault record (R185). -/
def State.journey (s : State) (p : Place) (r : MemReq) (acc : Nat) (reply : ReplyTo := .scalar s.hart) : Out Nat :=
  match s.cur.remote with
  | some (true, v) => .ok s v
  | some (false, w) => .trap s (Pend.dramWord 0 acc w)
  | none =>
    if s.cur.away.isSome then .wait .remote s
    else match s.post (coreOf s.hart) vcScalar s.cur.owner (35 + s.hart % 4) false p r reply with
      | some s => .wait .remote (s.depart p)
      | none => .wait .refresh s

/-- The line that a place lies in. -/
def Place.line (p : Place) : Place :=
  match p with
  | .phys pa m k => .phys (pa / 64 * 64) m k
  | .spad off => .spad (off / 64 * 64)

/-- An acquire at .co or wider invalidates the lines that no thread has dirtied (R98). -/
def State.acquire (s : State) : State := s.l1DropClean (coreOf s.hart)

/-- A release at .co or wider writes back the lines that the thread dirtied (R98). -/
def State.release (s : State) : State := s.l1WriteBackThread (coreOf s.hart) s.hart

/-- Whether a line that the thread dirtied waits for its bank. -/
def State.dirtyClosed (s : State) : Bool :=
  (s.core (coreOf s.hart)).l1d.any (fun p => shas p.2.threads s.hart && s.lineShut p.1)

/-- A scalar load of `n` bytes (R296 to R298). `fe` is 0 for none, 1 for .fe, 2 for .take; `word` is set for LD.I64, the only
form that reads a timeline word or a counter block. -/
def State.load (s : State) (va : Word) (n fe : Nat) (word : Bool) : Out Nat :=
  let c := coreOf s.hart
  (s.access .sload va n (decide (fe ≠ 0))).bind fun s p =>
    match p with
    | .spad off =>
      if fe ≠ 0 ∧ s.cur.away.isNone ∧ s.isFull s.cur.owner c off = false then .wait .granule s
      else if s.travel then
        (s.journey p (if fe = 0 then .read n else .full (decide (fe = 2)) n) 1).bind fun s v => .ok (if fe = 0 then s else s.acquire) v
      else
        let v := leNat (s.spadRead s.cur.owner c off n)
        let s := if fe = 2 then s.clearGranule s.cur.owner c off else s
        .ok (if fe = 0 then s else s.acquire) v
    | .phys pa _ _ =>
      match locOf pa with
      | .dev off =>
        match (if word then s.devRead s.cur.owner off n else none) with
        | some w => .ok s w.toNat
        | none => s.leafTrap 5 va 1
      | .remote _ _ => s.remoteAccess va p n 0 0 1
      | _ =>
        if s.travel && (s.cur.away.isSome || !s.l1Serves c s.cur.owner pa n s.cur.freed) then
          (s.journey p.line (.read 64) 1 (.line s.hart va.toNat n)).bind fun s v =>
            .ok s (leNat ((offsets pa n).map (fun i => (natLe 64 v).getD i 0)))
        else if s.l1Hit c s.cur.owner pa n = false ∧ s.lineShut (pa / 64) = true then .wait .refresh s
        else match (if s.l1Hit c s.cur.owner pa n then none else s.badAt pa n) with
          | some w => .trap s (Pend.dramWord 0 1 w)
          | none =>
            let (s, bs) := s.l1Load c s.cur.owner va.toNat pa n s.cur.freed
            .ok s (leNat bs)

/-- Bytes that the coherence point gave for an access, with those that the core's stores have left dirty in its L1 line (R117, R118). -/
def State.l1Merge (s : State) (c pa : Nat) (bs : List Byte) : List Byte :=
  match s.l1Find c (pa / 64) with
  | some l => bs.zipIdx.map (fun b => if shas l.dirty (pa % 64 + b.2) then tget l.bytes (pa % 64 + b.2) 0 else b.1)
  | none => bs

/-- The read of a word that TLWAIT polls (R391): it performs at the coherence point and leaves the L1 as it is (R98, R117). -/
def State.pollWord (s : State) (va : Word) : Out Nat :=
  match s.access .sload va 8 false with
  | .ok u (.phys pa _ _) =>
    if isDram pa then
      let c := coreOf s.hart
      if s.travel then
        ((if u.cur.away.isNone then u.l1OwnerMiss c u.cur.owner (pa / 64) else u).journey (.phys pa 0 0) (.read 8) 1).bind fun u v =>
          .ok u (leNat (u.l1Merge c pa (natLe 8 v)))
      else if u.closed pa then .wait .refresh u
      else match u.badAt pa 8 with
        | some w => .trap u (Pend.dramWord 0 1 w)
        | none =>
          let u := (u.l1OwnerMiss c u.cur.owner (pa / 64)).l2Touch pa u.cur.owner false
          .ok u (leNat (u.l1Merge c pa (u.dramRead u.cur.owner pa 8)))
    else s.load va 8 0 true
  | _ => s.load va 8 0 true

/-- A scalar store (R296 to R298); `fill` is .fill. A store with .fill is a release of the earlier accesses of the stream, so that the lines
that the thread dirtied are written back first (R125, R140). -/
def State.store (s : State) (va : Word) (bs : List Byte) (fill : Bool) : Out Unit :=
  let c := coreOf s.hart
  (s.access .sstore va bs.length fill).bind fun s p =>
    match p with
    | .spad off =>
      if fill && s.dirtyClosed then .wait .refresh s else
      let s := if fill then s.release else s
      if s.travel then (s.journey p (if fill then .fill bs else .write bs (2 ^ bs.length - 1)) 2).bind fun s _ => .ok s () else
      let s := s.spadWrite s.cur.owner c off bs
      .ok (if fill then s.fillGranule s.cur.owner c off else s) ()
    | .phys pa _ _ =>
      match locOf pa with
      | .remote _ _ => (s.remoteAccess va p bs.length 1 (leNat bs) 2).bind fun s _ => .ok s ()
      | _ => .ok (s.l1Store c s.hart s.cur.owner pa bs) ()

/-! Atomics -/

/-- The PAC class of an atomic (R302, R360). -/
def AmoOp.cls (op : AmoOp) : Nat :=
  match op with
  | .fadd | .fmax => 12
  | .cas2 => 13
  | _ => 11

/-- Codes of atomic operations in packets: the order of R302. -/
def AmoOp.code (op : AmoOp) : Nat :=
  match op with
  | .swap => 0 | .add => 1 | .and => 2 | .or => 3 | .xor => 4 | .min => 5 | .max => 6 | .minu => 7 | .maxu => 8
  | .fadd => 9 | .fmax => 10 | .cas => 11 | .cas2 => 12

def AmoOp.ofCode (n : Nat) : AmoOp :=
  match n with
  | 0 => .swap | 1 => .add | 2 => .and | 3 => .or | 4 => .xor | 5 => .min | 6 => .max | 7 => .minu | 8 => .maxu
  | 9 => .fadd | 10 => .fmax | 11 => .cas | _ => .cas2

/-- The new memory value of an atomic on `w` bytes, none for no write, and its flags (R302, R304). -/
def AmoOp.apply (op : AmoOp) (w old data cmp : Nat) : Option Nat × FFlags :=
  let f := if w = 4 then f32 else f64
  match op with
  | .swap => (some data, 0)
  | .add => (some ((old + data) % 2 ^ (8 * w)), 0)
  | .and => (some (old &&& data), 0)
  | .or => (some (old ||| data), 0)
  | .xor => (some (old ^^^ data), 0)
  | .min => (some (if sx (8 * w) data < sx (8 * w) old then data else old), 0)
  | .max => (some (if sx (8 * w) old < sx (8 * w) data then data else old), 0)
  | .minu => (some (if old < data then old else data), 0)
  | .maxu => (some (if old < data then data else old), 0)
  | .fadd => let r := f.add 0 old data; (some r.1, r.2)
  | .fmax => let r := f.minmax true old data; (some r.1, r.2)
  | .cas => (if old = cmp then some data else none, 0)
  | .cas2 => (if old = cmp then some data else none, 0)

/-- An atomic at its coherence point, in one grant (R128): the old value and the flags. -/
def State.amoAt (s : State) (owner c : Nat) (p : Place) (op : AmoOp) (w data cmp : Nat) : State × Nat × FFlags :=
  match p with
  | .spad off =>
    let old := leNat (s.spadRead owner c off w)
    let r := op.apply w old data cmp
    (match r.1 with
      | some v => s.spadWrite owner c off (natLe w v)
      | none => s, old, r.2)
  | .phys pa _ _ =>
    let old := leNat (s.dramRead owner pa w)
    let r := op.apply w old data cmp
    (match r.1 with
      | some v => s.dramWrite owner pa (natLe w v)
      | none => s.l2Touch pa owner false, old, r.2)

/-- A scalar atomic (R303 to R305): the old value. Scope codes 101 to 111 are illegal (R123). -/
def State.amo (s : State) (op : AmoOp) (va : Word) (w data cmp ord scope : Nat) : Out Nat :=
  let c := coreOf s.hart
  if 5 ≤ scope then .trap s s.illegal else
  (s.access .satomic va w false).bind fun s p =>
    let rel := decide (2 ≤ ord) && decide (scope ≠ 0)
    let acq := decide (ord % 2 = 1) && decide (scope ≠ 0)
    let lacks := match p with
      | .spad _ => false
      | .phys _ _ pac => !pacHas pac op.cls
    let far := match p with
      | .spad _ => none
      | .phys pa _ _ => match locOf pa with
        | .remote _ _ => some pa
        | _ => none
    let shut := match p with
      | .spad _ => false
      | .phys pa _ _ => s.closed pa && !s.travel
    let bad := match p with
      | .spad _ => none
      | .phys pa _ _ => s.badAt pa w
    let ready := fun (s : State) =>
      let s := if rel then s.release else s
      match p with
      | .phys pa _ _ => s.l1Flush c (pa / 64)
      | .spad _ => s
    -- an old value that has come back gives the flags with the operands (R49, R302)
    let back := fun (s : State) (v : Nat) =>
      let s := s.setCur (s.cur.raise (op.apply w v data cmp).2)
      Out.ok (if acq then s.acquire else s) v
    if lacks then s.leafTrap 11 va 2
    else if s.cur.away.isNone && (shut || (rel && s.dirtyClosed)) then .wait .refresh s
    else if far.isSome then
      ((if s.cur.away.isNone && rel then s.release else s).remoteAccess va p w (2 + op.code) (data + cmp * 2 ^ (8 * w)) 2).bind back
    else if s.travel then ((if s.cur.away.isNone then ready s else s).journey p (.amo op w data cmp) 2).bind back
    else match bad with
      | some b => .trap s (Pend.dramWord 0 2 b)
      | none =>
        let s := ready s
        let (s, old, fl) := s.amoAt s.cur.owner c p op w data cmp
        let s := s.setCur (s.cur.raise fl)
        .ok (if acq then s.acquire else s) old

/-! Queue registers (R73, R80) -/

def Thread.qProd (t : Thread) (q : Nat) : Nat := t.qcfg.toNat / 2 ^ (4 * q + 2) % 4
def Thread.qCons (t : Thread) (q : Nat) : Nat := t.qcfg.toNat / 2 ^ (4 * q) % 4
def Thread.qOff (t : Thread) (q : Nat) : Bool :=
  decide (t.qProd q = t.qCons q) || decide (t.qProd q = 3) || decide (t.qCons q = 3)
/-- Whether a stream (0 scalar, 1 vector, 2 tile) may write, or read, a queue. -/
def Thread.qMayPut (t : Thread) (q stream : Nat) : Bool := !t.qOff q && decide (t.qProd q = stream)
def Thread.qMayGet (t : Thread) (q stream : Nat) : Bool := !t.qOff q && decide (t.qCons q = stream)
/-- Whether the entry at the head of a queue has an uncorrectable error (R240). -/
def Thread.headBad (t : Thread) (q : Nat) : Bool := shas (tget t.qbad q []) 0

/-- Takes the entry at the head of a queue; `rest` are the others. -/
def Thread.qPop (t : Thread) (q : Nat) (rest : List Word) : Thread :=
  let t := t.wq q rest
  if t.qbad.isEmpty then t
  else { t with qbad := tset t.qbad q ((tget t.qbad q []).filterMap (fun i => if i = 0 then none else some (i - 1))) [] }

/-- The trap of a queue entry that cannot be read; no value of TVAL is stated (R227, R241). -/
def State.queueTrap (s : State) (src : Nat) : Pend := Pend.plain src 64 (Config.freeWord s.tick 6)

/-- Appends an entry; the event flag is set when the scalar stream is the consumer (R310). -/
def Thread.qPush (t : Thread) (q : Nat) (v : Word) : Thread :=
  let t := t.wq q (t.rq q ++ [v])
  if t.qCons q = 0 then { t with event := true } else t

end Sys2Proof.Machine
end

