-- ==== Sys2Proof/Machine/Operands.lean ====
section
/-! DEFINITION. Operand forms: immediates and addresses (R258, R292 to R296), shift amounts (R42), the integer arithmetic that
scalar and vector instructions share (R42, R43), and the address of a compressed access (R268). -/

namespace Sys2Proof.Machine

/-! Immediates and addresses -/

def imm6 (n : Nat) : Word := sextW 6 n
def imm12 (n : Nat) : Word := sextW 12 n
def imm15 (n : Nat) : Word := sextW 15 n
def imm20 (n : Nat) : Word := sextW 20 n

/-- imm20 × 2^12 of LUI and ADDPC (R292). -/
def upper (n : Nat) : Word := imm20 n * 4096

/-- The target of a branch or jump of `w` offset bits (R258). -/
def target (pc : Word) (w off : Nat) : Word := pc + sextW w off * 2

/-- Effective address of a scalar access (R296). -/
def Thread.ea (t : Thread) (a imm : Nat) : Word := t.rx a + imm12 imm

/-- Registers of a′ and d′ (R268). -/
def cReg (n : Nat) : Nat := 8 + n

/-- Effective address of a compressed access (R269). -/
def Thread.cEa (t : Thread) (a scale imm : Nat) : Word := t.rx (cReg a) + toW (scale * imm)

/-- Length of an instruction with an optional default prefix (R265). -/
def longLen (long : Bool) : Nat := if long then 8 else 4

/-! Integer arithmetic on fields of `w` bits held as numbers (R42, R43) -/

/-- Quotient toward zero, with the corners of R43. -/
def sdiv (w a b : Nat) : Nat := if b % 2 ^ w = 0 then 2 ^ w - 1 else wrap w (Int.tdiv (sx w a) (sx w b))
def srem (w a b : Nat) : Nat := if b % 2 ^ w = 0 then a else wrap w (Int.tmod (sx w a) (sx w b))
def udiv (w a b : Nat) : Nat := if b = 0 then 2 ^ w - 1 else a / b
def urem (a b : Nat) : Nat := if b = 0 then a else a % b

/-- High half of a product. -/
def mulHigh (w : Nat) (sa sb : Bool) (a b : Nat) : Nat :=
  let x : Int := if sa then sx w a else a
  let y : Int := if sb then sx w b else b
  wrap w (x * y / (2 ^ w : Nat))

/-- Arithmetic shift right. -/
def sra (w a n : Nat) : Nat := wrap w (sx w a / (2 ^ n : Nat))

def leadZeros (a : Nat) : Nat := if a = 0 then 64 else 63 - Nat.log2 a
def trailZeros (a : Nat) : Nat := (firstUp 0 64 (fun i => a.testBit i)).getD 64

/-- Lifts an operation on numbers to registers. -/
def wOp (f : Nat → Nat → Nat) (a b : Word) : Word := toW (f a.toNat b.toNat)

def bit1 (b : Bool) : Word := if b then 1 else 0

end Sys2Proof.Machine
end

