-- ==== Sys2Proof/Machine/VExec.lean ====
section
/-! DEFINITION. What the vector instructions other than memory accesses do at the head of the VIQ (R316 to R345): register
groups (R318, R239), element functions, reductions and scans (R58, R59), and the poison of v register words (R240, R241). -/

namespace Sys2Proof.Machine

/-! Register groups -/

def VSrc.group (b : VSrc) (n w : Nat) : List VGrp :=
  match b with
  | .reg r => [⟨r, n, w⟩]
  | .val _ => []

/-- The group of one side of a conversion (R329, R330); an e2m1 pair has element width 0, which no other group has. -/
def cvtGroup (code r w : Nat) : VGrp := if code = 14 then ⟨r, 2, 0⟩ else ⟨r, cvtWidth code / (8 * w), cvtWidth code / 8⟩

/-- Destination group of a vector instruction other than a memory access, `w` being the element bytes. -/
def VOp.dst (o : VOp) (w : Nat) : List VGrp :=
  match o with
  | .int op d _ _ =>
    match op with
    | .mulw | .mulwu | .macw => [⟨d, 2, 2 * w⟩]
    | _ => [⟨d, 1, w⟩]
  | .flt _ d _ _ | .fun1 _ d _ | .qget d _ | .shup d _ _ | .shdn d _ _ | .pick d _ _ | .compact d _ _ | .assign d _
  | .ramp d _ | .scan d _ _ _ | .rand d _ _ | .mtov d _ _ _ => [⟨d, 1, w⟩]
  | .cvt t _ d _ _ | .cvtRs t _ d _ _ _ => [cvtGroup t d w]
  | _ => []

/-- Source groups. -/
def VOp.srcs (o : VOp) (w : Nat) : List VGrp :=
  match o with
  | .int op d a b =>
    match op with
    | .narrows | .narrowu => ⟨a, 2, 2 * w⟩ :: b.group 1 w
    | .macw => ⟨d, 2, 2 * w⟩ :: ⟨a, 1, w⟩ :: b.group 1 w
    | _ => ⟨a, 1, w⟩ :: b.group 1 w
  | .flt op d a b =>
    match op with
    | .fma | .fnma => ⟨d, 1, w⟩ :: ⟨a, 1, w⟩ :: b.group 1 w
    | _ => ⟨a, 1, w⟩ :: b.group 1 w
  | .fun1 _ _ a | .shup _ a _ | .shdn _ a _ | .fold _ _ a _ _ | .redmax _ a _ | .getx _ a _ | .getf _ a _ | .scan _ a _ _
  | .qput _ a _ | .compact _ a _ => [⟨a, 1, w⟩]
  | .cvt _ s _ a _ => [cvtGroup s a w]
  | .cvtRs _ s _ a b _ => [cvtGroup s a w, ⟨b, 4 / w, 4⟩]
  | .cmp _ _ a b | .pick _ a b => ⟨a, 1, w⟩ :: b.group 1 w
  | .assign _ b => b.group 1 w
  | _ => []

/-- Whether a destination must be disjoint from every source (R239, R331, R341). -/
def VOp.strict (o : VOp) : Bool :=
  match o with
  | .shup _ _ _ | .shdn _ _ _ | .pick _ _ _ | .compact _ _ _ | .scan _ _ _ _ | .cvtRs _ _ _ _ _ _ => true
  | _ => false

/-- The sources that a strict destination is held against: all, but for the operand that a stochastic conversion converts. -/
def VOp.strictFor (o : VOp) (g : VGrp) (w : Nat) : Bool :=
  match o with
  | .cvtRs _ s _ a _ _ => o.strict && !decide (g = cvtGroup s a w)
  | _ => o.strict

/-- The register-group checks of R318 and R239 at commit, `c` being the register count. -/
def VOp.groupsOk (o : VOp) (w c : Nat) : Bool :=
  (o.dst w ++ o.srcs w).all (fun g => g.fits c) &&
  (o.dst w).all (fun d => (o.srcs w).all (fun g => VGrp.pairOk (o.strictFor g w) d g))

/-! Integer elements -/

/-- v ÷ 2^n, to nearest, ties to even. -/
def rneShift (v : Int) (n : Nat) : Int :=
  let q := v / (2 ^ n : Nat)
  let r := v % (2 ^ n : Nat)
  if (2 ^ n : Nat) < 2 * r ∨ (2 * r = (2 ^ n : Nat) ∧ q % 2 = 1) then q + 1 else q

/-- Element result of R324 on operands of `w` bits; `c` is the old destination element of VMACW. The flag says that the result
was clamped. -/
def VIntOp.eval (op : VIntOp) (w a b c : Nat) : Nat × Bool :=
  let plain := fun (n : Nat) => (n % 2 ^ w, false)
  match op with
  | .add => plain (a + b)
  | .sub => plain (a + (2 ^ w - b))
  | .rsub => plain (b + (2 ^ w - a))
  | .mul => plain (a * b)
  | .mulhi => plain (mulHigh w true true a b)
  | .mulhiu => plain (mulHigh w false false a b)
  | .div => plain (sdiv w a b)
  | .divu => plain (udiv w a b)
  | .rem => plain (srem w a b)
  | .remu => plain (urem a b)
  | .and => plain (a &&& b)
  | .or => plain (a ||| b)
  | .xor => plain (a ^^^ b)
  | .sll => plain (a * 2 ^ (b % w))
  | .srl => plain (a / 2 ^ (b % w))
  | .sra => plain (Machine.sra w a (b % w))
  | .min => plain (if sx w b < sx w a then b else a)
  | .max => plain (if sx w a < sx w b then b else a)
  | .minu => plain (if b < a then b else a)
  | .maxu => plain (if a < b then b else a)
  | .addsat => clampInt w true (sx w a + sx w b)
  | .addsatu => clampInt w false ((a : Int) + b)
  | .subsat => clampInt w true (sx w a - sx w b)
  | .subsatu => clampInt w false ((a : Int) - b)
  | .mulq => clampInt w true (rneShift (sx w a * sx w b) (w - 1))
  | .mulw => (wrap (2 * w) (sx w a * sx w b), false)
  | .mulwu => (a * b, false)
  | .macw => (wrap (2 * w) ((c : Int) + sx w a * sx w b), false)
  | .narrows => clampInt w true (rneShift (sx (2 * w) a) (b % (2 * w)))
  | .narrowu => clampInt w false (rneShift (a : Int) (b % (2 * w)))

/-! Floating-point elements -/

/-- Element result of R326; `c` is the old destination element. -/
def VFltOp.eval (op : VFltOp) (f : FFmt) (rm a b c : Nat) : Nat × FFlags :=
  match op with
  | .add => f.add rm a b
  | .sub => f.sub rm a b
  | .rsub => f.sub rm b a
  | .mul => f.mul rm a b
  | .div => f.div rm a b
  | .min => f.minmax false a b
  | .max => f.minmax true a b
  | .fma => f.fma rm a b c
  | .fnma => f.fma rm (f.neg a) b c
  | .sgcpy => (f.signOp 0 a b, 0)
  | .sginv => (f.signOp 1 a b, 0)
  | .sgxor => (f.signOp 2 a b, 0)

/-- The condition of a compare (R333). -/
def CmpOp.eval (op : CmpOp) (sew a b : Nat) : Bool × FFlags :=
  let w := 8 * 2 ^ sew
  match op with
  | .eq => (decide (a = b), 0)
  | .ne => (!decide (a = b), 0)
  | .lt => (decide (sx w a < sx w b), 0)
  | .le => (decide (sx w a ≤ sx w b), 0)
  | .ltu => (decide (a < b), 0)
  | .leu => (decide (a ≤ b), 0)
  | .feq => (sewFmt sew).cmpEq a b
  | .fne => (!((sewFmt sew).cmpEq a b).1, ((sewFmt sew).cmpEq a b).2)
  | .flt => (sewFmt sew).cmpLt a b
  | .fle => (sewFmt sew).cmpLe a b

/-- Random element of R61. -/
def randElem (sew key ctr i : Nat) : Nat :=
  let r := philox key ((ctr + i) % 2 ^ 128)
  if sew = 3 then r.1 + 2 ^ 32 * r.2.1 else r.1 % 2 ^ (8 * 2 ^ sew)

/-- opb(i) of R316 at `w` bytes. -/
def Thread.opb (t : Thread) (nreg : Nat) (b : VSrc) (w i : Nat) : Nat :=
  match b with
  | .reg r => t.vGet nreg r w i
  | .val v => v.toNat % 2 ^ (8 * w)

/-- The e2m1 code of element `i`, and the scale of its block, of the pair that begins at `r` (R330). -/
def Thread.mxGet (t : Thread) (nreg r i : Nat) : Nat :=
  t.vGet nreg r 1 (i / 2) / 16 ^ (i % 2) % 16
def Thread.mxPut (t : Thread) (nreg r i c : Nat) : Thread :=
  let b := t.vGet nreg r 1 (i / 2)
  t.vPut nreg r 1 (i / 2) (if i % 2 = 0 then b / 16 * 16 + c else b % 16 + 16 * c)

/-- Mask logic (R334): 0 KAND, 1 KOR, 2 KXOR, 3 KANDINV. -/
def kOp (op : Nat) (a b : Bool) : Bool :=
  match op with
  | 0 => a && b
  | 1 => a || b
  | 2 => a != b
  | _ => a && !b

/-- One block of a conversion to e2m1 (R53, R330): its scale, and the value from which a code is taken. -/
def Thread.mxBlock (t : Thread) (e : VEntry) (src a j vl : Nat) : Option Int :=
  mxExp ((List.range 32).map (fun x =>
    let i := 32 * j + x
    if decide (i < vl) && t.active e.k i then (cvtFmt src).decode (t.vGet e.nreg a (cvtWidth src / 8) i) else .fin false 0 0))

/-- Writes element `i` of a conversion to e2m1, and the scale byte of its block. -/
def Thread.mxElem (t : Thread) (e : VEntry) (src d a u i : Nat) : Thread :=
  let j := i / 32
  let x := (cvtFmt src).decode (t.vGet e.nreg a (cvtWidth src / 8) i)
  match t.mxBlock e src a j t.vl with
  | none => ((t.mxPut e.nreg d i 0).vPut e.nreg (d + 1) 1 j 255).raise flNV
  | some ex =>
    let r := mxCode e.rm u ex x
    ((t.mxPut e.nreg d i r.1).vPut e.nreg (d + 1) 1 j (ex + 127).toNat).raise r.2

/-- Element `i` of a conversion (R328 to R331). -/
def Thread.cvtElem (t : Thread) (e : VEntry) (dstF srcF d a u i : Nat) (sat : Bool) : Thread :=
  if dstF = 14 then t.mxElem e srcF d a u i
  else
    let r := if srcF = 14 then
        (cvtFmt dstF).deliver e.rm sat u (mxVal (t.vGet e.nreg (a + 1) 1 (i / 32)) (t.mxGet e.nreg a i))
      else cvtScalar dstF srcF e.rm sat u (t.vGet e.nreg a (cvtWidth srcF / 8) i)
    (t.vPut e.nreg d (cvtWidth dstF / 8) i r.1).raise r.2

/-- The effect of an element-wise instruction on its active element `i`. -/
def Thread.elem (t : Thread) (e : VEntry) (i : Nat) : Thread :=
  let w := 2 ^ e.sew
  let put := fun (d v : Nat) => t.vPut e.nreg d w i v
  match e.op with
  | .int op d a b =>
    let wa := match op with
      | .narrows | .narrowu => 2 * w
      | _ => w
    let wd := match op with
      | .mulw | .mulwu | .macw => 2 * w
      | _ => w
    let r := op.eval (8 * w) (t.vGet e.nreg a wa i) (t.opb e.nreg b w i) (t.vGet e.nreg d wd i)
    (t.vPut e.nreg d wd i r.1).raise (satFlag r.2)
  | .flt op d a b =>
    let r := op.eval (sewFmt e.sew) e.rm (t.vGet e.nreg a w i) (t.opb e.nreg b w i) (t.vGet e.nreg d w i)
    (put d r.1).raise r.2
  | .fun1 op d a =>
    let r := vfun op (sewFmt e.sew) e.rm (t.vGet e.nreg a w i)
    (put d r.1).raise r.2
  | .cvt dstF srcF d a sat => t.cvtElem e dstF srcF d a 0 i sat
  | .cvtRs dstF srcF d a b sat => t.cvtElem e dstF srcF d a (t.vGet e.nreg b 4 i % 2 ^ 16) i sat
  | .cmp op d a b =>
    let r := op.eval e.sew (t.vGet e.nreg a w i) (t.opb e.nreg b w i)
    (t.wk d i r.1).raise r.2
  | .klogic op d a b => t.wk d i (kOp op (t.rk a i) (t.rk b i))
  | .shup d a n => if i < n then t else put d (t.vGet e.nreg a w (i - n))
  | .shdn d a n => put d (if i + n < t.vl then t.vGet e.nreg a w (i + n) else 0)
  | .pick d a b =>
    let j := match b with
      | .reg r => t.vGet e.nreg r w i
      | .val v => v.toNat
    put d (if j < t.mvl then t.vGet e.nreg a w j else 0)
  | .assign d b => put d (t.opb e.nreg b w i)
  | .ramp d base => put d ((base.toNat + i) % 2 ^ (8 * w))
  | .rand d key ctr => put d (randElem e.sew key.toNat ctr i)
  | _ => t

/-! Reductions and scans -/

/-- One level of the tree of R58, with the flags of its steps. -/
def pairUp (op : Nat → Nat → Nat × FFlags) (l : List Nat) : List Nat × FFlags :=
  match l with
  | a :: b :: r =>
    let x := op a b
    let y := pairUp op r
    (x.1 :: y.1, x.2 ||| y.2)
  | l => (l, 0)

/-- The tree of R58 and the start value, in at most `fuel` levels. -/
def foldTree (op : Nat → Nat → Nat × FFlags) (start : Nat) (l : List Nat) (fuel : Nat) : Nat × FFlags :=
  match l, fuel with
  | [], _ => (start, 0)
  | [a], _ => op start a
  | a :: _, 0 => (a, 0)
  | l, n + 1 =>
    let x := pairUp op l
    let y := foldTree op start x.1 n
    (y.1, x.2 ||| y.2)

/-- The active elements below VL, in increasing order. -/
def Thread.actives (t : Thread) (k : Nat) : List Nat := (List.range t.vl).filter (fun i => t.active k i)

/-- The combining operation of a fold or scan: 0 addition, 1 minimum, 2 maximum (R342, R344). -/
def foldOp (op sew rm : Nat) (fp : Bool) (a b : Nat) : Nat × FFlags :=
  let w := 8 * 2 ^ sew
  match op, fp with
  | 0, false => ((a + b) % 2 ^ w, 0)
  | 1, false => (if sx w b < sx w a then b else a, 0)
  | _, false => (if sx w a < sx w b then b else a, 0)
  | 0, true => (sewFmt sew).add rm a b
  | 1, true => (sewFmt sew).minmax false a b
  | _, true => (sewFmt sew).minmax true a b

/-- VREDMAXI (R343): the better of the index kept so far and index `i`. -/
def Thread.redBetter (t : Thread) (e : VEntry) (a : Nat) (fp : Bool) (best : Option Nat) (i : Nat) : Option Nat :=
  let w := 2 ^ e.sew
  match best with
  | none => some i
  | some j =>
    let x := t.vGet e.nreg a w j
    let y := t.vGet e.nreg a w i
    let f := sewFmt e.sew
    let better := if fp then (isNan (f.decode x) && !isNan (f.decode y)) || valLt true (f.decode x) (f.decode y)
      else decide (sx (8 * w) x < sx (8 * w) y)
    if better then some i else some j

/-- An instruction that produces one value, or works on the whole vector at once (R334 to R344). -/
def Thread.whole (t : Thread) (e : VEntry) : Thread :=
  let w := 2 ^ e.sew
  let bits := 8 * w
  match e.op with
  | .kcount d a => t.wx d (toW ((t.actives e.k).countP (fun i => t.rk a i)))
  | .kffs d a => t.wx d (match (t.actives e.k).find? (fun i => t.rk a i) with
    | some i => toW i
    | none => toW (2 ^ 64 - 1))
  | .compact d a b =>
    ((t.actives b).foldl (fun (p : Thread × Nat) i => (p.1.vPut e.nreg d w p.2 (p.1.vGet e.nreg a w i), p.2 + 1)) (t, 0)).1
  | .fold op d a start fp =>
    let l := (t.actives e.k).map (fun i => t.vGet e.nreg a w i)
    let r := foldTree (foldOp op e.sew e.rm fp) (start.toNat % 2 ^ bits) l l.length
    (if fp then t.wf d (toW r.1) else t.wx d (sextW bits r.1)).raise r.2
  | .redmax d a fp =>
    let l := t.actives e.k
    let v := match l.foldl (t.redBetter e a fp) none with
      | some i => toW i
      | none => toW (2 ^ 64 - 1)
    let signalling := fp && l.any (fun i => decide ((sewFmt e.sew).decode (t.vGet e.nreg a w i) = .nan true))
    (t.wx d v).raise (cond signalling flNV 0)
  | .getx d a j => t.wx d (if j < t.mvl then sextW bits (t.vGet e.nreg a w j) else 0)
  | .getf d a j => t.wf d (if j < t.mvl then toW (t.vGet e.nreg a w j) else 0)
  | .scan d a start fp =>
    ((t.actives e.k).foldl (fun (p : Thread × Nat) i =>
      let r := foldOp 0 e.sew e.rm fp p.2 (p.1.vGet e.nreg a w i)
      ((p.1.vPut e.nreg d w i r.1).raise r.2, r.1)) (t, start.toNat % 2 ^ bits)).1
  | .setl v sew =>
    let m := mvlOf t.vgrant sew t.nreg
    let t := if m = t.mvl then t else t.kTrim (min m t.mvl)
    { t with sew := sew, mvl := m, vl := min v m }
  | .cfg sew nreg =>
    let m := mvlOf t.vgrant sew nreg
    let t := if m = t.mvl then t else t.kTrim (min m t.mvl)
    if nreg = t.nreg then { t with sew := sew, mvl := m, vl := min t.vl m }
    else { t.vClear with sew := sew, nreg := nreg, mvl := m, vl := 0 }
  | _ => t

/-- Instructions that perform by elements and may stop between element groups; the others stop only at 0 (R320). -/
def VOp.elementwise (o : VOp) : Bool :=
  match o with
  | .int _ _ _ _ | .flt _ _ _ _ | .fun1 _ _ _ | .cvt _ _ _ _ _ | .cvtRs _ _ _ _ _ _ | .cmp _ _ _ _ | .klogic _ _ _ _
  | .shup _ _ _ | .shdn _ _ _ | .pick _ _ _ | .assign _ _ | .ramp _ _ | .rand _ _ _ => true
  | _ => false

/-! Poisoned words -/

/-- The v elements that element `i` reads: register, element bytes, element (R240). -/
def Thread.readsAt (t : Thread) (e : VEntry) (i : Nat) : List (Nat × Nat × Nat) :=
  let w := 2 ^ e.sew
  match e.op with
  | .shup _ a n => if i < n then [] else [(a, w, i - n)]
  | .shdn _ a n => if i + n < t.vl then [(a, w, i + n)] else []
  | .pick _ a b =>
    let j := match b with
      | .reg r => t.vGet e.nreg r w i
      | .val v => v.toNat
    (match b with
      | .reg r => [(r, w, i)]
      | .val _ => []) ++ (if j < t.mvl then [(a, w, j)] else [])
  | .getx _ a j | .getf _ a j | .qput _ a j => if j < t.mvl then [(a, w, j)] else []
  | o => (o.srcs w).foldr (fun g l => if g.w = 0 then (g.r, 1, i / 2) :: (g.r + 1, 1, i / 32) :: l else (g.r, g.w, i) :: l) []

/-- Whether active element `i` reads a poisoned word. -/
def Thread.readsBad (t : Thread) (e : VEntry) (i : Nat) : Bool :=
  (t.readsAt e i).any (fun r => t.vBad e.nreg r.1 r.2.1 r.2.2)

/-- The elements whose groups are executed before a poisoned word stops the instruction: the start of the failing element group,
or none when no active element reads one (R241). -/
def Thread.poisonStop (t : Thread) (e : VEntry) : Option Nat :=
  if t.vSound then none
  else
    let w := 2 ^ e.sew
    match e.op with
    | .getx _ _ _ | .getf _ _ _ | .qput _ _ _ => if t.readsBad e 0 then some 0 else none
    | .compact _ _ b => if (t.actives b).any (fun i => t.readsBad e i) then some 0 else none
    | o =>
      let wide := (o.dst w ++ o.srcs w).foldl (fun n g => max n g.w) w
      let per := if (o.dst w ++ o.srcs w).any (fun g => decide (g.w = 0)) then 32 else 64 / wide
      match firstUp e.start (t.vl - e.start) (fun i => t.active e.k i && t.readsBad e i) with
      | none => none
      | some i => if o.elementwise then some (max e.start (i - i % per)) else some 0

/-- Performs elements [start, hi) and clears the poison of the words that it writes whole (R240, R316). -/
def Thread.elems (t : Thread) (e : VEntry) (hi : Nat) : Thread :=
  let t' := forUp e.start (hi - e.start) (fun i t => if t.active e.k i then t.elem e i else t) t
  (e.op.dst (2 ^ e.sew)).foldl (fun u g =>
    let act := fun (i : Nat) => t.active e.k i
    let v := u.vHeal e.nreg g.r g.w e.start hi act
    -- a scale byte is written with any element of its block
    if g.w = 0 then v.vHeal e.nreg (g.r + 1) 1 (e.start / 32) (ceilDiv hi 32)
      (fun b => (List.range 32).any (fun x => decide (e.start ≤ 32 * b + x) && decide (32 * b + x < hi) && act (32 * b + x)))
    else v) t'

/-- The value of TVAL for an error in a v register word is not stated; it is a free value. -/
def poisonTrap (tick : Nat) (e : VEntry) (start : Nat) : Pend :=
  { Pend.plain 1 64 (Config.freeWord tick 1) with tvpc := e.pc, cmd := e.cmd, start := start }

end Sys2Proof.Machine
end

