-- ==== Sys2Proof/Machine/VMem.lean ====
section
/-! DEFINITION. Vector memory accesses and atomics (R346 to R364): the probe sections and pins of R179 to R181, the checks of R353,
the waits of R354, the elements of R355 to R361, remote elements (R362, R363), and ksel (R67, R364). -/

namespace Sys2Proof.Machine

/-! Groups and fields -/

/-- Bytes of an index element. -/
def VMem.iw (m : VMem) : Nat :=
  match m.idx with
  | some (_, w) => w
  | none => 1

/-- Register groups of a vector memory instruction: destination, sources (R318, R348, R360). -/
def VMem.dst (m : VMem) (w : Nat) : List VGrp :=
  match m.kind with
  | .load => [⟨m.d, 1, w⟩]
  | .store => []
  | .amo .cas => [⟨m.d, 2, w⟩]
  | .amo _ => [⟨m.d, 1, w⟩]
def VMem.index (m : VMem) (w : Nat) : List VGrp :=
  match m.idx with
  | some (r, iw) => [⟨r, if iw ≤ w then 1 else iw / w, iw⟩]
  | none => []
def VMem.srcs (m : VMem) (w : Nat) : List VGrp :=
  (match m.kind with
    | .store => [⟨m.d, 1, w⟩]
    | _ => []) ++ m.index w

/-- The commit checks of R350 on register groups. -/
def VMem.groupsOk (m : VMem) (w c : Nat) : Bool :=
  (m.dst w ++ m.srcs w).all (fun g => g.fits c) &&
  (m.dst w).all (fun d => (m.index w).all (fun g => VGrp.pairOk (decide (m.fe = 2)) d g))

/-- Size in bytes of the widest element among the operands (R237). -/
def VEntry.wide (e : VEntry) : Nat :=
  let w := 2 ^ e.sew
  match e.op with
  | .mem m => max w m.iw
  | o => (o.dst w ++ o.srcs w).foldl (fun n g => max n g.w) w

/-- Counts the element groups begun between two indices (R224). -/
def State.countGroups (s : State) (h : Nat) (e : VEntry) (lo hi : Nat) : State :=
  let per := 64 / e.wide
  if hi ≤ lo then s else s.count (s.thr h).taskid 2 (ceilDiv hi per - ceilDiv lo per)

/-- Whether the access kind of R174 and the KIND of the fault record (R185). -/
def VMem.acc (m : VMem) : Acc :=
  match m.kind with
  | .load => if m.shaft then .shaftLoad else .vload
  | .store => if m.shaft then .shaftStore else .vstore
  | .amo _ => .vatomic

/-! The probe -/

/-- The checks of R353 on one element. -/
def State.vCheck (s : State) (c owner : Nat) (m : VMem) (sew va i : Nat) : XRes :=
  let w := 2 ^ sew
  let g := s.width c
  let outside := if inWindow va then decide (g * 2 ^ 22 ≤ va - spadBase) else !canonical va
  if outside then .err s { code := 5 }
  else if va % w ≠ 0 then .err s { code := 4 }
  else
    match s.translate (some c) owner m.acc va w with
    | .ok s (.spad off) => .ok s (.spad off)
    | .ok s (.phys pa t pac) =>
      if m.fe ≠ 0 then .err s (s.leafErr (some c) owner va 5)
      else if m.shaft && !(decide ((s.bankOf pa).1 = c) && decide ((s.bankOf pa).2.1 = i * w / 16 % (64 * g))) then .err s (s.leafErr (some c) owner va 10)
      else .ok s (.phys pa t pac)
    | .err s e => .err s (if e.code = 9 ∧ m.fe ≠ 0 then { e with code := 5 } else e)
    | .miss s => .miss s

/-- Whether an element is still to perform. -/
def Thread.todo (t : Thread) (e : VEntry) (i : Nat) : Bool := t.active e.k i && !shas e.past i

/-- The outcome of a probe: the section ends below `stop`; the lowest failing element, with its cause; whether it has to wait. -/
structure Probe where
  s : State
  stop : Nat
  elems : List VElem
  pages : List (Nat × Nat)
  fail : Option (Nat × Nat × XErr)
  miss : Bool

/-- The pages that the other vector memory instructions of a thread pin (R180). -/
def Thread.pinned (t : Thread) (cmd : Nat) : List (Nat × Nat) :=
  t.viq.flatMap (fun e => match e.sect with
    | some x => if e.cmd = cmd then [] else x.pages
    | none => [])

/-- Whether a page fits the bounds of R180 beside the pages of the section so far and those that the thread's other instructions pin. -/
def pageFits (held pages : List (Nat × Nat)) (p : Nat × Nat) : Bool :=
  let listed := fun (l : List (Nat × Nat)) (x : Nat × Nat) => l.any (fun q => decide (q = x))
  listed pages p ||
  (decide (pages.length < 128) && (listed held p ||
    decide ((pages ++ held.filter (fun q => !listed pages q)).countP (fun q => decide (q.2 % 16 = p.2 % 16)) < 8)))

/-- The page of an address, as log2 of its size and its number: one whose walk faults counts as 64 KiB (DESIGN CHOICE, log 77). -/
def State.pageAt (s : State) (c owner va : Nat) : Nat × Nat :=
  match s.leafOf (some c) owner va with
  | .ok _ lvl leaf => (leafSize lvl leaf, va / 2 ^ leafSize lvl leaf)
  | _ => (16, va / 65536)

/-- Whether an address lies in a page at all. -/
def paged (va : Nat) : Bool := !inWindow va && canonical va

/-- Probes from element `i`, at most `n` elements (R179, R180); masked-off elements are not probed. A page whose walk faults is counted as
`State.pageAt` says (DESIGN CHOICE, log 77). -/
def State.probe (s : State) (h c : Nat) (e : VEntry) (m : VMem) (i n : Nat) (held pages : List (Nat × Nat)) (acc : List VElem) : Probe :=
  match n with
  | 0 => { s := s, stop := i, elems := acc.reverse, pages := pages, fail := none, miss := false }
  | k + 1 =>
    let t := s.thr h
    if !t.todo e i then s.probe h c e m (i + 1) k held pages acc
    else
      let va := t.eaOf e.nreg m i
      let bad := (m.index (2 ^ e.sew)).any (fun g => t.vBad e.nreg g.r g.w i)
      let out := fun (f : Option (Nat × Nat × XErr)) (miss : Bool) (s : State) =>
        ({ s := s, stop := i, elems := acc.reverse, pages := pages, fail := f, miss := miss } : Probe)
      if bad then out (some (i, va, { code := 64 })) false s
      else
        match s.vCheck c t.owner m e.sew va i with
        | .miss s => out none true s
        | .err u x =>
          if paged va && !pageFits held pages (s.pageAt c t.owner va) then out none false s else out (some (i, va, x)) false u
        | .ok s (.spad off) => s.probe h c e m (i + 1) k held pages ({ i := i, ea := va, at' := .spad off } :: acc)
        | .ok s p =>
          let page := s.pageAt c t.owner va
          if pageFits held pages page then
            s.probe h c e m (i + 1) k held (if pages.any (fun q => decide (q = page)) then pages else page :: pages)
              ({ i := i, ea := va, at' := p } :: acc)
          else out none false s

/-- Pins the translations of a section (R179). -/
def State.pinPages (s : State) (h cmd : Nat) (pages : List (Nat × Nat)) : State :=
  let c := coreOf h
  let o := (s.thr h).owner
  let k := s.core c
  s.setCore c { k with tlb := { k.tlb with entries := k.tlb.entries.map (fun x =>
    if decide (x.owner = o) && !x.doomed && pages.any (fun q => decide (q = (x.size, x.page))) then { x with pins := (h, cmd) :: x.pins }
    else x) } }

/-! Elements -/

/-- Addresses homed inside a scope of a core (R132). -/
def State.homedInside (s : State) (c scope : Nat) (p : Place) : Bool :=
  match p with
  | .spad _ => true
  | .phys pa _ _ =>
    match scope with
    | 0 | 1 => (match locOf pa with
      | .near k _ => decide (s.headOf k = c)
      | _ => false)
    | 2 => (match locOf pa with
      | .near k _ => decide (pillarOf k = pillarOf c)
      | .main q => decide (q = pillarOf c)
      | .apert k _ => decide (pillarOf k = pillarOf c)
      | _ => false)
    | 3 => (match locOf pa with
      | .remote _ _ => false
      | .host _ _ => false
      | _ => true)
    | _ => true

/-- Whether the instruction acquires, so that elements homed outside its scope are missed (R133). -/
def VMem.acquires (m : VMem) : Bool :=
  m.acquire || (match m.kind with
    | .amo _ => decide (m.ord % 2 = 1)
    | _ => false)

/-- A missed or unsupported element (R360). -/
def State.vSkips (s : State) (c : Nat) (m : VMem) (x : VElem) : Bool :=
  (m.acquires && !s.homedInside c m.scope x.at') ||
  (match m.kind, x.at' with
    | .amo op, .phys _ _ pac => !pacHas pac op.cls
    | _, _ => false)

/-- A granule that an element below `i` has taken (R359). -/
def Thread.takenBelow (t : Thread) (e : VEntry) (m : VMem) (i ea : Nat) : Bool :=
  (List.range i).any (fun j => t.active e.k j && decide (granuleOf (t.eaOf e.nreg m j) = granuleOf ea))

/-- What holds the group of an element back (R237, R354): a guard above its watermark, or an empty granule. An element of an offline bank,
which is answered retry (R242), holds it too. -/
def State.vWaits (s : State) (h c : Nat) (e : VEntry) (m : VMem) (x : VElem) : Bool :=
  let t := s.thr h
  s.guarded c none x.ea (2 ^ e.sew) ||
  (match x.at' with
    | .spad off =>
      (decide (m.fe = 1) || decide (m.fe = 2)) && decide (m.kind = .load) && !s.isFull t.owner c off &&
        !(decide (m.fe = 2) && t.takenBelow e m x.i x.ea)
    | .phys pa _ _ => s.offlineAt pa)

/-- Whether a bobbin that guards the element is frozen (R212). -/
def State.frozenGuard (s : State) (c va n : Nat) : Bool :=
  (threadsOf c).any (fun h =>
    match tfind s.threads h with
    | none => false
    | some t => t.live && t.bob.any (fun b => decide (b.2.stat.state = 2) && b.2.queue.any (fun q =>
        (List.range n).any (fun i => match q.guardIndex (va + i) with
          | some j => decide (t.markOf b.1 q ≤ j)
          | none => false))))

/-- The error that an element meets: an uncorrectable DRAM word, or a poisoned operand word (R240, R241). -/
def State.vError (s : State) (h : Nat) (e : VEntry) (m : VMem) (x : VElem) : Option Pend :=
  let w := 2 ^ e.sew
  let t := s.thr h
  let operand : Bool := match m.kind with
    | .load => false
    | .store => t.vBad e.nreg m.d w x.i
    | .amo op => t.vBad e.nreg m.d w x.i || (decide (op = .cas) && t.vBad e.nreg (m.d + 1) w x.i)
  let word := match m.kind, x.at' with
    | .store, _ => none
    | _, .phys pa _ _ => s.badAt pa w
    | _, _ => none
  if operand then some (poisonTrap s.tick e 0)
  else match word with
    | some b => some (Pend.dramWord 1 (kindOf m.acc) b)
    | none => none

/-- Operand of an atomic element: data and compare value (R360). -/
def Thread.amoOps (t : Thread) (e : VEntry) (m : VMem) (i : Nat) : Nat × Nat :=
  let w := 2 ^ e.sew
  match m.kind with
  | .amo .cas => (t.vGet e.nreg (m.d + 1) w i, t.vGet e.nreg m.d w i)
  | _ => (t.vGet e.nreg m.d w i, 0)

/-- What .take reads of one granule, for every active element of the instruction that lies in it; `read` gives the value at an address
(R359). -/
def Thread.takeAll (t : Thread) (e : VEntry) (m : VMem) (x : VElem) (read : Nat → Nat) : Thread :=
  let w := 2 ^ e.sew
  forUp x.i (t.vl - x.i) (fun j t =>
    let ea := t.eaOf e.nreg m j
    if t.active e.k j && inWindow ea && decide (granuleOf ea = granuleOf x.ea) && decide (ea % w = 0) then t.vPut e.nreg m.d w j (read ea)
    else t) t

/-- The read and clear of one granule by .take. -/
def State.takeGranule (s : State) (h c : Nat) (e : VEntry) (m : VMem) (x : VElem) (off : Nat) : State :=
  let t := s.thr h
  (s.setThr h (t.takeAll e m x (fun ea => leNat (s.spadRead t.owner c (ea - spadBase) (2 ^ e.sew))))).clearGranule t.owner c off

/-- An element homed in another package. -/
def VElem.far (x : VElem) : Bool := x.at'.far

/-- What an element takes from the value that its coherence point returned: the loaded bytes, or the old value of an atomic, whose flags
follow from that value and the operands (R302, R355, R360). -/
def State.vTake (s : State) (h : Nat) (e : VEntry) (m : VMem) (x : VElem) (v : Nat) : State :=
  let w := 2 ^ e.sew
  let t := s.thr h
  match m.kind with
  | .load => s.setThr h (t.vPut e.nreg m.d w x.i (v % 2 ^ (8 * w)))
  | .store => s
  | .amo op =>
    let ops := t.amoOps e m x.i
    s.setThr h ((t.vPut e.nreg m.d w x.i (v % 2 ^ (8 * w))).raise (op.apply w (v % 2 ^ (8 * w)) ops.1 ops.2).2)

/-- Performs one element (R355 to R361); one of another package takes what its answer holds (R362, R363). -/
def State.vElem (s : State) (h c : Nat) (e : VEntry) (m : VMem) (x : VElem) : State :=
  let w := 2 ^ e.sew
  let t := s.thr h
  let o := t.owner
  if x.far then
    if shas e.answer.gated x.i then s.setThr h (t.wk 8 x.i true)
    else s.vTake h e m x ((tfind e.answer.values x.i).getD (Config.freeWord s.tick x.i).toNat)
  else
    match m.kind with
    | .load =>
      (match x.at' with
        | .spad off =>
          if m.fe = 2 then (if t.takenBelow e m x.i x.ea then s else s.takeGranule h c e m x off)
          else s.vTake h e m x (leNat (s.spadRead o c off w))
        | .phys pa _ _ => (s.l2Touch pa o false).vTake h e m x (leNat (s.dramRead o pa w)))
    | .store =>
      let bs := natLe w (t.vGet e.nreg m.d w x.i)
      (match x.at' with
        | .spad off => s.spadWrite o c off bs
        | .phys pa _ _ => s.dramWrite o pa bs)
    | .amo op =>
      let ops := t.amoOps e m x.i
      let r := s.amoAt o c x.at' op w ops.1 ops.2
      r.1.vTake h e m x r.2.1

/-- What an element takes from the answer to its request: of .take, a whole granule. -/
def State.vAnswered (s : State) (h : Nat) (e : VEntry) (m : VMem) (x : VElem) (v : Nat) : State :=
  if m.fe = 2 then
    s.setThr h ((s.thr h).takeAll e m x (fun ea => leNat (((natLe 16 v).drop (ea % 16)).take (2 ^ e.sew))))
  else s.vTake h e m x v

/-- The request of an element that travels (R90, R104, R164), and its VC: those without .o carry the relaxed bit, but atomics never do. -/
def Thread.vRequest (t : Thread) (e : VEntry) (m : VMem) (i : Nat) : MemReq :=
  let w := 2 ^ e.sew
  match m.kind with
  | .load => if m.fe = 0 then .read w else if m.fe = 2 then .full true 16 else .full false w
  | .store => .write (natLe w (t.vGet e.nreg m.d w i)) (2 ^ w - 1)
  | .amo op => .amo op w (t.amoOps e m i).1 (t.amoOps e m i).2

def VMem.vc (m : VMem) : Nat :=
  match m.kind with
  | .amo _ => vcScalar
  | _ => if m.o then vcScalar else vcRelaxed

/-- Whether an issued element goes by a queue or the gallery: not one whose granule another element of the instruction takes. -/
def State.vTravels (s : State) (h : Nat) (e : VEntry) (m : VMem) (x : VElem) : Bool :=
  s.travel && !x.far && !(decide (m.fe = 2) && (s.thr h).takenBelow e m x.i x.ea)

/-- The place of an element's request: of .take, its granule. -/
def VElem.asked (x : VElem) (m : VMem) : Place :=
  match x.at' with
  | .spad off => .spad (if m.fe = 2 then off / 16 * 16 else off)
  | p => p

/-- Issues one element (R94, R237): it performs, or stays behind until the window at its bank has ended or its answer has come. -/
def State.vIssueOne (s : State) (h c : Nat) (e : VEntry) (m : VMem) (sec : VSect) (x : VElem) : State × VSect :=
  let shut := match x.at' with
    | .phys pa _ _ => s.shutAt pa
    | .spad _ => false
  if m.o && !sec.late.isEmpty then (s, { sec with late := sec.late ++ [(x, false)] })
  else if s.vTravels h e m x then
    match s.post c m.vc (s.thr h).owner 34 m.shaft (x.asked m) ((s.thr h).vRequest e m x.i) (.vector h e.cmd x.i) with
    | some s => (s, { sec with late := sec.late ++ [(x, true)] })
    | none => (s, { sec with late := sec.late ++ [(x, false)] })
  else if shut then (s, { sec with late := sec.late ++ [(x, false)] })
  else (s.vElem h c e m x, sec)

/-- The issued elements that could not perform are tried again, in order; under .o each waits for those before it (R120). -/
def State.vLate (s : State) (h c : Nat) (e : VEntry) (m : VMem) (sec : VSect) : State × VSect :=
  sec.late.foldl (fun (a : State × VSect) y =>
    if y.2 then (a.1, { a.2 with late := a.2.late ++ [y] }) else a.1.vIssueOne h c e m a.2 y.1) (s, { sec with late := [] })

/-! Sections -/

/-- The head entry of a thread's VIQ, changed. -/
def State.setHead (s : State) (h : Nat) (e : VEntry) : State :=
  s.setThr h { s.thr h with viq := (s.thr h).viq.map (fun x => if x.cmd = e.cmd then e else x) }

/-- The elements from `lo` to `hi` beside those of a list. -/
def spanAdd (l : List Nat) (lo hi : Nat) : List Nat := (List.range (hi - lo)).foldl (fun l i => sadd l (lo + i)) l

/-- How the head of the VIQ stands after a try: complete; waiting; or stopped by a trap. -/
inductive VRes where
  | done (s : State)
  | wait (s : State)
  | trap (s : State) (p : Pend)

/-- The trap of a failing element, with the fields of its record (R185). -/
def Thread.vTrap (t : Thread) (e : VEntry) (m : VMem) (start i ea : Nat) (x : XErr) : Pend :=
  { src := 1, code := x.code, tval := toW ea, tvpc := e.pc, cmd := e.cmd, start := start, kind := kindOf m.acc, level := x.level
    entry := x.entry, index := i, stride := if m.idx.isSome then 0 else m.stride.toNat
    remain := (t.reqLen.toNat + 2 ^ 64 - i) % 2 ^ 64, time := none, item := none }

/-- The request packets of a section's remote elements, one for each package (R362). -/
def State.packets (s : State) (h : Nat) (e : VEntry) (m : VMem) (xs : List VElem) : List (Nat × RequestPacket) :=
  let t := s.thr h
  let w := 2 ^ e.sew
  let far := xs.filterMap (fun x => match x.at' with
    | .phys pa _ _ => (match locOf pa with
      | .remote q la => if shas e.kept x.i then none else some (q, x.i, la)
      | _ => none)
    | .spad _ => none)
  let kind := match m.kind with
    | .load => 0
    | .store => 1
    | .amo _ => 2
  let op := match m.kind with
    | .amo o => o.code
    | _ => 0
  let pkgs := far.foldl (fun l x => sadd l x.1) []
  pkgs.map (fun q => (q, { pkg := s.pkgNum.getD 0, dst := q, tag := 0, h := h, owner := t.owner, kind := kind, op := op, w := w
                           elems := (far.filter (fun x => decide (x.1 = q))).map (fun x =>
                             { idx := x.2.1, addr := x.2.2, data := if kind = 0 then 0 else (t.amoOps e m x.2.1).1
                               cmp := if kind = 2 then (t.amoOps e m x.2.1).2 else 0 }) }))

/-- Sends the request packets of an instruction (R362, R435); none where no port is up. -/
def State.askAll (s : State) (h cmd : Nat) (l : List (Nat × RequestPacket)) : Option State :=
  match l with
  | [] => some s
  | q :: r => (s.askRemote (.vector h cmd (q.2.elems.map (·.idx))) (fun tag => .request q.1 (requestSlot q.2.pkg h) { q.2 with tag := tag })).bind
      fun s => s.askAll h cmd r

/-- The package of an element. -/
def VElem.package (x : VElem) : Option Nat :=
  match x.at' with
  | .phys pa _ _ => (match locOf pa with
    | .remote q _ => some q
    | _ => none)
  | .spad _ => none

/-- The remote elements that are sent now: all of the section's; under .o, those before the next element of another home (R120, R362). -/
def State.toSend (s : State) (c : Nat) (e : VEntry) (m : VMem) (xs : List VElem) : List VElem :=
  let lives := xs.filter (fun x => !s.vSkips c m x)
  let run := if m.o then (match lives with
      | [] => []
      | x :: _ => lives.takeWhile (fun y => decide (y.package = x.package)))
    else lives
  run.filter (fun x => x.far && !shas e.kept x.i)

/-- Drops the section in hand and its pins (R182, R212). -/
def State.dropSect (s : State) (h : Nat) (e : VEntry) : State :=
  (s.unpinCmd h e.cmd).setHead h { e with sect := none }

/-- Whether an instruction pins an entry that a shoot-down has doomed (R182). -/
def State.doomedPin (s : State) (h cmd : Nat) : Bool :=
  (s.core (coreOf h)).tlb.entries.any (fun x => x.doomed && x.pins.any (fun p => decide (p = (h, cmd))))

/-- How a section stands after a try: performed; waiting; or stopped by a trap. The entry is the state's. -/
inductive VGo where
  | on (s : State) (e : VEntry)
  | hold (s : State)
  | trap (s : State) (p : Pend)

/-- Issues the element groups of the section in hand, in increasing order, each only when none of its elements waits (R237); a remote element
that waits holds the packets of its group, and of those after it (R237, R354). `per` is
the number of indices of a group. Doomed pins, and pins while a frozen bobbin holds the element, are released (R182, R212). -/
def State.vIssue (s : State) (h c : Nat) (m : VMem) (per : Nat) (e : VEntry) (sec : VSect) (fuel : Nat) : VGo :=
  let keep := fun (s : State) (e : VEntry) (sec : VSect) => s.setHead h { e with sect := some sec }
  match sec.todo, fuel with
  | [], _ =>
    if !sec.late.isEmpty then .hold (keep s e sec)
    else
      let s := s.countGroups h e e.start sec.stop
      .on (s.unpinCmd h e.cmd) { e with start := max e.start sec.stop, sect := none }
  | _, 0 => .hold (keep s e sec)
  | x :: _, n + 1 =>
    let far := s.toSend c e m sec.todo
    let wait := (far.find? (fun y => s.guarded c none y.ea (2 ^ e.sew))).map (fun y => y.i / per)
    let ahead := fun (y : VElem) => match wait with
      | some g => decide (y.i / per < g)
      | none => true
    let send := far.takeWhile ahead
    if sec.halt || decide (e.sent ≠ 0) || (m.o && !sec.late.isEmpty) then .hold (keep s e sec)
    else
      match e.answer.err with
      | some i =>
        let t := s.thr h
        let first := sec.first
        .trap ((s.unpinCmd h e.cmd).setHead h
            { e with sect := none, start := min e.start first, answer := { e.answer with err := none }, past := spanAdd e.past first e.start })
          (t.vTrap e m first i (t.eaOf e.nreg m i) (s.leafErr (some c) t.owner (t.eaOf e.nreg m i) 13))
      | none =>
        let g := x.i / per
        let first := max e.start (g * per)
        let same := fun (y : VElem) => decide (y.i / per = g) && (!m.o || decide (y.package = x.package))
        let now := sec.todo.takeWhile same
        let lives := now.filter (fun y => !s.vSkips c m y)
        let e0 := { e with start := first }
        if lives.any (fun y => s.vWaits h c e m y || (!ahead y && y.far && !shas e.kept y.i)) then
          let s := s.countGroups h e e.start first
          let sec := { sec with stuck := true }
          let frozen := (sec.todo.find? (fun y => s.frozenGuard c y.ea (2 ^ e.sew))).map (·.ea)
          if s.doomedPin h e.cmd || frozen.isSome then
            let e0 := { e0 with frozenAt := frozen }
            (if sec.late.isEmpty then .hold (s.dropSect h e0) else .hold (keep s e0 { sec with halt := true }))
          else .hold (keep s e0 sec)
        else if !send.isEmpty then
          let pkts := s.packets h e m send
          if !s.farRoom c pkts.length then .hold (keep s e sec) else
          match s.askAll h e.cmd pkts with
          | none => s.vIssue h c m per { e with answer := { e.answer with err := (send.head?).map (·.i) } } sec n
          | some s => .hold (keep (s.count (s.thr h).taskid 10 pkts.length)
              { (if m.o then e0 else e) with sent := pkts.length } { sec with stuck := false })
        else
          match lives.findSome? (fun y => s.vError h e m y) with
          | some p =>
            if !sec.late.isEmpty then .hold (keep s e sec)
            else .trap ((s.countGroups h e e.start first).dropSect h e0) { p with tvpc := e.pc, cmd := e.cmd, start := first }
          | none =>
            let r := now.foldl (fun (a : State × VSect) y =>
              if a.1.vSkips c m y then (a.1.setThr h ((a.1.thr h).wk 8 y.i true), a.2) else a.1.vIssueOne h c e m a.2 y)
              (s, { sec with todo := sec.todo.drop now.length, gone := now.map (·.i) ++ sec.gone, stuck := false })
            -- within a group, where .o holds the elements of another home back, the start index counts elements
            let stop := min sec.stop (if r.2.todo.any (fun y => decide (y.i / per = g)) then (match now.getLast? with
              | some y => y.i + 1
              | none => first) else (g + 1) * per)
            let t := r.1.thr h
            let healed := (m.dst (2 ^ e.sew)).foldl (fun t d => t.vHeal e.nreg d.r d.w first stop (fun i => t.active e.k i && !t.rk 8 i)) t
            let s := ((r.1.setThr h healed).countGroups h e e.start stop).count t.taskid 10 (lives.filter (fun y => !y.far)).length
            s.vIssue h c m per { e with start := max e.start stop, grp := per } r.2 n

/-- The lowest active element of the instruction (R181). -/
def Thread.lowest (t : Thread) (e : VEntry) : Option Nat := firstUp 0 t.vl (fun i => t.active e.k i)

/-- Indices in an element group of a section: a window when it lies in the scratchpad (R103, R237). -/
def State.sectPer (s : State) (c : Nat) (e : VEntry) (sec : VSect) : Nat :=
  let window := (sec.todo ++ sec.late.map (·.1)).any (fun x => match x.at' with
    | .spad _ => true
    | _ => false)
  if window then 64 * s.width c else 64 / e.wide

/-- The sections of a vector memory instruction, from its start index (R352). A poisoned index word ends the section before its group, and
stops the instruction there (R241). -/
def State.vRun (s : State) (h c : Nat) (m : VMem) (e : VEntry) (fuel : Nat) : VGo :=
  match fuel with
  | 0 => .hold (s.setHead h e)
  | n + 1 =>
    let t := s.thr h
    match e.sect with
    | some sec =>
      let r := s.vLate h c e m sec
      let sec := r.2
      let s := r.1.setHead h { e with sect := some sec }
      if sec.halt && sec.late.isEmpty then .hold (s.dropSect h e)
      else
        match s.vIssue h c m (s.sectPer c e sec) e sec (sec.todo.length + 1) with
        | .on s e => s.vRun h c m e n
        | r => r
    | none =>
      match firstUp e.start (t.vl - e.start) (t.todo e) with
      | none => .on (s.countGroups h e e.start t.vl) { e with start := max e.start t.vl }
      | some i0 =>
        let frozen := match e.frozenAt with
          | some va => s.guarded c none va (2 ^ e.sew)
          | none => false
        if frozen || (e.after.bind (tfind s.shoots)).isSome then .hold (s.setHead h e)
        else
        let e := { e with after := none, frozenAt := none }
        let p := s.probe h c e m i0 (t.vl - i0) (t.pinned e.cmd) [] []
        let begin' := fun (s : State) (stop : Nat) =>
          let sec : VSect :=
            { first := i0, stop := stop, pages := p.pages, todo := p.elems.filter (fun x => decide (x.i < stop)), late := [], stuck := false
              halt := false }
          (s.pinPages h e.cmd p.pages).vRun h c m { e with sect := some sec } n
        if p.miss || (p.elems.isEmpty && p.fail.isNone) then .hold (p.s.setHead h e)
        else
          match p.fail with
          | none => begin' p.s p.stop
          | some (i, ea, x) =>
            let per := if inWindow ea then 64 * s.width c else 64 / e.wide
            let first := max i0 (i / per * per)
            if x.code = 64 then
              (if p.elems.any (fun x => decide (x.i < first)) then begin' p.s first
              else .trap (p.s.setHead h { e with start := max e.start (i / per * per) })
                { poisonTrap s.tick e i0 with start := max e.start (i / per * per) })
            else if m.first && !decide (t.lowest e = some i) then begin' (p.s.setThr h { p.s.thr h with vl := i }) i
            else .trap (p.s.setHead h { e with start := i0 }) (t.vTrap e m i0 i ea x)

/-! Completion -/

/-- The span of a vector memory instruction that completes: the lines of the core's L1 remember it (R122). -/
def State.spanDone (s : State) (h : Nat) (e : VEntry) : State :=
  let c := coreOf h
  match e.span (s.thr h).vgrant with
  | none => s
  | some (lo, hi) =>
    s.setCore c { s.core c with l1d := (s.core c).l1d.map (fun p => (p.1, p.2.spanned h lo hi)) }

/-- Tries a vector memory instruction of the VIQ. -/
def State.vMem (s : State) (h : Nat) (e : VEntry) (m : VMem) : VRes :=
  let c := coreOf h
  let s := if e.start = 0 ∧ e.sect.isNone then s.setThr h { s.thr h with k := tdel (s.thr h).k 8 } else s
  match s.vRun h c m e (2 * (s.thr h).vl + 2) with
  | .hold s => .wait s
  | .trap s p => .trap s p
  | .on s e =>
    let s := (s.fillWritten h e (s.thr h).vl).setHead h e
    let s := if m.kind = .load ∧ (m.fe = 1 ∨ m.fe = 2) then s.l1DropClean c else s
    .done (s.spanDone h e)

end Sys2Proof.Machine
end

