-- ==== Sys2Proof/Machine/TileOps.lean ====
section
/-! DEFINITION. The tile stream (R68 to R72, R160, R186 to R191, R369 to R384): what a tile instruction reads and writes, physical
tiles and their fills, the matrix arithmetic of R55 to R57, the element-wise operations, sends, and retirement. -/

namespace Sys2Proof.Machine

/-! Operand lists -/

/-- Operand formats of a shape value (R78). -/
def shapeM (v : Word) : Nat := v.toNat % 128
def shapeN (v : Word) : Nat := v.toNat / 2 ^ 7 % 512
def shapeK (v : Word) : Nat := v.toNat / 2 ^ 16 % 4096
def shapeA (v : Word) : Nat := v.toNat / 2 ^ 28 % 8
def shapeB (v : Word) : Nat := v.toNat / 2 ^ 31 % 8

/-- Fields of the MCVT control word (R380). -/
def cvtT (v : Nat) : Nat := v % 16
def cvtS (v : Nat) : Nat := v / 16 % 16
def cvtRm (v : Nat) : Nat := v / 256 % 8
def cvtSat (v : Nat) : Bool := v.testBit 11
def cvtPart (v : Nat) : Nat := v / 4096 % 8

/-- Elements per row of a VFCVT format code (R68's table). -/
def rowElems (g code : Nat) : Nat := if code = 14 then 512 * g else 256 * g * 8 / cvtWidth code

/-- Whether an MCVT keeps elements of its destination: its source has fewer elements per row (R380). -/
def cvtKeeps (ctl : Nat) : Bool := decide (rowElems 1 (cvtS ctl) < rowElems 1 (cvtT ctl))

/-- A tile, or the pair of an e2m1 operand. -/
def tilePair (pair : Bool) (t : Nat) : List Nat := if pair then [t, t + 1] else [t]

/-- Architectural tiles that an instruction writes. -/
def TOp.dsts (o : TOp) : List Nat :=
  match o with
  | .mld td _ _ | .mzero td | .mma td _ _ _ _ _ | .mmag td _ _ _ _ _ _ | .vtom td _ _ _ | .mtrans td _ _ _
  | .mscale td _ _ _ _ _ | .madd td _ _ _ _ _ _ => [td]
  | .mcvt td _ _ _ _ ctl _ => tilePair (decide (cvtT ctl = 14)) td
  | _ => []

/-- Architectural tiles that it reads, each with its .l qualifier; the previous value of a destination is read without it. -/
def TOp.srcs (o : TOp) : List (Nat × Bool) :=
  let mark := fun (l : Bool) (ts : List Nat) => ts.map (fun t => (t, l))
  match o with
  | .mst ta la _ _ => [(ta, la)]
  | .mma td ta tb la lb sh =>
    mark la (tilePair (decide (shapeA sh = 4)) ta) ++ mark lb (tilePair (decide (shapeB sh = 4)) tb) ++ [(td, false)]
  | .mmag td _ tb lb _ _ _ => [(tb, lb), (td, false)]
  | .vtom td _ _ _ => [(td, false)]
  | .mtrans _ ta la _ => [(ta, la)]
  | .mcvt td ta tb la lb ctl _ =>
    mark la (tilePair (decide (cvtS ctl = 14)) ta) ++ (if cvtRm ctl = 4 then [(tb, lb)] else []) ++
      (if cvtKeeps ctl then mark false (tilePair (decide (cvtT ctl = 14)) td) else [])
  | .msend ta la _ => [(ta, la)]
  | .mscale _ ta tb la lb _ | .madd _ ta tb la lb _ _ => [(ta, la), (tb, lb)]
  | _ => []

/-- Tiles that .l leaves dead: sources so marked that are no destination (R369). -/
def TOp.kills (o : TOp) : List Nat := (o.srcs.filter (fun p => p.2 && !shas o.dsts p.1)).map (·.1)

/-- The unit of an instruction: 0 matrix, 1 load-store, 2 element-wise, 3 send, none (R368). -/
def TOp.unit (o : TOp) : Option Nat :=
  match o with
  | .mma _ _ _ _ _ _ | .mmag _ _ _ _ _ _ _ => some 0
  | .mld _ _ _ | .mst _ _ _ _ => some 1
  | .mzero _ | .vtom _ _ _ _ | .mtrans _ _ _ _ | .mcvt _ _ _ _ _ _ _ | .mscale _ _ _ _ _ _ | .madd _ _ _ _ _ _ _ => some 2
  | .msend _ _ _ => some 3
  | .mcfg _ | .mpref _ | .mdrop _ | .mopen _ => none

/-- Whether an instruction reads row `r` of a source (R69): of A those below M and of B those below N (R374), of the scales of MSCALE rows 0
and 1 (R381), of the previous value of VTOM's destination all but the row written (R378), of the others all 64. -/
def TOp.readsRow (o : TOp) (tile r : Nat) : Bool :=
  match o with
  | .mma td ta tb _ _ sh =>
    decide (tile = td) || (shas (tilePair (decide (shapeA sh = 4)) ta) tile && decide (r < shapeM sh)) ||
      (shas (tilePair (decide (shapeB sh = 4)) tb) tile && decide (r < shapeN sh))
  | .mmag td _ tb _ _ sh _ => decide (tile = td) || !decide (tile = tb) || decide (r < shapeN sh)
  | .vtom _ _ row _ => !decide (r = row)
  | .mscale _ ta tb _ _ _ => decide (tile = ta) || !decide (tile = tb) || decide (r < 2)
  | _ => true

/-- The rows of a source that an instruction reads. -/
def TOp.rowsOf (o : TOp) (tile : Nat) : List Nat := (List.range 64).filter (o.readsRow tile)

/-! Where the value of an architectural tile lies -/

/-- The value of a tile as an instruction sees it (R68, R69, R369): dead; waiting for a landing; in a physical tile; coming into one, row
by row, from an earlier writer that has issued; awaited from one that has not; or in its backing. -/
inductive TView where
  | dead | receivable | phys (pt : Nat) | coming (pt : Nat) | pending | backing
  deriving DecidableEq, Repr

/-- What an earlier entry makes of a tile: none when it does not change it. -/
def TEntry.effect (e : TEntry) (tile : Nat) : Option TView :=
  if shas e.op.dsts tile then
    some (match tfind e.dst tile with
      | some pt => if e.complete then .phys pt else if e.issued then .coming pt else .pending
      | none => .pending)
  else match e.op with
    | .mdrop td => if td = tile then some .dead else none
    | .mopen td => if td = tile then some .receivable else none
    | o => if shas o.kills tile then some .dead else none

/-- A tile at a place in program order: `before` are the window entries committed earlier. -/
def Thread.tileView (t : Thread) (before : List TEntry) (tile : Nat) : TView :=
  match before.reverse.findSome? (fun e => e.effect tile) with
  | some v => v
  | none =>
    match tfind t.prick tile with
    | none => .dead
    | some p =>
      match p.state with
      | .dead => .dead
      | .receivable => .receivable
      | .live => if p.res then .phys p.ptile else .backing

/-- Window entries committed before a given order. -/
def Thread.winBefore (t : Thread) (order : Nat) : List TEntry := t.win.filter (fun e => decide (e.order < order))

/-! Held and free physical tiles -/

/-- Physical tiles that a thread's window entries and MTOVs name (R70). -/
def Thread.heldTiles (t : Thread) : List Nat :=
  t.win.foldl (fun l e =>
      let l := e.dst.foldl (fun l d => sadd l d.2) l
      e.op.srcs.foldl (fun l x => match t.tileView (t.winBefore e.order) x.1 with
        | .phys pt | .coming pt => sadd l pt
        | _ => l) l)
    (t.viq.foldl (fun l e => match e.op with
      | .mtov _ _ _ (some (.phys pt)) => sadd l pt
      | _ => l) [])

def State.heldOn (s : State) (c : Nat) : List Nat :=
  (threadsOf c).foldl (fun l h => match tfind s.threads h with
    | some t => if t.slot = .free then l else t.heldTiles.foldl sadd l
    | none => l) []

/-! Deferred traps of the tile stream -/

/-- Records a deferred trap; one cause of the vector stream, and one of each tile instruction, is pending at a time (R231 to R235). It sets the
event flag (R310). -/
def State.raisePend (s : State) (h : Nat) (p : Pend) : State :=
  let t := s.thr h
  if t.pend.any (fun q => decide (q.src = p.src) && (decide (p.src = 1) || (decide (p.src = 2) && decide (q.cmd = p.cmd)))) then s
  else s.setThr h { t with pend := t.pend ++ [{ p with time := some s.gtime, seen := s.tick }], event := true }

/-- Whether the trap of a tile instruction is pending. -/
def Thread.trapped (t : Thread) (cmd : Nat) : Bool := t.pend.any (fun p => decide (p.src = 2) && decide (p.cmd = cmd))

/-- A tile trap with the fields of its record (R185, R228). -/
def tileTrap (cmd code : Nat) (tval : Word) (level entry : Nat) : Pend :=
  { Pend.plain 2 code tval with cmd := cmd, kind := 5, level := level, entry := entry }

/-- Code 64 for a tile that cannot be read (R187, R240, R241). -/
def Thread.tileData (t : Thread) (cmd tile : Nat) : Pend := tileTrap cmd 64 (toW (tileBacking t.gang t.mapb tile)) 0 0

/-- The oldest entry that reads a tile from its backing; a number above every entry when there is none. -/
def Thread.fillCmd (t : Thread) (tile : Nat) : Nat :=
  match t.win.find? (fun e => (e.op.srcs.map (·.1)).any (fun x => decide (x = tile)) &&
      decide (t.tileView (t.winBefore e.order) tile = .backing)) with
  | some e => e.cmd
  | none => tget t.cmds 1 0 + 1

/-- The spill of a victim that cannot be read is a fault of the tile stream of its context, while that is placed (R188, R228). -/
def State.spillFault (s : State) (c : Nat) (p : PTile) : State :=
  if p.dirty && !(p.badWords (s.width c)).isEmpty then
    match s.threads.find? (fun x => x.2.live && p.ofContext x.2.owner x.2.mapb) with
    | some x => s.raisePend x.1 (x.2.tileData (x.2.fillCmd p.tile) p.tile)
    | none => s
  else s

/-- Takes a free physical tile of a core, or the least recently used tile that is not held, spilling it (R188); `keep` are tiles
that the instruction in hand names. Of equally recent ones the lowest number leaves (DESIGN CHOICE, log 95). -/
def State.takeTile (s : State) (c : Nat) (keep : List Nat) : State × Option Nat :=
  let tiles := (s.core c).tiles
  match firstUp 0 512 (fun i => (tfind tiles i).isNone) with
  | some i => (s, some i)
  | none =>
    let held := keep.foldl sadd (s.heldOn c)
    let victim := tiles.foldl (fun (v : Option (Nat × PTile)) x =>
      if shas held x.1 || x.2.filling then v
      else match v with
        | none => some x
        | some y => if x.2.lru < y.2.lru then some x else v) none
    match victim with
    | some v => ((s.spillFault c v.2).evictTile c v.1, some v.1)
    | none => (s, none)

/-- Whether a core has free physical tiles, or tiles that may be taken as victims, for `n` destinations (R160, R188). -/
def State.tilesFor (s : State) (c : Nat) (keep : List Nat) (n : Nat) : Bool :=
  let tiles := (s.core c).tiles
  let held := keep.foldl sadd (s.heldOn c)
  decide (n + tiles.countP (fun x => shas held x.1 || x.2.filling) ≤ 512)

/-- A physical tile with the tag of a context. -/
def PTile.fresh (t : Thread) (tile tick : Nat) : PTile :=
  { used := true, owner := t.owner, mapb := t.mapb, tile := tile, dirty := false, poison := false, ready := [], rows := []
    lru := tick, filling := false }

def State.putTile (s : State) (c pt : Nat) (p : PTile) : State :=
  s.setCore c { s.core c with tiles := tput (s.core c).tiles pt p }

/-- Every row of a tile. -/
def allRows : List Nat := List.range 64

/-- The bytes of a tile's backing as a table of non-zero bytes. -/
def State.backingRows (s : State) (owner g mapb tile : Nat) : Table Byte :=
  ((List.range (16384 * g)).zip (s.dramRead owner (tileBacking g mapb tile) (16384 * g))).filter (fun b => !decide (b.2 = 0))

/-- The fill of a tile fails: a word of its backing is uncorrectable (R228, R241). The tile is freed. -/
def State.fillFails (s : State) (h tile pt w : Nat) : State :=
  let t := s.thr h
  let s := s.setThr h (t.unfix [pt])
  (s.freeTiles (coreOf h) [pt]).raisePend h { Pend.dramWord 2 5 w with cmd := t.fillCmd tile }

/-- The end of a fill: the physical tile holds every row, and the entry is resident (R69, R186, R188). -/
def State.fillEnd (s : State) (h tile pt : Nat) (rows : Table Byte) : State :=
  let t := s.thr h
  let s := s.putTile (coreOf h) pt { PTile.fresh t tile s.tick with ready := allRows, rows := rows }
  let e := tget t.prick tile { state := .live, res := false, dirty := false, ptile := 0 }
  (s.setThr h { t with prick := tput t.prick tile { e with res := true, dirty := false, ptile := pt } }).count t.taskid 5 1

/-- A fill in one step: the rows are read from the backing. -/
def State.fillTile (s : State) (h tile pt : Nat) : State :=
  let t := s.thr h
  let a := tileBacking t.gang t.mapb tile
  match s.badAt a (16384 * t.gang) with
  | some w => s.fillFails h tile pt w
  | none =>
    ((s.holdRange a (16384 * t.gang)).l2TouchAll a (16384 * t.gang) t.owner false).fillEnd h tile pt (s.backingRows t.owner t.gang t.mapb tile)

/-- The rows of a tile whose pieces have all come (R69). -/
def rowsReady (g : Nat) (came : List Nat) : List Nat :=
  (List.range 64).filter (fun r => (List.range (16 * g)).all (fun i => shas came (16 * g * r + i)))

/-- Bytes of consecutive pieces, from piece `i` on, arrive in a physical tile. -/
def PTile.arrive (p : PTile) (g i : Nat) (bs : List Byte) (came : List Nat) : PTile :=
  { p with rows := (bs.zipIdx).foldl (fun v b => tset v (16 * i + b.2) b.1 0) p.rows, ready := rowsReady g came }

/-- The number by which the answers to a fill find it: its physical tile, and the tick of its request. -/
def PTile.fillKey (p : PTile) (pt : Nat) : Nat := 2 ^ 64 + 512 * p.lru + pt

/-- Requests the pieces of a fill that travel and have not been requested: packets of up to three lines (R69, R163, R188). -/
def State.askFill (s : State) (c pt : Nat) (p : PTile) (fuel i : Nat) : State :=
  match fuel with
  | 0 => s
  | n + 1 =>
    let g := s.width c
    if 1024 * g ≤ i then s
    else
      let a := tileBacking g p.mapb p.tile + 16 * i
      let k := min 12 (1024 * g - i)
      if shas p.asked i then s.askFill c pt p n (i + k)
      else
        match s.post c vcBulk p.owner 33 false (.phys a 1 0) (.read (16 * k)) (.tile (4 * c) (p.fillKey pt) (i + 4096 * k)) with
        | none => s
        | some s =>
          let p := { p with asked := (List.range k).foldl (fun l j => sadd l (i + j)) p.asked }
          (s.putTile c pt p).askFill c pt p n (i + k)

/-- The requests of the fills of a core, while accesses travel. -/
def State.askFills (s : State) (c : Nat) : State :=
  if s.travel then
    ((s.core c).tiles.filter (fun p => p.2.filling)).foldl (fun s p => s.askFill c p.1 p.2 (86 * s.width c) 0) s
  else s

/-- Requests the fill of a live tile that is not resident (R188): done at once when the streams run in lockstep and accesses do not travel. -/
def State.requestFill (s : State) (h tile : Nat) : State :=
  let t := s.thr h
  let c := coreOf h
  let going := (s.core c).tiles.any (fun p => p.2.filling && p.2.ofContext t.owner t.mapb && decide (p.2.tile = tile))
  match tfind t.prick tile with
  | none => s
  | some e =>
    if e.state ≠ .live ∨ e.res = true ∨ going = true then s
    else
      let r := s.takeTile c []
      match r.2 with
      | none => r.1
      | some pt => if s.lockstep && !s.travel then r.1.fillTile h tile pt else r.1.putTile c pt { PTile.fresh t tile s.tick with filling := true }

/-- Frees the tiles of a context that are neither mapped nor held (R70, R160, R373). -/
def State.collectTiles (s : State) (h : Nat) : State :=
  let t := s.thr h
  let c := coreOf h
  let held := t.heldTiles
  let k := s.core c
  s.setCore c { k with tiles := k.tiles.filter (fun p =>
    !(p.2.ofContext t.owner t.mapb) || p.2.filling || shas held p.1 ||
    (match tfind t.prick p.2.tile with
      | some e => e.res && decide (e.ptile = p.1)
      | none => false)) }

/-! Tile values -/

/-- An element of a tile as a number: row, element and element bytes. -/
def tileElem (g : Nat) (v : Table Byte) (r w j : Nat) : Nat := readV v (256 * g * r + w * j) w

/-- The nibble of an e2m1 element. -/
def tileNibble (g : Nat) (v : Table Byte) (r j : Nat) : Nat := (tget v (256 * g * r + j / 2) 0).toNat / 16 ^ (j % 2) % 16

/-- A tile from its elements of `w` bytes in row-major order. -/
def packTile (w : Nat) (vals : List Nat) : Table Byte :=
  let bs := vals.flatMap (natLe w)
  ((List.range bs.length).zip bs).filter (fun b => !decide (b.2 = 0))

/-- A tile from its nibbles in row-major order. -/
def packNibbles (vals : List Nat) : Table Byte :=
  let rec pairs : List Nat → List Byte
    | a :: b :: r => BitVec.ofNat 8 (a + 16 * b) :: pairs r
    | [a] => [BitVec.ofNat 8 a]
    | [] => []
  let bs := pairs vals
  ((List.range bs.length).zip bs).filter (fun b => !decide (b.2 = 0))

/-- Row and column of every element of 64 rows of `n` elements. -/
def tileIndices (n : Nat) : List (Nat × Nat) := (List.range (64 * n)).map (fun i => (i / n, i % n))

/-! Matrix arithmetic -/

/-- Format of an operand code of TSHAPE (R78). -/
def shapeFmt (code : Nat) : FFmt :=
  match code with
  | 0 => e4m3
  | 1 => e5m2
  | 2 => bf16
  | 3 => f16
  | _ => e2m1

/-- Bytes of an operand element; an e2m1 element is a nibble. -/
def shapeBytes (code : Nat) : Nat := if code = 2 ∨ code = 3 then 2 else 1

/-- Operand value of element k of a row. -/
def mmaVal (g code : Nat) (v : Table Byte) (r k : Nat) : FVal :=
  if code = 4 then e2m1.decode (tileNibble g v r k) else (shapeFmt code).decode (tileElem g v r (shapeBytes code) k)

/-- Operand value of an integer element. -/
def mmaInt (g code : Nat) (v : Table Byte) (r k : Nat) : Int :=
  let n := tileElem g v r 1 k
  if code = 5 then sx 8 n else n

/-- Scales a group sum by two e8m0 scales (R55, R375). -/
def mxScale (x y : Nat) (v : FVal) : FVal :=
  if x = 255 ∨ y = 255 then .nan false
  else match v with
    | .fin n m e => .fin n m (e + (x : Int) + (y : Int) - 254)
    | w => w

/-- The sum of a K-group of products (R55, R56). -/
def groupSum (ps : List (FVal × FVal)) (full : Bool) : FVal :=
  let start : Option FVal := if full then none else some (.fin false 0 0)
  (ps.foldl (fun acc p =>
    let x := (valMul p.1 p.2).1
    match acc with
    | none => some x
    | some a => some (valAdd 0 a x).1) start).getD (.fin false 0 0)

/-- One output element of a floating-point MMA (R55, R56): `a k` and `b k` are the operands, `sa grp` and `sb grp` the scales. -/
def mmaDot (kk : Nat) (mx : Bool) (a b : Nat → FVal) (sa sb : Nat → Nat) (d : Nat) : Nat × FFlags :=
  (List.range (ceilDiv kk 32)).foldl (fun acc grp =>
    let ps := ((List.range 32).filter (fun x => decide (32 * grp + x < kk))).map (fun x => (a (32 * grp + x), b (32 * grp + x)))
    let raw := groupSum ps (decide (ps.length = 32))
    let sum := if mx then mxScale (sa grp) (sb grp) raw else raw
    let nv := match sum with
      | .nan _ => flNV
      | _ => 0
    let g32 := f32.deliver 0 false 0 (match sum with
      | .nan _ => .nan false
      | v => v)
    let r := f32.add 0 acc.1 g32.1
    (r.1, acc.2 ||| nv ||| g32.2 ||| r.2)) (d, 0)

/-- The operands of an MMA: rows of A (by row function), B, their scale tiles, and the accumulator. -/
structure MmaIn where
  a : Nat → Table Byte
  aRow : Nat → Nat
  b : Table Byte
  sa : Table Byte
  sb : Table Byte
  d : Table Byte

/-- The result of R374 and its flags: every accumulator element of the 64 rows. -/
def mmaRun (g : Nat) (sh : Word) (x : MmaIn) : Table Byte × FFlags :=
  let fa := shapeA sh
  let fb := shapeB sh
  let int := decide (5 ≤ fa)
  let r := (tileIndices (64 * g)).map (fun p =>
    let i := p.1
    let j := p.2
    let old := tileElem g x.d i 4 j
    if shapeM sh ≤ i ∨ shapeN sh ≤ j then (old, (0 : FFlags))
    else if int then
      let sum : Int := (List.range (shapeK sh)).foldl (fun acc k => acc + mmaInt g fa (x.a i) (x.aRow i) k * mmaInt g fb x.b j k) 0
      (wrap 32 ((old : Int) + sum), 0)
    else mmaDot (shapeK sh) (decide (fa = 4)) (mmaVal g fa (x.a i) (x.aRow i)) (mmaVal g fb x.b j)
      (fun grp => tileElem g x.sa i 1 grp) (fun grp => tileElem g x.sb j 1 grp) old)
  (packTile 4 (r.map (·.1)), r.foldl (fun f v => f ||| v.2) 0)

/-! Element-wise operations -/

/-- MTRANS (R379). -/
def transpose (g w : Nat) (v : Table Byte) : Table Byte :=
  packTile w ((tileIndices (256 * g / w)).map (fun p => tileElem g v (p.2 % 64) w (p.2 / 64 * 64 + p.1)))

/-- Format of a FMT code of MADD (R381). -/
def maddFmt (fmt : Nat) : FFmt :=
  match fmt with
  | 0 => f32
  | 1 => bf16
  | _ => f16

/-- MADD (R381). -/
def tileAdd (g fmt rm : Nat) (a b : Table Byte) : Table Byte × FFlags :=
  let w := if fmt = 1 ∨ fmt = 2 then 2 else 4
  let r := (tileIndices (256 * g / w)).map (fun p =>
    let x := tileElem g a p.1 w p.2
    let y := tileElem g b p.1 w p.2
    if fmt = 3 then ((x + y) % 2 ^ 32, (0 : FFlags)) else (maddFmt fmt).add rm x y)
  (packTile w (r.map (·.1)), r.foldl (fun f v => f ||| v.2) 0)

/-- MSCALE (R381). -/
def tileScale (g rm : Nat) (a b : Table Byte) : Table Byte × FFlags :=
  let r := (tileIndices (64 * g)).map (fun p =>
    let x := valMul (f32.decode (tileElem g a p.1 4 p.2)) (f32.decode (tileElem g b 0 4 p.2))
    let y := valMul x.1 (f32.decode (tileElem g b 1 4 p.1))
    let z := f32.deliver rm false 0 y.1
    (z.1, x.2 ||| y.2 ||| z.2))
  (packTile 4 (r.map (·.1)), r.foldl (fun f v => f ||| v.2) 0)

/-- The operands of an MCVT: source and its scales, random tile, previous value of the destination and of its scales. -/
structure CvtIn where
  a : Table Byte
  sa : Table Byte
  u : Table Byte
  d : Table Byte
  sd : Table Byte

/-- Source element j of row r and its random number. -/
def CvtIn.u16 (x : CvtIn) (g r j : Nat) (rs : Bool) : Nat := if rs then tileElem g x.u r 4 j % 2 ^ 16 else 0

/-- One element of an MCVT other than to e2m1. -/
def CvtIn.one (x : CvtIn) (g ctl rm r j : Nat) : Nat × FFlags :=
  let t := cvtT ctl
  let f := cvtS ctl
  let u := x.u16 g r j (decide (rm = 4))
  if f = 14 then (cvtFmt t).deliver rm (cvtSat ctl) u (mxVal (tileElem g x.sa r 1 (j / 32)) (tileNibble g x.a r j))
  else cvtScalar t f rm (cvtSat ctl) u (tileElem g x.a r (cvtWidth f / 8) j)

/-- MCVT to a format other than e2m1 (R380). -/
def CvtIn.run (x : CvtIn) (g ctl rm : Nat) : Table Byte × FFlags :=
  let es := rowElems g (cvtS ctl)
  let et := rowElems g (cvtT ctl)
  let w := cvtWidth (cvtT ctl) / 8
  let p := cvtPart ctl
  let r := (tileIndices et).map (fun q =>
    if es ≤ et then
      (if p * es ≤ q.2 ∧ q.2 < p * es + es then x.one g ctl rm q.1 (q.2 - p * es) else (tileElem g x.d q.1 w q.2, (0 : FFlags)))
    else x.one g ctl rm q.1 (p * et + q.2))
  (packTile w (r.map (·.1)), r.foldl (fun f v => f ||| v.2) 0)

/-- The shared exponent of block b of row r of an f32 tile (R53). -/
def CvtIn.block (x : CvtIn) (g r b : Nat) : Option Int :=
  mxExp ((List.range 32).map (fun i => f32.decode (tileElem g x.a r 4 (32 * b + i))))

/-- MCVT from f32 to e2m1: codes, scales and flags (R53, R380). -/
def CvtIn.toMx (x : CvtIn) (g ctl rm : Nat) : Table Byte × Table Byte × FFlags :=
  let es := 64 * g
  let p := cvtPart ctl
  let inPart := fun (j : Nat) => decide (p * es ≤ j) && decide (j < p * es + es)
  let r := (tileIndices (512 * g)).map (fun q =>
    if inPart q.2 then
      let j := q.2 - p * es
      match x.block g q.1 (j / 32) with
      | none => (0, flNV)
      | some e => mxCode rm (x.u16 g q.1 j (decide (rm = 4))) e (f32.decode (tileElem g x.a q.1 4 j))
    else (tileNibble g x.d q.1 q.2, (0 : FFlags)))
  let scales := (tileIndices (256 * g)).map (fun q =>
    if inPart (32 * q.2) then
      (match x.block g q.1 (q.2 - p * es / 32) with
        | none => 255
        | some e => (e + 127).toNat)
    else tileElem g x.sd q.1 1 q.2)
  (packNibbles (r.map (·.1)), packTile 1 scales, r.foldl (fun f v => f ||| v.2) 0)

end Sys2Proof.Machine
end

