-- ==== Sys2Proof/Machine/Board.lean ====
section
/-! DEFINITION. The hazards between the streams of a thread: the range-overlap scoreboard over the scratchpad window (R19, R121), and
the interlocks on v and mask registers (R18, R376, R378, R387, R388). -/

namespace Sys2Proof.Machine

/-- A range of addresses that an instruction may touch, and whether it writes it. -/
structure Region where
  lo : Int
  hi : Int
  write : Bool
  deriving DecidableEq, Repr

/-- The part of a range that lies in the scratchpad window (R82). -/
def Region.window (r : Region) : Region := { r with lo := max r.lo spadBase, hi := min r.hi (spadBase + 2 ^ 24) }

def Region.meets (a b : Region) : Bool := (a.write || b.write) && decide (a.lo < b.hi) && decide (b.lo < a.hi)

/-- Conflict of two sets of ranges within the window. -/
def conflict (a b : List Region) : Bool :=
  a.any (fun x => b.any (fun y => decide (x.window.lo < x.window.hi) && x.window.meets y.window))

/-! Ranges -/

def VEntry.regions (grant : Nat) (e : VEntry) : List Region :=
  match e.op with
  | .mem m =>
    let r := m.reach grant e.sew e.nreg
    let w : Bool := match m.kind with
      | .load => decide (m.fe = 2)
      | _ => true
    [{ lo := r.1, hi := r.2, write := w }]
  | _ => []

/-- From the lowest to the highest byte of the 64 rows (R372). -/
def rowSpan (g : Nat) (base stride : Word) (write : Bool) : Region :=
  let b : Int := base.toNat
  let reach := 63 * wInt stride
  { lo := min b (b + reach), hi := max b (b + reach) + 256 * g, write := write }

def TEntry.regions (g : Nat) (e : TEntry) : List Region :=
  match e.op with
  | .mld _ b st => [rowSpan g b st false]
  | .mst _ _ b st => [rowSpan g b st true]
  | .mmag _ _ _ _ b _ _ => [{ lo := b.toNat, hi := spadBase + 2 ^ 24, write := false }]
  -- a scratchpad destination, whichever core it lies on
  | .msend _ _ d =>
    if d.toNat / 2 ^ 42 % 2 = 1 then [{ lo := spadBase + d.toNat % 2 ^ 24, hi := spadBase + d.toNat % 2 ^ 24 + 16384 * g, write := true }] else []
  | _ => []

/-- Lowest and highest byte of a strided box. -/
def boxSpan (a : Int) (e n0 n1 n2 : Nat) (s0 s1 s2 : Int) (write : Bool) : Region :=
  let reach := fun (n : Nat) (s : Int) => ((n : Int) - 1) * s
  let r0 := reach n0 s0
  let r1 := reach n1 s1
  let r2 := reach n2 s2
  { lo := a + min 0 r0 + min 0 r1 + min 0 r2, hi := a + max 0 r0 + max 0 r1 + max 0 r2 + e, write := write }

/-- Memory that a bobbin command reads (R386 to R389). -/
def BCmd.srcRegions (c : BCmd) : List Region :=
  let s : Int := c.src.toNat
  match c.op with
  | .cpy e n0 n1 n2 _ _ _ s0 s1 s2 => [boxSpan s e n0 n1 n2 s0 s1 s2 false]
  | .rows _ _ _ _ _ _ => [{ lo := spadBase, hi := spadBase + 2 ^ 24, write := false }]
  | .cpyv dir _ _ e _ _ => if dir = 0 then [{ lo := c.dst.toNat, hi := c.dst.toNat + c.count * e, write := false }] else []
  | .red _ e n => [{ lo := s, hi := s + n * e, write := false }]

/-- Memory that it writes. -/
def BCmd.dstRegions (c : BCmd) : List Region :=
  let d : Int := c.dst.toNat
  match c.op with
  | .cpy e n0 n1 n2 d0 d1 d2 _ _ _ => [boxSpan d e n0 n1 n2 d0 d1 d2 true]
  | .rows l n _ _ _ _ => [{ lo := d, hi := d + n * l, write := true }]
  | .cpyv dir _ _ e _ _ => if dir = 1 then [{ lo := d, hi := d + c.count * e, write := true }] else []
  | .red _ e n => [{ lo := d, hi := d + n * e, write := true }]

/-! Registers -/

/-- Sets of v registers as intervals. -/
abbrev RegSet := List (Nat × Nat)

def VGrp.set (g : VGrp) : Nat × Nat := (g.r, g.r + g.n)
def RegSet.meets (a b : RegSet) : Bool := a.any (fun x => b.any (fun y => decide (x.1 < y.2) && decide (y.1 < x.2)))

def VEntry.writesV (e : VEntry) : RegSet :=
  match e.op with
  | .mem m => (m.dst (2 ^ e.sew)).map VGrp.set
  | .mtov d _ _ _ => [(d, d + 1)]
  | .cfg _ _ => [(0, 64)]
  | o => (o.dst (2 ^ e.sew)).map VGrp.set

def VEntry.readsV (e : VEntry) : RegSet :=
  match e.op with
  | .mem m => (m.srcs (2 ^ e.sew) ++ m.dst (2 ^ e.sew)).map VGrp.set
  | o => (o.srcs (2 ^ e.sew)).map VGrp.set

/-- Mask registers that a vector instruction writes. -/
def VEntry.writesK (e : VEntry) (k : Nat) : Bool :=
  match e.op with
  | .cmp _ d _ _ | .klogic _ d _ _ => decide (d = k)
  | .setl _ _ | .cfg _ _ => true
  | _ => false

/-- v registers that a tile instruction reads before it issues (R376, R378). -/
def TEntry.readsV (e : TEntry) : RegSet :=
  match e.op with
  | .mmag _ va _ _ _ _ _ | .vtom _ va _ _ => [(va, va + 1)]
  | _ => []

/-- Registers of the index group of a CPYROWS (R387). -/
def rowsRegs (n iw rb : Nat) : Nat := ceilDiv (n * (if iw = 1 then 8 else 4)) rb

/-- v registers that a command reads or writes. -/
def BCmd.vRegs (c : BCmd) (t : Thread) : RegSet :=
  match c.op with
  | .rows _ n iw va _ nreg => [(va, va + rowsRegs n iw (t.regBytes nreg))]
  | .cpyv _ count vd _ _ _ => [(vd, vd + count)]
  | _ => []

/-- Commands of a thread's bobbins accepted before a given order. -/
def Thread.bobBefore (t : Thread) (order : Nat) : List BCmd :=
  t.bob.foldl (fun l b => l ++ b.2.queue.filter (fun q => decide (q.order < order))) []

/-! Words with an error that no active element reads -/

/-- The words of some registers that have an uncorrectable error. -/
def Thread.maskedWords (t : Thread) (regs : RegSet) : List Nat :=
  t.verr.filter (fun w => regs.any (fun g => decide (g.1 ≤ w / 2 ^ 17) && decide (w / 2 ^ 17 < g.2)))

/-- An instruction has read these registers and has met no error: words of them that have one held only elements masked off or at or above
VL. They are poisoned, and logged (R240, R432). -/
def State.noteWords (s : State) (h : Nat) (regs : RegSet) : State :=
  let t := s.thr h
  if t.verr.isEmpty then s
  else
    let ws := t.maskedWords regs
    let s := s.setThr h { t with vpoison := ws.foldl sadd t.vpoison, verr := t.verr.filter (fun w => !shas ws w) }
    ws.foldl (fun s w => s.errorRecord logMasked (2 ^ 32 * h + w)) s

/-! What holds an instruction back -/

/-- Holds the head of the VIQ: earlier tile instructions and bobbin commands with conflicting window ranges or registers. -/
def Thread.vectorHeld (t : Thread) (e : VEntry) : Bool :=
  let g := t.gang
  let mine := e.regions t.vgrant
  (t.winBefore e.order).any (fun x => !x.complete && (conflict mine (x.regions g) || RegSet.meets e.writesV x.readsV)) ||
  (t.bobBefore e.order).any (fun q =>
    conflict mine q.srcRegions ||
    (match q.op with
      | .rows _ _ _ _ kb _ => !q.started && (RegSet.meets e.writesV (q.vRegs t) || (decide (kb ≠ 0) && e.writesK kb))
      | .cpyv dir _ _ _ _ _ =>
        if dir = 1 then RegSet.meets e.writesV (q.vRegs t)
        else RegSet.meets e.writesV (q.vRegs t) || RegSet.meets e.readsV (q.vRegs t)
      | _ => false))

/-- Holds a tile instruction: earlier vector instructions and bobbin commands, and earlier tile accesses of the same bytes (R118). -/
def Thread.tileHeld (t : Thread) (e : TEntry) : Bool :=
  let g := t.gang
  let mine := e.regions g
  t.viq.any (fun x => decide (x.order < e.order) && (conflict mine (x.regions t.vgrant) || RegSet.meets e.readsV x.writesV)) ||
  (t.bobBefore e.order).any (fun q => conflict mine q.srcRegions ||
    (match q.op with
      | .cpyv dir _ _ _ _ _ => decide (dir = 0) && RegSet.meets e.readsV (q.vRegs t)
      | _ => false)) ||
  (t.winBefore e.order).any (fun x => !x.complete && mine.any (fun a => (x.regions g).any (fun b => a.meets b)))

/-- Holds the start of a bobbin command: earlier instructions of the other streams, and earlier commands that still read bytes that
it writes. Landings of earlier commands are guarded by their watermarks (R209, R210). -/
def Thread.bobbinHeld (t : Thread) (c : BCmd) : Bool :=
  let mine := c.srcRegions ++ c.dstRegions
  let regs := c.vRegs t
  let writesRegs : Bool := match c.op with
    | .cpyv dir _ _ _ _ _ => decide (dir = 0)
    | _ => false
  t.viq.any (fun x => decide (x.order < c.order) && (conflict mine (x.regions t.vgrant) || RegSet.meets regs x.writesV ||
    (writesRegs && RegSet.meets regs x.readsV) ||
    (match c.op with
      | .rows _ _ _ _ kb _ => decide (kb ≠ 0) && x.writesK kb
      | _ => false))) ||
  t.win.any (fun x => decide (x.order < c.order) && !x.complete &&
    (conflict mine (x.regions t.gang) || (writesRegs && RegSet.meets regs x.readsV))) ||
  (t.bobBefore c.order).any (fun q => conflict c.dstRegions q.srcRegions ||
    (RegSet.meets regs (q.vRegs t) && (writesRegs || (match q.op with
      | .cpyv dir _ _ _ _ _ => decide (dir = 0)
      | _ => false))))

end Sys2Proof.Machine
end

