-- ==== Sys2Proof/Machine/TileRun.lean ====
section
/-! DEFINITION. Tile instructions in the window: when one may issue, its effect, its traps, its retirement (R69 to R71, R160, R369
to R384), and the resolution of MTOVs (R377). -/

namespace Sys2Proof.Machine

/-! MTOVs -/

/-- The physical tile into which a tile of a context is being filled. -/
def State.fillingTile (s : State) (h tile : Nat) : Option Nat :=
  let t := s.thr h
  ((s.core (coreOf h)).tiles.find? (fun p => p.2.filling && p.2.ofContext t.owner t.mapb && decide (p.2.tile = tile))).map (·.1)

/-- The tile that an MTOV reads, as far as it is known (R377): a dead tile, or the physical tile in which the value lies or into which it
comes row by row (R69). -/
def State.mtovPin (s : State) (h order tile : Nat) : Option TilePin :=
  match (s.thr h).tileView ((s.thr h).winBefore order) tile with
  | .dead => some .dead
  | .phys pt | .coming pt => some (.phys pt)
  | .backing => (s.fillingTile h tile).map .phys
  | .pending | .receivable => none

/-- The physical tile of a source of an entry: one that holds it, one into which it comes, or one that a fill brings it to (R69). -/
def State.sourceTile (s : State) (h : Nat) (e : TEntry) (tile : Nat) : Option Nat :=
  match (s.thr h).tileView ((s.thr h).winBefore e.order) tile with
  | .phys pt | .coming pt => some pt
  | .backing => s.fillingTile h tile
  | _ => none

/-- Fixes the tiles of the thread's MTOVs as far as they are known, and requests the fills that they need. -/
def State.resolveMtovs (s : State) (h : Nat) : State :=
  (s.thr h).viq.foldl (fun s e =>
    match e.op with
    | .mtov d tile row none =>
      let s := if (s.thr h).tileView ((s.thr h).winBefore e.order) tile = .backing then s.requestFill h tile else s
      (match s.mtovPin h e.order tile with
        | some p => s.setThr h { s.thr h with viq := (s.thr h).viq.map (fun x => if x.cmd = e.cmd then { x with op := .mtov d tile row (some p) } else x) }
        | none => s)
    | _ => s) s

/-- Whether an MTOV committed earlier still waits for the fill of a tile (R70, R377). -/
def State.mtovFills (s : State) (h order tile : Nat) : Bool :=
  let t := s.thr h
  t.viq.any (fun e => decide (e.order < order) && (match e.op with
    | .mtov _ m _ none => decide (m = tile) && decide (t.tileView (t.winBefore e.order) m = .backing)
    | .mtov _ m _ (some (.phys pt)) => decide (m = tile) && (match tfind (s.core (coreOf h)).tiles pt with
      | some p => p.filling
      | none => false)
    | _ => false))

/-! Readiness -/

/-- Whether the instruction waits at receivable tiles: all but MOPEN and MDROP (R68, R369). -/
def TOp.waits (o : TOp) : Bool :=
  match o with
  | .mopen _ | .mdrop _ => false
  | _ => true

/-- Tile that an instruction of no unit names (R370). -/
def TOp.names (o : TOp) : List Nat :=
  match o with
  | .mopen td | .mdrop td => [td]
  | .mpref ta => [ta]
  | o => o.dsts ++ o.srcs.map (·.1)

def Thread.viewFor (t : Thread) (e : TEntry) (tile : Nat) : TView := t.tileView (t.winBefore e.order) tile

/-- Requests the fills of the sources of an entry (R160, R188). -/
def State.fillSources (s : State) (h : Nat) (e : TEntry) : State :=
  let tiles : List Nat := match e.op with
    | .mpref ta => [ta]
    | o => o.srcs.map (fun x => x.1)
  tiles.foldl (fun s x => if (s.thr h).viewFor e x = .backing then s.requestFill h x else s) s

/-- Physical tiles that an entry's sources name. -/
def State.sourceTiles (s : State) (h : Nat) (e : TEntry) : List Nat :=
  e.op.srcs.foldl (fun l x => match s.sourceTile h e x.1 with
    | some pt => sadd l pt
    | none => l) []

/-- Whether an entry may issue (R160, R369, R370). -/
def State.tileReady (s : State) (h : Nat) (e : TEntry) : Bool :=
  let t := s.thr h
  let held := t.pend.any (fun p => decide (p.src = 2) && decide (p.cmd ≤ e.cmd))
  if t.hnd || t.stopping || held || t.tileHeld e then false
  else if e.op.unit.isNone then
    (t.winBefore e.order).all (fun x => x.issued || x.op.names.all (fun a => !shas e.op.names a)) &&
    (!e.op.waits || e.op.names.all (fun x => !decide (t.viewFor e x = .receivable)))
  else
    e.op.srcs.all (fun x => match t.viewFor e x.1, s.sourceTile h e x.1 with
      | .dead, _ | .phys _, _ => true
      | _, some pt => (match tfind (s.core (coreOf h)).tiles pt with
        | some p => (e.op.rowsOf x.1).all (fun r => shas p.ready r)
        | none => false)
      | _, none => false) &&
    (!e.op.waits || e.op.dsts.all (fun x => !decide (t.viewFor e x = .receivable))) &&
    s.tilesFor (coreOf h) (s.sourceTiles h e) e.op.dsts.length

/-! Memory of tile instructions -/

/-- The outcome of translating the pieces of a tile access. -/
inductive Pieces where
  | ok (s : State) (ps : List (Nat × Place))
  | err (s : State) (va : Nat) (e : XErr)
  | miss (s : State)

/-- Translates every 16-byte piece of a tile access (R174, R372). -/
def State.pieces (s : State) (c owner : Nat) (k : Acc) (vas : List Nat) (acc : List (Nat × Place)) : Pieces :=
  match vas with
  | [] => .ok s acc.reverse
  | va :: r =>
    match s.translate (some c) owner k va 16 with
    | .ok s p => s.pieces c owner k r ((va, p) :: acc)
    | .err s e => .err s va e
    | .miss s => .miss s

/-- The pieces of 64 rows (R372). -/
def rowPieces (g : Nat) (base stride : Word) : List Nat :=
  (List.range (64 * 16 * g)).map (fun i => wrap 64 ((base.toNat : Int) + (i / (16 * g) : Nat) * wInt stride + 16 * (i % (16 * g) : Nat)))

/-- The places of a tile access: those found when the instruction issued, or found now (R372). -/
def State.placesOf (s : State) (h : Nat) (e : TEntry) (k : Acc) (base stride : Word) : Pieces :=
  if e.places.isEmpty then s.pieces (coreOf h) (s.thr h).owner k (rowPieces (s.thr h).gang base stride) [] else .ok s e.places

/-- The places of the access of an entry, where they can be told; none of an instruction that accesses no memory. -/
def State.accessOf (s : State) (h : Nat) (e : TEntry) : Option (List (Nat × Place)) :=
  let found := fun (r : Pieces) => match r with
    | .ok _ ps => some ps
    | _ => none
  match e.op with
  | .mld _ base stride => found (s.placesOf h e .tload base stride)
  | .mst _ _ base stride => found (s.placesOf h e .tstore base stride)
  | _ => some []

/-- Whether an earlier access of the tile stream that has not performed meets these bytes, be it through another mapping (R118); one whose
rows cannot be translated yet may. -/
def State.aliased (s : State) (h : Nat) (e : TEntry) (ps : List (Nat × Place)) : Bool :=
  ((s.thr h).winBefore e.order).any (fun x => !x.complete && (match s.accessOf h x with
    | none => true
    | some qs => qs.any (fun q => ps.any (fun p => match p.2, q.2 with
      | .spad a, .spad b => decide (a = b)
      | .phys a _ _, .phys b _ _ => decide (a = b)
      | _, _ => false))))

/-- Whether a piece waits at a watermark or a closed bank (R94, R138). -/
def State.pieceWaits (s : State) (c : Nat) (p : Nat × Place) : Bool :=
  s.guarded c none p.1 16 ||
  (match p.2 with
    | .phys pa _ _ => s.closed pa
    | .spad _ => false)

def State.pieceBad (s : State) (p : Nat × Place) : Option Nat :=
  match p.2 with
  | .phys pa _ _ => s.badAt pa 16
  | .spad _ => none

def State.pieceRead (s : State) (c owner : Nat) (p : Nat × Place) : List Byte :=
  match p.2 with
  | .phys pa _ _ => s.dramRead owner pa 16
  | .spad off => s.spadRead owner c off 16

def State.pieceWrite (s : State) (c owner : Nat) (p : Nat × Place) (bs : List Byte) : State :=
  match p.2 with
  | .phys pa _ _ => s.dramWrite owner pa bs
  | .spad off => s.spadWrite owner c off bs

/-! Effects -/

/-- What an issued entry does: results for its destination tiles with flags; a part of its accesses; or it waits; or a trap. -/
inductive TOut where
  | results (s : State) (tiles : List (Nat × Table Byte)) (fl : FFlags)
  | part (s : State) (e : TEntry)
  | sends (s : State) (st : SendState)
  | wait (s : State)
  | trap (s : State) (p : Pend)

/-- The bytes of a source as an entry sees it; a dead tile is zero. -/
def State.srcRows (s : State) (h : Nat) (e : TEntry) (tile : Nat) : Table Byte :=
  match s.sourceTile h e tile with
  | some pt => (match tfind (s.core (coreOf h)).tiles pt with
    | some p => p.rows
    | none => [])
  | none => []

/-- The first source whose physical tile is poisoned, or has an uncorrectable word in a row that the instruction reads (R187, R192, R240,
R241). -/
def State.poisonSrc (s : State) (h : Nat) (e : TEntry) : Option Nat :=
  (e.op.srcs.map (·.1)).find? (fun x => match s.sourceTile h e x with
    | some pt => (match tfind (s.core (coreOf h)).tiles pt with
      | some p => p.poison || p.bad.any (fun w => e.op.readsRow x (w / (32 * (s.thr h).gang)))
      | none => false)
    | none => false)

/-- The bytes of a tile as a list. -/
def rowBytes (g : Nat) (v : Table Byte) : List Byte := (List.range (16384 * g)).map (fun i => tget v i 0)

/-- A landing of a tile on a tile register (R190, R383): 0 landed, 1 retry, 2 refused, 3 not answered yet. -/
def State.landTile (s : State) (owner g task tile : Nat) (rows : Table Byte) : State × Nat :=
  match s.threadOfTask task with
  | none =>
    match tfind s.saved task with
    | some v =>
      let open' := decide (v.thr.owner = owner) && decide (v.thr.gang = g) &&
        (match tfind v.thr.prick tile with
          | some p => decide (p.state = .receivable)
          | none => false)
      (s, if open' then 1 else 2)
    | none => (s, 2)
  | some r =>
    let t := s.thr r
    let open' := decide (t.owner = owner) && decide (t.gang = g) &&
      (match tfind t.prick tile with
        | some p => decide (p.state = .receivable)
        | none => false)
    if !open' then (s, 2)
    else if t.slot = .saving then (s, 1)
    else
      let x := s.takeTile (coreOf r) []
      match x.2 with
      | none => (x.1, 1)
      | some pt =>
        let s := x.1.putTile (coreOf r) pt { PTile.fresh t tile s.tick with dirty := true, ready := allRows, rows := rows }
        let t := s.thr r
        let s := s.setThr r { t with prick := tput t.prick tile { state := .live, res := true, dirty := true, ptile := pt } }
        (s.resolveMtovs r, 0)

/-- A landing of a tile in a scratchpad (R383, R384); one that comes while the core quiesces waits, and is then refused (R244). -/
def State.landSpad (s : State) (owner g c off : Nat) (bs : List Byte) : State × Nat :=
  if s.isCore c && decide ((s.core c).gate = .quiescing) then (s, 3)
  else if s.isCore c && !decide ((s.core c).gate = .gated) && decide (off + 16384 * g ≤ s.width c * 2 ^ 22) then
    (((s.spadWrite owner c off bs).fillRange owner c off bs.length), 0)
  else (s, 2)

/-- Fields of a destination word (R382). -/
def sendKind (d : Word) : Nat := d.toNat / 2 ^ 42 % 2
def sendPkg (d : Word) : Nat := d.toNat / 2 ^ 32 % 1024
def sendTile (d : Word) : Nat := d.toNat / 2 ^ 20 % 512
def sendTask (d : Word) : Nat := d.toNat % 2 ^ 20
def sendCore (d : Word) : Nat := d.toNat / 2 ^ 24 % 256
def sendOff (d : Word) : Nat := d.toNat % 2 ^ 24

/-- A landing by its destination word. -/
def State.land (s : State) (owner g : Nat) (d : Word) (rows : Table Byte) : State × Nat :=
  if sendKind d = 0 then s.landTile owner g (sendTask d) (sendTile d) rows
  else s.landSpad owner g (sendCore d) (sendOff d) (rowBytes g rows)

/-- MSEND (R382, R383): a local send lands at once; a send to another package goes out and waits for its answer. Before the package has a
number, PKG 0 is its own and any other is refused with code 14 (DESIGN CHOICE, log 97). -/
def State.runSend (s : State) (h : Nat) (e : TEntry) (ta : Nat) (d : Word) : TOut :=
  let t := s.thr h
  let rows := s.srcRows h e ta
  let again := match e.send with
    | .retry since => decide (since + 1000 ≤ s.gtime)
    | .unsent => true
    | _ => false
  match e.send with
  | .landed => .results s [] 0
  | _ =>
    if !again then .wait s
    else if s.pkgNum.isNone || s.pkgNum = some (sendPkg d) then
      if s.pkgNum.isNone && decide (sendPkg d ≠ 0) then .trap s (tileTrap e.cmd 14 d 0 0)
      else
        let r := s.land t.owner t.gang d rows
        match r.2 with
        | 0 => .results r.1 [] 0
        | 1 => .sends r.1 (.retry s.gtime)
        | 3 => .wait s
        | _ => .trap s (tileTrap e.cmd 14 d 0 0)
    else if !s.farRoom (coreOf h) 1 then .wait s
    else
      let msg : SendMsg :=
        { pkg := s.pkgNum.getD 0, h := h, cmd := e.cmd, owner := t.owner, gang := t.gang, dest := d.toNat, rows := rowBytes t.gang rows }
      match s.askRemote (.send h e.cmd) (fun _ => .send (sendPkg d) (landingSlot msg.pkg h) msg) with
      | some s => .sends s .sent
      | none => .trap s (tileTrap e.cmd 14 d 0 0)

/-- The row addresses of an MMAG, or its trap (R376), whose TVAL is the address of the row (DESIGN CHOICE, log 94). -/
def Thread.gatherRows (t : Thread) (nreg va m : Nat) (base : Word) (cmd : Nat) : Except Pend (List Nat) :=
  (List.range m).mapM (fun i =>
    let off := t.vGet nreg va 4 i
    let a := base.toNat + off
    if off % 16 ≠ 0 then .error (tileTrap cmd 4 (toW a) 0 0)
    else if spadBase + t.gang * 2 ^ 22 < a + 256 * t.gang then .error (tileTrap cmd 5 (toW a) 0 0)
    else .ok a)

/-- The pieces of the rows that an MMAG gathers, and a row of those that have come. -/
def gatherPieces (g : Nat) (rows : List Nat) : List (Nat × Place) :=
  rows.flatMap (fun a => (List.range (16 * g)).map (fun j => (a + 16 * j, Place.spad (a + 16 * j - spadBase))))
def gatheredRow (g : Nat) (got : Table Byte) (i : Nat) : Table Byte :=
  (List.range (256 * g)).map (fun j => (j, tget got (256 * g * i + j) 0))

/-! Accesses that do not all perform at once -/

/-- Pieces in runs that one request carries: the index of the first, its place, their number (R163). -/
def tileRuns (ps : List (Nat × Place)) : List (Nat × Place × Nat) :=
  (ps.foldl (fun (l : List (Nat × Place × Nat)) p =>
    match l, p.2 with
    | (i, .phys a m k, n) :: rest, .phys pa _ _ =>
      if p.1 = i + n ∧ pa = a + 16 * n ∧ 16 * (n + 1) ≤ packetRun a (16 * (n + 1)) then (i, .phys a m k, n + 1) :: rest
      else (p.1, p.2, 1) :: l
    | _, _ => (p.1, p.2, 1) :: l) []).reverse

/-- The pieces of an access that may be issued now: not issued yet, and held by no watermark; while accesses do not travel, those whose
banks are open (R94, R138). -/
def State.freePieces (s : State) (c : Nat) (e : TEntry) (ps : List (Nat × Place)) : List (Nat × Nat × Place) :=
  (ps.zipIdx.filter (fun p => !shas e.asked p.2 &&
    !(if s.travel then s.guarded c none p.1.1 16 else s.pieceWaits c p.1))).map (fun p => (p.2, p.1))

/-- Sends the requests of a tile access that have room in the gallery or at the banks (R90, R163). -/
def State.askPieces (s : State) (h : Nat) (e : TEntry) (runs : List (Nat × Place × Nat)) (req : Nat → Nat → MemReq) : State × TEntry :=
  runs.foldl (fun (a : State × TEntry) r =>
    match a.1.post (coreOf h) vcBulk (a.1.thr h).owner 33 false r.2.1 (req r.1 r.2.2) (.tile h e.cmd (r.1 + 4096 * r.2.2)) with
    | none => a
    | some s => (s, { a.2 with asked := (List.range r.2.2).foldl (fun l j => sadd l (r.1 + j)) a.2.asked })) (s, e)

/-- A part of an MLD (R69, R372): rows become ready as their pieces come; with all of them it completes. -/
def State.loadPart (s : State) (h : Nat) (e : TEntry) (td : Nat) (ps : List (Nat × Place)) : TOut :=
  let t := s.thr h
  let c := coreOf h
  let free := s.freePieces c e ps
  match tfind e.dst td with
  | none => .wait s
  | some pt =>
    if e.came.length = ps.length then
      .results s [(td, (tget (s.core c).tiles pt (PTile.fresh t td s.tick)).rows)] 0
    else if s.travel then
      let r := s.askPieces h e (tileRuns (free.map (fun p => (p.1, p.2.2)))) (fun _ n => .read (16 * n))
      .part r.1 r.2
    else
      match free.findSome? (fun p => s.pieceBad p.2) with
      | some w => .trap s { Pend.dramWord 2 5 w with cmd := e.cmd }
      | none =>
        let came := free.foldl (fun l p => sadd l p.1) e.came
        let s := free.foldl (fun s p => match p.2.2 with
          | .phys pa _ _ => s.l2Touch pa t.owner false
          | .spad _ => s) s
        let p := free.foldl (fun (x : PTile) p => x.arrive t.gang p.1 (s.pieceRead c t.owner p.2) came)
          (tget (s.core c).tiles pt (PTile.fresh t td s.tick))
        .part (s.putTile c pt p) { e with asked := came, came := came }

/-- A part of an MST. -/
def State.storePart (s : State) (h : Nat) (e : TEntry) (v : Table Byte) (ps : List (Nat × Place)) : TOut :=
  let c := coreOf h
  let free := s.freePieces c e ps
  let bytes := fun (i n : Nat) => (List.range (16 * n)).map (fun j => tget v (16 * i + j) 0)
  if e.came.length = ps.length then .results s [] 0
  else if s.travel then
    let r := s.askPieces h e (tileRuns (free.map (fun p => (p.1, p.2.2)))) (fun i n => .write (bytes i n) (2 ^ (16 * n) - 1))
    .part r.1 r.2
  else
    let came := free.foldl (fun l p => sadd l p.1) e.came
    .part (free.foldl (fun s p => s.pieceWrite c (s.thr h).owner p.2 (bytes p.1 1)) s) { e with asked := came, came := came }

/-- The effect of an instruction of the units other than sends, once it may issue. -/
def State.tileEffect (s : State) (h : Nat) (e : TEntry) : TOut :=
  let t := s.thr h
  let g := t.gang
  let c := coreOf h
  let src := s.srcRows h e
  match s.poisonSrc h e with
  | some x => .trap s (t.tileData e.cmd x)
  | none =>
    match e.op with
    | .mcfg _ | .mdrop _ | .mopen _ => .results s [] 0
    | .mpref ta => .results (if t.viewFor e ta = .backing then s.requestFill h ta else s) [] 0
    | .mzero td => .results s [(td, [])] 0
    | .mld td base stride =>
      match s.placesOf h e .tload base stride with
      | .err s va x => .trap s (tileTrap e.cmd x.code (toW va) x.level x.entry)
      | .miss s => .wait s
      | .ok s ps =>
        let e := { e with places := ps }
        if s.aliased h e ps then .part s e
        else if !s.travel && e.came.isEmpty && !ps.any (fun p => s.pieceWaits c p) then
          match ps.findSome? (fun p => s.pieceBad p) with
          | some w => .trap s { Pend.dramWord 2 5 w with cmd := e.cmd }
          | none =>
            let s := ps.foldl (fun s p => match p.2 with
              | .phys pa _ _ => s.l2Touch pa t.owner false
              | .spad _ => s) s
            let bs := ps.flatMap (fun p => s.pieceRead c t.owner p)
            .results s [(td, ((List.range bs.length).zip bs).filter (fun b => !decide (b.2 = 0)))] 0
        else s.loadPart h e td ps
    | .mst ta _ base stride =>
      match s.placesOf h e .tstore base stride with
      | .err s va x => .trap s (tileTrap e.cmd x.code (toW va) x.level x.entry)
      | .miss s => .wait s
      | .ok s ps =>
        let e := { e with places := ps }
        let v := src ta
        if s.aliased h e ps then .part s e
        else if !s.travel && e.came.isEmpty && !ps.any (fun p => s.pieceWaits c p) then
          .results (((List.range ps.length).zip ps).foldl (fun s p =>
            s.pieceWrite c t.owner p.2 ((List.range 16).map (fun i => tget v (16 * p.1 + i) 0))) s) [] 0
        else s.storePart h e v ps
    | .mma td ta tb _ _ sh =>
      let pair := decide (shapeA sh = 4)
      let x : MmaIn := { a := fun _ => src ta, aRow := fun i => i, b := src tb
                         sa := if pair then src (ta + 1) else [], sb := if pair then src (tb + 1) else [], d := src td }
      let r := mmaRun g sh x
      .results s [(td, r.1)] r.2
    | .mmag td va tb _ base sh nreg =>
      if (List.range (shapeM sh)).any (fun i => t.vBad nreg va 4 i) then
        .trap s { tileTrap e.cmd 64 (Config.freeWord s.tick 2) 0 0 with item := none }
      else
        match t.gatherRows nreg va (shapeM sh) base e.cmd with
        | .error p => .trap s p
        | .ok rows =>
          let ps := gatherPieces g rows
          let done := fun (row : Nat → Table Byte) =>
            let r := mmaRun g sh { a := row, aRow := fun _ => 0, b := src tb, sa := [], sb := [], d := src td }
            TOut.results s [(td, r.1)] r.2
          if s.travel then
            if e.came.length = ps.length then done (gatheredRow g e.got)
            else
              let r := s.askPieces h e (tileRuns ((s.freePieces c e ps).map (fun p => (p.1, p.2.2)))) (fun _ n => .read (16 * n))
              .part r.1 r.2
          else if rows.any (fun a => s.guarded c none a (256 * g)) then .wait s
          else
            let tabs := rows.map (fun a => let bs := s.spadRead t.owner c (a - spadBase) (256 * g); (List.range bs.length).zip bs)
            done (fun i => tabs.getD i [])
    | .vtom td va row nreg =>
      let size := t.regBytes nreg
      let bad := (List.range (min size (256 * g) / 8)).any (fun i => t.vBad nreg va 8 i)
      if bad then .trap s { tileTrap e.cmd 64 (Config.freeWord s.tick 2) 0 0 with item := none }
      else
        let keep := (src td).filter (fun b => !decide (b.1 / (256 * g) = row))
        let new := (List.range (min size (256 * g))).map (fun i => (256 * g * row + i, BitVec.ofNat 8 (t.vGet nreg va 1 i)))
        .results s [(td, (new.filter (fun b => !decide (b.2 = 0))).foldl (fun v b => tput v b.1 b.2) keep)] 0
    | .mtrans td ta _ w => .results s [(td, transpose g (2 ^ w) (src ta))] 0
    | .mcvt td ta tb _ _ ctl rm =>
      let x : CvtIn := { a := src ta, sa := if cvtS ctl = 14 then src (ta + 1) else [], u := src tb, d := src td
                         sd := if cvtT ctl = 14 then src (td + 1) else [] }
      if cvtT ctl = 14 then
        let r := x.toMx g ctl rm
        .results s [(td, r.1), (td + 1, r.2.1)] r.2.2
      else
        let r := x.run g ctl rm
        .results s [(td, r.1)] r.2
    | .mscale td ta tb _ _ rm => let r := tileScale g rm (src ta) (src tb); .results s [(td, r.1)] r.2
    | .madd td ta tb _ _ fmt rm => let r := tileAdd g fmt rm (src ta) (src tb); .results s [(td, r.1)] r.2
    | .msend ta _ d => s.runSend h e ta d

/-! Issue, completion and retirement -/

def State.setEntry (s : State) (h : Nat) (e : TEntry) : State :=
  s.setThr h { s.thr h with win := (s.thr h).win.map (fun x => if x.cmd = e.cmd then e else x) }

/-- Issues an entry: a physical tile is allocated for each destination, its row-ready bits cleared (R69, R160). -/
def State.tileIssue (s : State) (h : Nat) (e : TEntry) : State × TEntry :=
  let keep := s.sourceTiles h e
  let r := e.op.dsts.foldl (fun (p : State × List (Nat × Nat)) d =>
    let x := p.1.takeTile (coreOf h) (p.2.foldl (fun l q => sadd l q.2) keep)
    match x.2 with
    | some pt => (x.1.putTile (coreOf h) pt (PTile.fresh (s.thr h) d s.tick), tput p.2 d pt)
    | none => (x.1, p.2)) (s, e.dst)
  let e := { e with issued := true, dst := r.2 }
  ((r.1.setEntry h e).trace h 2 1 e.cmd, e)

/-- A read of physical tiles is a use of them (R188); a tile under a fill keeps the tick of its request. -/
def State.usedTiles (s : State) (c : Nat) (pts : List Nat) : State :=
  let k := s.core c
  s.setCore c { k with tiles := k.tiles.map (fun p => if shas pts p.1 && !p.2.filling then (p.1, { p.2 with lru := s.tick }) else p) }

/-- Completes an entry: its results are in their physical tiles, and its flags show in FSTAT, of which they become part when it retires (R50,
R71, R160). -/
def State.tileComplete (s : State) (h : Nat) (e : TEntry) (tiles : List (Nat × Table Byte)) (fl : FFlags) : State :=
  let c := coreOf h
  let s := s.usedTiles c (s.sourceTiles h e)
  let s := tiles.foldl (fun s x => match tfind e.dst x.1 with
    | some pt => s.putTile c pt { PTile.fresh (s.thr h) x.1 s.tick with dirty := true, ready := allRows, rows := x.2 }
    | none => s) s
  let send := match e.op with
    | .msend _ _ _ => .landed
    | _ => e.send
  (s.setEntry h { e with complete := true, flags := fl, send := send }).resolveMtovs h

/-- The Pricking after an entry retires (R186, R369). -/
def Thread.retireTiles (t : Thread) (e : TEntry) : Thread :=
  let gone : PEntry := { state := .dead, res := false, dirty := false, ptile := 0 }
  let p := e.op.kills.foldl (fun p x => tput p x gone) t.prick
  let p := e.dst.foldl (fun p x => tput p x.1 { state := .live, res := true, dirty := true, ptile := x.2 }) p
  let p := match e.op with
    | .mdrop td => tput p td gone
    | .mopen td => tput p td { gone with state := .receivable }
    | _ => p
  let t := { t with prick := p, fstat := t.fstat ||| e.flags, win := t.win.filter (fun x => !decide (x.cmd = e.cmd)) }
  match e.op with
  | .mcfg v => { t with tshape := v }
  | _ => t

/-- Tiles whose mapping the retirement changes. -/
def TEntry.changes (e : TEntry) : List Nat :=
  e.op.dsts ++ e.op.kills ++ (match e.op with
    | .mdrop td | .mopen td => [td]
    | _ => [])

/-- A fill of a tile whose value is replaced is given up (R373). -/
def State.dropFills (s : State) (h : Nat) (tiles : List Nat) : State :=
  let k := s.core (coreOf h)
  s.setCore (coreOf h) { k with tiles := k.tiles.filter (fun p =>
    !(p.2.filling && p.2.ofContext (s.thr h).owner (s.thr h).mapb && shas tiles p.2.tile)) }

/-- Retires the oldest entry when it is complete; MTOVs fix their tiles before the mapping changes (R70, R160, R377). -/
def State.retireTile (s : State) (h : Nat) : State × Bool :=
  match (s.thr h).win with
  | [] => (s, false)
  | e :: _ =>
    if !e.complete then (s, false)
    else
      let s := s.resolveMtovs h
      if e.changes.any (fun x => s.mtovFills h e.order x) then (s, false)
      else
        let s := (s.dropFills h e.changes).setThr h ((s.thr h).retireTiles e)
        let s := match e.op with
          | .mma _ _ _ _ _ _ => s.count (s.thr h).taskid 3 1
          | .mmag _ _ _ _ _ _ _ => s.count (s.thr h).taskid 3 1
          | _ => s
        let s := (s.resolveMtovs h).collectTiles h
        ((s.advance h 1 e.cmd false).trace h 3 1 e.cmd, true)

def State.retireAll (s : State) (h fuel : Nat) : State :=
  match fuel with
  | 0 => s
  | n + 1 =>
    let r := s.retireTile h
    if r.2 then r.1.retireAll h n else r.1

/-- What an issued entry has come to. A part that was the last one completes at once. -/
def State.tileOut (s : State) (h : Nat) (e : TEntry) (out : TOut) : State :=
  match out with
  | .results s tiles fl => (s.tileComplete h e tiles fl).retireAll h 17
  | .part s e => (s.setEntry h e).resolveMtovs h
  | .sends s st => s.setEntry h { e with send := st }
  | .wait s => s
  | .trap s p => s.raisePend h p

/-- Runs an issued entry to its completion, or as far as it goes. -/
def State.tileRun (s : State) (h : Nat) (e : TEntry) : State :=
  match s.tileEffect h e with
  | .part s' e' =>
    let s' := s'.tileOut h e (.part s' e')
    if e'.came.length = 1024 * (s.thr h).gang then s'.tileOut h e' (s'.tileEffect h e') else s'
  | out => s.tileOut h e out

/-- Tries one entry of the window: fills, issue and completion together. -/
def State.tileTry (s : State) (h cmd : Nat) : State :=
  match (s.thr h).win.find? (fun e => decide (e.cmd = cmd)) with
  | none => s
  | some e =>
    if e.complete || (s.thr h).trapped e.cmd then s
    else
      let s := s.fillSources h e
      if e.issued then s.tileRun h e
      else if !s.tileReady h e then s
      else
        let r := s.tileIssue h e
        r.1.tileRun h r.2

/-! Errors of the Pricking and of tile tags (R186, R187, R192) -/

/-- Both copies are uncorrectable. -/
def bothLost (a b : Copy) : Bool := decide (a = .lost) && decide (b = .lost)

/-- A copy with one error is corrected, and an uncorrectable one is rewritten from the other. -/
def PEntry.mend (e : PEntry) : PEntry := if bothLost e.c1 e.c2 then e else { e with c1 := .good, c2 := .good }
def PTile.mend (p : PTile) : PTile := if bothLost p.c1 p.c2 then p else { p with c1 := .good, c2 := .good }

/-- Whether a context's Pricking cannot be read, or names a physical tile whose tag cannot; and the number of that physical tile, where it
can be told. -/
def Thread.lostTile (t : Thread) (tiles : Table PTile) : Option (Option Nat) :=
  if t.prick.any (fun e => bothLost e.2.c1 e.2.c2) then some none
  else (tiles.find? (fun p => bothLost p.2.c1 p.2.c2 &&
    t.prick.any (fun e => decide (e.2.state = .live) && e.2.res && decide (e.2.ptile = p.1)))).map (fun p => some p.1)

/-- A context ends in error: its physical tiles are poisoned, and code 65 is reported (R34, R192, R227, R243). -/
def State.contextLost (s : State) (h : Nat) (pt : Option Nat) : State :=
  let t := s.thr h
  let c := coreOf h
  let k := s.core c
  let s := s.setCore c { k with tiles := k.tiles.map (fun p => if p.2.ofContext t.owner t.mapb then (p.1, { p.2 with poison := true }) else p) }
  s.takeTrap h (Pend.plain 2 65 (match pt with
    | some n => toW n
    | none => Config.freeWord s.tick 5)) t.pc

/-- The tile unit reads its tables: it mends what one good copy allows, and ends the contexts for which there is none (R192). -/
def State.scrubTiles (s : State) (c : Nat) : State :=
  let k := s.core c
  let tiles := k.tiles.map (fun p => (p.1, p.2.mend))
  let mine := (threadsOf c).filter (fun h => (s.thr h).live)
  let s := s.setCore c { k with tiles := tiles }
  let s := mine.foldl (fun s h => s.setThr h { s.thr h with prick := (s.thr h).prick.map (fun e => (e.1, e.2.mend)) }) s
  mine.foldl (fun s h => match (s.thr h).lostTile tiles with
    | some pt => if (s.thr h).live then s.contextLost h pt else s
    | none => s) s

/-- Whether any copy of a core's tables reports an error. -/
def State.tileErrors (s : State) (c : Nat) : Bool :=
  (s.core c).tiles.any (fun p => !decide (p.2.c1 = .good) || !decide (p.2.c2 = .good)) ||
  (threadsOf c).any (fun h => (s.thr h).live && (s.thr h).prick.any (fun e => !decide (e.2.c1 = .good) || !decide (e.2.c2 = .good)))

def State.checkTiles (s : State) (c : Nat) : State := if s.tileErrors c then s.scrubTiles c else s

/-! The tile stream -/

/-- A fill ends (R69, R188): the tile is resident in the context that asked for it. Pieces that travel have all come by then. -/
def State.fillDone (s : State) (c pt : Nat) : State :=
  match tfind (s.core c).tiles pt with
  | none => s
  | some p =>
    if !p.filling || (s.travel && decide (p.came.length < 1024 * s.width c)) then s
    else
      match s.threads.find? (fun x => decide (coreOf x.1 = c) && x.2.live && p.ofContext x.2.owner x.2.mapb) with
      | some x =>
        (if p.came.length < 1024 * s.width c then s.fillTile x.1 p.tile pt else s.fillEnd x.1 p.tile pt p.rows).resolveMtovs x.1
      | none => s.setCore c { s.core c with tiles := tdel (s.core c).tiles pt }

/-- The fills of a core that travel: what has come ends them, and the rest is asked for. -/
def State.moveFills (s : State) (c : Nat) : State :=
  if s.travel then (((s.core c).tiles.filter (fun p => p.2.filling)).foldl (fun s p => s.fillDone c p.1) s).askFills c else s

/-- The entries that have issued run on, also while a handler runs (R232, R234). -/
def State.runIssued (s : State) (h : Nat) (p : TEntry → Bool) : State :=
  (((s.thr h).win.filter (fun e => e.issued && !e.complete && p e)).map (·.cmd)).foldl (fun s cmd =>
    match (s.thr h).win.find? (fun e => decide (e.cmd = cmd)) with
    | some e => if e.complete || (s.thr h).trapped cmd then s else s.tileRun h e
    | none => s) s

/-- The tile stream does what it can, oldest entry first. -/
def State.pumpTiles (s : State) (h : Nat) : State :=
  if (s.thr h).win.isEmpty && (s.thr h).viq.isEmpty then s
  else
    let s := (s.checkTiles (coreOf h)).moveFills (coreOf h)
    if !(s.thr h).live then s
    else if (s.thr h).hnd then (s.runIssued h (fun _ => true)).retireAll h 17
    else
      let s := s.resolveMtovs h
      (((s.thr h).win.map (·.cmd)).foldl (fun s cmd => s.tileTry h cmd) s).retireAll h 17

/-! Answers of the coherence points -/

/-- The answer to pieces of an MLD, an MST, an MMAG or a fill (R69, R188, R420): `ps` is their first and their number; on an error the bytes give
the word that is uncorrectable, and pieces answered retry are asked for again (R242). -/
def State.tileBack (s : State) (h cmd ps st : Nat) (bs : List Byte) : State :=
  let c := coreOf h
  let g := s.width c
  let bad := leNat bs
  let i := ps % 4096
  let n := ps / 4096
  if 2 ^ 64 ≤ cmd then
    match (s.core c).tiles.find? (fun p => p.2.filling && decide (p.2.fillKey p.1 = cmd)) with
    | none => s
    | some (pt, p) =>
      match (threadsOf c).find? (fun h => (s.thr h).live && p.ofContext (s.thr h).owner (s.thr h).mapb) with
      | none => s
      | some r =>
        if st = 2 then s.putTile c pt { p with asked := p.asked.filter (fun j => !(decide (i ≤ j) && decide (j < i + n))) }
        else if st ≠ 0 then s.fillFails r p.tile pt bad
        else
          let came := (List.range n).foldl (fun l j => sadd l (i + j)) p.came
          s.putTile c pt { p.arrive g i bs came with came := came }
  else
    match (s.thr h).win.find? (fun e => decide (e.cmd = cmd)) with
    | none => s
    | some e =>
      let came := (List.range n).foldl (fun l j => sadd l (i + j)) e.came
      if st = 2 then s.setEntry h { e with asked := e.asked.filter (fun j => !(decide (i ≤ j) && decide (j < i + n))) }
      else if st ≠ 0 then
        (s.setEntry h { e with asked := e.came }).raisePend h { Pend.dramWord 2 5 bad with cmd := e.cmd }
      else
        match e.op, e.dst.head? with
        | .mld _ _ _, some d =>
          (match tfind (s.core c).tiles d.2 with
            | some p => (s.putTile c d.2 (p.arrive g i bs came)).setEntry h { e with came := came }
            | none => s)
        | .mmag _ _ _ _ _ _ _, _ =>
          s.setEntry h { e with came := came, got := bs.zipIdx.foldl (fun t b => tput t (16 * i + b.2) b.1) e.got }
        | _, _ => s.setEntry h { e with came := came }

end Sys2Proof.Machine
end

