-- ==== Sys2Proof/Machine/BobbinOps.lean ====
section
/-! DEFINITION. The bobbins (R207 to R213, R385 to R389, R413, R419, R429): start of a command, source reads and landings of elements,
reducing copies, completion, faults and aborts. -/

namespace Sys2Proof.Machine

def State.bob (s : State) (h bn : Nat) : Bobbin := (s.thr h).bobbin bn
def State.setBob (s : State) (h bn : Nat) (b : Bobbin) : State := s.setThr h ((s.thr h).setBobbin bn b)
/-- The head command of a bobbin, changed. -/
def State.setCmd (s : State) (h bn : Nat) (q : BCmd) : State :=
  let b := s.bob h bn
  s.setBob h bn { b with queue := b.queue.map (fun x => if x.num = q.num then q else x) }

/-! Geometry -/

/-- Bytes of one element (R207). -/
def BCmd.esz (q : BCmd) : Nat :=
  match q.op with
  | .cpy e _ _ _ _ _ _ _ _ _ => e
  | .rows l _ _ _ _ _ => l
  | .cpyv _ _ _ e _ _ => e
  | .red _ e _ => e

/-- Bytes moved at a time: no piece crosses a page, since elements are aligned to their size and rows to 16 bytes. -/
def BCmd.piece (q : BCmd) : Nat :=
  match q.op with
  | .rows _ _ _ _ _ _ => 16
  | _ => q.esz

/-- Source address of element `i` (R386, R387, R389); none when the source is a v register. -/
def BCmd.srcAt (q : BCmd) (i : Nat) : Option Nat :=
  let s : Int := q.src.toNat
  match q.op with
  | .cpy _ n0 n1 _ _ _ _ s0 s1 s2 => some (wrap 64 (s + (i % n0 : Nat) * s0 + (i / n0 % n1 : Nat) * s1 + (i / n0 / n1 : Nat) * s2))
  | .rows _ _ _ _ _ _ => some ((q.rowSrc.getD i 0).toNat)
  | .cpyv dir _ _ e _ _ => if dir = 0 then some ((q.dst.toNat + i * e) % 2 ^ 64) else none
  | .red _ e _ => some ((q.src.toNat + i * e) % 2 ^ 64)

/-- Destination address of element `i` (R207); none when the destination is a v register. -/
def BCmd.dstAt (q : BCmd) (i : Nat) : Option Nat :=
  let d := q.dst.toNat
  match q.op with
  | .cpy _ n0 n1 _ d0 d1 d2 _ _ _ => some ((d + i % n0 * d0 + i / n0 % n1 * d1 + i / n0 / n1 * d2) % 2 ^ 64)
  | .rows l _ _ _ _ _ => some ((d + i * l) % 2 ^ 64)
  | .cpyv dir _ _ e _ _ => if dir = 1 then some ((d + i * e) % 2 ^ 64) else none
  | .red _ e _ => some ((d + i * e) % 2 ^ 64)

/-- Innermost stride of a side, for the fault record (R185). -/
def BCmd.inner (q : BCmd) (dst : Bool) : Nat :=
  match q.op with
  | .cpy _ _ _ _ d0 _ _ s0 _ _ => if dst then d0 else wrap 64 s0
  | .rows l _ _ _ _ _ => if dst then l else 0
  | .cpyv _ _ _ e _ _ => e
  | .red _ e _ => e

/-! Faults -/

/-- A bobbin freezes at its watermark with a cause, and a deferred trap is pending (R211, R233, R310). Source bytes that it holds are read
again at its resumption. -/
def State.freeze (s : State) (h bn : Nat) (q : BCmd) (code va : Nat) (dst : Bool) (level entry : Nat) (item : Option (Nat × Nat)) : State :=
  let b := s.bob h bn
  let w := tlCount ((s.thr h).rwm bn)
  let s := s.setBob h bn { queue := b.queue.map (fun x => if x.num = q.num then { x with got := [] } else x)
                           stat := { b.stat with state := 2, fcode := BitVec.ofNat 16 code } }
  let s := s.trace h 4 (2 + bn) ((s.thr h).rwm bn).toNat
  s.raisePend h
    { Pend.plain 3 code (toW va) with cmd := bn, kind := kindOf (if dst then .bdst else .bsrc), level := level, entry := entry
                                      index := w, stride := q.inner dst, remain := q.count - w, item := item }

/-- The number of elements whose bytes a bobbin holds: those of the packet that is out. -/
def BCmd.held (q : BCmd) : Nat := max 1 (q.got.length / q.esz)

/-- What one access of a bobbin comes to. -/
inductive BAcc where
  | ok (s : State) (bs : List Byte)
  | wait (s : State)
  | far (s : State) (w : BWait)
  | bad (s : State) (e : XErr) (item : Option (Nat × Nat))

/-- Where a bobbin access lands (R85, R100, R244, R429): own scratchpad, another core's, DRAM, another package, host, or nowhere yet, as a
request waits while its core quiesces; or a cause. -/
inductive BPlace where
  | spad (c off : Nat) | dram (pa : Nat) | remote (pkg la : Nat) | host (conn off : Nat) | held

def State.bobPlace (s : State) (c owner n : Nat) (p : Place) : Except Nat BPlace :=
  match p with
  | .spad off => .ok (.spad c off)
  | .phys pa _ _ =>
    match locOf pa with
    | .apert k off =>
      if !s.isCore k || decide (s.width k * 2 ^ 22 < off + n) then .error 5
      else if (s.core k).gate = .quiescing then .ok .held
      else if (s.core k).gate ≠ .on then .error 12
      else .ok (.spad k off)
    | .host conn off =>
      let k := s.conn conn
      if k.opened && !k.closing && !k.failed && decide (k.owner = owner) && decide (off + n ≤ k.hostLen) then .ok (.host conn off) else .error 5
    | .remote pkg la => .ok (.remote pkg la)
    | .near _ _ => .ok (.dram pa)
    | .main _ => .ok (.dram pa)
    | _ => .error 5

/-- A request of a bobbin that travels (R90, R164, R419); none of them while there is no room. -/
def State.bobPost (s : State) (h bn : Nat) (p : Place) (r : MemReq) (w : BWait) : BAcc :=
  match s.post (coreOf h) vcBulk (s.thr h).owner (1 + 8 * (h % 4) + bn) false p r (.bobbin h bn) with
  | some s => .far s w
  | none => .wait s

/-- Reads a piece of a source (R136, R209): guards of commands committed earlier hold it. Reads of the own scratchpad stay off the gallery
(R419). -/
def State.bobRead (s : State) (h bn : Nat) (q : BCmd) (va n : Nat) : BAcc :=
  let c := coreOf h
  let o := (s.thr h).owner
  match s.translate (some c) o .bsrc va n with
  | .err s e => .bad s e none
  | .miss s => .wait s
  | .ok s p =>
    if s.guarded c (some q.order) va n then .wait s
    else
      match s.bobPlace c o n p with
      | .error code => .bad s (s.leafErr (some c) o va code) none
      | .ok .held => .wait s
      | .ok (.spad k off) =>
        if s.travel then s.bobPost h bn (if k = c then .spad off else p) (.read n) .pointRead else .ok s (s.spadRead o k off n)
      | .ok (.dram pa) =>
        if s.travel then s.bobPost h bn p (.read n) .pointRead
        else if s.closedFor pa n then .wait s
        else match s.badAt pa n with
          | some w => .bad s { code := 64 } (some (0, w))
          | none => .ok (s.l2TouchAll pa n o false) (s.dramRead o pa n)
      | .ok (.remote pkg la) =>
        let r := ualinkRead la n
        if !s.farRoom c 1 then .wait s
        else match s.askRemote (.bobbin h bn) (fun tag => .access tag pkg r.1 r.2 0 0) with
          | some s => .far s .remoteRead
          | none => .bad s (s.leafErr (some c) o va 13) none
      | .ok (.host conn off) => .far (s.sendPacket conn 1 off 0 (natLe 8 n)) (.hostRead conn (s.conn conn).nextSeq)

/-- Fills the granules of a landing through another core's aperture whose bytes of this command have all landed, up to element `i`
(R105). -/
def State.bobFill (s : State) (o : Nat) (q : BCmd) (i va k off n : Nat) : State :=
  let full := fun (g : Nat) => (List.range 16).all (fun b => match q.guardIndex (va - va % 16 + 16 * g + b) with
    | some j => decide (j ≤ i)
    | none => true)
  forUp 0 (ceilDiv (va % 16 + n) 16) (fun g s => if full g then s.fillGranule o k (off - off % 16 + 16 * g) else s) s

/-- Lands bytes of elements from `i` on at a destination (R136): of one element, or of the elements that one packet carries (R419). -/
def State.bobWrite (s : State) (h bn : Nat) (q : BCmd) (i va : Nat) (bs : List Byte) : BAcc :=
  let c := coreOf h
  let o := (s.thr h).owner
  let n := bs.length
  let sends := fun (s : State) (p : Place) => s.bobPost h bn p (.write bs (2 ^ n - 1)) (.pointWrite i (n / q.esz))
  match s.translate (some c) o .bdst va n with
  | .err s e => .bad s e none
  | .miss s => .wait s
  | .ok s p =>
    if s.guarded c (some q.order) va n then .wait s
    else
      match s.bobPlace c o n p with
      | .error code => .bad s (s.leafErr (some c) o va code) none
      | .ok .held => .wait s
      | .ok (.spad k off) =>
        if s.travel then sends s (if k = c then .spad off else p)
        else if k = c then .ok (s.spadWrite o k off bs) []
        else .ok ((s.spadWrite o k off bs).bobFill o q i va k off n) []
      | .ok (.dram pa) => if s.travel then sends s p else if s.closedFor pa n then .wait s else .ok (s.dramWrite o pa bs) []
      | .ok (.remote pkg la) =>
        if !s.farRoom c 1 then .wait s
        else match s.askRemote (.bobbin h bn) (fun tag => .access tag pkg la n 1 (leNat bs)) with
          | some s => .far s .remoteWrite
          | none => .bad s (s.leafErr (some c) o va 13) none
      | .ok (.host conn off) => .far (s.sendPacket conn 0 off 0 bs) (.hostWrite conn (s.conn conn).nextSeq)

/-! Elements -/

/-- CPYRED's combination of an old and a source element (R389). -/
def redApply (op e old x : Nat) : Nat :=
  match op with
  | 0 => (f32.add 0 old x).1
  | 1 => (bf16.add 0 old x).1
  | 2 | 3 => (old + x) % 2 ^ (8 * e)
  | 4 => (f32.minmax true old x).1
  | 5 => (f32.minmax false old x).1
  | 6 => if sx 32 old < sx 32 x then x else old
  | _ => if sx 32 x < sx 32 old then x else old

/-- A CPYRED update of one element at its coherence point, in one grant (R128, R389). -/
def State.bobReduce (s : State) (h bn : Nat) (q : BCmd) (i va op : Nat) (bs : List Byte) : BAcc :=
  let c := coreOf h
  let o := (s.thr h).owner
  let n := bs.length
  match s.translate (some c) o .bdst va n with
  | .err s e => .bad s e none
  | .miss s => .wait s
  | .ok s p =>
    if s.guarded c (some q.order) va n then .wait s
    else
      match s.bobPlace c o n p with
      | .error code => .bad s (s.leafErr (some c) o va code) none
      | .ok .held => .wait s
      | .ok (.host _ _) => .bad s (s.leafErr (some c) o va 5) none
      | .ok (.remote _ _) => .wait s
      | .ok (.spad k off) =>
        if s.travel then s.bobPost h bn (if k = c then .spad off else p) (.reduce op n bs 1) (.pointWrite i 1)
        else
          let s := s.spadWrite o k off (natLe n (redApply op n (leNat (s.spadRead o k off n)) (leNat bs)))
          .ok (if k = c then s else s.bobFill o q i va k off n) []
      | .ok (.dram pa) =>
        if s.travel then s.bobPost h bn p (.reduce op n bs 1) (.pointWrite i 1)
        else if s.closedFor pa n then .wait s
        else match s.badAt pa n with
          | some w => .bad s { code := 64 } (some (0, w))
          | none => .ok (s.dramWrite o pa (natLe n (redApply op n (leNat (s.dramRead o pa n)) (leNat bs)))) []

/-- The watermark over landed elements: those counted, and those ahead that have become next (R207, R413). -/
def slide (w : Nat) (ahead : List Nat) (fuel : Nat) : Nat × List Nat :=
  match fuel with
  | 0 => (w, ahead)
  | n + 1 => if shas ahead w then slide (w + 1) (sdel ahead w) n else (w, ahead)

/-- Elements [i, i + n) have landed (R75, R207, R224). -/
def State.landed (s : State) (h bn : Nat) (q : BCmd) (i n : Nat) : State :=
  let t := s.thr h
  let r := slide (tlCount (t.rwm bn)) ((List.range n).foldl (fun l x => sadd l (i + x)) q.ahead) (q.ahead.length + n)
  let s := s.setThr h (t.wwm bn (toW r.1))
  (s.setCmd h bn { q with ahead := r.2, got := [], io := none }).count t.taskid 4 (n * q.esz)

/-- What became of one try of a bobbin: it moved on, it cannot move now, or it froze. -/
inductive BTry where
  | go (s : State)
  | hold (s : State)

/-- Acts on an access: an error freezes the bobbin, a far access is waited for. -/
def BAcc.act (a : BAcc) (h bn : Nat) (q : BCmd) (va : Nat) (dst : Bool) (k : State → List Byte → BTry) : BTry :=
  match a with
  | .ok s bs => k s bs
  | .wait s => .hold s
  | .far s w => .hold (s.setCmd h bn { q with io := some w })
  | .bad s e item => .hold (s.freeze h bn q e.code (match item with
      | some (0, w) => w
      | _ => va) dst e.level e.entry item)

/-- Reads the next piece of the source bytes of `n` elements from `i` on, until all are held. -/
def State.bobGather (s : State) (h bn : Nat) (q : BCmd) (i n : Nat) (k : State → BTry) : BTry :=
  let t := s.thr h
  let e := q.esz
  if q.got.length = n * e then k s
  else
    let j := i + q.got.length / e
    match q.srcAt j with
    | none =>
      (match q.op with
        | .cpyv _ _ vd _ nreg _ =>
          if t.vBad nreg vd e j then .hold (s.freeze h bn q 64 (Config.freeWord s.tick 3).toNat false 0 0 none)
          else .go (s.setCmd h bn { q with got := q.got ++ natLe e (t.vGet nreg vd e j) })
        | _ => .hold s)
    | some a =>
      let va := a + q.got.length % e
      let bad := match q.op with
        | .rows _ _ _ _ _ _ => decide (a % 16 ≠ 0)
        | _ => false
      if bad then .hold (s.freeze h bn q 4 a false 0 0 none)
      else (s.bobRead h bn q va q.piece).act h bn q va false fun s bs => .go (s.setCmd h bn { q with got := q.got ++ bs })

/-- How many elements from `w` on land together: those of up to three lines of one home, consecutive at the destination, while landings
travel; one otherwise (R419). Landings that do not fill whole lines are packed too, as far as their bytes follow one another
(DESIGN CHOICE, log 98). -/
def State.packCount (s : State) (h : Nat) (q : BCmd) (w : Nat) : Nat :=
  match q.op, q.dstAt w with
  | .rows _ _ _ _ _ _, _ | .red _ _ _, _ | _, none => 1
  | _, some va =>
    if !s.travel then 1
    else
      match s.translate (some (coreOf h)) (s.thr h).owner .bdst va q.esz with
      | .ok s (.phys pa _ _) =>
        let page := match (s.core (coreOf h)).tlb.find (s.thr h).owner va with
          | some x => 2 ^ x.size
          | none => 65536
        let most := min (packetRun pa 192) (page - va % page) / q.esz
        max 1 ((List.range (min most (q.count - w))).foldl (fun k j => if k = j ∧ q.dstAt (w + j) = some (va + j * q.esz) then k + 1 else k) 0)
      | _ => 1

/-- Lands the elements from `i` on whose bytes are held. -/
def State.bobLand (s : State) (h bn : Nat) (q : BCmd) (i : Nat) : BTry :=
  match q.op, q.dstAt i with
  | .cpyv _ _ vd e nreg _, none =>
    let t := s.thr h
    let t := (t.vPut nreg vd e i (leNat q.got)).vHeal nreg vd e i (i + 1) (fun _ => true)
    .go ((s.setThr h t).landed h bn q i 1)
  | .red op _ _, some va => (s.bobReduce h bn q i va op q.got).act h bn q va true fun s _ => .go (s.landed h bn q i 1)
  | .rows _ _ _ _ _ _, some va =>
    -- the destination is a range of the own scratchpad: every piece lands in this step, or none (R207, R211, R213)
    if s.travel then (s.bobWrite h bn q i va q.got).act h bn q va true fun s _ => .go (s.landed h bn q i 1) else
    let r := (List.range (q.got.length / 16)).foldl (fun (a : BAcc) j =>
      match a with
      | .ok s _ => s.bobWrite h bn q i (va + 16 * j) ((q.got.drop (16 * j)).take 16)
      | a => a) (.ok s [])
    let r := match r with
      | .wait _ => BAcc.wait s
      | r => r
    r.act h bn q va true fun s _ => .go (s.landed h bn q i 1)
  | _, some va => (s.bobWrite h bn q i va q.got).act h bn q va true fun s _ => .go (s.landed h bn q i (q.got.length / q.esz))
  | _, none => .hold s

/-! Reducing copies to other packages -/

/-- The type-remote target of an element of a CPYRED, with the end of its page as an element index; none when local (R389). -/
def State.redTarget (s : State) (h : Nat) (va : Nat) (e i : Nat) : Option (Nat × Nat × Nat) :=
  let c := coreOf h
  let o := (s.thr h).owner
  match s.translate (some c) o .bdst va e with
  | .ok s (.phys pa _ _) =>
    (match locOf pa with
      | .remote pkg la =>
        let size := match (s.core c).tlb.find o va with
          | some x => 2 ^ x.size
          | none => 65536
        some (pkg, la, i + (size - va % size) / e)
      | _ => none)
  | _ => none

/-- The reducing write of a part (R413). -/
def State.redPacket (s : State) (h bn : Nat) (q : BCmd) (op e n i la pkg : Nat) (bs : List Byte) : UalinkPacket :=
  { kind := 3, dst := pkg, src := s.pkgNum.getD 0, addr := la, op := op, len := bs.length, data := bs, mask := 0, thread := h, bobbin := bn
    esz := e, cmd := q.seq, seq := i, anchor := tlCount ((s.thr h).rwm bn), total := n, sender := (s.thr h).taskid
    owner := (s.thr h).owner, tag := (8 * h + bn) * 2 ^ 32 + i }

/-- The next element of a CPYRED that is neither landed nor in flight. -/
def BCmd.nextRed (q : BCmd) (w n : Nat) : Nat :=
  (firstUp w (n - w) (fun i => !shas q.ahead i && !q.sent.any (fun p => decide (p.seq ≤ i) && decide (i < p.seq + p.count)))).getD n

/-- One step of a CPYRED (R389, R413). A part waits until earlier commands have landed on its destination (R136, R138, R209). -/
def State.redStep (s : State) (h bn : Nat) (q : BCmd) (op e n : Nat) : BTry :=
  let w := tlCount ((s.thr h).rwm bn)
  let i := q.nextRed w n
  if n ≤ i then .hold s
  else
    let va := (q.dst.toNat + i * e) % 2 ^ 64
    match s.redTarget h va e i with
    | none =>
      -- the landings of one command perform in traversal order (R136)
      if q.sent.any (fun p => decide (p.seq < i)) then .hold s
      else s.bobGather h bn q i 1 fun s => match (s.bob h bn).queue with
        | q :: _ => s.bobLand h bn q i
        | [] => .hold s
    | some (pkg, la, pageEnd) =>
      let per := 256 / e
      let cnt := min (min n pageEnd) ((i / per + 1) * per) - i
      if w + 4096 < i + cnt || s.guarded (coreOf h) (some q.order) va (cnt * e) || !s.farRoom (coreOf h) 1 then .hold s
      else
        s.bobGather h bn q i cnt fun s => match (s.bob h bn).queue with
          | [] => .hold s
          | q :: _ =>
            let p := s.redPacket h bn q op e n i la pkg q.got
            match s.askRemote (.reduce h bn i) (fun _ => .reducing pkg h bn i p) with
            | none =>
              let x := s.leafErr (some (coreOf h)) (s.thr h).owner va 13
              .hold (s.freeze h bn q 13 va true x.level x.entry none)
            | some s =>
            let sent : RedPacket := { seq := i, count := cnt, data := q.got, since := s.gtime, retry := false, out := 1, done := false }
            .go (s.setCmd h bn { q with sent := q.sent ++ [sent], got := [] })

/-! Commands -/

/-- The row addresses of a CPYROWS at its start (R387): the active index elements, in increasing order. -/
def Thread.rowAddrs (t : Thread) (q : BCmd) (n iw va kb nreg : Nat) : List Word :=
  let ib := if iw = 1 then 8 else 4
  ((List.range n).filter (fun i => t.rk kb i)).map (fun i => q.src + toW (t.vGet nreg va ib i))

/-- Starts the head command of a bobbin (R75, R79, R387). -/
def State.bobStart (s : State) (h bn : Nat) (q : BCmd) : State :=
  let t := s.thr h
  let b := t.bobbin bn
  let bad := match q.op with
    | .rows _ n iw va kb nreg => (List.range n).any (fun i => t.rk kb i && t.vBad nreg va (if iw = 1 then 8 else 4) i)
    | _ => false
  let q := { q with started := true, rowSrc := match q.op with
    | .rows _ n iw va kb nreg => t.rowAddrs q n iw va kb nreg
    | _ => [] }
  let s := (s.setThr h (t.wwm bn 0)).setBob h bn
    { queue := b.queue.map (fun x => if x.num = q.num then q else x), stat := { abt := false, fcode := 0, state := 1 } }
  let s := s.trace h 2 (2 + bn) q.num
  if bad then s.freeze h bn q 64 (Config.freeWord s.tick 4).toNat false 0 0 none
  else match q.op with
    | .rows _ _ _ _ _ _ => s.noteWords h (q.vRegs t)
    | _ => s

/-- Completes the head command: the timeline advances (R202), and the bobbin is idle or goes on with the next. -/
def State.bobComplete (s : State) (h bn : Nat) (q : BCmd) : State :=
  let b := s.bob h bn
  let rest := b.queue.filter (fun x => !decide (x.num = q.num))
  let s := s.setBob h bn { queue := rest, stat := { b.stat with state := 0 } }
  (s.advance h (2 + bn) q.num false).trace h 3 (2 + bn) q.num

/-- Whether the head command may start now. -/
def Thread.bobReady (t : Thread) (bn : Nat) : Bool :=
  match (t.bobbin bn).queue with
  | q :: _ => !q.started && !t.stopping && decide ((t.bobbin bn).stat.state < 2) && !t.bobbinHeld q
  | [] => false

/-- One move of a running bobbin: a piece read, an element landed, a packet sent, or the completion of its command. -/
def State.bobMove (s : State) (h bn : Nat) : BTry :=
  let t := s.thr h
  let b := t.bobbin bn
  match b.queue with
  | [] => .hold s
  | q :: _ =>
    if 2 ≤ b.stat.state ∨ q.started = false ∨ q.io.isSome = true ∨ t.stopping = true then .hold s
    else
      let w := tlCount (t.rwm bn)
      if q.count ≤ w then (if q.sent.isEmpty then .go (s.bobComplete h bn q) else .hold s)
      else
        match q.op with
        | .red op e n => s.redStep h bn q op e n
        | _ => s.bobGather h bn q w (s.packCount h q w) fun s => match (s.bob h bn).queue with
          | q :: _ => s.bobLand h bn q w
          | [] => .hold s

/-- Moves a bobbin until it holds, at most `fuel` times. -/
def State.bobMoves (s : State) (h bn fuel : Nat) : State :=
  match fuel with
  | 0 => s
  | n + 1 => match s.bobMove h bn with
    | .hold s => s
    | .go s => s.bobMoves h bn n

/-- Moves enough for every piece of the head command. -/
def BCmd.fuel (q : BCmd) : Nat := q.count * (2 + q.esz / q.piece) + 2

/-- A bobbin runs as far as it can. -/
def State.pumpBobbin (s : State) (h bn : Nat) : State :=
  let go := fun (s : State) =>
    match (s.bob h bn).queue with
    | [] => s
    | q :: _ =>
      let s := if (s.thr h).bobReady bn then s.bobStart h bn q else s
      (match (s.bob h bn).queue with
        | [] => s
        | q :: _ => s.bobMoves h bn q.fuel)
  forUp 0 4 (fun _ s => go s) s

/-- Every bobbin of a thread, by increasing number. -/
def State.pumpBobbins (s : State) (h : Nat) : State :=
  if (s.thr h).bob.isEmpty then s else forUp 0 8 (fun bn s => s.pumpBobbin h bn) s

/-! Answers of the coherence points -/

/-- The answer to a read of a bobbin, or to a landing, which it lands (R207, R419); an access answered retry is issued again (R242). -/
def State.bobBack (s : State) (h bn st : Nat) (bs : List Byte) : State :=
  match (s.bob h bn).queue with
  | [] => s
  | q :: _ =>
    let o := (s.thr h).owner
    let w := tlCount ((s.thr h).rwm bn)
    let again := fun (va n : Nat) (k : Acc) => match s.translate (some (coreOf h)) o k va n with
      | .ok s p => (match s.bobPlace (coreOf h) o n p with
        | .error code => code
        | _ => 64)
      | _ => 64
    let frozen := fun (va n : Nat) (dst : Bool) =>
      let code := if bs.isEmpty then again va n (if dst then .bdst else .bsrc) else 64
      let e : XErr := if bs.isEmpty then s.leafErr (some (coreOf h)) o va code else { code := code }
      (s.setCmd h bn { q with got := [], io := none }).freeze h bn { q with got := [], io := none } code
        (if bs.isEmpty then va else leNat bs) dst e.level e.entry (if bs.isEmpty then none else some (0, leNat bs))
    match q.io with
    | some .pointRead =>
      let i := w + q.got.length / q.esz
      if st = 2 then s.setCmd h bn { q with io := none }
      else if st ≠ 0 then frozen ((q.srcAt i).getD 0 + q.got.length % q.esz) q.piece false
      else s.setCmd h bn { q with got := q.got ++ bs, io := none }
    | some (.pointWrite i n) =>
      let va := (q.dstAt i).getD 0
      if st = 2 then s.setCmd h bn { q with io := none }
      else if st ≠ 0 then frozen va (n * q.esz) true
      else
        let s := s.landed h bn q i n
        match s.translate (some (coreOf h)) o .bdst va (n * q.esz) with
        | .ok _ (.phys pa _ _) => (match locOf pa with
          | .apert k off => if k = coreOf h then s else s.bobFill o q (i + n - 1) va k off (n * q.esz)
          | _ => s)
        | _ => s
    | _ => s

/-- CPYABORT (R203, R213): every accepted command ends; the watermark keeps its count with the abort flag. -/
def State.bobAbort (s : State) (h bn : Nat) : State :=
  let t := s.thr h
  let b := t.bobbin bn
  match b.queue with
  | [] => s
  | q :: _ =>
    let last := b.queue.foldl (fun n x => max n x.num) 0
    let mark := if q.started then tlCount (t.rwm bn) else 0
    let t := t.wwm bn (toW (mark + 2 ^ 63))
    let s := (s.setThr h t).setBob h bn { queue := [], stat := { b.stat with abt := true, state := 0 } }
    (s.trace h 6 (2 + bn) last).advance h (2 + bn) last true

/-- Whether an abort has to wait for a landing that has begun (R213). -/
def Thread.abortWaits (t : Thread) (bn : Nat) : Bool :=
  (t.bobbin bn).queue.any (fun q => q.io.isSome || !q.sent.isEmpty)

end Sys2Proof.Machine
end

