-- ==== Sys2Proof/Machine/Stream.lean ====
section
/-! DEFINITION. The vector stream at the head of the VIQ, the commit of vector, tile and bobbin instructions, and what the streams of
a thread do on their own (R16 to R19, R234, R316, R336, R365, R366, R377). -/

namespace Sys2Proof.Machine

/-! The head of the VIQ -/

/-- The source registers of an instruction that has completed. -/
def State.noteMasked (s : State) (h : Nat) (e : VEntry) : State := s.noteWords h e.readsV

/-- Completes the head of the VIQ: it leaves, its read-back entry is released, tl0 advances (R18, R74, R137). -/
def State.vComplete (s : State) (h : Nat) (e : VEntry) : State :=
  let s := s.noteMasked h e
  let t := s.thr h
  let s := s.setThr h { t with viq := t.viq.filter (fun x => !decide (x.cmd = e.cmd)), rbq := t.rbq.filter (fun x => !decide (x.cmd = e.cmd)) }
  ((s.advance h 0 e.cmd false).trace h 3 0 e.cmd).collectTiles h

/-- One row of an MTOV's tile (R377): the bytes of the row; none while the tile is awaited; a poisoned tile raises code 64. -/
def State.mtovRow (s : State) (h row : Nat) (pin : Option TilePin) : Option (Except Nat (Table Byte)) :=
  let t := s.thr h
  match pin with
  | none => none
  | some .dead => some (.ok [])
  | some (.row bs) => some (.ok bs)
  | some (.phys pt) =>
    match tfind (s.core (coreOf h)).tiles pt with
    | none => none
    | some p =>
      if p.poison || p.bad.any (fun w => decide (w / (32 * t.gang) = row)) then some (.error p.tile)
      else if shas p.ready row then
        some (.ok ((p.rows.filter (fun b => decide (b.1 / (256 * t.gang) = row))).map (fun b => (b.1 % (256 * t.gang), b.2))))
      else none

/-- Writes the elements of an MTOV (R377). -/
def Thread.mtovElems (t : Thread) (e : VEntry) (d : Nat) (row : Table Byte) : Thread :=
  let w := 2 ^ e.sew
  let t' := forUp e.start (t.vl - e.start) (fun i t =>
    t.vPut e.nreg d w i (if (i + 1) * w ≤ 256 * t.gang then readV row (i * w) w else 0)) t
  t'.vHeal e.nreg d w e.start t.vl (fun _ => true)

/-- The address of a barrier word (R365). -/
def Thread.barWord (t : Thread) (n : Nat) : Nat := (t.info.barbase.toNat + 8 * n) % 2 ^ 64

/-- The access of a barrier word (R365, R366): the place, or what stops it; the REMAIN of its fault is 0 (DESIGN CHOICE, log 83). -/
def State.barPlace (s : State) (h : Nat) (e : VEntry) (k : Acc) (n : Nat) : Except VRes (State × Place) :=
  let t := s.thr h
  let c := coreOf h
  let va := t.barWord n
  let trap := fun (s : State) (x : XErr) =>
    VRes.trap s { src := 1, code := x.code, tval := toW va, tvpc := e.pc, cmd := e.cmd, start := 0, kind := kindOf k, level := x.level
                  entry := x.entry, index := 0, stride := 0, remain := 0, time := none, item := none }
  match s.translate (some c) t.owner k va 8 with
  | .err s x => .error (trap s x)
  | .miss s => .error (.wait s)
  | .ok s p =>
    let lacks := decide (k = .vatomic) && (match p with
      | .phys _ _ pac => !pacHas pac 11
      | .spad _ => false)
    if lacks then .error (trap s (s.leafErr (some c) t.owner va 11))
    else if s.guarded c none va 8 then .error (.wait s)
    else
      match p with
      | .phys pa _ _ =>
        if s.closed pa && !s.travel then .error (.wait s)
        else match (if s.travel then none else s.badAt pa 8) with
          | some w => .error (.trap s { Pend.dramWord 1 (kindOf k) w with tvpc := e.pc, cmd := e.cmd })
          | none => .ok (s, p)
      | .spad _ => .ok (s, p)

/-- The value of a barrier word that has been asked for, once its answer has come (R366, R436). A word of another package that is answered
gated counts as 0, and BAR.ARR has added nothing to it: R134 and R244 name no outcome (DESIGN CHOICE, log 96). -/
def State.barBack (s : State) (h : Nat) (e : VEntry) (va kind : Nat) (k : State → Nat → VRes) : VRes :=
  let clean := { e with remoteTo := 0, answer := { err := none, gated := [], values := [] } }
  let v := (tfind e.answer.values 0).getD 0
  if e.sent ≠ 0 then .wait s
  else if e.answer.err.isNone then
    k (s.setHead h clean) (if decide (e.remoteTo = 1) && decide (kind = 3) then leNat (ualinkBytes va 8 v) else v)
  else if e.remoteTo = 1 then
    let x := s.leafErr (some (coreOf h)) (s.thr h).owner va 13
    .trap (s.setHead h clean) { Pend.plain 1 13 (toW va) with tvpc := e.pc, cmd := e.cmd, kind := kind, level := x.level, entry := x.entry }
  else .trap (s.setHead h clean) { Pend.dramWord 1 kind v with tvpc := e.pc, cmd := e.cmd }

/-- Asks for a barrier word of another package. -/
def State.barFar (s : State) (h : Nat) (e : VEntry) (pkg la op data : Nat) : VRes :=
  let r := ualinkRead la 8
  if !s.farRoom (coreOf h) 1 then .wait s
  else match s.askRemote (.vector h e.cmd []) (fun tag => if op = 0 then .access tag pkg r.1 r.2 0 0 else .access tag pkg la 8 op data) with
    | some s => .wait (s.setHead h { e with sent := 1, remoteTo := 1 })
    | none => .wait (s.setHead h { e with remoteTo := 1, answer := { e.answer with err := some 0 } })

/-- Asks for a barrier word of the package while accesses travel (R90, R164). -/
def State.barNear (s : State) (h : Nat) (e : VEntry) (p : Place) (r : MemReq) : VRes :=
  match s.post (coreOf h) vcScalar (s.thr h).owner 34 false p r (.vector h e.cmd 0) with
  | some s => .wait (s.setHead h { e with sent := 1, remoteTo := 2 })
  | none => .wait s

/-- BAR.ARR (R141, R365): the release, then the increment; the value after it goes to X[d]. -/
def State.barArrive (s : State) (h : Nat) (e : VEntry) (d n scope : Nat) : VRes :=
  let t := s.thr h
  let c := coreOf h
  let fin := fun (s : State) (old : Nat) => VRes.done (s.setThr h ((s.thr h).wx d (toW (old + 1))))
  let shut := (s.core c).l1d.any (fun p => shas p.2.threads h && s.lineShut p.1)
  if e.remoteTo ≠ 0 then s.barBack h e (t.barWord n) 4 fin
  else if (t.winBefore e.order).any (fun x => !x.complete) || (decide (scope ≠ 0) && shut) then .wait s
  else
    match s.barPlace h e .vatomic n with
    | .error r => r
    | .ok (s, p) =>
      let s := if scope ≠ 0 then s.l1WriteBackThread c h else s
      let here := fun (s : State) => let r := s.amoAt t.owner c p .add 8 1 0; fin r.1 r.2.1
      match p with
      | .spad _ => here s
      | .phys pa _ _ =>
        match locOf pa with
        | .remote pkg la => s.barFar h e pkg la 3 1
        | _ => if s.travel then s.barNear h e p (.amo .add 8 1 0) else here s

/-- The scalar stream held at a BAR.WAIT goes on past it (R366). -/
def State.barRelease (s : State) (h : Nat) (e : VEntry) (len : Nat) : State :=
  let t := s.thr h
  if t.pc = e.pc then
    (s.setThr h { t with pc := t.pc + toW len, wait := .none, wfeSince := none }).count t.taskid 1 1
  else s

/-- BAR.WAIT (R366): complete when the barrier word is at the target; an acquire at its scope. -/
def State.barWatch (s : State) (h : Nat) (e : VEntry) (n scope target len : Nat) : VRes :=
  let t := s.thr h
  let c := coreOf h
  let fin := fun (s : State) (v : Nat) =>
    if target ≤ v then
      let s := if scope ≠ 0 then s.l1DropClean c else s
      VRes.done (s.barRelease h e len)
    else .wait s
  if target = 0 then fin s 0
  else if e.remoteTo ≠ 0 then s.barBack h e (t.barWord n) 3 fin
  else
    match s.barPlace h e .vload n with
    | .error r => r
    | .ok (s, p) =>
      match p with
      | .spad off => fin s (leNat (s.spadRead t.owner c off 8))
      | .phys pa _ _ =>
        match locOf pa with
        | .remote pkg la => s.barFar h e pkg la 0 0
        | _ => if s.travel then s.barNear h e p (.read 8) else fin (s.l2Touch pa t.owner false) (leNat (s.dramRead t.owner pa 8))

/-- Elements that an instruction which works on the whole vector goes through, for VGRP (R224). -/
def VOp.passes (o : VOp) (vl : Nat) : Nat :=
  match o with
  | .setl _ _ | .cfg _ _ | .fenceVv => 0
  | .qput _ _ _ | .getx _ _ _ | .getf _ _ _ => 1
  | _ => vl

/-- Tries the head of the VIQ. One whose captured operand cannot be read traps (R240, R241). -/
def State.vTry (s : State) (h : Nat) (e : VEntry) : VRes :=
  let t := s.thr h
  if e.bad then .trap s { Pend.plain 1 64 (Config.freeWord s.tick 7) with tvpc := e.pc, cmd := e.cmd, start := e.start } else
  match e.op with
  | .mem m => s.vMem h e m
  | .fenceVv => .done s
  | .barArr d n scope => s.barArrive h e d n scope
  | .barWait n scope target len => s.barWatch h e n scope target len
  | .mtov d _ row pin =>
    match s.mtovRow h row pin with
    | none => .wait s
    | some (.error tile) =>
      .trap s { Pend.plain 1 64 (toW (tileBacking t.gang t.mapb tile)) with tvpc := e.pc, cmd := e.cmd, start := e.start }
    | some (.ok bs) =>
      let s := match pin with
        | some (.phys pt) => s.usedTiles (coreOf h) [pt]
        | _ => s
      .done ((s.setThr h (t.mtovElems e d bs)).countGroups h e e.start t.vl)
  | .qget d q =>
    match t.rq q with
    | [] => .wait s
    | v :: rest =>
      if t.headBad q then .trap s { s.queueTrap 1 with tvpc := e.pc, cmd := e.cmd } else
      let w := 2 ^ e.sew
      let t := t.qPop q rest
      let t := (t.actives e.k).foldl (fun t i => t.vPut e.nreg d w i (v.toNat % 2 ^ (8 * w))) t
      let t := t.vHeal e.nreg d w 0 t.vl (fun i => t.active e.k i)
      .done ((s.setThr h t).countGroups h e 0 t.vl)
  | o =>
    let full := match o with
      | .qput q _ _ => decide (16 ≤ (t.rq q).length)
      | _ => false
    if full then .wait s
    else
      match t.poisonStop e with
      | some stop =>
        let s := if o.elementwise then (s.setThr h (t.elems e stop)).countGroups h e e.start stop else s
        .trap (s.setHead h { e with start := stop }) (poisonTrap s.tick e stop)
      | none =>
        if o.elementwise then .done ((s.setThr h (t.elems e t.vl)).countGroups h e e.start t.vl)
        else
          let t' := match o with
            | .qput q a j => t.qPush q (if j < t.mvl then toW (t.vGet e.nreg a (2 ^ e.sew) j) else 0)
            | .scan d _ _ _ => (t.whole e).vHeal e.nreg d (2 ^ e.sew) 0 t.vl (fun i => t.active e.k i)
            | .compact d _ b => (t.whole e).vHeal e.nreg d (2 ^ e.sew) 0 (t.actives b).length (fun _ => true)
            | _ => t.whole e
          .done ((s.setThr h t').countGroups h e 0 (o.passes t.vl))

/-- Whether an entry of the VIQ may run: not while a handler runs, the streams are being stopped, a vector trap is pending, or a hazard
holds it (R18, R19, R231, R234, R237). -/
def Thread.vMay (t : Thread) (e : VEntry) : Bool :=
  !t.hnd && !t.stopping && !t.pend.any (fun p => decide (p.src = 1)) && !t.vectorHeld e

/-- The head of the VIQ begins: its trace record is written once (R220). -/
def State.vBegin (s : State) (h : Nat) (e : VEntry) : State × VEntry :=
  if e.began then (s, e)
  else ((s.setHead h { e with began := true }).trace h 2 0 e.cmd, { e with began := true })

/-- What an entry that may not go on has issued still performs (R94, R237); a section that holds a doomed translation is dropped once nothing
of it is under way (R182). -/
def State.vServe (s : State) (h : Nat) (e : VEntry) : State :=
  match e.op, e.sect with
  | .mem m, some sec =>
    if sec.late.isEmpty then (if s.doomedPin h e.cmd then s.dropSect h e else s)
    else
      let r := s.vLate h (coreOf h) e m sec
      r.1.setHead h { e with sect := some r.2 }
  | _, _ => s

/-- Tries the head of the VIQ; true when it has completed. -/
def State.vStep (s : State) (h : Nat) : State × Bool :=
  match (s.thr h).viq with
  | [] => (s, false)
  | e :: _ =>
    if !(s.thr h).vMay e then ((s.thr h).viq.foldl (fun s e => s.vServe h e) s, false)
    else
      let r := s.vBegin h e
      let s := r.1
      match s.vTry h r.2 with
      | .done s => (s.vComplete h e, true)
      | .wait s => (s, false)
      | .trap s p => (s.raisePend h p, false)

def State.pumpVector (s : State) (h fuel : Nat) : State :=
  match fuel with
  | 0 => s
  | n + 1 => let r := s.vStep h; if r.2 then r.1.pumpVector h n else r.1

/-- One round of every stream of a thread beside the scalar stream. -/
def State.pumpRound (s : State) (h : Nat) : State := ((s.pumpBobbins h).pumpVector h 33).pumpTiles h

/-- Work in the queues of a thread. -/
def Thread.work (t : Thread) : Nat := t.viq.length + t.win.length + t.bob.foldl (fun n b => n + b.2.queue.length) 0

/-- The streams do what they can: rounds until no entry leaves a queue. -/
def State.pumpLoop (s : State) (h fuel : Nat) : State :=
  match fuel with
  | 0 => s
  | n + 1 =>
    let s' := s.pumpRound h
    if (s'.thr h).work < (s.thr h).work then s'.pumpLoop h n else s'

/-- What the streams of a thread do on their own when they run in lockstep. -/
def State.pump (s : State) (h : Nat) : State :=
  if s.lockstep && !(decide ((s.thr h).work = 0)) then s.pumpLoop h 81 else s

/-! Commit -/

/-- A new order of commit on the core of the executing thread (R209). -/
def State.newOrder (s : State) : State × Nat :=
  let c := coreOf s.hart
  let k := s.core c
  (s.setCore c { k with commits := k.commits + 1 }, k.commits)

/-- The next command number of a context (R201). -/
def Thread.nextCmd (t : Thread) (ctx : Nat) : Nat := tget t.cmds ctx 0 + 1

/-- A context has given its last number (R201). -/
def Thread.cmdsOut (t : Thread) (ctx : Nat) : Bool := decide (2 ^ 63 - 1 ≤ tget t.cmds ctx 0)

/-- Commits a vector instruction of `len` bytes into the VIQ, with its read-back entry (R16 to R18, R234): illegal in a handler;
the scalar stream stalls at a full queue. `f` is what the scalar stream itself executes at commit. -/
def State.commitVWith (f : Thread → Thread) (s : State) (len : Nat) (op : VOp) (k rm : Nat) (rb : Option (Bool × Nat)) : Res :=
  let t := s.cur
  if t.hnd || t.cmdsOut 0 then .next (s.precise s.illegal)
  else if 32 ≤ t.viq.length ∨ (rb.isSome = true ∧ 8 ≤ t.rbq.length) then .next (s.waiting .viqFull)
  else
    let (s, order) := s.newOrder
    let cmd := t.nextCmd 0
    let e : VEntry := { cmd := cmd, order := order, pc := t.pc, bits := s.ir, op := op, k := k, sew := t.csew, nreg := t.cnreg, rm := rm
                        edge := t.skew, began := false, start := 0, sect := none, sent := 0, remoteTo := 0, answer := { err := none, gated := [], values := [] }, filled := 0 }
    let t := { f t with viq := t.viq ++ [e], cmds := tput t.cmds 0 cmd
                        rbq := t.rbq ++ optList (rb.map (fun r => { cmd := cmd, isF := r.1, reg := r.2 })) }
    let s := s.setCur t
    match op with
    | .barWait _ _ _ _ => .next ((s.waiting .barrier).pump s.hart)
    | _ => .next ((s.retire len).pump s.hart)

def State.commitV (s : State) (len : Nat) (op : VOp) (k rm : Nat) (rb : Option (Bool × Nat)) : Res :=
  s.commitVWith id len op k rm rb

/-- Commits a tile instruction into the window (R16, R369). -/
def State.commitT (s : State) (len : Nat) (op : TOp) : Res :=
  let t := s.cur
  if t.hnd || t.cmdsOut 1 then .next (s.precise s.illegal)
  else if 16 ≤ t.win.length then .next (s.waiting .windowFull)
  else
    let (s, order) := s.newOrder
    let cmd := t.nextCmd 1
    let e : TEntry := { cmd := cmd, order := order, pc := t.pc, bits := s.ir, op := op, issued := false, complete := false, dst := []
                        send := .unsent, flags := 0 }
    let s := s.setCur { t with win := t.win ++ [e], cmds := tput t.cmds 1 cmd }
    .next (((s.fillSources s.hart e).retire len).pump s.hart)

/-- Commits a bobbin command (R385). -/
def State.commitB (s : State) (len bn : Nat) (op : BOp) (dst src : Word) : Res :=
  let t := s.cur
  if t.hnd || t.cmdsOut (2 + bn) then .next (s.precise s.illegal)
  else if 4 ≤ (t.bobbin bn).queue.length then .next (s.waiting .bobbinFull)
  else
    let (s, order) := s.newOrder
    let num := t.nextCmd (2 + bn)
    let isRed := match op with
      | .red _ _ _ => true
      | _ => false
    let seq := max (s.redLast + 1) (16 * s.gtime)
    let q : BCmd := { num := num, op := op, dst := dst, src := src, order := order, started := false, rowSrc := []
                      seq := if isRed then seq else 0, sent := [], ahead := [], got := [], io := none }
    let s := if isRed then { s with redLast := seq } else s
    let b := t.bobbin bn
    let s := s.setCur ({ t with cmds := tput t.cmds (2 + bn) num }.setBobbin bn { b with queue := b.queue ++ [q] })
    .next ((s.retire len).pump s.hart)

end Sys2Proof.Machine
end

