-- ==== Sys2Proof/Machine/Fabric.lean ====
section
/-! DEFINITION. The gallery and the port blocks: packets at their coherence points (R91, R92, R104, R115, R143), injection and
routing (R163, R164, R167), arbitration (R165), inbound packets with the flow table and reduction records (R166, R198, R415,
R416, R434). -/

namespace Sys2Proof.Machine

/-! Sealed pages of physical writers -/

/-- Whether a table of an owner, at an address and a level, leads to a sealed leaf that holds `pa`. Entries that nobody has
written map nothing. -/
def State.sealedIn (s : State) (o pa : Nat) (lvl base : Nat) : Bool :=
  let leaf := fun (e : Nat) => decide (lvl ≠ 3) && leafOk o lvl e && leafSeal e && decide (leafPa e ≤ pa) &&
    decide (pa < leafPa e + 2 ^ leafSize lvl e)
  let size := if lvl = 3 then 2 ^ 21 else if lvl = 0 then 256 else 4096
  let entries := (s.mem.filter (fun c => decide (base ≤ c.1) && decide (c.1 < base + size) && decide (c.1 % 8 = 0))).map
    (fun c => leNat (s.dramRead o c.1 8))
  match lvl with
  | 0 => entries.any (fun e => e.testBit 0 && !e.testBit 1 && leaf e)
  | l + 1 => entries.any (fun e => e.testBit 0 &&
      (if e.testBit 1 then tableOk (l + 1) e && s.sealedIn o pa l (e / 256 % 2 ^ 44 * 256) else leaf e))

/-- Whether a write to a physical address is refused: a live owner maps it by a sealed page (R92). -/
def State.sealedAt (s : State) (pa : Nat) : Bool :=
  s.owners.any (fun p => !decide (p.2.root = 0) && s.ownerLive p.1 && s.sealedIn p.1 pa 3 p.2.root)

/-! Requests at their coherence points -/

/-- Enabled bytes of a write, in increasing order. -/
def putMasked (put : State → Nat → Byte → State) (s : State) (a : Nat) (bs : List Byte) (mask : Nat) : State :=
  match bs with
  | [] => s
  | b :: r => putMasked put (if mask.testBit 0 then put s a b else s) (a + 1) r (mask / 2)

/-- Reading and writing at a coherence point: a scratchpad through its aperture, or DRAM. -/
def State.pointRead (s : State) (o : Nat) (spad : Option Nat) (a n : Nat) : List Byte :=
  match spad with
  | some c => s.spadRead o c a n
  | none => s.dramRead o a n

def State.pointPut (s : State) (o : Nat) (spad : Option Nat) (a : Nat) (b : Byte) : State :=
  match spad with
  | some c => s.spadPut o c a b
  | none => s.dramPut o a b

def State.pointWrite (s : State) (o : Nat) (spad : Option Nat) (a : Nat) (bs : List Byte) : State :=
  putBytes (fun s a b => s.pointPut o spad a b) s a bs

/-- Sets the full/empty bits of the granules of written bytes: a Golpin delivery or a UALink write through the aperture (R105). -/
def State.fillBytes (s : State) (o : Nat) (spad : Option Nat) (a n mask : Nat) : State :=
  match spad with
  | some c => (List.range n).foldl (fun s i => if mask.testBit i then s.fillGranule o c (a + i) else s) s
  | none => s

/-- A request in one grant (R91, R128): the state, and the bytes that answer it. `own` marks an access of a core, whose writes set no
full/empty bit here (R105). -/
def State.performAt (s : State) (o : Nat) (own : Bool) (spad : Option Nat) (a : Nat) (r : MemReq) : State × List Byte :=
  match r with
  | .read n => (s, s.pointRead o spad a n)
  | .write bs mask =>
    let s := putMasked (fun s a b => s.pointPut o spad a b) s a bs mask
    (if own then s else s.fillBytes o spad a bs.length mask, [])
  | .amo op w data cmp =>
    let old := leNat (s.pointRead o spad a w)
    (match (op.apply w old data cmp).1 with
      | some v => s.pointWrite o spad a (natLe w v)
      | none => s, natLe w old)
  | .reduce op e bs fresh =>
    ((List.range (bs.length / e)).foldl (fun s i =>
      if fresh.testBit i then
        let old := leNat (s.pointRead o spad (a + e * i) e)
        let s := s.pointWrite o spad (a + e * i) (natLe e (redApply op e old (leNat ((bs.drop (e * i)).take e))))
        if own then s else s.fillBytes o spad (a + e * i) e (2 ^ e - 1)
      else s) s, [])
  | .full clear n =>
    (match spad with
      | some c => if clear then s.clearGranule o c a else s
      | none => s, s.pointRead o spad a n)
  | .fill bs =>
    let s := s.pointWrite o spad a bs
    (match spad with
      | some c => s.fillGranule o c a
      | none => s, [])
  | .empty _ =>
    (match spad with
      | some c => s.clearGranule o c a
      | none => s, [])

/-- Whether a request reads a granule only if it is full (R140). -/
def MemReq.waitsFull (r : MemReq) : Bool :=
  match r with
  | .full _ _ => true
  | _ => false

/-- A request at its coherence point: the state, status 0 done, 1 error or 2 retry, of an empty granule, and the bytes; of an uncorrectable word that a core's access
reads, its address (R241). A scratchpad request is refused beyond 4g MiB,
where no core is, and on a gated core (R100, R244); a write of a physical agent to a sealed page too, which a core has had checked by
its translation (R92). -/
def State.performAs (s : State) (own : Bool) (pa o : Nat) (r : MemReq) : State × Nat × List Byte :=
  match locOf pa with
  | .apert c off =>
    if !s.isCore c || decide ((s.core c).gate = .gated) || decide (s.width c * 2 ^ 22 < off + r.size) then (s, 1, [])
    else if r.waitsFull && !s.isFull o c off then (s, 2, [])
    else
      let x := s.performAt o own (some c) off r
      (x.1, 0, x.2)
  | .near _ _ | .main _ =>
    let writes := match r with
      | .read _ => false
      | _ => true
    let reads := match r with
      | .write _ _ => false
      | _ => true
    if !own && writes && s.sealedAt pa then (s, 1, [])
    else match (if reads then s.badAt pa r.size else none) with
    | some w => (s, 1, if own then natLe 8 w else [])
    | none =>
      let x := (s.l2Touch pa o writes).performAt o own none pa r
      (x.1, 0, x.2)
  | _ => (s, 1, [])

/-- A request of a physical agent. -/
def State.performReq (s : State) (pa o : Nat) (r : MemReq) : State × Nat × List Byte := s.performAs false pa o r

/-- Injects the packets of one request at a port block on VC3 (R164, R167); none when the buffer has no room for all of them. -/
def State.injectParts (s : State) (blk o : Nat) (reply : Nat → ReplyTo) (i : Nat) (parts : List (Nat × MemReq)) : Option State :=
  match parts with
  | [] => some s
  | (pa, r) :: rest =>
    let d := reqPillar pa
    (s.inject 0 (blockPillar blk (d % 4)) (blockPort blk) { dest := d, exit := 0, vc := 3, age := 0, load := .req pa o r (reply i) }).bind
      fun s => s.injectParts blk o reply (i + 1) rest

/-- Whether a request is an access of a core. -/
def ReplyTo.own (r : ReplyTo) : Bool :=
  match r with
  | .scalar _ | .line _ _ _ | .vector _ _ _ | .tile _ _ _ | .bobbin _ _ | .gone _ _ => true
  | .none | .ualink _ _ _ _ | .host _ _ => false

/-- Where a response leaves the gallery, and its VC on the response plane (R163, R164): pillar, output port, VC. -/
def ReplyTo.exit (r : ReplyTo) (p : Nat) : Option (Nat × Nat × Nat) :=
  match r with
  | .none => Option.none
  | .ualink blk _ _ _ => some (blockPillar blk (p % 4), blockPort blk, 3)
  | .host _ _ => some (blockPillar 0 (p % 4), blockPort 0, 3)
  | .scalar h => some (pillarOf (coreOf h), 0, 2)
  | .line h _ _ => some (pillarOf (coreOf h), 0, 2)
  | .vector h _ _ => some (pillarOf (coreOf h), 0, 2)
  | .tile h _ _ => some (pillarOf (coreOf h), 0, 3)
  | .bobbin h _ => some (pillarOf (coreOf h), 0, 3)
  | .gone c vc => some (pillarOf c, 0, vc)

/-- A response on its way from a pillar (R164); none when the buffer is full. -/
def State.respond (s : State) (p pa : Nat) (reply : ReplyTo) (status : Nat) (bs : List Byte) : Option State :=
  match reply.exit p with
  | none => some s
  | some (d, port, vc) => s.inject 1 p 0 { dest := d, exit := port, vc := vc, age := 0, load := .resp pa reply status bs }

/-! Requests of packets -/

/-- Cuts a range into the data of packets, in increasing order, with the byte mask of each (R167). -/
def lineParts (fuel a : Nat) (bs : List Byte) (mask : Nat) : List (Nat × List Byte × Nat) :=
  match fuel with
  | 0 => []
  | m + 1 =>
    if bs.isEmpty then []
    else
      let n := packetRun a bs.length
      (a, bs.take n, mask % 2 ^ n) :: lineParts m (a + n) (bs.drop n) (mask / 2 ^ n)

/-- The elements of a reducing write by packets; one without a fresh element is not sent. -/
def redParts (fuel a op e : Nat) (bs : List Byte) (fresh : Nat) : List (Nat × MemReq) :=
  match fuel with
  | 0 => []
  | m + 1 =>
    if bs.isEmpty then []
    else
      let k := max 1 (packetRun a bs.length / e)
      (if fresh % 2 ^ k = 0 then [] else [(a, .reduce op e (bs.take (k * e)) (fresh % 2 ^ k))]) ++
        redParts m (a + k * e) op e (bs.drop (k * e)) (fresh / 2 ^ k)

/-- Width of an atomic packet (R398). -/
def amoWidth (p : UalinkPacket) : Nat := if p.op.testBit 4 then 8 else 4

/-- The accesses that a packet performs at its address (R167, R410). -/
def packetParts (p : UalinkPacket) (fresh : Nat) : List (Nat × MemReq) :=
  match p.kind with
  | 0 => (lineParts p.len p.addr (p.data.take p.len) p.mask).map (fun x => (x.1, .write x.2.1 x.2.2))
  | 1 => (lineParts p.len p.addr (List.replicate p.len 0) 0).map (fun x => (x.1, .read x.2.1.length))
  | 2 =>
    let w := amoWidth p
    let a := leNat (p.data.take w)
    let b := leNat ((p.data.drop w).take w)
    if p.op % 16 = 11 then [(p.addr, .amo .cas w b a)] else [(p.addr, .amo (AmoOp.ofCode (p.op % 16)) w a 0)]
  | _ => redParts p.len p.addr p.op p.esz (p.data.take p.len) fresh

/-- Answers a packet: status 0 applied or done, 1 error, 2 retry. -/
def State.answerTo (s : State) (p : UalinkPacket) (status : Nat) (bs : List Byte) : State :=
  { s with outbox := s.outbox ++ [.answer p.src p.tag status bs] }

/-- Timeline words and counter blocks read by another package (R205, R224). -/
def State.devBytes (s : State) (o off n : Nat) : Option (List Byte) :=
  if off % 8 ≠ 0 ∨ n % 8 ≠ 0 then none
  else ((List.range (n / 8)).mapM (fun i => s.devRead o (off + 8 * i) 8)).map (fun ws => ws.flatMap (fun w => natLe 8 w.toNat))

/-! Time messages -/

/-- The time word's place in the device windows (R435). -/
def timeWordOff : Nat := 0x6000000000

/-- The rate, in parts per million, at which the package's clock runs down a difference to the master (R218): at most 200 either way,
faster when the master is ahead, slower when it is behind. -/
def clockRate (tick : Nat) (d : Int) : Int :=
  let r := Config.clockRate tick d
  if 0 < d then max 1 (min 200 r) else if d < 0 then min (-1) (max (-200) r) else 0

/-- A time message (R218): the rate is corrected by at most 200 parts per million, and 16 messages in a row within 50 ns lock the
package. -/
def State.timeMessage (s : State) (ns : Nat) : State :=
  if s.timeMaster.isNone || decide (s.timeMaster = s.pkgNum) || s.linksUp.isEmpty then s
  else
    let d : Int := (ns : Int) - s.gtime
    let n := if d.natAbs ≤ 50 then s.goodMsgs + 1 else 0
    let lost := s.locked && decide (n = 0)
    let got := !s.locked && decide (16 ≤ n)
    let s := { s with timeWord := ns % 2 ^ 64, rate := clockRate s.tick d, goodMsgs := n, locked := decide (16 ≤ n) }
    if lost then s.traceClock.reportLock else if got then s.reportLock else s

/-- Delivers a packet to its address through the gallery, or to a device word; none when the gallery has no room (R164, R166,
R167, R435). The owner is the one whose key encrypts (R111). -/
def State.deliver (s : State) (blk o : Nat) (p : UalinkPacket) (fresh : Nat) : Option State :=
  match locOf p.addr with
  | .near _ _ | .main _ | .apert _ _ =>
    let ps := packetParts p fresh
    if ps.isEmpty then some (s.answerTo p 0 [])
    else s.injectParts blk o (fun i => .ualink blk p.src p.tag (8 * i + ps.length)) 0 ps
  | .dev off =>
    if p.kind = 0 ∧ off = timeWordOff ∧ p.len = 8 ∧ p.mask % 256 = 255 then some ((s.timeMessage (leNat p.data)).answerTo p 0 [])
    else
      match (if p.kind = 1 then s.devBytes o off p.len else none) with
      | some bs => some (s.answerTo p 0 bs)
      | none => some (s.answerTo p 1 [])
  | _ => some (s.answerTo p 1 [])

/-! Reduction records -/

def RedRec.reset : RedRec := { sender := 0, srcpkg := 0, thread := 0, total := 0, anchor := 0, cmd := 0, map := 0 }

/-- A record that serves no command, or whose command has been applied whole (R415). -/
def RedRec.closed (r : RedRec) : Bool :=
  decide (r.total = 0) || decide (r.total ≤ r.anchor) ||
    (decide (r.total - r.anchor ≤ 4096) && decide (r.map % 2 ^ (r.total - r.anchor) = 2 ^ (r.total - r.anchor) - 1))

/-- What the check of a reducing write says. -/
inductive RedCheck where
  | applied | retry | fresh (mask : Nat)
  deriving DecidableEq, Repr

/-- The check of a reducing write against its record (R415). -/
def RedRec.check (r : RedRec) (p : UalinkPacket) : RedRec × RedCheck :=
  if r.sender = p.sender ∧ p.cmd < r.cmd then (r, .applied)
  else
    let take : Option RedRec :=
      if r.sender = p.sender ∧ r.cmd = p.cmd ∧ r.total ≠ 0 then some { r with thread := p.thread }
      else if r.closed || decide (r.sender = p.sender ∧ r.cmd < p.cmd) then
        some { r with sender := p.sender, thread := p.thread, cmd := p.cmd, total := p.total, anchor := p.anchor, map := 0 }
      else none
    match take with
    | none => (r, .retry)
    | some r =>
      let r := if r.anchor < p.anchor then { r with anchor := p.anchor, map := r.map >>> (p.anchor - r.anchor) } else r
      let n := p.len / p.esz
      if r.anchor + 4096 < p.seq + n then (r, .retry)
      else
        let m := forUp 0 n (fun e m => if r.anchor ≤ p.seq + e ∧ r.map.testBit (p.seq + e - r.anchor) = false then m + 2 ^ e else m) 0
        (r, if m = 0 then .applied else .fresh m)

/-- Marks the fresh elements of a packet as applied (R416), in the record that serves its command. -/
def RedRec.mark (r : RedRec) (p : UalinkPacket) (fresh : Nat) : RedRec :=
  if r.sender = p.sender ∧ r.cmd = p.cmd ∧ r.total ≠ 0 then
    { r with map := forUp 0 (p.len / p.esz) (fun e m =>
        if fresh.testBit e ∧ r.anchor ≤ p.seq + e ∧ p.seq + e < r.anchor + 4096 then setBit m (p.seq + e - r.anchor) true else m) r.map }
  else r

/-- Closes a record: TOTAL becomes 0 (R415). -/
def RedRec.close (r : RedRec) : RedRec := { r with total := 0 }

/-- The 576 bytes of a record in flow-state memory (R400, R415). -/
def RedRec.bytes (r : RedRec) : List Byte :=
  natLe 4 r.sender ++ natLe 2 0 ++ natLe 2 r.thread ++ natLe 4 r.total ++ natLe 4 r.anchor ++ natLe 8 r.cmd ++ natLe 40 0 ++ natLe 512 r.map

/-- Where record `n` of an entry lies (R400). -/
def recordAt (f : FlowEntry) (n : Nat) : Nat := f.stbase * 64 + 576 * n

/-- A little-endian field of the flow-state memory. -/
def Engine.stField (k : Engine) (a n : Nat) : Nat := leNat (bytesAt n (fun i => tget k.state i 0) a)

def Engine.putState (k : Engine) (a : Nat) (bs : List Byte) : Engine :=
  { k with state := bs.zipIdx.foldl (fun t x => tset t (a + x.2) x.1 0) k.state }

/-- Record `n` of a flow entry, and its writing. -/
def Engine.record (k : Engine) (f : FlowEntry) (n : Nat) : RedRec :=
  let a := recordAt f n
  { sender := k.stField a 4, srcpkg := 0, thread := k.stField (a + 6) 2, total := k.stField (a + 8) 4, anchor := k.stField (a + 12) 4
    cmd := k.stField (a + 16) 8, map := k.stField (a + 64) 512 }
def Engine.putRecord (k : Engine) (f : FlowEntry) (n : Nat) (r : RedRec) : Engine := k.putState (recordAt f n) r.bytes

/-- Stall cycles of an engine (R396, R410): of an ECC correction, or of a write of the loader while a packet is in it. How many is not
stated. -/
def Engine.stall (k : Engine) (n : Nat) : Engine := if k.busy then { k with cyc := min 512 (k.cyc + 1 + n % 512) } else k

def cacheKey (src sender bobbin : Nat) : Nat := (src * 2 ^ 20 + sender) * 8 + bobbin

/-- The record of a key in the reduction cache: its own, a new one while there are fewer than 256, or the closed one used least
recently (R415). The list left over has the others in order of use. -/
def takeRec (cache : List (Nat × RedRec)) (key : Nat) : Option (RedRec × List (Nat × RedRec)) :=
  match cache.find? (fun x => decide (x.1 = key)) with
  | some x => some (x.2, cache.filter (fun y => !decide (y.1 = key)))
  | none =>
    if cache.length < 256 then some (RedRec.reset, cache)
    else match cache.find? (fun x => x.2.closed) with
      | some x => some (RedRec.reset, cache.filter (fun y => !decide (y.1 = x.1)))
      | none => none

/-! Inbound packets -/

/-- Packets that the device implements (R433). -/
def packetOk (p : UalinkPacket) : Bool :=
  decide (p.addr < 2 ^ 41) &&
  (match p.kind with
    | 0 => decide (1 ≤ p.len ∧ p.len ≤ 256 ∧ p.data.length = p.len)
    | 1 => decide (64 ≤ p.len ∧ p.len ≤ 256 ∧ p.addr % p.len = 0)
    | 2 => decide (p.op < 32 ∧ p.op % 16 < 12 ∧ p.addr % amoWidth p = 0 ∧ p.data.length = p.len ∧
        p.len = (if p.op % 16 = 11 then 2 * amoWidth p else amoWidth p))
    | 3 => decide ((p.esz = 2 ∨ p.esz = 4 ∨ p.esz = 8) ∧ 1 ≤ p.len ∧ p.len ≤ 256 ∧ p.len % p.esz = 0 ∧ p.data.length = p.len ∧ p.op < 8)
    | _ => false)

/-- Whether a flow table entry takes a packet (R198). -/
def flowTakes (f : FlowEntry) (p : UalinkPacket) : Bool :=
  f.ctl.testBit 0 && f.ctl.testBit (if p.kind = 0 then 2 else if p.kind = 1 then 3 else 4) &&
  decide (p.addr &&& f.mask = f.base) && (f.ctl.testBit 1 || decide (p.src = f.srcpkg))

/-- FRESH of a packet that is not a reducing write (R398). -/
def plainFresh (len : Nat) : Nat := 2 ^ min 128 (ceilDiv len 4) - 1

/-- A packet enters an engine's input queue (R166). -/
def State.enqueue (s : State) (e : Nat) (p : UalinkPacket) (flow fresh : Nat) : State :=
  s.setEngine e { s.engine e with input := (s.engine e).input ++ [{ pkt := p, flow := flow, fresh := fresh }] }

/-- A reducing write that matches no flow (R415, R416): the record of the cache is marked as its updates are injected. -/
def State.cachedReduce (s : State) (blk : Nat) (p : UalinkPacket) : Option State :=
  let b := s.block blk
  if ((match locOf p.addr with
    | .near _ _ | .main _ | .apert _ _ => true
    | _ => false) : Bool) = false then some (s.answerTo p 1 [])
  else match takeRec b.cache (cacheKey p.src p.sender p.bobbin) with
  | none => some (s.answerTo p 2 [])
  | some (r, rest) =>
    let (r, v) := { r with srcpkg := p.src }.check p
    let keep := fun (s : State) (r : RedRec) => s.setBlock blk { s.block blk with cache := rest ++ [(cacheKey p.src p.sender p.bobbin, r)] }
    match v with
    | .applied => some ((keep s r).answerTo p 0 [])
    | .retry => some ((keep s r).answerTo p 2 [])
    | .fresh m => (s.deliver blk p.owner p m).map (fun s => keep s (r.mark p m))

/-- A packet at the head of a port's queue goes on (R166, R167, R433, R434): to the engine of the flow that it matches, or into the gallery;
none while there is no room. -/
def State.takePacket (s : State) (blk : Nat) (p : UalinkPacket) : Option State :=
  if s.pkgNum ≠ some p.dst then some { s.answerTo p 1 [] with misdirected := s.misdirected + 1 }
  else if !packetOk p then some (s.answerTo p 1 [])
  else
    match (s.block blk).flows.find? (fun x => flowTakes x.2 p) with
    | some (i, f) =>
      let e := 8 * blk + f.engine
      if 32 ≤ (s.engine e).input.length then none else some (s.enqueue e p i (plainFresh p.len))
    | none => if p.kind = 3 then s.cachedReduce blk p else s.deliver blk p.owner p 0

/-- The turn of one UALink port of a block: its head packet goes on, if there is one and it can. -/
def State.serveLink (s : State) (blk i : Nat) : Option State :=
  match tget (s.block blk).ingress i [] with
  | [] => none
  | p :: rest => (s.takePacket blk p).map (fun s =>
      s.setBlock blk { s.block blk with ingress := tset (s.block blk).ingress i rest [], served := i })

/-- One cycle of the round-robin of a block's ports (R166): the first UALink port after the one served last whose head packet can go on. The
Ethernet port, number 6, has its turns in `State.ethTurn`. -/
def State.servePort (s : State) (blk : Nat) : Option State :=
  ((List.range 7).map (fun i => ((s.block blk).served + 1 + i) % 7)).findSome? (s.serveLink blk)

/-- The turn of the Ethernet port in the round-robin of its block, after the UALink ports that come before it (R166): a flit goes into the
gallery, if there is room. -/
def State.ethTurn (s : State) (blk : Nat) (send : State → Option State) : Option State :=
  let first := ((s.block blk).served + 1) % 7
  let s := (List.range 6).foldl (fun s i => if i < first then s else (s.serveLink blk i).getD s) s
  (send s).map (fun s => s.setBlock blk { s.block blk with served := 6 })

/-- Serves the ports of a block until nothing can go on. -/
def State.servePorts (s : State) (blk fuel : Nat) : State :=
  match fuel with
  | 0 => s
  | n + 1 => match s.servePort blk with
    | some s => s.servePorts blk n
    | none => s

/-- Packets in the ingress queues of a block. -/
def PortBlock.queued (b : PortBlock) : Nat := b.ingress.foldl (fun n x => n + x.2.length) 0

/-- Serves the ports of every block that holds packets. -/
def State.serveBlocks (s : State) : State := (s.blocks.filter (fun b => decide (b.2.queued ≠ 0))).foldl (fun s b => s.servePorts b.1 b.2.queued) s

/-- An inbound UALink packet (R5, R166, R434, R436): it enters the 64-packet queue of its port, without room it stays on the link; the ports are
down until the package number is set, and a failed link is. -/
def State.ingress (s : State) (blk port : Nat) (p : UalinkPacket) : State :=
  let b := s.block blk
  let l := tget b.ingress port []
  if s.pkgNum.isNone || decide (4 ≤ blk) || decide (6 ≤ port) || shas s.linksDown (6 * blk + port) || decide (64 ≤ l.length) then s
  else (s.setBlock blk { b with ingress := tput b.ingress port (l ++ [p]) }).servePorts blk (b.queued + 1)

/-! Leaving the mesh -/

/-- Gathers the parts of an answer at a port block, and answers when all are there (R167). -/
def State.gather (s : State) (blk : Nat) (x : Payload) : State :=
  let l := tget s.egress blk [] ++ [x]
  match x with
  | .resp _ (.ualink _ src tag part) _ _ =>
    let mine := l.filterMap (fun y => match y with
      | .resp _ (.ualink _ src' tag' part') st bs => if src' = src ∧ tag' = tag then some (part' / 8, st, bs) else none
      | _ => none)
    if mine.length < part % 8 then { s with egress := tput s.egress blk l }
    else
      let rest := l.filter (fun y => match y with
        | .resp _ (.ualink _ src' tag' _) _ _ => !(decide (src' = src) && decide (tag' = tag))
        | _ => true)
      let st := if mine.any (fun y => decide (y.2.1 = 1)) then 1 else if mine.any (fun y => decide (y.2.1 = 2)) then 2 else 0
      let bs := (List.range (part % 8)).flatMap (fun i => match mine.find? (fun y => decide (y.1 = i)) with
        | some y => y.2.2
        | none => [])
      { s with egress := tset s.egress blk rest [], outbox := s.outbox ++ [.answer src tag st (if st = 0 then bs else [])] }
  | _ => s

/-! Arbitration of the gallery -/

/-- Neighbour of a router behind an output port, and its input port there. -/
def neighbour (p port : Nat) : Nat × Nat :=
  match port with
  | 1 => (p - 4, 3)
  | 2 => (p + 1, 4)
  | 3 => (p + 4, 1)
  | _ => (p - 1, 2)

/-- Free places of the buffer behind an output port. -/
def State.freeAfter (s : State) (plane p port vc : Nat) : Nat :=
  let n := neighbour p port
  8 - (s.buffer (bufKey plane n.1 n.2 vc)).length

/-- The output port of a head flit (R164): XY, or west-first on VC1. -/
def State.routeOf (s : State) (plane p : Nat) (f : Flit) : Nat :=
  let x := p % 4
  let y := p / 4
  let dx := f.dest % 4
  let dy := f.dest / 4
  if f.dest = p then f.exit
  else if dx < x then 4
  else if f.vc = 1 then
    let can := (if x < dx then [2] else []) ++ (if dy < y then [1] else []) ++ (if y < dy then [3] else [])
    can.foldl (fun b c => if s.freeAfter plane p b f.vc < s.freeAfter plane p c f.vc then c else b) (can.headD 0)
  else if x < dx then 2
  else if dy < y then 1
  else 3

/-- The head flits routed to an output port: input port, VC, flit. -/
def State.heads (s : State) (plane p port : Nat) : List (Nat × Nat × Flit) :=
  (List.range 20).filterMap (fun i => match s.buffer (bufKey plane p (i / 4) (i % 4)) with
    | f :: _ => if s.routeOf plane p f = port then some (i / 4, i % 4, f) else none
    | [] => none)

def galWeight (galarb c : Nat) : Nat := galarb / 16 ^ c % 16
def galLimit (galarb : Nat) : Nat := galarb / 2 ^ 24 % 256

/-- The class to serve (R165). -/
def PortArb.class (a : PortArb) (has : Nat → Bool) : Nat × Nat :=
  if has a.cls && decide (a.served < galWeight a.galarb a.cls) then (a.cls, a.served)
  else
    let next := [1, 2, 3, 4].map (fun i => (a.cls + i) % 4)
    match next.find? (fun c => has c && decide (0 < galWeight a.galarb c)) with
    | some c => (c, 0)
    | none => ((next.find? has).getD a.cls, 0)

/-- The grant of an output port in one cycle (R165): the port afterwards, and the flit granted. -/
def PortArb.grant (a : PortArb) (cands : List (Nat × Nat × Flit)) : PortArb × Option (Nat × Nat × Flit) :=
  if cands.isEmpty then (a, none)
  else
    let prom := cands.filter (fun x => decide (galLimit a.galarb ≤ x.2.2.age))
    match prom with
    | x :: rest => (a, some (rest.foldl (fun b y => if b.2.2.age < y.2.2.age then y else b) x))
    | [] =>
      let (cls, served) := a.class (fun c => cands.any (fun x => decide (x.2.1 = c)))
      let ip := tget a.ip cls 0
      match (List.range 5).findSome? (fun i => cands.find? (fun x => decide (x.2.1 = cls) && decide (x.1 = (ip + i) % 5))) with
      | some x => ({ a with cls := cls, served := served + 1, ip := tput a.ip cls ((x.1 + 1) % 5) }, some x)
      | none => (a, none)

/-- The port block at an outward port (R163). -/
def blockAt (p port : Nat) : Nat := (if port = 1 then 0 else 2) + (if p % 4 < 2 then 0 else 1)

/-! Responses at their endpoints -/

/-- A response to the scalar stream (R418): its bytes, or the word that has become uncorrectable; an access answered retry is issued again
(R242). -/
def State.scalarBack (s : State) (h st : Nat) (bs : List Byte) : State :=
  let t := s.thr h
  if t.wait = .remote ∧ t.remote = none then
    (if st = 2 then s.setThr h { t with wait := .refresh, away := none }
    else s.setThr h { t with remote := some (decide (st = 0), leNat bs) })
  else s

/-- A response to a vector instruction: an element of the section in hand, or the word of a barrier instruction. An element that meets an
uncorrectable word is issued again, and traps there; after one answered retry the instruction stops and probes again (R242). -/
def State.vectorBack (s : State) (h cmd i st : Nat) (bs : List Byte) : State :=
  match (s.thr h).viq.find? (fun e => decide (e.cmd = cmd)) with
  | none => s
  | some e =>
    match e.op, e.sect with
    | .mem m, some sec =>
      match sec.late.find? (fun x => decide (x.1.i = i)) with
      | none => s
      | some x =>
        let sec' := { sec with late := sec.late.filter (fun y => !decide (y.1.i = i)) }
        if st = 0 then (s.vAnswered h e m x.1 (leNat bs)).setHead h { e with sect := some sec' }
        else
          -- the group goes back to be issued, but for its elements that have performed; after a retry it is probed anew
          let per := s.sectPer (coreOf h) e sec
          let first := min e.start (x.1.i / per * per)
          let past := (sec.gone.filter (fun j => decide (first ≤ j) && !decide (j = i) && !sec'.late.any (fun y => decide (y.1.i = j)))).foldl
            sadd e.past
          s.setHead h { e with start := first, past := past
                               sect := some { sec' with todo := x.1 :: sec'.todo, gone := sec'.gone.filter (fun j => !decide (j = i))
                                                        halt := sec'.halt || decide (st = 2) } }
    | _, _ =>
      if st = 2 then s.setHead h { e with sent := 0, remoteTo := 0 }
      else s.setHead h { e with sent := e.sent - 1, answer := { e.answer with
        err := if st = 0 then e.answer.err else some 0, values := e.answer.values ++ [(i, leNat bs)] } }

/-- A response reaches its endpoint (R420). -/
def State.receive (s : State) (blk pa : Nat) (reply : ReplyTo) (st : Nat) (bs : List Byte) : State :=
  match reply with
  | .none => s
  | .ualink _ _ _ _ => s.gather blk (.resp pa reply st bs)
  | .host c part => s.setConn c { s.conn c with back := (s.conn c).back ++ [(part, st, bs)] }
  | .scalar h => (s.posted (coreOf h) pa true).scalarBack h st bs
  | .line h _ _ => (s.posted (coreOf h) pa true).scalarBack h st bs
  | .vector h cmd i => (s.posted (coreOf h) pa true).vectorBack h cmd i st bs
  | .tile h cmd i => (s.posted (coreOf h) pa true).tileBack h cmd i st bs
  | .bobbin h bn => (s.posted (coreOf h) pa true).bobBack h bn st bs
  | .gone c _ => s.posted c pa true

/-- Moves a granted flit on. -/
def State.moveFlit (s : State) (plane p port input : Nat) (f : Flit) : State :=
  if f.dest = p then
    (match f.load with
      | .req pa o r reply =>
        let class' := match locOf pa with
          | .apert _ _ => 0
          | _ => input
        s.arrive p class' pa o r reply
      | .resp pa reply st bs => s.receive (blockAt p port) pa reply st bs)
  else
    let n := neighbour p port
    let k := bufKey plane n.1 n.2 f.vc
    s.setBuffer k (s.buffer k ++ [{ f with age := 0 }])

/-- One output port in one cycle (R163 to R165): heads that are not granted age. -/
def State.arbitrate (s : State) (plane p port : Nat) : State :=
  let hs := s.heads plane p port
  let cands := hs.filter (fun x => decide (x.2.2.dest = p) || decide (0 < s.freeAfter plane p port x.2.1))
  let k := portKey plane p port
  let (a, g) := (tget s.ports k PortArb.reset).grant cands
  let s := { s with ports := tput s.ports k a }
  let s := hs.foldl (fun s x =>
    if (match g with
      | some y => decide (y.1 = x.1) && decide (y.2.1 = x.2.1)
      | none => false) then s
    else
      let b := bufKey plane p x.1 x.2.1
      s.setBuffer b (match s.buffer b with
        | f :: r => { f with age := min 255 (f.age + 1) } :: r
        | [] => [])) s
  match g with
  | none => s
  | some (i, vc, f) =>
    let b := bufKey plane p i vc
    (s.setBuffer b (s.buffer b).tail).moveFlit plane p port i f

/-! Grants at the coherence points -/

/-- Whether a request came by no gallery: by the shaft, or from the core of the scratchpad itself. -/
def BankReq.direct (q : BankReq) : Bool :=
  q.reply.own && (match locOf q.pa with
    | .apert _ _ => !decide (q.input = 0)
    | _ => decide (q.input = 5))

/-- A request performs: a scalar load fills the line of its core's L1 as it reads it (R97, R117). -/
def State.performFor (s : State) (reply : ReplyTo) (pa o : Nat) (r : MemReq) : State × Nat × List Byte :=
  let x := s.performAs reply.own pa o r
  match reply with
  | .line h va n =>
    if x.2.1 = 0 then
      let y := x.1.l1Grant (coreOf h) o va (pa / 64 * 64 + va % 64) n (pa % 64) x.2.2
      (y.1, 0, y.2)
    else x
  | _ => x

/-- Performs what the bank that grants a waiting request holds of it. The rest goes on to the next bank; after the last one the
response goes out, or, of an access by the shaft or to the own scratchpad, is there (R163, R167, R419). None when it finds no room. -/
def State.serveReq (s : State) (p : Nat) (q : BankReq) : Option State :=
  let r := q.req.cut q.pa
  let x := s.performFor q.reply q.pa q.owner r.1
  let got := if q.bad then q.got else if x.2.1 ≠ 0 then x.2.2 else q.got ++ x.2.2
  let bad := q.bad || decide (x.2.1 ≠ 0)
  match r.2 with
  | some (pa, rest) => some (x.1.arriveAs p (fun _ => false) { q with pa := pa, req := rest, got := got, bad := bad, denied := 0 })
  | none =>
    let st := if q.bad then 1 else x.2.1
    if q.direct then some (x.1.receive 0 q.pa q.reply st got) else x.1.respond p q.pa q.reply st got

/-- Answers waiting requests without performing them: 1 error, 2 retry. Those whose answers find no room go on waiting. -/
def State.turnAway (s : State) (p status : Nat) (l : List BankReq) : State × List BankReq :=
  match l with
  | [] => (s, [])
  | q :: r =>
    match s.respond p q.pa q.reply status [] with
    | some s => s.turnAway p status r
    | none => (s, q :: r)

/-- The first waiting request of the shaft, or else of the input that the pointer selects (R91). -/
def Bank.pick (b : Bank) : Option (BankReq × List BankReq) :=
  match b.waiting.find? (fun q => decide (q.input = 5)) with
  | some q => some (q, b.waiting.erase q)
  | none => (List.range 5).findSome? (fun i => (b.waiting.find? (fun q => decide (q.input = (b.ptr + i) % 5))).map (fun q => (q, b.waiting.erase q)))

/-- One grant of a near-tier bank's arbiter (R91): none in an open refresh window (R94) or while the bank is offline (R242). -/
def State.grantBank (s : State) (c lane bank : Nat) : State :=
  let k := bankKey c lane bank
  let b := s.bank k
  if (b.offline && !b.lost) || shas (s.pillar (pillarOf c)).shut (c * 64 + lane / 4) then s
  else match b.pick with
    | none => s
    | some (q, rest) =>
      ((s.setBank k { b with waiting := rest, ptr := if q.input = 5 then b.ptr else (q.input + 1) % 5 }).serveReq (pillarOf c) q).getD s

/-- The request that a scratchpad bank grants: one denied for 8 cycles before the others, then by class (R104). -/
def spadPick (l : List BankReq) : Option BankReq :=
  let old := l.filter (fun q => decide (8 ≤ q.denied))
  match (if old.isEmpty then l else old) with
  | [] => none
  | q :: r => some (r.foldl (fun b x => if x.input < b.input then x else b) q)

/-- One grant of a scratchpad bank (R104): a request that has waited is denied once more; landings that came while the core quiesced are served once it is gated. -/
def State.grantSpad (s : State) (c bank : Nat) : State :=
  let first := spadKeyOf c bank false
  let k := if (tget s.spadQueue first []).isEmpty && !decide ((s.core c).gate = .quiescing) then spadKeyOf c bank true else first
  let l := tget s.spadQueue k []
  match spadPick l with
  | none => s
  | some q =>
    let rest := (l.erase q).map (fun x => { x with denied := x.denied + 1 })
    ({ s with spadQueue := tset s.spadQueue k rest [] }.serveReq (pillarOf c) q).getD s

/-- One grant of a home L2 (R96, R115). -/
def State.grantL2 (s : State) (p : Nat) : State :=
  match tget s.l2Queue p [] with
  | [] => s
  | q :: rest => ({ s with l2Queue := tset s.l2Queue p rest [] }.serveReq p q).getD s

end Sys2Proof.Machine
end

