-- ==== Sys2Proof/Machine/Golpin.lean ====
section
/-! DEFINITION. The Golpin engines: registers and window (R396 to R399), flow state (R400, R401), scalar, lane and window
instructions (R406 to R409), packet fates and traps (R410, R411), emits (R412). -/

namespace Sys2Proof.Machine

/-! Registers (R396) -/

def Engine.rh (k : Engine) (n : Nat) : BitVec 32 := if n = 0 then 0 else tget k.h n 0
def Engine.wh (k : Engine) (n : Nat) (v : BitVec 32) : Engine := if n = 0 then k else { k with h := tset k.h n v 0 }
/-- Lane `i` of a y register. -/
def Engine.ry (k : Engine) (r i : Nat) : BitVec 32 := tget k.y (8 * r + i) 0
def Engine.wy (k : Engine) (r i : Nat) (v : BitVec 32) : Engine := { k with y := tset k.y (8 * r + i) v 0 }
def Engine.rj (k : Engine) (n : Nat) : BitVec 8 := if n = 0 then 255 else tget k.j n 0
def Engine.wj (k : Engine) (n : Nat) (v : BitVec 8) : Engine := if n = 0 then k else { k with j := tset k.j n v 0 }

/-- Changes the active lanes of a y register; the others keep their values. -/
def Engine.lanes (k : Engine) (d jm : Nat) (f : Nat → BitVec 32) : Engine :=
  (List.range 8).foldl (fun k' i => if (k.rj jm).getLsbD i then k'.wy d i (f i) else k') k

/-- Changes the active bits of a j register. -/
def Engine.cmpLanes (k : Engine) (d jm : Nat) (f : Nat → Bool) : Engine :=
  k.wj d (BitVec.ofNat 8 ((List.range 8).foldl (fun v i => setBit v i (if (k.rj jm).getLsbD i then f i else (k.rj d).getLsbD i)) 0))

/-- The 32 bytes of a y register, and a y register from them. -/
def Engine.yBytes (k : Engine) (r : Nat) : List Byte := (List.range 8).flatMap (fun i => natLe 4 (k.ry r i).toNat)
def Engine.setY (k : Engine) (r : Nat) (bs : List Byte) : Engine :=
  (List.range 8).foldl (fun k i => k.wy r i (BitVec.ofNat 32 (leNat ((bs.drop (4 * i)).take 4)))) k

/-- Sign-extension of an 18-bit immediate. -/
def imm18 (n : Nat) : BitVec 32 := BitVec.ofNat 32 (wrap 32 (sx 18 n))

/-! The window (R398, R399) -/

/-- The flow table entry of the packet in an engine. -/
def State.flowOf (s : State) (e : Nat) : FlowEntry := tget (s.block (e / 8)).flows (s.engine e).flow default

/-- The 320 bytes of the window at packet start (R398). -/
def windowBytes (x : EnginePacket) : List Byte :=
  let p := x.pkt
  let red := fun (n : Nat) => if p.kind = 3 then n else 0
  natLe 8 p.addr ++ natLe 2 p.src ++ natLe 1 p.kind ++ natLe 1 (if p.kind < 2 then 0 else p.op) ++ natLe 4 p.len ++
  natLe 2 (red p.thread) ++ natLe 1 (red p.bobbin) ++ natLe 1 (if p.kind = 3 then p.esz else 4) ++ natLe 2 x.flow ++ natLe 2 0 ++
  natLe 8 (red p.cmd) ++ natLe 4 (red p.seq) ++ natLe 4 (red p.anchor) ++ natLe 4 (red p.total) ++ natLe 4 (red p.sender) ++
  natLe 16 x.fresh ++ (p.data.take (min p.len 256)) ++ List.replicate (256 - min p.data.length (min p.len 256)) 0

def Engine.winByte (k : Engine) (a : Nat) : Byte := tget k.window a 0
def Engine.winRead (k : Engine) (a n : Nat) : List Byte := bytesAt n k.winByte a
def Engine.winWrite (k : Engine) (a : Nat) (bs : List Byte) : Engine :=
  { k with window := (bs.zipIdx).foldl (fun t x => tput t (a + x.2) x.1) k.window }
def Engine.winLen (k : Engine) : Nat := leNat (k.winRead 0x0C 4)
def Engine.winAddr (k : Engine) : Nat := leNat (k.winRead 0 8)

/-- Limits of a window access of `n` bytes (R399, R407). -/
def winOk (a n : Nat) (store : Bool) : Bool :=
  decide (a % n = 0) && decide (a + n ≤ 0x140) &&
  (!store || decide (0x40 ≤ a) || (decide (n = 4) && (decide (a = 0) || decide (a = 4) || decide (a = 0x0C))))

/-! Flow state (R400, R401) -/

/-- Byte of the flow-state memory that a kernel state address names; none out of range or misaligned. -/
def stateAddr (f : FlowEntry) (a n : Nat) : Option Nat :=
  let b := f.stbase * 64 + (if f.ctl.testBit 4 then 4608 else 0) + a
  if a % n = 0 ∧ b + n ≤ (f.stbase + f.stlen) * 64 then some b else none

/-- The packet's own latest store of a byte. -/
def Engine.stored (k : Engine) (a : Nat) : Option Byte := (k.stores.reverse.find? (fun x => decide (x.1 = a))).map (·.2)
def Engine.stByte (k : Engine) (a : Nat) : Byte := (k.stored a).getD (tget k.state a 0)
/-- Whether a read meets an uncorrectable word in a byte that the packet has not stored. -/
def Engine.stBad (k : Engine) (a n : Nat) : Bool :=
  (List.range n).any (fun i => shas k.poison ((a + i) / 8) && (k.stored (a + i)).isNone)

/-- Whether a read meets a word with an error that its code corrects. -/
def Engine.stSingle (k : Engine) (a n : Nat) : Bool := (List.range n).any (fun i => shas k.single ((a + i) / 8))

/-- The correction of what a read of `n` bytes from byte `b` of the state meets (R396, R410): the engine stalls. -/
def Engine.correctAt (k : Engine) (b n stall : Nat) : Engine :=
  if k.stSingle b n then
    { k.stall stall with single := k.single.filter (fun w => !(decide (b / 8 ≤ w) && decide (w ≤ (b + n - 1) / 8))) }
  else k

def Engine.corrected (k : Engine) (f : FlowEntry) (a n stall : Nat) : Engine :=
  match stateAddr f a n with
  | none => k
  | some b => k.correctAt b n stall

/-- Reads state bytes: the trap cause, or the bytes. -/
def Engine.stRead (k : Engine) (f : FlowEntry) (a n : Nat) : Except Nat (List Byte) :=
  match stateAddr f a n with
  | none => .error 2
  | some b => if k.stBad b n then .error 8 else .ok (bytesAt n k.stByte b)

/-- The distinct 32-byte lines that stores write. -/
def stLines (l : List (Nat × Byte)) : List Nat := l.foldl (fun m x => sadd m (x.1 / 32)) []

/-- Buffers a state store: causes 2 and 6 (R400, R401). -/
def Engine.stWrite (k : Engine) (f : FlowEntry) (a : Nat) (bs : List Byte) : Except Nat Engine :=
  match stateAddr f a bs.length with
  | none => .error 2
  | some b =>
    let l := k.stores ++ bs.zipIdx.map (fun x => (b + x.2, x.1))
    if 32 < (stLines l).length then .error 6
    else .ok { k with stores := l, whole := (List.range (bs.length / 8)).foldl (fun l i => sadd l (b / 8 + i)) k.whole }

/-! Progress, commit and trap -/

/-- Ends the iterations and the loops whose body ends at `pc` (R409); the innermost loop stands first. -/
def endLoops (loops : List LoopFrame) (pc : Nat) : List LoopFrame × Nat :=
  match loops with
  | [] => ([], pc)
  | l :: r =>
    if pc = l.stop then (if 1 < l.left then ({ l with left := l.left - 1 } :: r, l.start) else endLoops r pc)
    else (l :: r, pc)

/-- The budget counter after `cost` cycles: it stops at 512, where the packet traps (R397, R410). -/
def Engine.cycles (k : Engine) (cost : Nat) : Nat := min 512 (k.cyc + cost)

/-- An instruction of cost `cost` ends and the next one is at `next` (R396, R409). -/
def Engine.goTo (k : Engine) (cost next : Nat) : Engine :=
  let x := endLoops k.loops next
  { k with loops := x.1, pc := x.2, cyc := k.cycles cost }

/-- Marks the fresh elements of the reducing packet that an engine holds, in its record (R416). -/
def State.marked (s : State) (e : Nat) : State :=
  let k := s.engine e
  match k.cur with
  | some x =>
    if x.pkt.kind = 3 then
      s.setEngine e (k.putRecord (s.flowOf e) x.pkt.bobbin ((k.record (s.flowOf e) x.pkt.bobbin).mark x.pkt x.fresh))
    else s
  | none => s

/-- The engine without its packet. -/
def Engine.done (k : Engine) : Engine := { k with busy := false, cur := none, stores := [], whole := [], emits := [] }

/-- A commit (R397, R401): state stores, emits and record bits take effect together; a word of state that one of the packet's stores
covers whole is no longer poisoned (R400). -/
def State.gCommit (s : State) (e cost : Nat) : State :=
  let s := s.marked e
  let k := s.engine e
  s.setEngine e { k.done with
    state := k.stores.foldl (fun t x => tset t x.1 x.2 0) k.state
    poison := k.poison.filter (fun w => !shas k.whole w)
    outbox := k.outbox ++ k.emits
    pkts := (k.pkts + 1) % 2 ^ 24, cyc := k.cycles cost }

/-- The 64-byte trap record (R411). -/
def State.gRecord (s : State) (e cause kcode prod cyc : Nat) (x : EnginePacket) : List Byte :=
  let k := s.engine e
  let p := x.pkt
  let red := fun (n : Nat) => if p.kind = 3 then n else 0
  natLe 8 s.gtime ++ natLe 4 prod ++ natLe 1 cause ++ natLe 1 (e / 8) ++ natLe 1 (e % 8) ++ natLe 1 kcode ++ natLe 2 k.kslot ++
  natLe 2 k.flow ++ natLe 2 k.pc ++ natLe 2 cyc ++ natLe 8 p.addr ++ natLe 2 p.src ++ natLe 1 p.kind ++ natLe 1 0 ++
  natLe 4 (red p.seq) ++ natLe 8 (red p.cmd) ++ natLe 16 0

/-- Writes a trap record to the owner's event area, or counts it as lost (R404, R411). -/
def State.gReport (s : State) (e cause kcode cyc : Nat) (x : EnginePacket) : State :=
  let o := (s.flowOf e).owner
  match tfind (s.block (e / 8)).areas o with
  | none => s
  | some a =>
    let keep := fun (s : State) (a : EventArea) => s.setBlock (e / 8) { s.block (e / 8) with areas := tput (s.block (e / 8)).areas o a }
    if a.prod - a.cons = 2 ^ a.n then keep s { a with lost := min (2 ^ 32 - 1) (a.lost + 1) }
    else
      let bs := s.gRecord e cause kcode a.prod cyc x
      keep (s.performReq (a.base + 64 * (a.prod % 2 ^ a.n)) o (.write bs (2 ^ 64 - 1))).1 { a with prod := a.prod + 1 }

/-- A trap (R397, R411): the packet goes on as it arrived; with no room in the gallery the trap waits. -/
def State.gTrap (s : State) (e cause kcode cost : Nat) : State :=
  let k := s.engine e
  let cyc := k.cycles cost
  match k.cur with
  | none => s.setEngine e { k.done with traps := min 255 (k.traps + 1), cyc := cyc }
  | some x =>
    match s.deliver (e / 8) (s.flowOf e).owner x.pkt x.fresh with
    | none => s
    | some s =>
      let s := (s.marked e).gReport e cause kcode cyc x
      s.setEngine e { (s.engine e).done with traps := min 255 (k.traps + 1), cyc := cyc }

/-- The words of flow state that an instruction has corrected go into the error log (R396, R432), at engine × 2^32 + byte. -/
def State.logCorrections (s : State) (k : Engine) : State :=
  (s.curEng.single.filter (fun w => !shas k.single w)).foldl (fun s w => s.errorRecord logCorrected (2 ^ 32 * s.eng + 8 * w)) s

/-- An instruction that goes on with the next one, or traps with a cause. -/
def gRun (cost : Nat) (f : FlowEntry → Engine → Except Nat Engine) (s : State) : Res :=
  match f (s.flowOf s.eng) s.curEng with
  | .ok k => .next ((s.logCorrections k).setCurEng (k.goTo cost (k.pc + 1)))
  | .error c => .next (s.gTrap s.eng c 0 cost)

/-- An instruction that cannot trap. -/
def gOp (f : Engine → Engine) (s : State) : Res := gRun 1 (fun _ k => .ok (f k)) s

/-- Scalar and immediate operations (R406). -/
def gScalar (d a b : Nat) (f : BitVec 32 → BitVec 32 → BitVec 32) (s : State) : Res := gOp (fun k => k.wh d (f (k.rh a) (k.rh b))) s
def gImm (d a : Nat) (f : BitVec 32 → BitVec 32) (s : State) : Res := gOp (fun k => k.wh d (f (k.rh a))) s

/-- A branch (R406). -/
def gBranch (o : OpGb) (c : BitVec 32 → BitVec 32 → Bool) (s : State) : Res :=
  let k := s.curEng
  .next (s.setCurEng (k.goTo 1 (if c (k.rh o.a) (k.rh o.b) then k.pc + o.off else k.pc + 1)))

/-- Lane operations (R406): .vv and .vs. -/
def gVv (o : OpGl) (f : BitVec 32 → BitVec 32 → BitVec 32) (s : State) : Res :=
  gOp (fun k => k.lanes o.d o.jm (fun i => f (k.ry o.a i) (k.ry o.b i))) s
def gVs (o : OpGl) (f : BitVec 32 → BitVec 32 → BitVec 32) (s : State) : Res :=
  gOp (fun k => k.lanes o.d o.jm (fun i => f (k.ry o.a i) (k.rh o.b))) s
def gCmp (o : OpGcmp) (f : BitVec 32 → BitVec 32 → Bool) (s : State) : Res :=
  gOp (fun k => k.cmpLanes o.d o.jm (fun i => f (k.ry o.a i) (k.ry o.b i))) s

/-- Floating-point lanes (R44, R45, R54, R406). -/
def gF (f : Nat → Nat → Nat × FFlags) (a b : BitVec 32) : BitVec 32 := BitVec.ofNat 32 (f a.toNat b.toNat).1
def gFcmp (f : Nat → Nat → Bool × FFlags) (a b : BitVec 32) : Bool := (f a.toNat b.toNat).1
/-- The two bf16 halves of a lane, added separately. -/
def gBfadd (a b : BitVec 32) : BitVec 32 :=
  BitVec.ofNat 32 ((bf16.add 0 (a.toNat % 65536) (b.toNat % 65536)).1 + 65536 * (bf16.add 0 (a.toNat / 65536) (b.toNat / 65536)).1)

def gMin (a b : BitVec 32) : BitVec 32 := if b.slt a then b else a
def gMax (a b : BitVec 32) : BitVec 32 := if a.slt b then b else a
def gMinu (a b : BitVec 32) : BitVec 32 := if b.ult a then b else a
def gMaxu (a b : BitVec 32) : BitVec 32 := if a.ult b then b else a

/-- LRED (R58, R406). -/
def gRed (o : OpGl) (f : Nat → Nat → Nat × FFlags) (s : State) : Res :=
  gRun 3 (fun _ k => .ok (k.wh o.d (BitVec.ofNat 32 (foldTree f (k.rh o.b).toNat
    (((List.range 8).filter (fun i => (k.rj o.jm).getLsbD i)).map (fun i => (k.ry o.a i).toNat)) 4).1))) s

/-- The address of an access (R407). -/
def Engine.addrOf (k : Engine) (a imm : Nat) : Nat := (k.rh a + imm18 imm).toNat

/-- FRESH as PFRESH reads it for a lane group (R408). -/
def freshLane (fresh esz g i : Nat) : Bool :=
  if esz = 8 then fresh.testBit (4 * g + i / 2)
  else if esz = 2 then fresh.testBit (16 * g + 2 * i) && fresh.testBit (16 * g + 2 * i + 1)
  else fresh.testBit (8 * g + i)

/-- EMIT (R412): the bytes are read first, then the destination and the number of emits are checked. -/
def gEmit (win : Bool) (o : OpEmit) (s : State) : Res :=
  let b := s.block (s.eng / 8)
  gRun 4 (fun f k =>
    let n := 32 * (o.n + 1)
    let src := (k.rh o.b).toNat
    let dest := (k.rh (o.a + 1)).toNat * 2 ^ 32 + (k.rh o.a).toNat
    let bytes : Except Nat (List Byte) :=
      if win then (if src % 32 = 0 ∧ src + n ≤ 256 then .ok (k.winRead (0x40 + src) n) else .error 3)
      else if src % 32 ≠ 0 then .error 2
      else match stateAddr f src 1, stateAddr f (src + n - 1) 1 with
        | some a, some _ => if k.stBad a n then .error 8 else .ok (bytesAt n k.stByte a)
        | _, _ => .error 2
    match bytes with
    | .error c => .error c
    | .ok bs =>
      if ((List.range 4).any (fun i => match tfind b.ranges (4 * f.owner + i) with
          | some r => decide (r.1 ≤ dest) && decide (dest + n ≤ r.1 + r.2)
          | none => false)) = false then .error 5
      else if 4 ≤ k.emits.length then .error 6
      else
        let k := match (if win then none else stateAddr f src 1) with
          | some a => k.correctAt a n (Config.freeWord s.tick 8).toNat
          | none => k
        .ok { k with emits := k.emits ++ [{ dest := dest, owner := f.owner, bytes := bs }] }) s

/-- A terminal instruction that answers the packet at its commit. -/
def State.gAnswer (s : State) (status : Nat) (bs : List Byte) : Res :=
  let s := match s.curEng.cur with
    | some x => s.answerTo x.pkt status bs
    | none => s
  .next (s.gCommit s.eng 1)

/-- The packet as the kernel leaves it (R410). -/
def Engine.outPacket (k : Engine) (p : UalinkPacket) : UalinkPacket :=
  { p with addr := k.winAddr, len := k.winLen, data := k.winRead 0x40 256 }

/-- Whether the packet writes: a plain or a reducing write. -/
def isWrite (p : UalinkPacket) : Bool := decide (p.kind = 0) || decide (p.kind = 3)

/-- The kernel of a packet's flow runs from its first instruction (R396, R397). -/
def State.gBegin (s : State) (e : Nat) (x : EnginePacket) : State :=
  let f := tget (s.block (e / 8)).flows x.flow default
  s.setEngine e { s.engine e with
    cur := some x, window := (windowBytes x).zipIdx.map (fun b => (b.2, b.1)), h := [], y := [], j := []
    pc := 0, loops := [], cyc := 0, flow := x.flow, kslot := f.kernel, busy := true, stores := [], whole := [], emits := [] }

/-- A packet enters an idle engine (R396). A reducing write is checked against its record before the kernel sees it, and after every packet
before it has committed or trapped: one without a fresh element is answered, and the kernel does not run (R415, R416). -/
def State.gStart (s : State) (e : Nat) : State :=
  let k := s.engine e
  match k.input with
  | [] => s
  | x :: rest =>
    if k.busy then s
    else
      let s := s.setEngine e { k with input := rest }
      if x.pkt.kind = 3 then
        let f := tget (s.block (e / 8)).flows x.flow default
        let (r, v) := (k.record f x.pkt.bobbin).check x.pkt
        let s := s.setEngine e ((s.engine e).putRecord f x.pkt.bobbin r)
        match v with
        | .applied => s.answerTo x.pkt 0 []
        | .retry => s.answerTo x.pkt 2 []
        | .fresh m => s.gBegin e { x with fresh := m }
      else s.gBegin e x

/-- The oldest emit that has left an engine is injected, or sent to another package (R167, R412); one to an address that takes
no write is lost. -/
def State.gEmitOut (s : State) (e : Nat) : State :=
  let k := s.engine e
  match k.outbox with
  | [] => s
  | m :: rest =>
    let s' := s.setEngine e { k with outbox := rest }
    match locOf m.dest with
    | .near _ _ | .main _ | .apert _ _ =>
      (s'.injectParts (e / 8) m.owner (fun _ => .none) 0
        ((lineParts m.bytes.length m.dest m.bytes (2 ^ m.bytes.length - 1)).map (fun x => (x.1, .write x.2.1 x.2.2)))).getD s
    | .remote p la => { s' with outbox := s'.outbox ++ [.write p la m.owner m.bytes] }
    | _ => s'

/-! The instructions -/

def execGolpinAdd (o : OpG3) (s : State) : Res := gScalar o.d o.a o.b (· + ·) s
def execGolpinSub (o : OpG3) (s : State) : Res := gScalar o.d o.a o.b (· - ·) s
def execGolpinAnd (o : OpG3) (s : State) : Res := gScalar o.d o.a o.b (· &&& ·) s
def execGolpinOr (o : OpG3) (s : State) : Res := gScalar o.d o.a o.b (· ||| ·) s
def execGolpinXor (o : OpG3) (s : State) : Res := gScalar o.d o.a o.b (· ^^^ ·) s
def execGolpinSll (o : OpG3) (s : State) : Res := gScalar o.d o.a o.b (fun x y => x <<< (y.toNat % 32)) s
def execGolpinSrl (o : OpG3) (s : State) : Res := gScalar o.d o.a o.b (fun x y => x >>> (y.toNat % 32)) s
def execGolpinSra (o : OpG3) (s : State) : Res := gScalar o.d o.a o.b (fun x y => x.sshiftRight (y.toNat % 32)) s
def execGolpinMin (o : OpG3) (s : State) : Res := gScalar o.d o.a o.b gMin s
def execGolpinMax (o : OpG3) (s : State) : Res := gScalar o.d o.a o.b gMax s
def execGolpinMinu (o : OpG3) (s : State) : Res := gScalar o.d o.a o.b gMinu s
def execGolpinMaxu (o : OpG3) (s : State) : Res := gScalar o.d o.a o.b gMaxu s
def execGolpinMul (o : OpG3) (s : State) : Res := gScalar o.d o.a o.b (· * ·) s
def execGolpinSetlt (o : OpG3) (s : State) : Res := gScalar o.d o.a o.b (fun x y => if x.slt y then 1 else 0) s
def execGolpinSetltu (o : OpG3) (s : State) : Res := gScalar o.d o.a o.b (fun x y => if x.ult y then 1 else 0) s
def execGolpinAddi (o : OpGi) (s : State) : Res := gImm o.d o.a (· + imm18 o.imm) s
def execGolpinAndi (o : OpGi) (s : State) : Res := gImm o.d o.a (· &&& BitVec.ofNat 32 o.imm) s
def execGolpinOri (o : OpGi) (s : State) : Res := gImm o.d o.a (· ||| BitVec.ofNat 32 o.imm) s
def execGolpinXori (o : OpGi) (s : State) : Res := gImm o.d o.a (· ^^^ BitVec.ofNat 32 o.imm) s
def execGolpinSlli (o : OpGsh) (s : State) : Res := gImm o.d o.a (· <<< o.sh) s
def execGolpinSrli (o : OpGsh) (s : State) : Res := gImm o.d o.a (· >>> o.sh) s
def execGolpinSrai (o : OpGsh) (s : State) : Res := gImm o.d o.a (fun x => x.sshiftRight o.sh) s
def execGolpinLui (o : OpGlui) (s : State) : Res := gImm o.d 0 (fun _ => BitVec.ofNat 32 (o.imm * 2 ^ 14)) s
def execGolpinBeq (o : OpGb) (s : State) : Res := gBranch o (fun x y => decide (x = y)) s
def execGolpinBne (o : OpGb) (s : State) : Res := gBranch o (fun x y => !decide (x = y)) s
def execGolpinBlt (o : OpGb) (s : State) : Res := gBranch o (fun x y => x.slt y) s
def execGolpinBge (o : OpGb) (s : State) : Res := gBranch o (fun x y => !x.slt y) s
def execGolpinBltu (o : OpGb) (s : State) : Res := gBranch o (fun x y => x.ult y) s
def execGolpinBgeu (o : OpGb) (s : State) : Res := gBranch o (fun x y => !x.ult y) s
def execLaddVv (o : OpGl) (s : State) : Res := gVv o (· + ·) s
def execLsubVv (o : OpGl) (s : State) : Res := gVv o (· - ·) s
def execLandVv (o : OpGl) (s : State) : Res := gVv o (· &&& ·) s
def execLorVv (o : OpGl) (s : State) : Res := gVv o (· ||| ·) s
def execLxorVv (o : OpGl) (s : State) : Res := gVv o (· ^^^ ·) s
def execLminVv (o : OpGl) (s : State) : Res := gVv o gMin s
def execLmaxVv (o : OpGl) (s : State) : Res := gVv o gMax s
def execLminuVv (o : OpGl) (s : State) : Res := gVv o gMinu s
def execLmaxuVv (o : OpGl) (s : State) : Res := gVv o gMaxu s
def execLmulVv (o : OpGl) (s : State) : Res := gVv o (· * ·) s
def execLfaddVv (o : OpGl) (s : State) : Res := gVv o (gF (f32.add 0)) s
def execLfmaxVv (o : OpGl) (s : State) : Res := gVv o (gF (f32.minmax true)) s
def execLfminVv (o : OpGl) (s : State) : Res := gVv o (gF (f32.minmax false)) s
def execLbfaddVv (o : OpGl) (s : State) : Res := gVv o gBfadd s
def execLaddVs (o : OpGl) (s : State) : Res := gVs o (· + ·) s
def execLsubVs (o : OpGl) (s : State) : Res := gVs o (· - ·) s
def execLandVs (o : OpGl) (s : State) : Res := gVs o (· &&& ·) s
def execLorVs (o : OpGl) (s : State) : Res := gVs o (· ||| ·) s
def execLxorVs (o : OpGl) (s : State) : Res := gVs o (· ^^^ ·) s
def execLminVs (o : OpGl) (s : State) : Res := gVs o gMin s
def execLmaxVs (o : OpGl) (s : State) : Res := gVs o gMax s
def execLminuVs (o : OpGl) (s : State) : Res := gVs o gMinu s
def execLmaxuVs (o : OpGl) (s : State) : Res := gVs o gMaxu s
def execLmulVs (o : OpGl) (s : State) : Res := gVs o (· * ·) s
def execLfaddVs (o : OpGl) (s : State) : Res := gVs o (gF (f32.add 0)) s
def execLfmaxVs (o : OpGl) (s : State) : Res := gVs o (gF (f32.minmax true)) s
def execLfminVs (o : OpGl) (s : State) : Res := gVs o (gF (f32.minmax false)) s
def execLbfaddVs (o : OpGl) (s : State) : Res := gVs o gBfadd s
def execLcmpeq (o : OpGcmp) (s : State) : Res := gCmp o (fun x y => decide (x = y)) s
def execLcmpne (o : OpGcmp) (s : State) : Res := gCmp o (fun x y => !decide (x = y)) s
def execLcmplt (o : OpGcmp) (s : State) : Res := gCmp o (fun x y => x.slt y) s
def execLcmpltu (o : OpGcmp) (s : State) : Res := gCmp o (fun x y => x.ult y) s
def execLcmpfeq (o : OpGcmp) (s : State) : Res := gCmp o (gFcmp f32.cmpEq) s
def execLcmpflt (o : OpGcmp) (s : State) : Res := gCmp o (gFcmp f32.cmpLt) s
def execLcmpfle (o : OpGcmp) (s : State) : Res := gCmp o (gFcmp f32.cmpLe) s
def execJand (o : OpJ3) (s : State) : Res := gOp (fun k => k.wj o.d (k.rj o.a &&& k.rj o.b)) s
def execJor (o : OpJ3) (s : State) : Res := gOp (fun k => k.wj o.d (k.rj o.a ||| k.rj o.b)) s
def execJxor (o : OpJ3) (s : State) : Res := gOp (fun k => k.wj o.d (k.rj o.a ^^^ k.rj o.b)) s
def execJandinv (o : OpJ3) (s : State) : Res := gOp (fun k => k.wj o.d (k.rj o.a &&& ~~~(k.rj o.b))) s
def execJtoh (o : OpJtoh) (s : State) : Res := gOp (fun k => k.wh o.d ((k.rj o.a).setWidth 32)) s
def execHtoj (o : OpHtoj) (s : State) : Res := gOp (fun k => k.wj o.d ((k.rh o.a).setWidth 8)) s
def execJcount (o : OpJtoh) (s : State) : Res := gOp (fun k => k.wh o.d (BitVec.ofNat 32 (popcount 8 (k.rj o.a).toNat))) s
def execLbcst (o : OpGbcst) (s : State) : Res := gOp (fun k => k.lanes o.d o.jm (fun _ => k.rh o.a)) s
def execLext (o : OpGlane) (s : State) : Res := gOp (fun k => k.wh o.d (k.ry o.a o.lane)) s
def execLins (o : OpGlane) (s : State) : Res := gOp (fun k => k.wy o.d o.lane (k.rh o.a)) s
def execLredadd (o : OpGl) (s : State) : Res := gRed o (fun a b => ((a + b) % 2 ^ 32, 0)) s
def execLredfadd (o : OpGl) (s : State) : Res := gRed o (f32.add 0) s
def execLredmax (o : OpGl) (s : State) : Res := gRed o (fun a b => (if sx 32 a < sx 32 b then b else a, 0)) s
def execLredmaxu (o : OpGl) (s : State) : Res := gRed o (fun a b => (max a b, 0)) s
def execLredfmax (o : OpGl) (s : State) : Res := gRed o (f32.minmax true) s
def execLredfmin (o : OpGl) (s : State) : Res := gRed o (f32.minmax false) s

/-! Window and state accesses (R407, R408) -/

def execPld (o : OpGi) (s : State) : Res :=
  gRun 1 (fun _ k =>
    let a := k.addrOf o.a o.imm
    if winOk a 4 false then .ok (k.wh o.d (BitVec.ofNat 32 (leNat (k.winRead a 4)))) else .error 3) s
def execPst (o : OpGi) (s : State) : Res :=
  gRun 1 (fun _ k =>
    let a := k.addrOf o.a o.imm
    if winOk a 4 true then .ok (k.winWrite a (natLe 4 (k.rh o.d).toNat)) else .error 3) s
def execPldl (o : OpGi) (s : State) : Res :=
  gRun 1 (fun _ k =>
    let a := k.addrOf o.a o.imm
    if winOk a 32 false then .ok (k.setY o.d (k.winRead a 32)) else .error 3) s
def execPstl (o : OpGi) (s : State) : Res :=
  gRun 1 (fun _ k =>
    let a := k.addrOf o.a o.imm
    if winOk a 32 true then .ok (k.winWrite a (k.yBytes o.d)) else .error 3) s
def execSld (o : OpGi) (s : State) : Res :=
  gRun 2 (fun f k => (k.stRead f (k.addrOf o.a o.imm) 4).map (fun bs =>
    (k.corrected f (k.addrOf o.a o.imm) 4 (Config.freeWord s.tick 8).toNat).wh o.d (BitVec.ofNat 32 (leNat bs)))) s
def execSst (o : OpGi) (s : State) : Res := gRun 1 (fun f k => k.stWrite f (k.addrOf o.a o.imm) (natLe 4 (k.rh o.d).toNat)) s
def execSldl (o : OpGi) (s : State) : Res :=
  gRun 2 (fun f k => (k.stRead f (k.addrOf o.a o.imm) 32).map (fun bs =>
    (k.corrected f (k.addrOf o.a o.imm) 32 (Config.freeWord s.tick 8).toNat).setY o.d bs)) s
def execSstl (o : OpGi) (s : State) : Res := gRun 1 (fun f k => k.stWrite f (k.addrOf o.a o.imm) (k.yBytes o.d)) s
def execPfresh (o : OpPfresh) (s : State) : Res :=
  gOp (fun k =>
    let fresh := leNat (k.winRead 0x30 16)
    let esz := (k.winByte 0x13).toNat
    k.wj o.d (BitVec.ofNat 8 ((List.range 8).foldl (fun v i => setBit v i (freshLane fresh esz (k.addrOf o.a o.imm) i)) 0))) s

/-! Loops, emits and fates (R409 to R412) -/

/-- LOOP (R409): the body is skipped when the count is 0. -/
def execGolpinLoop (o : OpLoop) (s : State) : Res :=
  let k := s.curEng
  let n := min (k.rh o.a).toNat o.max
  .next (s.setCurEng
    (if n = 0 then k.goTo 1 (k.pc + 1 + o.len)
     else { k with loops := { start := k.pc + 1, stop := k.pc + 1 + o.len, left := n } :: k.loops, pc := k.pc + 1, cyc := k.cycles 1 }))

def execEmitSt (o : OpEmit) (s : State) : Res := gEmit false o s
def execEmitWin (o : OpEmit) (s : State) : Res := gEmit true o s

/-- FWD (R410): it waits while the gallery has no room for the packet. -/
def execFwd (s : State) : Res :=
  let k := s.curEng
  match k.cur with
  | none => .next (s.gCommit s.eng 1)
  | some x =>
    let f := s.flowOf s.eng
    if k.winAddr &&& f.mask ≠ f.base ∨ x.pkt.len < k.winLen ∨ (x.pkt.kind = 3 ∧ k.winLen % x.pkt.esz ≠ 0) then
      .next (s.gTrap s.eng 4 0 1)
    else
      match s.deliver (s.eng / 8) f.owner (k.outPacket x.pkt) x.fresh with
      | some s => .next (s.gCommit s.eng 1)
      | none => .next (s.setCurEng { k with cyc := k.cycles 1 })

/-- DROP (R410): a write is answered applied, a read or atomic with an error. -/
def execGolpinDrop (s : State) : Res :=
  s.gAnswer (match s.curEng.cur with
    | some x => if isWrite x.pkt then 0 else 1
    | none => 0) []

/-- REPLY (R410). -/
def execReply (s : State) : Res :=
  let k := s.curEng
  match k.cur with
  | none => .next (s.gCommit s.eng 1)
  | some x =>
    if isWrite x.pkt then .next (s.gTrap s.eng 7 0 1)
    else s.gAnswer 0 (k.winRead 0x40 (if x.pkt.kind = 1 then min k.winLen 256 else 8))

/-- KTRAP (R410, R411). -/
def execKtrap (o : OpKtrap) (s : State) : Res := .next (s.gTrap s.eng 9 o.imm 1)

end Sys2Proof.Machine
end

