-- ==== Sys2Proof/Machine/Vector.lean ====
section
/-! DEFINITION. The vector instructions of chapter "Vector instructions" at commit (R316 to R345): their checks, the operands that
they capture, and what they put into the VIQ; VExec holds what they do at its head. -/

namespace Sys2Proof.Machine

/-! Fields -/

/-- Register numbers of the v fields with bit 5 of the prefix (R264). -/
def pD (p : Option Modifier) (n : Nat) : Nat :=
  match p with
  | some m => n + 32 * m.dh
  | none => n
def pA (p : Option Modifier) (n : Nat) : Nat :=
  match p with
  | some m => n + 32 * m.ah
  | none => n
def pB (p : Option Modifier) (n : Nat) : Nat :=
  match p with
  | some m => n + 32 * m.bh
  | none => n
/-- RM and SAT of the prefix; the defaults without one. -/
def pRm (p : Option Modifier) : Nat :=
  match p with
  | some m => m.rm
  | none => 7
def pSat (p : Option Modifier) : Bool :=
  match p with
  | some m => decide (m.sat = 1)
  | none => false
def pLen (p : Option Modifier) : Nat := longLen p.isSome

/-- The b operand by OK (R316): .vv, .vx, .vi, .vf; `zero` for an immediate that is zero-extended (R324). -/
def Thread.vSrc (t : Thread) (p : Option Modifier) (ok b : Nat) (zero : Bool) : VSrc :=
  match ok with
  | 0 => .reg (pB p b)
  | 1 => .val (t.rx b)
  | 2 => .val (if zero then toW b else sextW 5 b)
  | _ => .val (t.rf b)

/-- A count or index operand, .vx or .vi (R332). -/
def Thread.vCount (t : Thread) (ok b : Nat) : Nat := if ok = 1 then (t.rx b).toNat else b

/-- The start value of a reduction or scan, .vx or .vf (R342). -/
def Thread.vStart (t : Thread) (ok b : Nat) : Word := if ok = 1 then t.rx b else t.rf b

/-- Read-back destination X[d] (R159): an entry for x0 too. -/
def rbX (d : Nat) : Option (Bool × Nat) := some (false, d)

/-! Commit -/

/-- Commits a vector instruction that passes its width check `ok` and the register groups of R318 and R239. -/
def vCommit (p : Option Modifier) (k : Nat) (ok : Thread → Bool) (op : Thread → VOp) (rb : Option (Bool × Nat)) (s : State) : Res :=
  let t := s.cur
  if ok t && (op t).groupsOk (2 ^ t.csew) (8 * 2 ^ t.cnreg) then s.commitV (pLen p) (op t) k (t.rmOf (pRm p)) rb
  else .next (s.precise s.illegal)

/-- Widths: every one; those with a doubled partner (R324); those with a floating-point format (R317). -/
def anySew (_ : Thread) : Bool := true
def halfSew (t : Thread) : Bool := decide (t.csew < 3)
def fpSew (t : Thread) : Bool := decide (t.csew ≠ 0)
/-- The check of a form that is floating-point when OK is .vf. -/
def sewOf (ok : Nat) (t : Thread) : Bool := !decide (ok = 3) || fpSew t

/-! VSETL and VCFG -/

/-- Whether a VLDFF of the thread can still trim VL (R66): it has not begun, or its probe has not reached the last element. -/
def Thread.trimming (t : Thread) : Bool :=
  t.viq.any (fun e => match e.op, e.sect with
    | .mem m, some z => m.first && decide (z.stop < t.vl)
    | .mem m, none => m.first
    | _, _ => false)

/-- VL in program order, after the entries of the VIQ. -/
def Thread.vlAhead (t : Thread) : Nat :=
  (t.viq.foldl (fun (p : Nat × Nat) e => match e.op with
    | .setl v sew => (min v (mvlOf t.vgrant sew p.2), p.2)
    | .cfg _ n => if n = p.2 then p else (0, n)
    | _ => p) (t.vl, t.nreg)).1

def execVsetl (o : OpVsetl) (s : State) : Res :=
  let t := s.cur
  let m := mvlOf t.vgrant o.sew t.cnreg
  let v := min (t.rx o.a).toNat m
  if !t.hnd && t.trimming then .next (s.waiting .vectorDone)
  else s.commitVWith (fun t => { t.wx o.d (toW v) with csew := o.sew, cmvl := m, reqLen := t.rx o.a }) 4 (.setl v o.sew) 0 0 none

def execVcfg (o : OpVcfg) (s : State) : Res :=
  let t := s.cur
  let m := mvlOf t.vgrant o.sew o.nreg
  if !t.hnd && t.trimming then .next (s.waiting .vectorDone)
  else if o.nreg = t.cnreg ∧ m < t.vlAhead then .next (s.precise s.illegal)
  else s.commitVWith (fun t => { t.wx o.d (toW m) with csew := o.sew, cnreg := o.nreg, cmvl := m }) 4 (.cfg o.sew o.nreg) 0 0 none

/-! VINT (R324, R325) -/

/-- An integer operation. -/
def vInt (op : VIntOp) (ok : Thread → Bool) (zero : Bool) (o : OpV) (s : State) : Res :=
  vCommit o.p o.k ok (fun t => .int op (pD o.p o.d) (pA o.p o.a) (t.vSrc o.p o.ok o.b zero)) none s

def execVadd (o : OpV) (s : State) : Res := vInt .add anySew false o s
def execVsub (o : OpV) (s : State) : Res := vInt .sub anySew false o s
def execVsubr (o : OpV) (s : State) : Res := vInt .rsub anySew false o s
def execVmul (o : OpV) (s : State) : Res := vInt .mul anySew false o s
def execVmulhi (o : OpV) (s : State) : Res := vInt .mulhi anySew false o s
def execVmulhiu (o : OpV) (s : State) : Res := vInt .mulhiu anySew false o s
def execVdiv (o : OpV) (s : State) : Res := vInt .div anySew false o s
def execVdivu (o : OpV) (s : State) : Res := vInt .divu anySew false o s
def execVrem (o : OpV) (s : State) : Res := vInt .rem anySew false o s
def execVremu (o : OpV) (s : State) : Res := vInt .remu anySew false o s
def execVand (o : OpV) (s : State) : Res := vInt .and anySew false o s
def execVor (o : OpV) (s : State) : Res := vInt .or anySew false o s
def execVxor (o : OpV) (s : State) : Res := vInt .xor anySew false o s
def execVsll (o : OpV) (s : State) : Res := vInt .sll anySew true o s
def execVsrl (o : OpV) (s : State) : Res := vInt .srl anySew true o s
def execVsra (o : OpV) (s : State) : Res := vInt .sra anySew true o s
def execVmin (o : OpV) (s : State) : Res := vInt .min anySew false o s
def execVmax (o : OpV) (s : State) : Res := vInt .max anySew false o s
def execVminu (o : OpV) (s : State) : Res := vInt .minu anySew false o s
def execVmaxu (o : OpV) (s : State) : Res := vInt .maxu anySew false o s
def execVaddsat (o : OpV) (s : State) : Res := vInt .addsat anySew false o s
def execVaddsatu (o : OpV) (s : State) : Res := vInt .addsatu anySew true o s
def execVsubsat (o : OpV) (s : State) : Res := vInt .subsat anySew false o s
def execVsubsatu (o : OpV) (s : State) : Res := vInt .subsatu anySew false o s
def execVmulq (o : OpV) (s : State) : Res := vInt .mulq anySew false o s
def execVmulw (o : OpV) (s : State) : Res := vInt .mulw halfSew false o s
def execVmulwu (o : OpV) (s : State) : Res := vInt .mulwu halfSew false o s
def execVmacw (o : OpV) (s : State) : Res := vInt .macw halfSew false o s
def execVnarrows (o : OpV) (s : State) : Res := vInt .narrows halfSew true o s
def execVnarrowu (o : OpV) (s : State) : Res := vInt .narrowu halfSew true o s

/-! VFLT (R326, R327) -/

/-- A floating-point operation. -/
def vFlt (op : VFltOp) (o : OpV) (s : State) : Res :=
  vCommit o.p o.k fpSew (fun t => .flt op (pD o.p o.d) (pA o.p o.a) (t.vSrc o.p o.ok o.b false)) none s

/-- A function of one operand. -/
def vFun (op : VFunOp) (o : OpVun) (s : State) : Res :=
  vCommit o.p o.k fpSew (fun _ => .fun1 op (pD o.p o.d) (pA o.p o.a)) none s

def execVfadd (o : OpV) (s : State) : Res := vFlt .add o s
def execVfsub (o : OpV) (s : State) : Res := vFlt .sub o s
def execVfrsub (o : OpV) (s : State) : Res := vFlt .rsub o s
def execVfmul (o : OpV) (s : State) : Res := vFlt .mul o s
def execVfdiv (o : OpV) (s : State) : Res := vFlt .div o s
def execVfmin (o : OpV) (s : State) : Res := vFlt .min o s
def execVfmax (o : OpV) (s : State) : Res := vFlt .max o s
def execVfma (o : OpV) (s : State) : Res := vFlt .fma o s
def execVfnma (o : OpV) (s : State) : Res := vFlt .fnma o s
def execVfsgcpy (o : OpV) (s : State) : Res := vFlt .sgcpy o s
def execVfsginv (o : OpV) (s : State) : Res := vFlt .sginv o s
def execVfsgxor (o : OpV) (s : State) : Res := vFlt .sgxor o s
def execVfsqrt (o : OpVun) (s : State) : Res := vFun .sqrt o s
def execVfexp2 (o : OpVun) (s : State) : Res := vFun .exp2 o s
def execVflog2 (o : OpVun) (s : State) : Res := vFun .log2 o s
def execVfrcp (o : OpVun) (s : State) : Res := vFun .rcp o s
def execVfrsqrt (o : OpVun) (s : State) : Res := vFun .rsqrt o s

/-! Conversions (R328 to R331) -/

/-- SEW must be the narrower of the two widths (R329). -/
def cvtSew (t src : Nat) (th : Thread) : Bool := decide (8 * 2 ^ th.csew = min (cvtWidth t) (cvtWidth src))

def execVfcvt (o : OpVcvt) (s : State) : Res :=
  vCommit o.p o.k (cvtSew o.t o.src) (fun _ => .cvt o.t o.src (pD o.p o.d) (pA o.p o.a) (pSat o.p)) none s

/-- The source format of a stochastic conversion: OK 10 is f32, 11 is f64 (R331). -/
def rsSrc (ok : Nat) : Nat := if ok = 2 then 12 else 13

def execVfcvtRs (o : OpVcvtRs) (s : State) : Res :=
  vCommit (some o.p) o.k (cvtSew o.t (rsSrc o.ok))
    (fun _ => .cvtRs o.t (rsSrc o.ok) (pD (some o.p) o.d) (pA (some o.p) o.a) (pB (some o.p) o.b) (pSat (some o.p))) none s

/-! VMASK: compares (R333) -/

/-- A compare into K[d]. -/
def vCmp (op : CmpOp) (ok : Thread → Bool) (o : OpVcmp) (s : State) : Res :=
  vCommit o.p o.k ok (fun t => .cmp op o.d (pA o.p o.a) (t.vSrc o.p o.ok o.b false)) none s

def execVcmpeq (o : OpVcmp) (s : State) : Res := vCmp .eq anySew o s
def execVcmpne (o : OpVcmp) (s : State) : Res := vCmp .ne anySew o s
def execVcmplt (o : OpVcmp) (s : State) : Res := vCmp .lt anySew o s
def execVcmple (o : OpVcmp) (s : State) : Res := vCmp .le anySew o s
def execVcmpltu (o : OpVcmp) (s : State) : Res := vCmp .ltu anySew o s
def execVcmpleu (o : OpVcmp) (s : State) : Res := vCmp .leu anySew o s
def execVfcmpeq (o : OpVcmp) (s : State) : Res := vCmp .feq fpSew o s
def execVfcmpne (o : OpVcmp) (s : State) : Res := vCmp .fne fpSew o s
def execVfcmplt (o : OpVcmp) (s : State) : Res := vCmp .flt fpSew o s
def execVfcmple (o : OpVcmp) (s : State) : Res := vCmp .fle fpSew o s

/-! Queues, mask logic and counts (R334 to R336) -/

def execVqget (o : OpVqget) (s : State) : Res :=
  vCommit o.p o.k (fun t => t.qMayGet o.q 1) (fun _ => .qget (pD o.p o.d) o.q) none s

def execVqput (o : OpVqput) (s : State) : Res :=
  vCommit o.p 0 (fun t => t.qMayPut o.q 1) (fun t => .qput o.q (pA o.p o.a) (t.vCount o.ok o.b)) none s

/-- Mask logic. -/
def vLogic (op : Nat) (o : OpKlogic) (s : State) : Res := vCommit o.p o.k anySew (fun _ => .klogic op o.d o.a o.b) none s

def execKand (o : OpKlogic) (s : State) : Res := vLogic 0 o s
def execKor (o : OpKlogic) (s : State) : Res := vLogic 1 o s
def execKxor (o : OpKlogic) (s : State) : Res := vLogic 2 o s
def execKandinv (o : OpKlogic) (s : State) : Res := vLogic 3 o s
def execKcount (o : OpKcount) (s : State) : Res := vCommit o.p o.k anySew (fun _ => .kcount o.d o.a) (rbX o.d) s
def execKffs (o : OpKcount) (s : State) : Res := vCommit o.p o.k anySew (fun _ => .kffs o.d o.a) (rbX o.d) s

/-! Permutes and moves (R337 to R341) -/

def execVshup (o : OpV) (s : State) : Res :=
  vCommit o.p o.k anySew (fun t => .shup (pD o.p o.d) (pA o.p o.a) (t.vCount o.ok o.b)) none s
def execVshdn (o : OpV) (s : State) : Res :=
  vCommit o.p o.k anySew (fun t => .shdn (pD o.p o.d) (pA o.p o.a) (t.vCount o.ok o.b)) none s
def execVpick (o : OpV) (s : State) : Res :=
  vCommit o.p o.k anySew (fun t => .pick (pD o.p o.d) (pA o.p o.a) (t.vSrc o.p o.ok o.b true)) none s
def execVcompact (o : OpVcompact) (s : State) : Res :=
  vCommit o.p 0 anySew (fun _ => .compact (pD o.p o.d) (pA o.p o.a) o.b) none s
def execVassign (o : OpVbd) (s : State) : Res :=
  vCommit o.p o.k anySew (fun t => .assign (pD o.p o.d) (t.vSrc o.p o.ok o.b false)) none s
def execVramp (o : OpVbd) (s : State) : Res :=
  vCommit o.p o.k anySew (fun t => .ramp (pD o.p o.d) (if o.ok = 1 then t.rx o.b else sextW 5 o.b)) none s
def execVgetx (o : OpVget) (s : State) : Res :=
  vCommit o.p 0 anySew (fun t => .getx o.d (pA o.p o.a) (t.vCount o.ok o.b)) (rbX o.d) s
def execVgetf (o : OpVget) (s : State) : Res :=
  vCommit o.p 0 anySew (fun t => .getf o.d (pA o.p o.a) (t.vCount o.ok o.b)) (some (true, o.d)) s

/-! Reductions, scans and random numbers (R342 to R345) -/

/-- A fold: 0 addition, 1 minimum, 2 maximum; its result goes to X[d] for .vx and to F[d] for .vf. -/
def vFold (op : Nat) (o : OpV) (s : State) : Res :=
  vCommit o.p o.k (sewOf o.ok) (fun t => .fold op o.d (pA o.p o.a) (t.vStart o.ok o.b) (decide (o.ok = 3)))
    (if o.ok = 3 then some (true, o.d) else rbX o.d) s

def execVfoldadd (o : OpV) (s : State) : Res := vFold 0 o s
def execVfoldmin (o : OpV) (s : State) : Res := vFold 1 o s
def execVfoldmax (o : OpV) (s : State) : Res := vFold 2 o s
def execVredmaxi (o : OpVad) (s : State) : Res :=
  vCommit o.p o.k (sewOf o.ok) (fun _ => .redmax o.d (pA o.p o.a) (decide (o.ok = 3))) (rbX o.d) s
def execVscan (o : OpV) (s : State) : Res :=
  vCommit o.p o.k (sewOf o.ok) (fun t => .scan (pD o.p o.d) (pA o.p o.a) (t.vStart o.ok o.b) (decide (o.ok = 3))) none s
def execVrand (o : OpVrand) (s : State) : Res :=
  vCommit o.p o.k anySew (fun t => .rand (pD o.p o.d) (t.rx o.a) ((t.rx o.b).toNat + (t.rx (o.b + 1)).toNat * 2 ^ 64)) none s

end Sys2Proof.Machine
end

