-- ==== Sys2Proof/Machine/VectorMem.lean ====
section
/-! DEFINITION. The vector memory instructions, vector atomics and barriers at commit (R346 to R350, R360, R361, R365, R366); VMem
and Stream hold what they do at the head of the VIQ. -/

namespace Sys2Proof.Machine

/-- Prefix fields of a memory access (R264, R349). -/
def pO (p : Option Modifier) : Bool :=
  match p with
  | some m => decide (m.o = 1)
  | none => false
def pP (p : Option Modifier) : Bool :=
  match p with
  | some m => decide (m.p = 1)
  | none => false
def pFe (p : Option Modifier) : Nat :=
  match p with
  | some m => m.fe
  | none => 0
def pOrd (p : Option Modifier) : Nat :=
  match p with
  | some m => m.ord
  | none => 0
def pScope (p : Option Modifier) : Nat :=
  match p with
  | some m => m.scope
  | none => 0

/-- The record that a memory instruction captures, with the fields of its prefix. -/
def vMemOf (p : Option Modifier) (kind : VMemKind) (d : Nat) (base stride : Word) (idx : Option (Nat × Nat)) : VMem :=
  { kind := kind, d := pD p d, base := base, stride := stride, idx := idx, shaft := false, first := false, acquire := false
    o := pO p, p := pP p, fe := pFe p, ord := pOrd p, scope := pScope p }

/-- Commits a memory instruction that passes the checks of R350; scope codes 101 to 111 are illegal (R123). -/
def vmCommit (p : Option Modifier) (k : Nat) (ok : Thread → Bool) (m : Thread → VMem) (s : State) : Res :=
  let t := s.cur
  let r := m t
  if ok t && decide (r.scope < 5) && r.groupsOk (2 ^ t.csew) (8 * 2 ^ t.cnreg) then s.commitV (pLen p) (.mem r) k 0 none
  else .next (s.precise s.illegal)

/-- The stride of a unit-stride access: the element width. -/
def Thread.unit (t : Thread) : Word := toW (2 ^ t.csew)

/-- The stride of VLD and VST: X[b], or the element width when field b is 0 (R351). -/
def Thread.strideOf (t : Thread) (b : Nat) : Word := if b = 0 then t.unit else t.rx b

/-- A unit-stride or strided access. -/
def vPlain (kind : VMemKind) (o : OpVmem) (s : State) : Res :=
  vmCommit o.p o.k anySew (fun t => vMemOf o.p kind o.d (t.rx o.a) (t.strideOf o.b) none) s

/-- A unit-stride access of one of the special forms. -/
def vUnit (kind : VMemKind) (shaft first : Bool) (o : OpVmem1) (s : State) : Res :=
  vmCommit o.p o.k anySew (fun t => { vMemOf o.p kind o.d (t.rx o.a) t.unit none with shaft := shaft, first := first }) s

/-- An indexed access. -/
def vIndexed (kind : VMemKind) (ok : Thread → Bool) (acquire : Bool) (o : OpVmemX) (s : State) : Res :=
  vmCommit o.p o.k ok (fun t =>
    { vMemOf o.p kind o.d (t.rx o.a) 0 (some (pB o.p o.b, 2 ^ o.iw)) with acquire := acquire }) s

/-- An access with a full/empty qualifier, of either addressing form (R359). -/
def vFe (kind : VMemKind) (o : OpVmemFe) (s : State) : Res :=
  vmCommit (some o.p) o.k anySew (fun t =>
    if o.indexed then vMemOf (some o.p) kind o.d (t.rx o.a) 0 (some (pB (some o.p) o.b, 2 ^ o.iw))
    else vMemOf (some o.p) kind o.d (t.rx o.a) (t.strideOf o.b) none) s

def execVld (o : OpVmem) (s : State) : Res := vPlain .load o s
def execVst (o : OpVmem) (s : State) : Res := vPlain .store o s
def execVldx (o : OpVmemX) (s : State) : Res := vIndexed .load anySew false o s
def execVstx (o : OpVmemX) (s : State) : Res := vIndexed .store anySew false o s
def execVlda (o : OpVmemX) (s : State) : Res := vIndexed .load anySew true o s
def execVldff (o : OpVmem1) (s : State) : Res := vUnit .load false true o s
def execVldsh (o : OpVmem1) (s : State) : Res := vUnit .load true false o s
def execVstsh (o : OpVmem1) (s : State) : Res := vUnit .store true false o s
def execVldFe (o : OpVmemFe) (s : State) : Res := vFe .load o s
def execVldTake (o : OpVmemFe) (s : State) : Res := vFe .load o s
def execVstFill (o : OpVmemFe) (s : State) : Res := vFe .store o s

/-! Vector atomics (R360) -/

/-- VAMO runs at SEW 32 or 64 (R350). -/
def vAmo (op : AmoOp) (o : OpVmemX) (s : State) : Res := vIndexed (.amo op) (fun t => decide (2 ≤ t.csew)) false o s

def execVamoSwap (o : OpVmemX) (s : State) : Res := vAmo .swap o s
def execVamoAdd (o : OpVmemX) (s : State) : Res := vAmo .add o s
def execVamoAnd (o : OpVmemX) (s : State) : Res := vAmo .and o s
def execVamoOr (o : OpVmemX) (s : State) : Res := vAmo .or o s
def execVamoXor (o : OpVmemX) (s : State) : Res := vAmo .xor o s
def execVamoMin (o : OpVmemX) (s : State) : Res := vAmo .min o s
def execVamoMax (o : OpVmemX) (s : State) : Res := vAmo .max o s
def execVamoMinu (o : OpVmemX) (s : State) : Res := vAmo .minu o s
def execVamoMaxu (o : OpVmemX) (s : State) : Res := vAmo .maxu o s
def execVamoFadd (o : OpVmemX) (s : State) : Res := vAmo .fadd o s
def execVamoFmax (o : OpVmemX) (s : State) : Res := vAmo .fmax o s
def execVamoCas (o : OpVmemX) (s : State) : Res := vAmo .cas o s

/-! Barriers (R350, R365, R366) -/

/-- A cohort member whose entry has barrier `n` (R29, R279). -/
def Thread.hasBarrier (t : Thread) (n : Nat) : Bool := t.info.cohort && decide (n < t.info.nbar)

def execBarArr (o : OpBarArr) (s : State) : Res :=
  if s.cur.hasBarrier o.n && decide (pScope o.p < 5) then s.commitV (pLen o.p) (.barArr o.d o.n (pScope o.p)) 0 0 (rbX o.d)
  else .next (s.precise s.illegal)

/-- A BAR.WAIT that has been committed stands in the VIQ until the vector stream releases the scalar stream. -/
def execBarWait (o : OpBarWait) (s : State) : Res :=
  let t := s.cur
  if t.hasBarrier o.n && decide (pScope o.p < 5) then
    if t.viq.any (fun e => decide (e.pc = t.pc) && (match e.op with
        | .barWait _ _ _ _ => true
        | _ => false)) then .next (s.waiting .barrier)
    else s.commitV (pLen o.p) (.barWait o.n (pScope o.p) (t.barTarget (t.rx o.a)) (pLen o.p)) 0 0 none
  else .next (s.precise s.illegal)

/-! MTOV (R377) -/

/-- What an MTOV holds, or will hold, of the physical tiles (R188): none for a dead tile and a row that has been kept. -/
def Thread.mtovKey (t : Thread) (before : List TEntry) (tile : Nat) (pin : Option TilePin) : Option Nat :=
  match pin with
  | some (.phys pt) => some pt
  | some _ => none
  | none =>
    match t.tileView before tile with
    | .dead => none
    | .phys pt => some pt
    | _ =>
      let writer := match before.reverse.find? (fun e => (e.effect tile).isSome) with
        | some e => e.cmd
        | none => 0
      some (1024 + 512 * writer + tile)

/-- Whether one more MTOV would hold a 25th physical tile (R188, R377). -/
def Thread.mtovFull (t : Thread) (tile : Nat) : Bool :=
  let held := t.viq.foldl (fun l e => match e.op with
    | .mtov _ x _ pin => (optList (t.mtovKey (t.winBefore e.order) x pin)).foldl sadd l
    | _ => l) []
  match t.mtovKey t.win tile none with
  | some k => !shas held k && decide (24 ≤ held.length)
  | none => false

/-- Fixes the tile of an MTOV that has just been committed. -/
def fixMtovs (r : Res) : Res :=
  match r with
  | .next s => .next (s.resolveMtovs s.hart)
  | r => r

/-- The tile of an MTOV is fixed at commit: its newest version ahead of it in the window, or the tile's own (R377). -/
def execMtov (o : OpMtov) (s : State) : Res :=
  let t := s.cur
  let row := (t.rx o.xa).toNat
  if decide (row < 64) && (VOp.mtov o.vd o.ta row none).groupsOk (2 ^ t.csew) (8 * 2 ^ t.cnreg) then
    if !t.hnd && t.mtovFull o.ta then .next (s.waiting .mtov)
    else fixMtovs (s.commitV 8 (.mtov o.vd o.ta row none) 0 0 none)
  else .next (s.precise s.illegal)

end Sys2Proof.Machine
end

