-- ==== Sys2Proof/Machine/Tile.lean ====
section
/-! DEFINITION. The tile instructions at commit (R368 to R384): their checks, and the operands that they capture; TileRun holds what they
do in the window. -/

namespace Sys2Proof.Machine

/-- A commit in which an illegal-instruction cause precedes a misaligned one, and that an access fault (R230): `legal` holds the
first checks, `trap` the others. -/
def checked (legal : Thread → Bool) (trap : Thread → Option Pend) (go : State → Res) (s : State) : Res :=
  let t := s.cur
  if t.hnd || !legal t then .next (s.precise s.illegal)
  else match trap t with
    | some p => .next (s.precise p)
    | none => go s

/-- Commits a tile instruction. -/
def tCommit (legal : Thread → Bool) (trap : Thread → Option Pend) (op : Thread → TOp) (s : State) : Res :=
  checked legal trap (fun s => s.commitT 8 (op s.cur)) s

def allLegal (_ : Thread) : Bool := true
def noTrap (_ : Thread) : Option Pend := none

/-- The misaligned trap for the first of some values that is no multiple of `n` (R230), with the KIND of its record (R185). -/
def misaligned (n kind : Nat) (vs : List Word) : Option Pend :=
  (vs.find? (fun v => decide (v.toNat % n ≠ 0))).map (fun v => Pend.addr 4 v kind 0 0)

/-- A v register number below the register count (R64, R368). -/
def Thread.hasV (t : Thread) (n : Nat) : Bool := decide (n < 8 * 2 ^ t.cnreg)

/-- A row number (R377, R378). -/
def isRow (w : Word) : Bool := decide (w.toNat < 64)

/-- The shape that an instruction resolves to at commit: the latest earlier MCFG, or TSHAPE (R369). -/
def Thread.shapeNow (t : Thread) : Word :=
  match t.win.reverse.findSome? (fun e => match e.op with
    | .mcfg v => some v
    | _ => none) with
  | some v => v
  | none => t.tshape

/-! Shape, load, store and tile state (R371 to R373) -/

/-- The operand formats that go together (R371). -/
def shapePair (a b : Nat) : Bool :=
  (decide (a < 2) && decide (b < 2)) || (decide (a = b) && decide (2 ≤ a) && decide (a ≤ 4)) ||
  (decide (a = 5 ∨ a = 6) && decide (b = 5 ∨ b = 6))

/-- Largest K of a format on a core of width `g` (R78). -/
def shapeMaxK (a g : Nat) : Nat := if a = 2 ∨ a = 3 then 128 * g else if a = 4 then 512 * g else 256 * g

/-- The limits of R78 and R371. -/
def shapeOk (v : Word) (g : Nat) : Bool :=
  decide (v.toNat < 2 ^ 34) && decide (1 ≤ shapeM v) && decide (shapeM v ≤ 64) && decide (1 ≤ shapeN v) && decide (shapeN v ≤ 64) &&
  decide (1 ≤ shapeK v) && decide (shapeK v ≤ shapeMaxK (shapeA v) g) && shapePair (shapeA v) (shapeB v)

def execMcfg (o : OpXa) (s : State) : Res :=
  tCommit (fun t => shapeOk (t.rx o.xa) t.gang) noTrap (fun t => .mcfg (t.rx o.xa)) s

/-- A stride whose rows do not overlap (R372). -/
def strideOk (w : Word) (g : Nat) (zero : Bool) : Bool := decide (256 * g ≤ (wInt w).natAbs) || (zero && decide (w = 0))

def execMld (o : OpMld) (s : State) : Res :=
  tCommit (fun t => strideOk (t.rx o.xb) t.gang true) (fun t => misaligned 16 5 [t.rx o.xa, t.rx o.xb])
    (fun t => .mld o.td (t.rx o.xa) (t.rx o.xb)) s
def execMst (o : OpMst) (s : State) : Res :=
  tCommit (fun t => strideOk (t.rx o.xb) t.gang false) (fun t => misaligned 16 5 [t.rx o.xa, t.rx o.xb])
    (fun t => .mst o.ta o.la (t.rx o.xa) (t.rx o.xb)) s
def execMzero (o : OpTd) (s : State) : Res := tCommit allLegal noTrap (fun _ => .mzero o.td) s
def execMpref (o : OpTa) (s : State) : Res := tCommit allLegal noTrap (fun _ => .mpref o.ta) s
def execMdrop (o : OpTd) (s : State) : Res := tCommit allLegal noTrap (fun _ => .mdrop o.td) s
def execMopen (o : OpTd) (s : State) : Res := tCommit allLegal noTrap (fun _ => .mopen o.td) s

/-! Matrix multiply-accumulate (R374 to R376) -/

def execMma (o : OpMma) (s : State) : Res :=
  tCommit (fun t => !decide (shapeA t.shapeNow = 4) || (decide (o.ta % 2 = 0) && decide (o.tb % 2 = 0))) noTrap
    (fun t => .mma o.td o.ta o.tb o.la o.lb t.shapeNow) s

def execMmag (o : OpMmag) (s : State) : Res :=
  tCommit (fun t => t.hasV o.va && !decide (shapeA t.shapeNow = 4))
    (fun t => if inWindow (t.rx o.xa).toNat then none else some (Pend.addr 5 (t.rx o.xa) 5 0 0))
    (fun t => .mmag o.td o.va o.tb o.lb (t.rx o.xa) t.shapeNow t.cnreg) s

/-! Rows (R378) -/

def execVtom (o : OpVtom) (s : State) : Res :=
  tCommit (fun t => t.hasV o.va && isRow (t.rx o.xa)) noTrap (fun t => .vtom o.td o.va (t.rx o.xa).toNat t.cnreg) s

/-! Element-wise operations (R379 to R381) -/

def execMtrans (o : OpMtrans) (s : State) : Res :=
  tCommit (fun t => decide ((t.rx o.xa).toNat < 3)) noTrap (fun t => .mtrans o.td o.ta o.la (t.rx o.xa).toNat) s

/-- The formats of MCVT (R380). -/
def cvtTileFmt (c : Nat) : Bool := [0, 2, 4, 8, 9, 10, 11, 12, 14].any (fun x => decide (x = c))

/-- The checks of an MCVT control word and of the tiles it names (R380). -/
def cvtOk (v td ta tb g : Nat) (lb : Bool) : Bool :=
  let t := cvtT v
  let src := cvtS v
  let rs := decide (cvtRm v = 4)
  let es := rowElems g src
  let et := rowElems g t
  decide (v < 2 ^ 15) && cvtTileFmt t && cvtTileFmt src && cvtPair t src && (!cvtSat v || satFmt t) &&
  (rmLegal (cvtRm v) || (rs && decide (src = 12) && rsFmt t)) && decide (cvtPart v < max es et / min es et) &&
  (rs || (decide (tb = 0) && !lb)) && (!decide (t = 14) || decide (td % 2 = 0)) && (!decide (src = 14) || decide (ta % 2 = 0))

def execMcvt (o : OpMcvt) (s : State) : Res :=
  tCommit (fun t => cvtOk (t.rx o.xa).toNat o.td o.ta o.tb t.gang o.lb) noTrap
    (fun t => .mcvt o.td o.ta o.tb o.la o.lb (t.rx o.xa).toNat (t.rmOf (cvtRm (t.rx o.xa).toNat))) s

/-- The control word of MADD and MSCALE (R381). -/
def ctlFmt (v : Word) : Nat := v.toNat % 4
def ctlRm (v : Word) : Nat := v.toNat / 16 % 8
def ctlOk (v : Word) : Bool :=
  decide (v.toNat = ctlFmt v + 16 * ctlRm v) && rmLegal (ctlRm v) && (!decide (ctlFmt v = 3) || decide (ctlRm v = 0))

def execMscale (o : OpMcvt) (s : State) : Res :=
  tCommit (fun t => ctlOk (t.rx o.xa) && decide (ctlFmt (t.rx o.xa) = 0)) noTrap
    (fun t => .mscale o.td o.ta o.tb o.la o.lb (t.rmOf (ctlRm (t.rx o.xa)))) s
def execMadd (o : OpMcvt) (s : State) : Res :=
  tCommit (fun t => ctlOk (t.rx o.xa)) noTrap
    (fun t => .madd o.td o.ta o.tb o.la o.lb (ctlFmt (t.rx o.xa)) (t.rmOf (ctlRm (t.rx o.xa)))) s

/-! Tile sends (R382) -/

/-- The reserved bits and the limits of a destination word. -/
def sendOk (d : Word) : Bool :=
  decide (d.toNat < 2 ^ 43) &&
  (if sendKind d = 0 then decide (d.toNat / 2 ^ 29 % 8 = 0) else decide (sendCore d < 192) && decide (sendOff d % 16 = 0))

def execMsend (o : OpMsend) (s : State) : Res :=
  tCommit (fun t => sendOk (t.rx o.xa)) noTrap (fun t => .msend o.ta o.la (t.rx o.xa)) s

end Sys2Proof.Machine
end

