-- ==== Sys2Proof/Machine/Bobbin.lean ====
section
/-! DEFINITION. The bobbin commands at commit (R385 to R389): their checks in the order of R230, and the operands that they capture;
BobbinOps holds what a bobbin does with them. -/

namespace Sys2Proof.Machine

/-- Commits a bobbin command. -/
def bCommit (bn : Nat) (dst src : Thread → Word) (legal : Thread → Bool) (trap : Thread → Option Pend) (op : Thread → BOp) (s : State) :
    Res :=
  checked legal trap (fun s => s.commitB 8 bn (op s.cur) (dst s.cur) (src s.cur)) s

/-- A signed 32-bit field. -/
def i32At (w : Word) (lo : Nat) : Int := sx 32 (w.toNat / 2 ^ lo % 2 ^ 32)
def n32At (w : Word) (lo : Nat) : Nat := w.toNat / 2 ^ lo % 2 ^ 32
def n16At (w : Word) (lo : Nat) : Nat := w.toNat / 2 ^ lo % 2 ^ 16

/-! CPY (R386) -/

/-- The box of a CPY. -/
structure Box where
  esz : Nat
  n0 : Nat
  n1 : Nat
  n2 : Nat
  d0 : Nat
  d1 : Nat
  d2 : Nat
  s0 : Int
  s1 : Int
  s2 : Int

/-- The shape group that begins at register `xc`. -/
def Thread.box (t : Thread) (xc : Nat) : Box :=
  let a := t.rx xc
  { esz := 2 ^ (a.toNat / 2 ^ 48 % 8), n0 := n16At a 0, n1 := n16At a 16, n2 := n16At a 32
    d0 := n32At (t.rx (xc + 1)) 0, d1 := n32At (t.rx (xc + 1)) 32, d2 := n32At (t.rx (xc + 2)) 0
    s0 := i32At (t.rx (xc + 2)) 32, s1 := i32At (t.rx (xc + 3)) 0, s2 := i32At (t.rx (xc + 3)) 32 }

/-- The legal destinations of R207. -/
def Box.destOk (b : Box) : Bool :=
  decide (b.n0 = 1 ∨ b.esz ≤ b.d0) && decide (b.n1 = 1 ∨ (b.n0 - 1) * b.d0 + b.esz ≤ b.d1) &&
  decide (b.n2 = 1 ∨ (b.n1 - 1) * b.d1 + (b.n0 - 1) * b.d0 + b.esz ≤ b.d2)

def Box.ok (b : Box) (shape : Word) : Bool :=
  decide (shape.toNat < 2 ^ 51) && decide (b.esz < 128) && decide (0 < b.n0) && decide (0 < b.n1) && decide (0 < b.n2) && b.destOk

/-- The strides of a CPY that must be multiples of E. -/
def Box.strides (l : List (Nat × Int)) : List Word := (l.filter (fun x => !decide (x.1 = 1))).map (fun x => toW (wrap 64 x.2))

/-- The misaligned trap of a CPY, in the order of R230. -/
def Box.misaligned (b : Box) (dst src : Word) : Option Pend :=
  (Sys2Proof.Machine.misaligned b.esz 7 [dst]).orElse fun _ => (Sys2Proof.Machine.misaligned b.esz 6 [src]).orElse fun _ =>
    (Sys2Proof.Machine.misaligned b.esz 7 (Box.strides [(b.n0, b.d0), (b.n1, b.d1), (b.n2, b.d2)])).orElse fun _ =>
      Sys2Proof.Machine.misaligned b.esz 6 (Box.strides [(b.n0, b.s0), (b.n1, b.s1), (b.n2, b.s2)])

def execCpy (o : OpCpy) (s : State) : Res :=
  bCommit o.bb (fun t => t.rx o.xa) (fun t => t.rx o.xb) (fun t => (t.box o.xc).ok (t.rx o.xc))
    (fun t => (t.box o.xc).misaligned (t.rx o.xa) (t.rx o.xb))
    (fun t => let b := t.box o.xc; .cpy b.esz b.n0 b.n1 b.n2 b.d0 b.d1 b.d2 b.s0 b.s1 b.s2) s

/-! CPYROWS (R387) -/

/-- Row length, count and index width of the control word. -/
def rowsLen (v : Word) : Nat := v.toNat % 2 ^ 32
def rowsCount (v : Word) : Nat := v.toNat / 2 ^ 32 % 2 ^ 20
def rowsIw (v : Word) : Nat := v.toNat / 2 ^ 56 % 2

def rowsOk (v : Word) : Bool :=
  decide (v.toNat = rowsLen v + 2 ^ 32 * rowsCount v + 2 ^ 56 * rowsIw v) && decide (rowsLen v % 16 = 0) && decide (16 ≤ rowsLen v) &&
  decide (rowsLen v ≤ 65536) && decide (1 ≤ rowsCount v)

/-- The registers of the index elements: at most 8, below the register count. -/
def Thread.rowsFit (t : Thread) (va : Nat) (v : Word) : Bool :=
  decide (rowsRegs (rowsCount v) (rowsIw v) (t.regBytes t.cnreg) ≤ min 8 (8 * 2 ^ t.cnreg - va))

/-- The destination range in the scratchpad window. -/
def rowsInside (a : Word) (v : Word) (g : Nat) : Bool :=
  decide (spadBase ≤ a.toNat) && decide (a.toNat - spadBase + rowsCount v * rowsLen v ≤ g * 2 ^ 22)

def execCpyrows (o : OpCpyrows) (s : State) : Res :=
  bCommit o.bb (fun t => t.rx o.xa) (fun t => t.rx o.xb) (fun t => rowsOk (t.rx o.xc) && t.rowsFit o.va (t.rx o.xc))
    (fun t => (misaligned 16 7 [t.rx o.xa]).orElse (fun _ =>
      if rowsInside (t.rx o.xa) (t.rx o.xc) t.gang then none else some (Pend.addr 5 (t.rx o.xa) 7 0 0)))
    (fun t => .rows (rowsLen (t.rx o.xc)) (rowsCount (t.rx o.xc)) (rowsIw (t.rx o.xc)) o.va o.kb t.cnreg) s

/-! CPYV (R388) -/

def execCpyv (o : OpCpyv) (s : State) : Res :=
  let regs := fun (v : Word) => 2 ^ (v.toNat % 4)
  let dir := fun (v : Word) => v.toNat / 16 % 2
  bCommit o.bb (fun t => t.rx o.xa) (fun _ => 0)
    (fun t => let v := t.rx o.xb
      decide (v.toNat = v.toNat % 4 + 16 * dir v) && VGrp.fits (8 * 2 ^ t.cnreg) ⟨o.vd, regs v, 2 ^ t.csew⟩)
    (fun t => misaligned (2 ^ t.csew) (if (t.rx o.xb).toNat / 16 % 2 = 0 then 6 else 7) [t.rx o.xa])
    (fun t => let v := t.rx o.xb
      .cpyv (dir v) (regs v) o.vd (2 ^ t.csew) t.cnreg (t.regBytes t.cnreg)) s

/-! CPYRED (R389) -/

def redCount (v : Word) : Nat := v.toNat % 2 ^ 32
def redOp (v : Word) : Nat := v.toNat / 2 ^ 32
/-- E of an operation. -/
def redEsz (op : Nat) : Nat := if op = 1 then 2 else if op = 3 then 8 else 4

def execCpyred (o : OpCpy) (s : State) : Res :=
  bCommit o.bb (fun t => t.rx o.xa) (fun t => t.rx o.xb) (fun t => decide (redOp (t.rx o.xc) < 8) && decide (1 ≤ redCount (t.rx o.xc)))
    (fun t => (misaligned (redEsz (redOp (t.rx o.xc))) 7 [t.rx o.xa]).orElse fun _ => misaligned (redEsz (redOp (t.rx o.xc))) 6 [t.rx o.xb])
    (fun t => .red (redOp (t.rx o.xc)) (redEsz (redOp (t.rx o.xc))) (redCount (t.rx o.xc))) s

end Sys2Proof.Machine
end

