-- ==== Sys2Proof/Machine/ScalarInt.lean ====
section
/-! DEFINITION. Integer and address arithmetic (R292 to R294), control transfer (R295), and the hints (R262). -/

namespace Sys2Proof.Machine

/-- X[d] := f X[a]. -/
def aluImm (len d a : Nat) (f : Word → Word) (s : State) : Res := regOp len s (fun t => t.wx d (f (t.rx a)))

/-- X[d] := f X[a] X[b]. -/
def aluReg (len d a b : Nat) (f : Word → Word → Word) (s : State) : Res := regOp len s (fun t => t.wx d (f (t.rx a) (t.rx b)))

def execAddi (o : OpI) (s : State) : Res := aluImm 4 o.d o.a (· + imm15 o.imm) s
def execLui (o : OpJ) (s : State) : Res := regOp 4 s (fun t => t.wx o.d (upper o.imm))
def execAddpc (o : OpJ) (s : State) : Res := regOp 4 s (fun t => t.wx o.d (t.pc + upper o.imm))

def execSlli (o : OpShift) (s : State) : Res := aluImm 4 o.d o.a (· <<< o.sh) s
def execSrli (o : OpShift) (s : State) : Res := aluImm 4 o.d o.a (· >>> o.sh) s
def execSrai (o : OpShift) (s : State) : Res := aluImm 4 o.d o.a (fun x => x.sshiftRight o.sh) s
def execAndi (o : OpImm12) (s : State) : Res := aluImm 4 o.d o.a (· &&& imm12 o.imm) s
def execOri (o : OpImm12) (s : State) : Res := aluImm 4 o.d o.a (· ||| imm12 o.imm) s
def execXori (o : OpImm12) (s : State) : Res := aluImm 4 o.d o.a (· ^^^ imm12 o.imm) s
def execSetlti (o : OpImm12) (s : State) : Res := aluImm 4 o.d o.a (fun x => bit1 (x.slt (imm12 o.imm))) s
def execSetltiu (o : OpImm12) (s : State) : Res := aluImm 4 o.d o.a (fun x => bit1 (x.ult (imm12 o.imm))) s

def execAdd (o : OpRRR) (s : State) : Res := aluReg 4 o.d o.a o.b (· + ·) s
def execSub (o : OpRRR) (s : State) : Res := aluReg 4 o.d o.a o.b (· - ·) s
def execAndR (o : OpRRR) (s : State) : Res := aluReg 4 o.d o.a o.b (· &&& ·) s
def execOrR (o : OpRRR) (s : State) : Res := aluReg 4 o.d o.a o.b (· ||| ·) s
def execXorR (o : OpRRR) (s : State) : Res := aluReg 4 o.d o.a o.b (· ^^^ ·) s
def execSll (o : OpRRR) (s : State) : Res := aluReg 4 o.d o.a o.b (fun x y => x <<< (y.toNat % 64)) s
def execSrl (o : OpRRR) (s : State) : Res := aluReg 4 o.d o.a o.b (fun x y => x >>> (y.toNat % 64)) s
def execSra (o : OpRRR) (s : State) : Res := aluReg 4 o.d o.a o.b (fun x y => x.sshiftRight (y.toNat % 64)) s
def execSetlt (o : OpRRR) (s : State) : Res := aluReg 4 o.d o.a o.b (fun x y => bit1 (x.slt y)) s
def execSetltu (o : OpRRR) (s : State) : Res := aluReg 4 o.d o.a o.b (fun x y => bit1 (x.ult y)) s
def execMinR (o : OpRRR) (s : State) : Res := aluReg 4 o.d o.a o.b (fun x y => if y.slt x then y else x) s
def execMaxR (o : OpRRR) (s : State) : Res := aluReg 4 o.d o.a o.b (fun x y => if x.slt y then y else x) s
def execMinu (o : OpRRR) (s : State) : Res := aluReg 4 o.d o.a o.b (fun x y => if y.ult x then y else x) s
def execMaxu (o : OpRRR) (s : State) : Res := aluReg 4 o.d o.a o.b (fun x y => if x.ult y then y else x) s
def execAndinv (o : OpRRR) (s : State) : Res := aluReg 4 o.d o.a o.b (fun x y => x &&& ~~~y) s
def execOrinv (o : OpRRR) (s : State) : Res := aluReg 4 o.d o.a o.b (fun x y => x ||| ~~~y) s
def execMul (o : OpRRR) (s : State) : Res := aluReg 4 o.d o.a o.b (· * ·) s
def execMulhi (o : OpRRR) (s : State) : Res := aluReg 4 o.d o.a o.b (wOp (mulHigh 64 true true)) s
def execMulhiu (o : OpRRR) (s : State) : Res := aluReg 4 o.d o.a o.b (wOp (mulHigh 64 false false)) s
def execMulhmix (o : OpRRR) (s : State) : Res := aluReg 4 o.d o.a o.b (wOp (mulHigh 64 true false)) s
def execDiv (o : OpRRR) (s : State) : Res := aluReg 4 o.d o.a o.b (wOp (sdiv 64)) s
def execDivu (o : OpRRR) (s : State) : Res := aluReg 4 o.d o.a o.b (wOp (udiv 64)) s
def execRem (o : OpRRR) (s : State) : Res := aluReg 4 o.d o.a o.b (wOp (srem 64)) s
def execRemu (o : OpRRR) (s : State) : Res := aluReg 4 o.d o.a o.b (wOp urem) s
def execIxadd1 (o : OpRRR) (s : State) : Res := aluReg 4 o.d o.a o.b (fun x y => x <<< 1 + y) s
def execIxadd2 (o : OpRRR) (s : State) : Res := aluReg 4 o.d o.a o.b (fun x y => x <<< 2 + y) s
def execIxadd3 (o : OpRRR) (s : State) : Res := aluReg 4 o.d o.a o.b (fun x y => x <<< 3 + y) s
def execIxadd4 (o : OpRRR) (s : State) : Res := aluReg 4 o.d o.a o.b (fun x y => x <<< 4 + y) s
def execZlead (o : OpRR) (s : State) : Res := aluImm 4 o.d o.a (fun x => toW (leadZeros x.toNat)) s
def execZtrail (o : OpRR) (s : State) : Res := aluImm 4 o.d o.a (fun x => toW (trailZeros x.toNat)) s
def execOnes (o : OpRR) (s : State) : Res := aluImm 4 o.d o.a (fun x => toW (popcount 64 x.toNat)) s

/-! Control transfer -/

/-- Writes the link and goes to the target (R295). -/
def jump (len d : Nat) (t : Word) (s : State) : Res :=
  .next ((s.setCur (s.cur.wx d (s.cur.pc + toW len))).retireTo t)

/-- JALR: an odd target is misaligned, and then neither X[d] nor pc changes (R295). -/
def jumpReg (len d : Nat) (t : Word) (s : State) : Res :=
  if t.toNat % 2 = 1 then .next (s.precise (Pend.plain 0 4 t)) else jump len d t s

/-- A branch of `w` offset bits (R295). -/
def branch (len w off : Nat) (c : Bool) (s : State) : Res :=
  .next (if c then s.retireTo (target s.cur.pc w off) else s.retire len)

def execJal (o : OpJ) (s : State) : Res := jump 4 o.d (target s.cur.pc 20 o.imm) s
def execJalr (o : OpI) (s : State) : Res := jumpReg 4 o.d (s.cur.rx o.a + imm15 o.imm) s
def execBeq (o : OpBranch) (s : State) : Res := branch 4 15 o.off (decide (s.cur.rx o.a = s.cur.rx o.b)) s
def execBne (o : OpBranch) (s : State) : Res := branch 4 15 o.off (!decide (s.cur.rx o.a = s.cur.rx o.b)) s
def execBlt (o : OpBranch) (s : State) : Res := branch 4 15 o.off ((s.cur.rx o.a).slt (s.cur.rx o.b)) s
def execBge (o : OpBranch) (s : State) : Res := branch 4 15 o.off (!(s.cur.rx o.a).slt (s.cur.rx o.b)) s
def execBltu (o : OpBranch) (s : State) : Res := branch 4 15 o.off ((s.cur.rx o.a).ult (s.cur.rx o.b)) s
def execBgeu (o : OpBranch) (s : State) : Res := branch 4 15 o.off (!(s.cur.rx o.a).ult (s.cur.rx o.b)) s

/-! Hints: no-ops (R262) -/

def execNop (s : State) : Res := regOp 4 s id
def execHint (_ : OpHint) (s : State) : Res := regOp 4 s id

end Sys2Proof.Machine
end

