-- ==== Sys2Proof/Machine/ScalarMem.lean ====
section
/-! DEFINITION. Scalar loads and stores (R296 to R298) and scalar atomics (R302 to R305). -/

namespace Sys2Proof.Machine

/-- A load of `n` bytes whose value goes to a register by `wr`. -/
def loadTo (len : Nat) (ea : Word) (n fe : Nat) (word : Bool) (wr : Thread → Nat → Thread) (s : State) : Res :=
  ((s.load ea n fe word).bind fun s v => .ok (s.setCur (wr s.cur v)) ()).finish len

/-- X[d] sign-extended, X[d] zero-extended, F[d] zero-extended (R63, R296). -/
def toXs (d n : Nat) (t : Thread) (v : Nat) : Thread := t.wx d (sextW (8 * n) v)
def toXz (d : Nat) (t : Thread) (v : Nat) : Thread := t.wx d (toW v)
def toF (d : Nat) (t : Thread) (v : Nat) : Thread := t.wf d (toW v)

/-- A store of the low `n` bytes of a register. -/
def storeFrom (len : Nat) (ea : Word) (n : Nat) (v : Word) (fill : Bool) (s : State) : Res :=
  (s.store ea (natLe n v.toNat) fill).finish len

def execLdI8 (o : OpLoad) (s : State) : Res := loadTo (longLen o.long) (s.cur.ea o.a o.imm) 1 0 false (toXs o.d 1) s
def execLdI16 (o : OpLoad) (s : State) : Res := loadTo (longLen o.long) (s.cur.ea o.a o.imm) 2 0 false (toXs o.d 2) s
def execLdI32 (o : OpLoad) (s : State) : Res := loadTo (longLen o.long) (s.cur.ea o.a o.imm) 4 0 false (toXs o.d 4) s
def execLdI64 (o : OpLoad) (s : State) : Res := loadTo (longLen o.long) (s.cur.ea o.a o.imm) 8 0 true (toXz o.d) s
def execLdN8 (o : OpLoad) (s : State) : Res := loadTo (longLen o.long) (s.cur.ea o.a o.imm) 1 0 false (toXz o.d) s
def execLdN16 (o : OpLoad) (s : State) : Res := loadTo (longLen o.long) (s.cur.ea o.a o.imm) 2 0 false (toXz o.d) s
def execLdN32 (o : OpLoad) (s : State) : Res := loadTo (longLen o.long) (s.cur.ea o.a o.imm) 4 0 false (toXz o.d) s
def execLdF16 (o : OpLoad) (s : State) : Res := loadTo (longLen o.long) (s.cur.ea o.a o.imm) 2 0 false (toF o.d) s
def execLdF32 (o : OpLoad) (s : State) : Res := loadTo (longLen o.long) (s.cur.ea o.a o.imm) 4 0 false (toF o.d) s
def execLdF64 (o : OpLoad) (s : State) : Res := loadTo (longLen o.long) (s.cur.ea o.a o.imm) 8 0 false (toF o.d) s

def execStN8 (o : OpStore) (s : State) : Res := storeFrom (longLen o.long) (s.cur.ea o.a o.imm) 1 (s.cur.rx o.b) false s
def execStN16 (o : OpStore) (s : State) : Res := storeFrom (longLen o.long) (s.cur.ea o.a o.imm) 2 (s.cur.rx o.b) false s
def execStN32 (o : OpStore) (s : State) : Res := storeFrom (longLen o.long) (s.cur.ea o.a o.imm) 4 (s.cur.rx o.b) false s
def execStN64 (o : OpStore) (s : State) : Res := storeFrom (longLen o.long) (s.cur.ea o.a o.imm) 8 (s.cur.rx o.b) false s
def execStF16 (o : OpStore) (s : State) : Res := storeFrom (longLen o.long) (s.cur.ea o.a o.imm) 2 (s.cur.rf o.b) false s
def execStF32 (o : OpStore) (s : State) : Res := storeFrom (longLen o.long) (s.cur.ea o.a o.imm) 4 (s.cur.rf o.b) false s
def execStF64 (o : OpStore) (s : State) : Res := storeFrom (longLen o.long) (s.cur.ea o.a o.imm) 8 (s.cur.rf o.b) false s

/-- Width and destination of a load by its kind: the LOAD minors, then the three float loads. -/
def loadWidth (kind : Nat) : Nat :=
  match kind with
  | 0 | 4 => 1
  | 1 | 5 | 7 => 2
  | 2 | 6 | 8 => 4
  | _ => 8
def loadDest (kind d : Nat) : Thread → Nat → Thread :=
  if 7 ≤ kind then toF d else if 4 ≤ kind then toXz d else toXs d (loadWidth kind)

/-- Width and source of a store by its minor. -/
def storeWidth (kind : Nat) : Nat :=
  match kind with
  | 0 => 1
  | 1 | 5 => 2
  | 2 | 6 => 4
  | _ => 8
def Thread.storeSrc (t : Thread) (kind b : Nat) : Word := if 5 ≤ kind then t.rf b else t.rx b

def execLdFe (o : OpLoadFe) (s : State) : Res := loadTo 8 (s.cur.ea o.a o.imm) (loadWidth o.kind) 1 false (loadDest o.kind o.d) s
def execLdTake (o : OpLoadFe) (s : State) : Res := loadTo 8 (s.cur.ea o.a o.imm) (loadWidth o.kind) 2 false (loadDest o.kind o.d) s
def execStFill (o : OpStoreFill) (s : State) : Res :=
  storeFrom 8 (s.cur.ea o.a o.imm) (storeWidth o.kind) (s.cur.storeSrc o.kind o.b) true s

/-! Atomics -/

/-- Operand width of an AMO, and its operands at that width (R303). -/
def amoBytes (o : OpAmo) : Nat := if o.w = 0 then 4 else 8
def amoCut (o : OpAmo) (v : Word) : Nat := v.toNat % 2 ^ (8 * amoBytes o)

/-- An AMO on x registers: X[d] receives the old value, sign-extended at width 4. -/
def amoX (op : AmoOp) (o : OpAmo) (s : State) : Res :=
  ((s.amo op (s.cur.rx o.a) (amoBytes o) (amoCut o (s.cur.rx o.b)) (amoCut o (s.cur.rx o.d)) o.ord o.scope).bind fun s v =>
    .ok (s.setCur (s.cur.wx o.d (sextW (8 * amoBytes o) v))) ()).finish 4

/-- An AMO on f registers (R303). -/
def amoF (op : AmoOp) (o : OpAmo) (s : State) : Res :=
  ((s.amo op (s.cur.rx o.a) (amoBytes o) (amoCut o (s.cur.rf o.b)) 0 o.ord o.scope).bind fun s v =>
    .ok (s.setCur (s.cur.wf o.d (toW v))) ()).finish 4

def execAmoSwap (o : OpAmo) (s : State) : Res := amoX .swap o s
def execAmoAdd (o : OpAmo) (s : State) : Res := amoX .add o s
def execAmoAnd (o : OpAmo) (s : State) : Res := amoX .and o s
def execAmoOr (o : OpAmo) (s : State) : Res := amoX .or o s
def execAmoXor (o : OpAmo) (s : State) : Res := amoX .xor o s
def execAmoMin (o : OpAmo) (s : State) : Res := amoX .min o s
def execAmoMax (o : OpAmo) (s : State) : Res := amoX .max o s
def execAmoMinu (o : OpAmo) (s : State) : Res := amoX .minu o s
def execAmoMaxu (o : OpAmo) (s : State) : Res := amoX .maxu o s
def execAmoFadd (o : OpAmo) (s : State) : Res := amoF .fadd o s
def execAmoFmax (o : OpAmo) (s : State) : Res := amoF .fmax o s
def execAmoCas (o : OpAmo) (s : State) : Res := amoX .cas o s

/-- Two registers as 16 bytes (R304). -/
def Thread.pair (t : Thread) (n : Nat) : Nat := (t.rx n).toNat + 2 ^ 64 * (t.rx (n + 1)).toNat

def execCas2 (o : OpCas2) (s : State) : Res :=
  ((s.amo .cas2 (s.cur.rx o.a) 16 (s.cur.pair o.b) (s.cur.pair o.d) o.ord o.scope).bind fun s v =>
    .ok (s.setCur ((s.cur.wx o.d (toW v)).wx (o.d + 1) (toW (v / 2 ^ 64)))) ()).finish 4

end Sys2Proof.Machine
end

