-- ==== Sys2Proof/Machine/Compressed.lean ====
section
/-! DEFINITION. Compressed instructions: the effects of their expansions, 2 bytes long (R268, R269). -/

namespace Sys2Proof.Machine

def execCLdI64 (o : OpCM) (s : State) : Res := loadTo 2 (s.cur.cEa o.a 8 o.imm) 8 0 true (toXz (cReg o.d)) s
def execCLdI32 (o : OpCM) (s : State) : Res := loadTo 2 (s.cur.cEa o.a 4 o.imm) 4 0 false (toXs (cReg o.d) 4) s
def execCStN64 (o : OpCM) (s : State) : Res := storeFrom 2 (s.cur.cEa o.a 8 o.imm) 8 (s.cur.rx (cReg o.d)) false s
def execCStN32 (o : OpCM) (s : State) : Res := storeFrom 2 (s.cur.cEa o.a 4 o.imm) 4 (s.cur.rx (cReg o.d)) false s
def execCLdF64 (o : OpCM) (s : State) : Res := loadTo 2 (s.cur.cEa o.a 8 o.imm) 8 0 false (toF (cReg o.d)) s
def execCStF64 (o : OpCM) (s : State) : Res := storeFrom 2 (s.cur.cEa o.a 8 o.imm) 8 (s.cur.rf (cReg o.d)) false s
def execCNop (s : State) : Res := regOp 2 s id
def execCAddi (o : OpCI) (s : State) : Res := aluImm 2 o.d o.d (· + imm6 o.imm) s
def execCLi (o : OpCI) (s : State) : Res := regOp 2 s (fun t => t.wx o.d (imm6 o.imm))
def execCLui (o : OpCI) (s : State) : Res := regOp 2 s (fun t => t.wx o.d (imm6 o.imm * 4096))
def execCSlli (o : OpCI) (s : State) : Res := aluImm 2 o.d o.d (· <<< o.imm) s
def execCAndi (o : OpCI) (s : State) : Res := aluImm 2 o.d o.d (· &&& imm6 o.imm) s
def execCJ (o : OpCJ) (s : State) : Res := jump 2 0 (target s.cur.pc 11 o.off) s
def execCBeqz (o : OpCB) (s : State) : Res := branch 2 8 o.off (decide (s.cur.rx (cReg o.a) = 0)) s
def execCBnez (o : OpCB) (s : State) : Res := branch 2 8 o.off (!decide (s.cur.rx (cReg o.a) = 0)) s
def execCMv (o : OpCR) (s : State) : Res := aluReg 2 o.d 0 o.b (· + ·) s
def execCAdd (o : OpCR) (s : State) : Res := aluReg 2 o.d o.d o.b (· + ·) s
def execCJr (o : OpC1) (s : State) : Res := jumpReg 2 0 (s.cur.rx o.d) s
def execCJalr (o : OpC1) (s : State) : Res := jumpReg 2 31 (s.cur.rx o.d) s
def execCSub (o : OpCR) (s : State) : Res := aluReg 2 o.d o.d o.b (· - ·) s
def execCAnd (o : OpCR) (s : State) : Res := aluReg 2 o.d o.d o.b (· &&& ·) s
def execCOr (o : OpCR) (s : State) : Res := aluReg 2 o.d o.d o.b (· ||| ·) s
def execCXor (o : OpCR) (s : State) : Res := aluReg 2 o.d o.d o.b (· ^^^ ·) s

end Sys2Proof.Machine
end

