-- ==== Sys2Proof/Machine/Gang.lean ====
section
/-! DEFINITION. A change of gang (R13 to R15, R195): its checks and its five steps. -/

namespace Sys2Proof.Machine

/-- A group of R13. -/
def gangOk (p first width : Nat) : Bool :=
  decide (p < 16) && (decide (width = 1) || decide (width = 2) || decide (width = 4)) && decide (first % width = 0) &&
  decide (first + width ≤ 12)

/-- The clusters that a change touches: those of every gang that it groups anew. -/
def State.touched (s : State) (p first width : Nat) : List Nat :=
  (List.range 12).map (12 * p + ·) |>.filter (fun c =>
    (List.range width).any (fun i => decide (s.headOf (12 * p + first + i) = s.headOf c)))

/-- Whether a placed task, or a partition with a live task, holds any of the touched cores. -/
def State.gangHeld (s : State) (cs : List Nat) : Bool :=
  s.threads.any (fun t => !decide (t.2.slot = .free) && shas cs (coreOf t.1)) ||
  s.parts.any (fun p => p.2.cores.any (fun c => shas cs c) &&
    (s.threads.any (fun t => !decide (t.2.slot = .free) && decide (t.2.info.part = p.1)) ||
     s.saved.any (fun v => decide (v.2.thr.info.part = p.1))))

/-- Whether requests wait at banks of the touched cores. -/
def State.gangBusy (s : State) (cs : List Nat) : Bool :=
  s.banks.any (fun b => shas cs (b.1 / 2048) && !b.2.waiting.isEmpty) ||
  s.spadQueue.any (fun q => shas cs (q.1 % 65536 / 256) && !q.2.isEmpty)

def gwCode (width : Nat) : Nat := if width = 2 then 1 else if width = 4 then 2 else 0

/-- The entry of cluster `c` afterwards (R14): a touched cluster outside the new gang is a core of its own. -/
def Cut.regroup (k : Cut) (j first width : Nat) : Cut :=
  if first ≤ j ∧ j < first + width then { k with gw := gwCode width, dorm := decide (j ≠ first), head := decide (j = first) }
  else { k with gw := 0, dorm := false, head := true }

/-- The banks of the touched cores under their new numbers, and the open windows too: core, lane or bank group. -/
def State.renumber (s old : State) (cs : List Nat) : State :=
  let newBank := fun (k : Nat) =>
    let cl := k / 2048 + k / 8 % 256 / 64
    bankKey (s.headOf cl) ((cl - s.headOf cl) * 64 + k / 8 % 64) (k % 8)
  let newShut := fun (k : Nat) =>
    let cl := k / 64 + k % 64 / 16
    s.headOf cl * 64 + (cl - s.headOf cl) * 16 + k % 16
  let banks := (old.banks.filter (fun b => shas cs (b.1 / 2048))).foldl (fun t b => tput t (newBank b.1) b.2)
    (old.banks.filter (fun b => !shas cs (b.1 / 2048)))
  { s with
    banks := banks
    pillars := s.pillars.map (fun p => (p.1, { p.2 with shut :=
      (p.2.shut.filter (fun k => shas cs (k / 64))).foldl (fun l k => sadd l (newShut k)) (p.2.shut.filter (fun k => !shas cs (k / 64))) })) }

/-- Whether a physical address lies in the near region of one of the clusters. -/
def inRegions (cs : List Nat) (pa : Nat) : Bool :=
  match locOf pa with
  | .near c _ => shas cs c
  | _ => false

/-- The near regions and scratchpads of the clusters decode anew (R88, R195): what they hold bears no relation to what was written. -/
def State.decodeAnew (s : State) (cs : List Nat) : State :=
  { s with
    mem := s.mem.filter (fun x => !inRegions cs x.1)
    keys := s.keys.filter (fun x => !inRegions cs (16 * x.1))
    spad := s.spad.filter (fun x => !shas cs (x.1 / 2 ^ 24))
    spadOwner := s.spadOwner.filter (fun x => !shas cs (x.1 / 2 ^ 18))
    spadFull := s.spadFull.filter (fun g => !shas cs (g / 2 ^ 20))
    spadLoose := cs.foldl sadd s.spadLoose }

/-- The five steps of R195. -/
def State.regroup (s : State) (p first width : Nat) : State :=
  let cs := s.touched p first width
  let s := cs.foldl (fun s c => s.evictAll c) s
  let s := cs.foldl (fun s c => (s.l1FlushAll c).icDropAll c) s
  let old := s
  let s := { s with cutwork := cs.foldl (fun t c => tput t c ((s.cut c).regroup (c % 12) first width)) s.cutwork }
  let s := (s.renumber old cs).decodeAnew cs
  cs.foldl (fun s c => s.setCore c { s.core c with tlb := { (s.core c).tlb with entries := [] } }) s

end Sys2Proof.Machine
end

