-- ==== Sys2Proof/Machine/Host.lean ====
section
/-! DEFINITION. The host transport (R425 to R432): receipt and acknowledgement of Ehrez packets, host accesses to the device, what a
bobbin waits for at the host, and the answers to control messages. -/

namespace Sys2Proof.Machine

/-! Control messages -/

/-- Whether a code stands in the table of R430. -/
def ctlKnown (code : Nat) : Bool := decide (code = 1 ∨ code = 2 ∨ (0x10 ≤ code ∧ code ≤ 0x18))

/-- A packet of TYPE 5, with what it carries. -/
def State.ctlReply (s : State) (code status : Nat) (data : List Nat) : State :=
  let s : State := { s with answers := s.answers ++ [{ code := code, status := status, data := data }] }
  s.sendPacket 0 5 0 status []

/-- The received messages that come next and whose codes are unknown are answered with status 7 (R428). -/
def State.ctlUnknown (s : State) : State :=
  (s.ctlIn.takeWhile (fun c => !ctlKnown c)).foldl (fun s c => s.ctlReply c 7 [])
    { s with ctlIn := s.ctlIn.dropWhile (fun c => !ctlKnown c) }

/-- The answer of the device to a control message, which ends it: the next one has its turn (R430). -/
def State.ctlAnswer (s : State) (code status : Nat) (data : List Nat) : State :=
  ({ s with ctlIn := s.ctlIn.tail, ctlHeld := none }.ctlReply code status data).ctlUnknown

/-- A drain is answered once no stop of its partition is left to end, and every update of a completion word has performed (R246, R423): the
number of tasks stopped goes with the answer. -/
def State.answerDrain (s : State) (p : Nat) : State :=
  match (s.part p).owed with
  | none => s
  | some n =>
    let updating := s.remotes.any (fun x => match x.2.src with
      | .update q _ _ _ => decide (q = p)
      | _ => false)
    if updating || s.threads.any (fun x => !decide (x.2.slot = .free) && decide (x.2.info.part = p) && x.2.stopReq.isSome) then s
    else (s.setPart p { s.part p with owed := Option.none }).ctlAnswer 0x15 0 [n]

/-- The drains that a turn has completed. -/
def State.answerDrains (s : State) : State := s.parts.foldl (fun s p => s.answerDrain p.1) s

/-- Whether a message with this code has its turn (R430): the service connection is open, the messages before it have been answered, those
that wait for a shoot-down or a drain among them, and the next received message, if one waits, has its code. -/
def State.serves (s : State) (code : Nat) : Bool :=
  (s.conn 0).opened && !(s.conn 0).failed && !s.shoots.any (fun k => k.2.root.isSome) && !s.parts.any (fun p => p.2.owed.isSome) &&
  decide (s.ctlIn.headD code = code)

/-- Executes a message when it has its turn and no other has begun. -/
def State.control (s : State) (code : Nat) (f : State → State) : Res :=
  .next (if s.serves code && s.ctlHeld.isNone then f s else s)

/-- The same of a message that may wait, once it has begun, for the end of its effect. -/
def State.controlAs (s : State) (code : Nat) (m : HeldMsg) (f : State → State) : Res :=
  .next (if s.serves code && (s.ctlHeld.isNone || decide (s.ctlHeld = some m)) then f s else s)

/-- A message has begun and is not answered: it holds those that follow. -/
def State.ctlOwe (s : State) (code : Nat) : State := { s with ctlIn := if s.ctlIn.isEmpty then [code] else s.ctlIn }
def State.ctlWait (s : State) (code : Nat) (m : HeldMsg) : State := { s.ctlOwe code with ctlHeld := some m }

/-- A message that acts or is refused with status 6, and then changes nothing. -/
def State.ctlIf (s : State) (code : Nat) (ok : Bool) (f : State → State) : Res :=
  s.control code fun s => if ok then (f s).ctlAnswer code 0 [] else s.ctlAnswer code 6 []

/-- A message that reads. -/
def State.ctlRead (s : State) (code : Nat) (ok : Bool) (data : List Nat) : Res :=
  s.control code fun s => if ok then s.ctlAnswer code 0 data else s.ctlAnswer code 6 []

/-- The digest of the image that runs (R430, R442). -/
def State.digest (s : State) : Nat := Config.digest s.bootImage

/-- REV, STEP, FEAT, serial number, firmware digest and public keys (R286, R430), and their signature by the identity key (R442). -/
def State.identityWords (s : State) : List Nat :=
  let w := [4, 1, 0x3FFF, Config.identity 0, s.digest, Config.identity 2]
  w ++ [Config.sign w]

/-! Sequence numbers (R427) -/

/-- Whether a sequence number comes before another, modulo 2^32. -/
def seqBefore (a b : Nat) : Bool := decide (a ≠ b) && decide ((b + 2 ^ 32 - a) % 2 ^ 32 < 2 ^ 31)

/-- SEQ after that of a packet. -/
def nextOf (p : EhrezPacket) : Nat := (p.seq + 1) % 2 ^ 32

/-- A header that is not dropped (R426), with the payload that it announces. -/
def ehrezFramed (p : EhrezPacket) : Bool :=
  decide (p.ver = 1 ∧ p.type ≤ 7 ∧ p.rsvd = 0 ∧ p.len ≤ 8192 ∧ p.data.length = p.len)

/-- Packets that the ACK of another packet acknowledges leave; a write stays until its own acknowledgement, which carries a status. -/
def Conn.acked (k : Conn) (ack : Nat) : Conn :=
  { k with outq := k.outq.filter (fun o => !seqBefore o.pkt.seq ack || decide (o.pkt.type = 0)) }

/-- The statuses that duplicates are told, after a packet has had its own. -/
def Conn.noted (k : Conn) (seq status : Nat) : Conn :=
  { k with failures := if status = 0 then tdel k.failures seq else tput k.failures seq status }

/-- An acknowledgement of the device, with the status of the packet before ACK. -/
def State.sendAck (s : State) (c ack status : Nat) : State :=
  let p : EhrezPacket := { ver := 1, type := 3, conn := c, seq := (s.conn c).nextSeq, ack := ack, len := 0, addr := 0
                           status := status, rsvd := 0, data := [] }
  { s.setConn c ((s.conn c).noted ((ack + 2 ^ 32 - 1) % 2 ^ 32) status) with outbox := s.outbox ++ [.ehrez p] }

/-- A duplicate is acknowledged again, with the status of the packet (R427); a packet that waits for its turn has its acknowledgement to
come. -/
def State.ackAgain (s : State) (c : Nat) (p : EhrezPacket) : State :=
  let k := s.conn c
  if k.inq.any (fun q => decide (q.seq = p.seq) && decide (q.type ≠ 3)) then s
  else s.sendAck c (nextOf p) (tget k.failures p.seq 0)

def State.ethDrop (s : State) : State := { s with ethDrops := s.ethDrops + 1 }

/-- A packet waits in the ingress queue for its connection (R168). -/
def State.ethQueue (s : State) (c : Nat) (k : Conn) (p : EhrezPacket) : State :=
  { s.setConn c { k with inq := k.inq ++ [p] } with ethIn := s.ethIn + 1 }

/-- A control message is received (R430): its code is the first byte of the payload (DESIGN CHOICE, log 8). It executes, as the event that
names its operands, after the messages before it; an unknown code is answered with status 7 in its turn. -/
def State.ctlReceive (s : State) (p : EhrezPacket) : State :=
  let idle := s.ctlIn.isEmpty
  let t := { s with ctlIn := s.ctlIn ++ [(p.data.headD 0).toNat] }
  if idle then t.ctlUnknown else t

/-- Receipt of a packet (R168, R426, R427, R430). -/
def State.receipt (s : State) (p : EhrezPacket) : State :=
  let c := p.conn
  let k := s.conn c
  if !ehrezFramed p || !k.opened || k.failed || decide (256 ≤ s.ethIn) then s.ethDrop
  else if p.type = 3 then s.ethQueue c k p
  else if p.seq = k.expect then
    let k := { k.acked p.ack with expect := (k.expect + 1) % 2 ^ 32 }
    if p.type < 3 then s.ethQueue c k p
    else if p.type = 4 ∧ c ≠ 0 then (s.setConn c k).sendPacket c 5 0 6 []
    else
      let t := (s.setConn c k).sendAck c k.expect 0
      if p.type = 4 then t.ctlReceive p else t
  else if seqBefore p.seq k.expect then (s.setConn c (k.acked p.ack)).ackAgain c p
  else s.ethDrop

/-- Whether the port takes a frame (R425): IPv6 alone, whole, without extension headers, at most 9,216 bytes, for the port of Ehrez. -/
def ethTaken (f : EthFrame) : Bool := f.ipv6 && !f.fragment && !f.extension && decide (f.size ≤ 9216) && decide (f.port = 47806)

/-- Takes the head packet of a connection from the ingress queue. -/
def State.ethTake (s : State) (c : Nat) : State :=
  { s.setConn c { s.conn c with inq := (s.conn c).inq.tail } with ethIn := s.ethIn - 1 }

/-! Host accesses (R428) -/

/-- A range cut at 16-byte granules: each piece lies in one page, one bank and one line. -/
def granules (fuel va n : Nat) : List (Nat × Nat) :=
  match fuel with
  | 0 => []
  | f + 1 =>
    if n = 0 then []
    else
      let m := min n (16 - va % 16)
      (va, m) :: granules f (va + m) (n - m)

/-- Where a piece of a host access lands. -/
inductive HPlace where
  | spad (c off : Nat) | dram (pa : Nat) | word (off : Nat)
  deriving DecidableEq, Repr

/-- What the checks of a host access say: its pieces, a status, or that it has to wait. -/
inductive HRes where
  | ok (s : State) (l : List (HPlace × Nat))
  | bad (status : Nat)
  | wait (s : State)

/-- The status that answers a fault (R428). -/
def hostStatus (code : Nat) : Nat := if code = 9 then 3 else if code = 6 ∨ code = 7 ∨ code = 8 then 2 else 4

/-- The place of one piece (R85, R100, R205, R242, R244), found through the scheduler TLB (DESIGN CHOICE, log 77). Reads are let into an
offline bank: they are its migration reads. -/
def State.hostPlace (s : State) (o : Nat) (write : Bool) (va n : Nat) : HRes :=
  match s.translate none o (if write then .bdst else .bsrc) va n with
  | .err _ e =>
    if write || decide (e.code ≠ 5) then .bad (hostStatus e.code)
    else match s.translate none o .sload va n with
      | .ok s (.phys pa _ _) => (match locOf pa with
          | .dev off => if n % 8 = 0 ∧ off % 8 = 0 ∧ off < 0xC000000 then .ok s ((List.range (n / 8)).map (fun i => (.word (off + 8 * i), 8)))
            else .bad 4
          | .near _ _ | .main _ | .apert _ _ | .host _ _ | .remote _ _ | .unassigned => .bad 4)
      | _ => .bad 4
  | .miss s => .wait s
  | .ok s (.spad _) => .bad 4
  | .ok s (.phys pa _ _) =>
    match locOf pa with
    | .near _ _ =>
      let (c, lane, bank) := s.bankOf pa
      if s.closed pa && (write || !(s.bank (bankKey c lane bank)).offline) then .wait s
      else if !write && (s.badAt pa n).isSome then .bad 4
      else .ok s [(.dram pa, n)]
    | .main _ => if !write && (s.badAt pa n).isSome then .bad 4 else .ok s [(.dram pa, n)]
    | .apert c off =>
      if !s.isCore c || decide (s.width c * 2 ^ 22 < off + n) || decide ((s.core c).gate = .gated) then .bad 4
      else if (s.core c).gate = .quiescing then .wait s
      else .ok s [(.spad c off, n)]
    | _ => .bad 4

/-- Every piece is checked before any is performed: a failure performs nothing (R428). -/
def State.hostPlaces (s : State) (o : Nat) (write : Bool) (l : List (Nat × Nat)) : HRes :=
  match l with
  | [] => .ok s []
  | (va, n) :: r =>
    match s.hostPlace o write va n with
    | .ok s x => (match s.hostPlaces o write r with
        | .ok s y => .ok s (x ++ y)
        | z => z)
    | z => z

/-- The window check of a connection; an access that RD or WR forbids counts as outside the window (DESIGN CHOICE, log 99). -/
def Conn.within (k : Conn) (va n : Nat) (write : Bool) : Bool :=
  decide (k.base ≤ va) && decide (va + n ≤ k.base + k.len) && (if write then k.wr else k.rd)

def State.hostWriteAt (s : State) (o : Nat) (l : List (HPlace × Nat)) (bs : List Byte) : State :=
  match l with
  | [] => s
  | (p, n) :: r =>
    (match p with
      | .spad c off => s.spadWrite o c off (bs.take n)
      | .dram pa => s.dramWrite o pa (bs.take n)
      | .word _ => s).hostWriteAt o r (bs.drop n)

def State.hostReadAt (s : State) (o : Nat) (l : List (HPlace × Nat)) : List Byte :=
  match l with
  | [] => []
  | (p, n) :: r =>
    (match p with
      | .spad c off => s.spadRead o c off n
      | .dram pa => s.dramRead o pa n
      | .word off => natLe 8 ((s.devRead o off 8).getD 0).toNat) ++ s.hostReadAt o r

/-! Host accesses that travel: the Ethernet port is on port block N0, and its packets take VC3 (R5, R164, R167) -/

/-- The physical address of a piece; a device word has none. -/
def HPlace.pa (p : HPlace) : Option Nat :=
  match p with
  | .spad c off => some (0x10000000000 + c * 2 ^ 24 + off)
  | .dram pa => some pa
  | .word _ => none

/-- Consecutive pieces joined to runs of addresses. -/
def joinRuns (l : List (Nat × Nat)) : List (Nat × Nat) :=
  match l with
  | [] => []
  | (a, n) :: r =>
    match joinRuns r with
    | (b, m) :: t => if a + n = b then (a, n + m) :: t else (a, n) :: (b, m) :: t
    | [] => [(a, n)]

/-- The packets of a host access: up to three lines of one home each. -/
def hostParts (l : List (Nat × Nat)) (write : Bool) (bs : List Byte) : List (Nat × MemReq) :=
  match l with
  | [] => []
  | (a, n) :: r =>
    (lineParts n a (if write then bs.take n else List.replicate n 0) (2 ^ n - 1)).map (fun x =>
      (x.1, if write then .write x.2.1 x.2.2 else .read x.2.1.length)) ++ hostParts r write (bs.drop n)

/-- The packets of an access whose pieces are known: none when it performs where it is made. -/
def State.hostTravels (s : State) (l : List (HPlace × Nat)) (write : Bool) (bs : List Byte) : List (Nat × MemReq) :=
  if !s.travel || l.any (fun x => x.1.pa.isNone) then []
  else hostParts (joinRuns (l.map (fun x => (x.1.pa.getD 0, x.2)))) write bs

/-- A request of the head packet goes into the gallery at port block N0, in the turn of the Ethernet port (R166). -/
def State.hostInject (s : State) (c i : Nat) (x : Nat × MemReq) : Option State :=
  let d := reqPillar x.1
  s.ethTurn 0 fun s => s.inject 0 (blockPillar 0 (d % 4)) (blockPort 0)
    { dest := d, exit := 0, vc := vcBulk, age := 0, load := .req x.1 (s.conn c).owner x.2 (.host c i) }

/-- Sends what finds room: the requests that have not gone out, after those that were answered retry (R242). -/
def State.hostPush (s : State) (c fuel : Nat) : State :=
  match fuel with
  | 0 => s
  | n + 1 =>
    let k := s.conn c
    match k.back.find? (fun b => decide (b.2.1 = 2)) with
    | some b => (match (k.parts[b.1]?).bind (s.hostInject c b.1) with
        | some s => (s.setConn c { k with back := k.back.erase b }).hostPush c n
        | none => s)
    | none => (match (k.parts[k.asked]?).bind (s.hostInject c k.asked) with
        | some s => (s.setConn c { k with asked := k.asked + 1 }).hostPush c n
        | none => s)

/-- Whether every answer has come. -/
def Conn.whole (k : Conn) : Bool := decide (k.back.length = k.parts.length) && k.back.all (fun b => decide (b.2.1 ≠ 2))

/-- The status of a completed access, and the bytes that it has read. -/
def Conn.result (k : Conn) : Nat × List Byte :=
  (if k.back.any (fun b => decide (b.2.1 ≠ 0)) then 4 else 0,
   (List.range k.parts.length).flatMap (fun i => match k.back.find? (fun b => decide (b.1 = i)) with
     | some b => b.2.2
     | none => []))

/-- The access under way goes on; once it is whole, `done` answers it. -/
def State.hostGo (s : State) (c : Nat) (done : State → Nat → List Byte → State) : State :=
  let s := s.hostPush c (2 * (s.conn c).parts.length + 1)
  let k := s.conn c
  if k.whole then done ((s.setConn c { k with parts := [], asked := 0, back := [] }).ethTake c) k.result.1 k.result.2 else s

/-- A host write (R144, R428): it is performed whole and acknowledged, or acknowledged with the status of its failure. -/
def State.hostWrite (s : State) (c : Nat) (p : EhrezPacket) : State :=
  let k := s.conn c
  let done := fun (s : State) (st : Nat) (_ : List Byte) => s.sendAck c (nextOf p) st
  if !k.parts.isEmpty then s.hostGo c done
  else if !k.within p.addr p.len true then (s.ethTake c).sendAck c (nextOf p) 1
  else match s.hostPlaces k.owner true (granules (p.len + 1) p.addr p.len) with
    | .bad st => (s.ethTake c).sendAck c (nextOf p) st
    | .wait s => s
    | .ok s l =>
      match s.hostTravels l true p.data with
      | [] => ((s.hostWriteAt k.owner l p.data).ethTake c).sendAck c (nextOf p) 0
      | ps => (s.setConn c { s.conn c with parts := ps, asked := 0, back := [] }).hostGo c done

/-- A host read (R205, R428): its payload is the number of bytes, and a response of TYPE 2 carries them. -/
def State.hostRead (s : State) (c : Nat) (p : EhrezPacket) : State :=
  let k := s.conn c
  let n := leNat p.data
  let done := fun (s : State) (st : Nat) (bs : List Byte) => s.sendPacket c 2 p.addr st (if st = 0 then bs else [])
  if !k.parts.isEmpty then s.hostGo c done
  else if p.len ≠ 8 ∨ 8192 < n then (s.ethTake c).sendPacket c 2 p.addr 4 []
  else if !k.within p.addr n false then (s.ethTake c).sendPacket c 2 p.addr 1 []
  else match s.hostPlaces k.owner false (granules (n + 1) p.addr n) with
    | .bad st => (s.ethTake c).sendPacket c 2 p.addr st []
    | .wait s => s
    | .ok s l =>
      match s.hostTravels l false [] with
      | [] => (s.ethTake c).sendPacket c 2 p.addr 0 (s.hostReadAt k.owner l)
      | ps => (s.setConn c { s.conn c with parts := ps, asked := 0, back := [] }).hostGo c done

/-! What bobbins wait for at the host (R429) -/

/-- The bobbins that wait for a connection: thread, bobbin, command, sequence number, whether it is a landing. -/
def State.hostWaits (s : State) (c : Nat) : List (Nat × Nat × BCmd × Nat × Bool) :=
  s.threads.flatMap (fun t => t.2.bob.filterMap (fun b => match b.2.queue with
    | [] => none
    | q :: _ => match q.io with
      | some (.hostRead k n) => if k = c then some (t.1, b.1, q, n, false) else none
      | some (.hostWrite k n) => if k = c then some (t.1, b.1, q, n, true) else none
      | _ => none))

/-- Freezes a bobbin at its watermark with code 5. -/
def State.hostFreeze (s : State) (h bn : Nat) (q : BCmd) (dst : Bool) : State :=
  let w := tlCount ((s.thr h).rwm bn)
  let va := if dst then (q.dstAt w).getD 0 else (q.srcAt (w + q.got.length / q.esz)).getD 0 + q.got.length % q.esz
  let q := { q with got := [], io := none }
  (s.setCmd h bn q).freeze h bn q 5 va dst 0 0 none

/-- The oldest read of a connection that waits: responses come in the order of the requests. -/
def State.oldestRead (s : State) (c : Nat) : Option (Nat × Nat × BCmd × Nat × Bool) :=
  (s.hostWaits c).foldl (fun b x => if x.2.2.2.2 then b else match b with
    | none => some x
    | some y => if seqBefore x.2.2.2.1 y.2.2.2.1 then some x else some y) none

/-- A read response: its bytes reach the bobbin, or the bobbin freezes. -/
def State.hostResponse (s : State) (c : Nat) (p : EhrezPacket) : State :=
  let s := (s.ethTake c).sendAck c (nextOf p) 0
  match s.oldestRead c with
  | none => s
  | some (h, bn, q, _, _) =>
    if p.status = 0 ∧ p.len = q.piece then s.setCmd h bn { q with got := q.got ++ p.data, io := none }
    else s.hostFreeze h bn q false

/-- An acknowledgement: the packets before ACK leave, landings among them complete (R137, R427, R429); a status other than 0 belongs
to the packet just before ACK. -/
def State.hostAck (s : State) (c : Nat) (p : EhrezPacket) : State :=
  let s := s.ethTake c
  let k := s.conn c
  let s := s.setConn c { k with outq := k.outq.filter (fun o => !seqBefore o.pkt.seq p.ack) }
  ((s.hostWaits c).filter (fun x => x.2.2.2.2 && seqBefore x.2.2.2.1 p.ack)).foldl (fun s x =>
    if p.status ≠ 0 ∧ (x.2.2.2.1 + 1) % 2 ^ 32 = p.ack then s.hostFreeze x.1 x.2.1 x.2.2.1 true
    else s.landed x.1 x.2.1 x.2.2.1 (tlCount ((s.thr x.1).rwm x.2.1)) x.2.2.1.held) s

/-- Packets unacknowledged for 50 µs are sent again; after 16 such sends the connection has failed (R427, R429). -/
def State.hostAgain (s : State) (c : Nat) : State :=
  let k := s.conn c
  let late := fun (o : OutPacket) => decide (o.since + 50000 ≤ s.gtime)
  if !k.opened || k.failed then s
  else if k.outq.any (fun o => late o && decide (17 ≤ o.sends)) then
    (s.hostWaits c).foldl (fun s x => s.hostFreeze x.1 x.2.1 x.2.2.1 x.2.2.2.2) (s.setConn c { k with failed := true })
  else
    s.setConn c { k with outq := k.outq.map (fun o =>
      if late o then { pkt := { o.pkt with ack := k.expect }, sends := o.sends + 1, since := s.gtime } else o) }

end Sys2Proof.Machine
end

