-- ==== Sys2Proof/Machine/Loader.lean ====
section
/-! DEFINITION. The Golpin loader (R199, R402 to R404): the checks of kernels and flow entries, and when they are in use. -/

namespace Sys2Proof.Machine

def gOpcode (w : Nat) : Nat := w / 2 ^ 26
/-- off10 of a branch, len10 of a LOOP. -/
def gOff (w : Nat) : Nat := w % 1024
def gLoopMax (w : Nat) : Nat := w / 2 ^ 14 % 256
def gIsBranch (w : Nat) : Bool := decide (0x0A ≤ gOpcode w ∧ gOpcode w ≤ 0x0F)
def gIsLoop (w : Nat) : Bool := decide (gOpcode w = 0x21)
def gIsEnd (w : Nat) : Bool := decide (0x23 ≤ gOpcode w ∧ gOpcode w ≤ 0x26)

/-- Cost of the static bound (R405). -/
def gCost (w : Nat) : Nat :=
  match gOpcode w with
  | 0x17 => 3
  | 0x1C => 2
  | 0x1E => 2
  | 0x22 => 4
  | _ => 1

/-- The limits of fields that the encoding leaves room for (R405, R406): no mask destination 0, no LOOP of maximum or length 0. -/
def gFieldsOk (w : Nat) : Bool :=
  let d := w / 2 ^ 22 % 16
  let fn := w / 2 ^ 10 % 16
  match gOpcode w with
  | 0x12 => decide (d ≠ 0)
  | 0x13 => decide (d ≠ 0) || decide (fn = 4) || decide (fn = 6)
  | 0x20 => decide (d ≠ 0)
  | 0x21 => decide (gLoopMax w ≠ 0) && decide (gOff w ≠ 0)
  | _ => true

/-- The bodies of a kernel: first index, index after the last, MAX. -/
def gBodies (ws : List Nat) : List (Nat × Nat × Nat) :=
  ws.zipIdx.filterMap (fun x => if gIsLoop x.1 then some (x.2 + 1, x.2 + 1 + gOff x.1, gLoopMax x.1) else none)

def gInside (i : Nat) (b : Nat × Nat × Nat) : Bool := decide (b.1 ≤ i ∧ i < b.2.1)

/-- Check 3 for one instruction. -/
def gBranchOk (n i w : Nat) : Bool := !gIsBranch w || (decide (1 ≤ gOff w) && decide (i + gOff w < n))

/-- Check 4 for one instruction: a LOOP whose body lies in the kernel and in every body around it, at most two deep; a branch that
keeps to the bodies it is in and enters none. -/
def gLoopOk (n : Nat) (bs : List (Nat × Nat × Nat)) (i w : Nat) : Bool :=
  let around := bs.filter (gInside i)
  if gIsLoop w then
    decide (1 ≤ gOff w) && decide (i + 1 + gOff w ≤ n) && around.all (fun b => decide (i + 1 + gOff w ≤ b.2.1)) && decide (around.length ≤ 1)
  else if gIsBranch w then
    bs.all (fun b => if gInside i b then gInside (i + gOff w) b || decide (i + gOff w = b.2.1) else !gInside (i + gOff w) b)
  else true

/-- Check 6: the index at which the static bound first exceeds 512. -/
def gBoundFault (bs : List (Nat × Nat × Nat)) (sum : Nat) (l : List (Nat × Nat)) : Option Nat :=
  match l with
  | [] => none
  | (w, i) :: r =>
    let sum := sum + (bs.filter (fun b => gInside i b)).foldl (fun c b => c * b.2.2) (gCost w)
    if 512 < sum then some i else gBoundFault bs sum r

/-- The instruction index and the number of the check that a kernel fails (R402). -/
def kernelFault (ws : List Nat) (room : Nat) (slotOk : Bool) : Option (Nat × Nat) :=
  let n := ws.length
  let bs := gBodies ws
  let at_ := fun (bad : Nat → Nat → Bool) => (ws.zipIdx.find? (fun x => bad x.2 x.1)).map (·.2)
  if n = 0 ∨ 1024 < n ∨ room < n ∨ slotOk = false then some (0, 1)
  else match at_ (fun _ w => decide (2 ^ 32 ≤ w) || !(rawDecodeGolpin w).toBool || !gFieldsOk w) with
    | some i => some (i, 2)
    | none => match at_ (fun i w => !gBranchOk n i w) with
      | some i => some (i, 3)
      | none => match at_ (fun i w => !gLoopOk n bs i w) with
        | some i => some (i, 4)
        | none =>
          if !gIsEnd (ws.getLastD 0) then some (n - 1, 5)
          else (gBoundFault bs 0 ws.zipIdx).map (fun i => (i, 6))

/-- Words of kernel memory that the other slots of an engine leave free (R396). -/
def Engine.room (k : Engine) (slot : Nat) : Nat :=
  8192 - k.kernels.foldl (fun n x => if x.1 = slot then n else n + x.2.words.length) 0

def Engine.slotOk (k : Engine) (slot owner : Nat) : Bool :=
  match tfind k.kernels slot with
  | some x => decide (x.owner = owner)
  | none => true

/-- The flows of the packets that an engine holds. -/
def Engine.flows (k : Engine) : List Nat :=
  k.input.map (·.flow) ++ (match k.cur with
    | some x => [x.flow]
    | none => [])

/-- Whether a packet matched to a kernel, or to a flow entry, has not finished (R199, R403). -/
def State.kernelBusy (s : State) (e slot : Nat) : Bool :=
  (s.engine e).flows.any (fun f => match tfind (s.block (e / 8)).flows f with
    | some x => decide (x.kernel = slot)
    | none => false)
def State.flowBusy (s : State) (blk idx : Nat) : Bool :=
  (List.range 8).any (fun i => shas (s.engine (8 * blk + i)).flows idx)

/-- Whether the bits that must be zero are (R197). -/
def flowClean (f : FlowEntry) : Bool :=
  decide (f.base % 65536 = 0) && decide (f.base < 2 ^ 41) && decide (f.mask < 2 ^ 64) && decide (f.srcpkg < 1024) && decide (f.ctl < 32) &&
  decide (f.owner < 64) && decide (f.engine < 8) && decide (f.rsv = 0) && decide (f.kernel < 65536)

/-- The checks of R199, of an entry with V clear too: the state range lies within 256 KiB, and overlaps that of no entry of another owner on
the same engine. -/
def State.flowRange (s : State) (blk idx : Nat) (f : FlowEntry) : Bool :=
  flowClean f && decide (f.stbase + f.stlen ≤ 4096) &&
  (s.block blk).flows.all (fun x => decide (x.1 = idx) || decide (x.2.engine ≠ f.engine) || decide (x.2.owner = f.owner) ||
    decide (x.2.stbase + x.2.stlen ≤ f.stbase) || decide (f.stbase + f.stlen ≤ x.2.stbase))

/-- The checks of an entry (R197, R199, R403). -/
def State.flowOk (s : State) (blk idx : Nat) (f : FlowEntry) : Bool :=
  let b := s.block blk
  s.flowRange blk idx f && (!f.ctl.testBit 0 ||
    (decide (1 ≤ f.stlen) &&
    (match tfind (s.engine (8 * blk + f.engine)).kernels f.kernel with
      | some k => decide (k.owner = f.owner)
      | none => false) &&
    (!f.ctl.testBit 4 || (!f.ctl.testBit 1 && decide (72 ≤ f.stlen))) &&
    (tfind b.areas f.owner).isSome))

/-- The records of an entry that enables atomics are closed (R403, R415); the loader's write stalls a kernel that runs (R410). -/
def State.closeRecords (s : State) (blk : Nat) (f : FlowEntry) : State :=
  if f.ctl.testBit 0 && f.ctl.testBit 4 then
    let e := 8 * blk + f.engine
    s.setEngine e (((List.range 8).foldl (fun k n => k.putState (recordAt f n + 8) (natLe 4 0)) (s.engine e)).stall (Config.freeWord s.tick e).toNat)
  else s

/-- A range of flow state that an entry takes anew reads 0, but for its reduction records (R424); the loader's write stalls a kernel that
runs (R410). -/
def Engine.clearRange (k : Engine) (f : FlowEntry) (n : Nat) : Engine :=
  let lo := 64 * f.stbase + (if f.ctl.testBit 4 then 4608 else 0)
  let hi := 64 * (f.stbase + f.stlen)
  let out := fun (w : Nat) => !(decide (lo ≤ 8 * w) && decide (8 * w < hi))
  { k with state := k.state.filter (fun b => !(decide (lo ≤ b.1) && decide (b.1 < hi))), poison := k.poison.filter out
           single := k.single.filter out }.stall n

/-- The bytes of a new entry's range are cleared, unless the entry it replaces had the same range and owner (R424). -/
def State.clearState (s : State) (blk idx : Nat) (f : FlowEntry) : State :=
  let same := match tfind (s.block blk).flows idx with
    | some o => decide (o.stbase = f.stbase) && decide (o.stlen = f.stlen) && decide (o.owner = f.owner) && decide (o.engine = f.engine)
    | none => false
  if f.ctl.testBit 0 && !same then
    let e := 8 * blk + f.engine
    s.setEngine e ((s.engine e).clearRange f (Config.freeWord s.tick (e + 32)).toNat)
  else s

/-- Writes or clears an entry (R199, R403, R424). -/
def State.putFlow (s : State) (blk idx : Nat) (f : FlowEntry) : State :=
  let s := s.clearState blk idx f
  let b := s.block blk
  (s.setBlock blk { b with flows := if f.ctl.testBit 0 then tput b.flows idx f else tdel b.flows idx }).closeRecords blk f

end Sys2Proof.Machine
end

