-- ==== Sys2Proof/Machine/Control.lean ====
section
/-! DEFINITION. Device-control messages (R430): time, tables, rings, gallery settings, counters, gangs, the Golpin loader, and
connections. -/

namespace Sys2Proof.Machine

/-- Whether a range lies in one tier of the package's DRAM. -/
def dramRange (base len : Nat) : Bool :=
  isDram base && isDram (base + len - 1) && decide ((base < 0x1800000000) ↔ (base + len - 1 < 0x1800000000)) && decide (0 < len)

/-! Boot settings -/

/-- The package number is set once, and the UALink ports come up (R434). -/
def execSetPackageNumber (o : OpNumber) (s : State) : Res :=
  s.ctlIf 0x10 (s.pkgNum.isNone && decide (o.n < 1024)) fun s => { s with pkgNum := some o.n }

/-- φ of a pillar (R93). -/
def execSetPillarPhase (o : OpPhase) (s : State) : Res :=
  s.ctlIf 0x10 (decide (o.p < 16 ∧ o.phi < 3840)) fun s => s.setPillar o.p { s.pillar o.p with phi := o.phi }

/-- GTIME is set once (R217). -/
def execSetGtime (o : OpNs) (s : State) : Res :=
  s.ctlIf 0x10 (!s.gtimeSet && decide (o.ns < 2 ^ 64)) fun s => { s with gtime := o.ns, gtimeSet := true }

/-- The time master (R218): with another master, locking begins again. -/
def execSetTimeMaster (o : OpNumber) (s : State) : Res :=
  s.ctlIf 0x10 (decide (o.n < 1024)) fun s =>
    if s.timeMaster = some o.n then s
    else
      let t := { s with timeMaster := some o.n, goodMsgs := 0, locked := false }
      if s.locked then t.traceClock.reportLock else t

/-- The queue table (R148). -/
def execSetQueueTableBase (o : OpBase) (s : State) : Res :=
  s.ctlIf 0x10 (dramRange o.base (4096 * 64)) fun s => { s with queueBase := some o.base }

/-- A ring under new counts; the lost count stays while the base does. -/
def newRing (old : Option Ring) (base n mask prod cons : Nat) : Ring :=
  { base := base, n := n, mask := mask, prod := prod, cons := cons
    lost := match old with
      | some r => if r.base = base then r.lost else 0
      | none => 0 }

/-- Counts that a ring of 2^n records can have. -/
def countsOk (n prod cons : Nat) : Bool := decide (cons ≤ prod ∧ prod - cons ≤ 2 ^ n)

/-- The fault ring (R185). -/
def execConfigureFaultRing (o : OpRing) (s : State) : Res :=
  s.ctlIf 0x10 (dramRange o.base (64 * 2 ^ o.n) && countsOk o.n o.prod o.cons) fun s =>
    { s with faultRing := some (newRing s.faultRing o.base o.n 0 o.prod o.cons) }

/-- A partition's trace ring, at a virtual address of its owner (R220). -/
def execConfigureTraceRing (o : OpTraceRing) (s : State) : Res :=
  s.ctlIf 0x10 ((tfind s.parts o.part).isSome && decide (o.base + 32 * 2 ^ o.n ≤ 2 ^ 64) && countsOk o.n o.prod o.cons) fun s =>
    { s with traceRings := tput s.traceRings o.part (newRing (tfind s.traceRings o.part) o.base o.n o.mask o.prod o.cons) }

/-- The error log (R432). -/
def execConfigureErrorLog (o : OpRing) (s : State) : Res :=
  s.ctlIf 0x10 (dramRange o.base (32 * 2 ^ o.n) && countsOk o.n o.prod o.cons) fun s =>
    { s with errorLog := some (newRing s.errorLog o.base o.n 0 o.prod o.cons) }

/-- GALARB (R214): bits not listed read 0; an AGE_LIMIT of 0 is refused. Each port applies the value at its own time (R215). -/
def execWriteGalarb (o : OpNumber) (s : State) : Res :=
  s.ctlIf 0x10 (decide (o.n / 2 ^ 24 % 256 ≠ 0)) fun s => { s with galarb := o.n / 2 ^ 24 % 256 * 2 ^ 24 + o.n % 65536 }

/-! Reads -/

def execReadWdt (o : OpSlot) (s : State) : Res := s.ctlRead 0x10 (decide (o.slot < 64)) [s.wdt o.slot]

/-- GESTAT (R397). -/
def Engine.gestat (k : Engine) : Nat :=
  k.pkts * 2 ^ 40 + k.traps * 2 ^ 32 + k.flow * 2 ^ 20 + k.kslot * 2 ^ 14 + k.cyc * 16 + cond k.busy 1 0

def execReadGestat (o : OpEngine) (s : State) : Res := s.ctlRead 0x10 (decide (o.e < 32)) [(s.engine o.e).gestat]

/-- The package's energy in microjoules (R225). -/
def execReadEnergyCounter (s : State) : Res := s.ctlRead 0x10 true [s.energy / 1000]

/-- A cutwork entry (R193). -/
def Cut.word (k : Cut) : Nat := k.hsa * 1024 + k.hsb * 32 + k.gw * 8 + cond k.dorm 4 0 + cond k.head 2 0 + cond k.good 1 0

def execReadCutwork (o : OpPillar) (s : State) : Res :=
  s.ctlRead 0x10 (decide (o.p < 16)) ((List.range 12).map (fun j => (s.cut (12 * o.p + j)).word))

/-! Gangs -/

/-- A change of gang (R195): while requests wait at the touched banks, so does the message. -/
def execGangChange (o : OpGang) (s : State) : Res :=
  s.controlAs 0x10 (.gang o) fun s =>
    if !gangOk o.p o.first o.width || s.gangHeld (s.touched o.p o.first o.width) then s.ctlAnswer 0x10 6 []
    else if s.gangBusy (s.touched o.p o.first o.width) then s.ctlWait 0x10 (.gang o)
    else (s.regroup o.p o.first o.width).ctlAnswer 0x10 0 []

/-! The Golpin loader -/

/-- A kernel (R402): a refusal answers with the instruction index and the check that failed. -/
def execGolpinLoadKernel (o : OpKernel) (s : State) : Res :=
  s.controlAs 0x10 (.load o) fun s =>
    if 32 ≤ o.e ∨ 64 ≤ o.slot ∨ 64 ≤ o.owner then s.ctlAnswer 0x10 6 []
    else
      let k := s.engine o.e
      match kernelFault o.words (k.room o.slot) (k.slotOk o.slot o.owner) with
      | some (i, c) => s.ctlAnswer 0x10 6 [i, c]
      | none =>
        if s.kernelBusy o.e o.slot then s.ctlWait 0x10 (.load o)
        else (s.setEngine o.e { k.stall (Config.freeWord s.tick o.e).toNat with
          kernels := tput k.kernels o.slot { owner := o.owner, words := o.words } }).ctlAnswer 0x10 0 []

/-- A kernel leaves its slot once its packets have finished (R403). -/
def execGolpinUnloadKernel (o : OpKernelSlot) (s : State) : Res :=
  s.controlAs 0x10 (.unload o) fun s =>
    if 32 ≤ o.e ∨ 64 ≤ o.slot then s.ctlAnswer 0x10 6 []
    else if s.kernelBusy o.e o.slot then s.ctlWait 0x10 (.unload o)
    else (s.setEngine o.e { s.engine o.e with kernels := tdel (s.engine o.e).kernels o.slot }).ctlAnswer 0x10 0 []

/-- A flow entry (R199, R403), once the packets matched before have finished. -/
def execGolpinWriteFlowEntry (o : OpFlow) (s : State) : Res :=
  s.controlAs 0x10 (.flow o) fun s =>
    if 4 ≤ o.blk ∨ 4096 ≤ o.idx ∨ s.flowOk o.blk o.idx o.entry = false then
      s.ctlAnswer 0x10 6 []
    else if s.flowBusy o.blk o.idx then s.ctlWait 0x10 (.flow o)
    else (s.putFlow o.blk o.idx o.entry).ctlAnswer 0x10 0 []

/-- An emit range (R404); a length of 0 removes it. -/
def execGolpinSetEmitRange (o : OpEmitRange) (s : State) : Res :=
  s.ctlIf 0x10 (decide (o.blk < 4 ∧ o.owner < 64 ∧ o.idx < 4)) fun s =>
    let b := s.block o.blk
    let k := 4 * o.owner + o.idx
    s.setBlock o.blk { b with ranges := if o.len = 0 then tdel b.ranges k else tput b.ranges k (o.base, o.len) }

/-- An event area, or its removal, which is refused while the owner has a flow entry (R404). -/
def execGolpinSetEventArea (o : OpEventArea) (s : State) : Res :=
  let b := s.block o.blk
  if o.base = 0 ∧ o.n = 0 then
    s.ctlIf 0x10 (decide (o.blk < 4) && !b.flows.any (fun f => decide (f.2.owner = o.owner))) fun s =>
      s.setBlock o.blk { s.block o.blk with areas := tdel (s.block o.blk).areas o.owner }
  else
    s.ctlIf 0x10 (decide (o.blk < 4 ∧ o.owner < 64 ∧ 4 ≤ o.n ∧ o.n ≤ 12 ∧ o.base % 4096 = 0) && countsOk o.n o.prod o.cons) fun s =>
      let b := s.block o.blk
      let lost := match tfind b.areas o.owner with
        | some a => if a.base = o.base then a.lost else 0
        | none => 0
      s.setBlock o.blk { b with areas := tput b.areas o.owner { base := o.base, n := o.n, prod := o.prod, cons := o.cons, lost := lost } }

/-- Closes a reduction record (R415). -/
def execCloseReductionRecord (o : OpRecord) (s : State) : Res :=
  s.ctlIf 0x10 (decide (o.blk < 4 ∧ o.b < 8)) fun s =>
    let b := s.block o.blk
    if o.cached then
      s.setBlock o.blk { b with cache := b.cache.map (fun x => if x.1 = cacheKey o.a o.sender o.b then (x.1, x.2.close) else x) }
    else
      match tfind b.flows o.a with
      | some f =>
        let e := 8 * o.blk + f.engine
        if f.ctl.testBit 4 then s.setEngine e ((s.engine e).putState (recordAt f o.b + 8) (natLe 4 0)) else s
      | none => s

/-! Connections -/

/-- Opens a connection (R428). -/
def execOpenConnection (o : OpOpen) (s : State) : Res :=
  s.ctlIf 0x10 (decide (1 ≤ o.conn ∧ o.conn < 256 ∧ o.owner < 64 ∧ o.base + o.len ≤ 2 ^ 64 ∧ o.hostLen ≤ 2 ^ 42) &&
      !(s.conn o.conn).opened) fun s =>
    s.setConn o.conn { Conn.reset with opened := true, owner := o.owner, base := o.base, len := o.len, rd := o.rd, wr := o.wr
                                       hostLen := o.hostLen }

/-- Closes a connection, which takes no new access from then on, once every access in flight has been answered (R429). -/
def execCloseConnection (o : OpConn) (s : State) : Res :=
  s.controlAs 0x10 (.close o) fun s =>
    let k := s.conn o.conn
    if o.conn = 0 ∨ k.opened = false then s.ctlAnswer 0x10 6 []
    else if !(s.hostWaits o.conn).isEmpty || (!k.failed && !k.inq.isEmpty) then
      (s.setConn o.conn { k with closing := true }).ctlWait 0x10 (.close o)
    else { s.setConn o.conn Conn.reset with ethIn := s.ethIn - k.inq.length }.ctlAnswer 0x10 0 []

end Sys2Proof.Machine
end

