-- ==== Sys2Proof/Machine/Ctl.lean ====
section
/-! DEFINITION. Timelines, full/empty bits and bobbin control (R390 to R395). -/

namespace Sys2Proof.Machine

/-- TLWAIT is released: X[d] takes the value, and the acquire at .sy performs (R98, R391). -/
def State.tlRelease (s : State) (d : Nat) (v : Word) : State := s.acquire.setCur (s.acquire.cur.wx d v)

/-- TLWAIT still holds; a word of another package is read again. -/
def State.tlHold (s : State) : State := s.setCur { s.cur with remote := none, away := none, wait := .timeline }

def execTlwaitReg (o : OpTlwait) (s : State) : Res :=
  let want := s.cur.rx o.b
  let v := s.cur.rtl o.tl
  if want.toNat.testBit 63 then .next (s.precise s.illegal)
  else if want.toNat ≤ tlCount v then .next ((s.tlRelease o.d v).retire 4)
  else .next (s.waiting .timeline)

/-- The memory form (R391): its lines leave the L1 only once the acquire has performed (R98). -/
def execTlwaitMem (o : OpRRR) (s : State) : Res :=
  let want := s.cur.rx o.b
  if want.toNat.testBit 63 then .next (s.precise s.illegal)
  else
    ((s.pollWord (s.cur.rx o.a)).bind fun s v =>
      if want.toNat ≤ tlCount (toW v) then .ok (s.tlRelease o.d (toW v)) () else .wait .timeline s.tlHold).finish 4

def execTlread (o : OpTlread) (s : State) : Res := regOp 4 s (fun t => t.wx o.d (t.rtl o.tl))

/-- Whether an access of the vector or tile stream that a TLADV covers has not performed (R125, R393). -/
def Thread.covering (t : Thread) : Bool := !t.viq.isEmpty || t.win.any (fun e => !e.complete)

/-- TLADV: a release at .sy, for which the lines that the thread dirtied are written back (R117, R125). -/
def execTladv (o : OpTladv) (s : State) : Res :=
  let v := s.cur.rx o.b
  if o.tl < 10 then .next (s.precise s.illegal)
  else if s.cur.covering then .next (s.waiting .drain)
  else if s.dirtyClosed then .next (s.waiting .refresh)
  else
    let s := s.release
    .next ((s.advance s.hart o.tl (v.toNat % 2 ^ 63) (v.toNat.testBit 63)).retire 4)

/-- The checks of FECLR in the order of R230. -/
def feclrTrap (a n : Word) (g : Nat) : Option Pend :=
  (misaligned 16 2 [a, n]).orElse (fun _ =>
    if n = 0 ∨ (spadBase ≤ a.toNat ∧ a.toNat - spadBase + n.toNat ≤ g * 2 ^ 22) then none else some (Pend.addr 5 a 2 0 0))

/-- FECLR (R394), an access of the scalar stream: it waits for overlapping vector accesses (R122) and at watermarks (R138). -/
def execFeclr (o : OpAB) (s : State) : Res :=
  let a := s.cur.rx o.a
  let n := s.cur.rx o.b
  let c := coreOf s.hart
  match feclrTrap a n s.cur.gang with
  | some p => .next (s.precise p)
  | none =>
    if n = 0 then .next (s.retire 4)
    else if s.cur.away.isNone && s.cur.inSpan a.toNat n.toNat then .next (s.waiting .vectorDone)
    else if s.cur.away.isNone && s.guarded c none a.toNat n.toNat then .next (s.waiting .watermark)
    else if s.travel then ((s.journey (.spad (a.toNat - spadBase)) (.empty n.toNat) 2).bind fun s _ => .ok s ()).finish 4
    else .next ((forUp ((a.toNat - spadBase) / 16) (n.toNat / 16) (fun g s => s.clearGranule s.cur.owner c (16 * g)) s).retire 4)

/-- CPYABORT waits for the landings that have begun, its bobbin in state 011 (R213). -/
def execCpyabort (o : OpBob) (s : State) : Res :=
  let b := s.cur.bobbin o.bn
  if s.cur.abortWaits o.bn then
    .next (s.setCur { s.cur.setBobbin o.bn { b with stat := { b.stat with state := 3 } } with wait := .drain })
  else .next ((s.bobAbort s.hart o.bn).retire 4)

/-- BSTATn as a register value (R79). -/
def Thread.bstat (t : Thread) (bn : Nat) : Word :=
  let b := t.bobbin bn
  toW (b.stat.state + 16 * b.queue.length + 2 ^ 16 * b.stat.fcode.toNat + (if b.stat.abt then 2 ^ 32 else 0))

def execCpystat (o : OpCpystat) (s : State) : Res := regOp 4 s (fun t => t.wx o.d (t.bstat o.bn))

end Sys2Proof.Machine
end

