-- ==== Sys2Proof/Machine/EngineEvents.lean ====
section
/-! DEFINITION. Events of the port blocks, the Golpin engines and the links to other packages (R166, R362, R363, R382, R383, R396,
R410, R412, R413, R435). -/

namespace Sys2Proof.Machine

/-! Engines -/

def execGolpinBudgetExpiry (o : OpEngine) (s : State) : Res :=
  let k := s.engine o.e
  .next (if k.busy && decide (512 ≤ k.cyc) then s.gTrap o.e 1 0 0 else s)

/-- A packet starts, and the place that it leaves in the engine's queue is filled from the ports (R166, R396). -/
def execGolpinPacketStart (o : OpEngine) (s : State) : Res := .next (s.gStart o.e).serveBlocks

def execEmitDelivery (o : OpEngine) (s : State) : Res := .next (s.gEmitOut o.e)

def execUalinkPacketIngress (o : OpUalink) (s : State) : Res := .next (s.ingress o.blk o.port o.pkt)

/-! Reducing copies (R413) -/

/-- The head command of a bobbin and the packet in flight that an event names. -/
def State.redOf (s : State) (h bn seq : Nat) : Option (BCmd × RedPacket) :=
  match (s.bob h bn).queue with
  | [] => none
  | q :: _ => (q.sent.find? (fun p => decide (p.seq = seq))).map (fun p => (q, p))

/-- The answer to one transmission: the first *applied* lands the elements of the packet, *retry* has it sent again; the packet is done with
once no transmission of it is unanswered. -/
def State.redAnswer (s : State) (h bn seq : Nat) (applied : Bool) : State :=
  match s.redOf h bn seq with
  | none => s
  | some (q, p) =>
    let p' : RedPacket := { p with out := p.out - 1, done := p.done || applied, retry := p.retry || !applied
                                   since := if applied then p.since else s.gtime }
    let q' := { q with sent := q.sent.filterMap (fun x => if x.seq = seq then (if p'.done ∧ p'.out = 0 then none else some p') else some x) }
    if applied && !p.done then
      let s := s.landed h bn q' p.seq p.count
      match (s.bob h bn).queue with
      | x :: _ => s.setCmd h bn { x with got := q.got, io := q.io }
      | [] => s
    else s.setCmd h bn q'

/-- An error that answers a transmission: the bobbin freezes with code 13, and the packet goes out again after it has resumed (R413, R436). -/
def State.redError (s : State) (h bn seq : Nat) : State :=
  match s.redOf h bn seq with
  | none => s
  | some (q, p) =>
    let q' := { q with sent := q.sent.filterMap (fun x =>
      if x.seq = seq then (if p.done = true ∧ p.out ≤ 1 then none else some { p with out := p.out - 1, retry := true, since := s.gtime }) else some x) }
    let va := (q.dst.toNat + seq * q.esz) % 2 ^ 64
    let e := s.leafErr (some (coreOf h)) (s.thr h).owner va 13
    let s := s.setCmd h bn q'
    if p.done then s else s.freeze h bn q' 13 va true e.level e.entry none

def execReducingWriteAnswer (o : OpReducing) (s : State) : Res :=
  let s := s.remoteDone (.reduce o.h o.bn o.seq)
  .next (if o.err then s.redError o.h o.bn o.seq else s.redAnswer o.h o.bn o.seq o.applied)

/-- A packet goes out again from the bytes that the bobbin holds: 1 µs after a retry answer, 50 µs after a transmission that nothing
has answered; it carries the watermark of this moment. -/
def State.redAgain (s : State) (h bn seq : Nat) : State :=
  match s.redOf h bn seq with
  | none => s
  | some (q, p) =>
    match q.op with
    | .red op e n =>
      if p.done || decide (s.gtime < p.since + (if p.retry then 1000 else 50000)) || !s.farRoom (coreOf h) 1 then s
      else
        (match s.redTarget h ((q.dst.toNat + p.seq * e) % 2 ^ 64) e p.seq with
          | none => s
          | some (pkg, la, _) =>
            let pkt := s.redPacket h bn q op e n p.seq la pkg p.data
            let sent := q.sent.map (fun x => if x.seq = seq then { x with retry := false, since := s.gtime, out := x.out + 1 } else x)
            match s.askRemote (.reduce h bn p.seq) (fun _ => .reducing pkg h bn p.seq pkt) with
            | some s => s.setCmd h bn { q with sent := sent }
            | none =>
              let va := (q.dst.toNat + p.seq * e) % 2 ^ 64
              let x := s.leafErr (some (coreOf h)) (s.thr h).owner va 13
              s.freeze h bn q 13 va true x.level x.entry none)
    | _ => s

def execReducingWriteResend (o : OpReducing) (s : State) : Res := .next (s.redAgain o.h o.bn o.seq)

/-! Request packets of other packages (R362, R363) -/

/-- What one element of a packet comes to, before any element performs: an error, gated, or it may perform. -/
inductive ElemCheck where
  | bad | gated | fine
  deriving DecidableEq, Repr

def State.checkElem (s : State) (kind w addr : Nat) : ElemCheck :=
  match locOf addr with
  | .near _ _ | .main _ =>
    if (decide (kind ≠ 0) && s.sealedAt addr) || (decide (kind ≠ 1) && (s.badAt addr w).isSome) then .bad else .fine
  | .apert c off =>
    if !s.isCore c || decide (s.width c * 2 ^ 22 < off + w) then .bad
    else if (s.core c).gate = .on then .fine else .gated
  | _ => .bad

/-- The access of an element: 0 load, 1 store, 2 atomic. -/
def elemReq (p : RequestPacket) (x : RemoteElem) : MemReq :=
  match p.kind with
  | 0 => .read p.w
  | 1 => .write (natLe p.w x.data) (2 ^ p.w - 1)
  | _ => .amo (AmoOp.ofCode p.op) p.w x.data x.cmp

/-- A request packet that the target performs: no atomic that UALink does not carry, such as CAS2 (R433). -/
def requestCarried (p : RequestPacket) : Bool :=
  decide (p.kind < 2) || (decide (p.kind = 2) && decide (p.op < 12) && decide (p.w = 4 ∨ p.w = 8))

/-- A request packet is checked as a whole and performed element by element, in increasing index; while a bank is closed to one of
its elements it waits. One for another package is counted and answered with an error (R434). No packet of this kind is matched against the flow table
(DESIGN CHOICE, log 81). -/
def State.requestIn (s : State) (p : RequestPacket) : State :=
  let cs := p.elems.map (fun x => (x, s.checkElem p.kind p.w x.addr))
  let reply := fun (s : State) (a : RemoteAnswerMsg) => { s with outbox := s.outbox ++ [OutMsg.requestAnswer p.pkg p.tag a] }
  let first := some ((p.elems.head?).elim 0 (·.idx))
  if s.pkgNum.isNone then s
  else if s.pkgNum ≠ some p.dst then { reply s { err := first, gated := [], values := [] } with misdirected := s.misdirected + 1 }
  else if !requestCarried p then reply s { err := first, gated := [], values := [] }
  else if p.elems.any (fun x => s.closed x.addr) then s
  else
    match cs.find? (fun x => decide (x.2 = .bad)) with
    | some x => reply s { err := some x.1.idx, gated := [], values := [] }
    | none =>
      let gated := (cs.filter (fun x => decide (x.2 = .gated))).map (fun x => x.1.idx)
      let r := (cs.filter (fun x => decide (x.2 = .fine))).foldl (fun (a : State × List (Nat × Nat)) x =>
        let y := a.1.performReq x.1.addr p.owner (elemReq p x.1)
        (y.1, if p.kind = 1 then a.2 else a.2 ++ [(x.1.idx, leNat y.2.2)])) (s, [])
      reply r.1 { err := none, gated := gated, values := r.2 }

def execRemoteRequestPacket (o : OpRequest) (s : State) : Res := .next (s.requestIn o.pkt)

/-! Answers of other packages (R134, R233, R363, R436) -/

def firstIdx (a b : Option Nat) : Option Nat :=
  match a, b with
  | some x, some y => some (min x y)
  | some x, none => some x
  | none, b => b

/-- An answer to the scalar stream. -/
def State.answerScalar (s : State) (h : Nat) (a : RemoteAnswerMsg) : State :=
  let t := s.thr h
  if t.wait = .remote ∧ t.remote = none then
    s.setThr h { t with remote := some (if a.err.isSome then (false, 13) else if a.gated.isEmpty then (true, (tfind a.values 0).getD 0)
      else (false, 12)) }
  else s

/-- An answer to a vector instruction joins those that have come for it. -/
def State.answerVector (s : State) (h cmd : Nat) (idxs : List Nat) (a : RemoteAnswerMsg) : State :=
  match (s.thr h).viq.find? (fun e => decide (e.cmd = cmd) && decide (e.sent ≠ 0)) with
  | none => s
  | some e => s.setHead h { e with
      sent := e.sent - 1
      kept := if a.err.isSome then e.kept else idxs.foldl sadd e.kept
      answer := { err := firstIdx e.answer.err a.err, gated := e.answer.gated ++ a.gated, values := e.answer.values ++ a.values } }

/-- An answer to a bobbin: source bytes, a landing, or the cause at which it freezes. -/
def State.answerBobbin (s : State) (h bn : Nat) (a : RemoteAnswerMsg) : State :=
  match (s.bob h bn).queue with
  | [] => s
  | q :: _ =>
    let w := tlCount ((s.thr h).rwm bn)
    let i := w + q.got.length / q.esz
    let dst := decide (q.io = some .remoteWrite)
    if q.io ≠ some .remoteRead ∧ q.io ≠ some .remoteWrite then s
    else if a.err.isSome ∨ a.gated ≠ [] then
      let va := if dst then (q.dstAt w).getD 0 else (q.srcAt i).getD 0 + q.got.length % q.esz
      let q := { q with got := [], io := none }
      let x := s.leafErr (some (coreOf h)) (s.thr h).owner va (if a.err.isSome then 13 else 12)
      (s.setCmd h bn q).freeze h bn q x.code va dst x.level x.entry none
    else if dst then s.landed h bn q w q.held
    else
      let va := (q.srcAt i).getD 0 + q.got.length % q.esz
      s.setCmd h bn { q with got := q.got ++ ualinkBytes va q.piece ((tfind a.values 0).getD 0), io := none }

/-! Tile sends (R382 to R384) -/

/-- A send of another package reaches its receiver: it lands, or is answered retry or refused, or waits while the core quiesces (R244);
one for another package is counted. It is not matched against the flow table (DESIGN CHOICE, log 81). -/
def State.sendIn (s : State) (m : SendMsg) : State :=
  let reply := fun (s : State) (ans : Nat) => { s with outbox := s.outbox ++ [OutMsg.sendAnswer m.pkg m.h m.cmd ans] }
  match s.pkgNum with
  | none => s
  | some me =>
    let d := toW m.dest
    if sendPkg d ≠ me then { reply s 2 with misdirected := s.misdirected + 1 }
    else
      let rows : Table Byte := (m.rows.zipIdx.map (fun x => (x.2, x.1))).filter (fun x => !decide (x.2 = 0))
      let r := s.land m.owner m.gang d rows
      if r.2 = 3 then s else reply r.1 r.2

def execMsendLanding (o : OpSend) (s : State) : Res := .next (s.sendIn o.msg)

/-- The window entry of a send. -/
def State.sendEntry (s : State) (h cmd : Nat) : Option TEntry := (s.thr h).win.find? (fun e => decide (e.cmd = cmd))

/-- The answer to a send: landed completes it, retry holds it for 1 µs, refused raises code 14. -/
def State.sendAnswered (s : State) (h cmd ans : Nat) : State :=
  match s.sendEntry h cmd with
  | none => s
  | some e =>
    match e.op, decide (e.send = .sent) with
    | .msend _ _ d, true =>
      (match ans with
        | 0 => (s.setEntry h { e with send := .landed }).tileRun h { e with send := .landed }
        | 1 => s.setEntry h { e with send := .retry s.gtime }
        | _ => (s.setEntry h { e with send := .unsent }).raisePend h (tileTrap cmd 14 d 0 0))
    | _, _ => s

def execMsendAnswer (o : OpSendAnswer) (s : State) : Res := .next ((s.remoteDone (.send o.h o.cmd)).sendAnswered o.h o.cmd o.ans)

/-- A send answered retry goes again no sooner than 1 µs after the answer. -/
def State.sendAgain (s : State) (h cmd : Nat) : State :=
  match s.sendEntry h cmd with
  | none => s
  | some e =>
    match e.send with
    | .retry _ => s.tileRun h e
    | _ => s

def execMsendRetry (o : OpThreadCmd) (s : State) : Res := .next (s.sendAgain o.h o.cmd)

/-! Answers by their tags, and links (R363, R432, R436) -/

/-- The answer to the update of a completion word (R23, R24). -/
def State.answerUpdate (s : State) (q node word : Nat) (a : RemoteAnswerMsg) : State :=
  if a.err.isSome then s.queueEvent q 5 13 node word
  else if a.gated ≠ [] then s.queueEvent q 5 12 node word
  else s

/-- An answer reaches whoever waits for it. An error ends a transmission of a CPYRED with code 13, and a send with code 14. -/
def State.answerRemote (s : State) (r : RemoteFrom) (a : RemoteAnswerMsg) : State :=
  match r with
  | .scalar h => s.answerScalar h a
  | .vector h cmd idxs => s.answerVector h cmd idxs a
  | .bobbin h bn => s.answerBobbin h bn a
  | .reduce h bn seq => if a.err.isSome then s.redError h bn seq else s
  | .send h cmd => if a.err.isSome then s.sendAnswered h cmd 2 else s
  | .update _ q node word => s.answerUpdate q node word a
  | .nobody => s

/-- The answer to a request; one whose task has ended is discarded (R245). -/
def execRemoteAnswer (o : OpAnswer) (s : State) : Res :=
  .next (match tfind s.remotes o.tag with
    | none => s
    | some r => { s with remotes := tdel s.remotes o.tag }.answerRemote r.src o.ans)

/-- The element that an error names where a link answers for the target: the first of its packet (R363), or 0. -/
def RemoteFrom.first (r : RemoteFrom) : Nat :=
  match r with
  | .vector _ _ idxs => idxs.headD 0
  | _ => 0

/-- Answers every request in flight through a port with an error (R436). -/
def State.failLink (s : State) (port : Nat) : State :=
  (s.remotes.filter (fun x => decide (x.2.port = port))).foldl (fun s x =>
    { s with remotes := tdel s.remotes x.1 }.answerRemote x.2.src { err := some x.2.src.first, gated := [], values := [] }) s

/-- A link goes down (R432, R436): logged, with an interrupt; the requests in flight through it are answered with an error. -/
def execLinkFailure (o : OpLink) (s : State) : Res :=
  .next (if decide (24 ≤ o.port) || shas s.linksDown o.port then s
    else ((({ s with linksDown := sadd s.linksDown o.port }.errorRecord logLink o.port).interrupt (s.logBytes logLink o.port)).failLink o.port))

end Sys2Proof.Machine
end

