-- ==== Sys2Proof/Machine/HostEvents.lean ====
section
/-! DEFINITION. Events of the Ethernet port and of the boot (R425 to R430, R442, R443). -/

namespace Sys2Proof.Machine

/-- A frame that the port does not take is dropped and counted (R425). -/
def execEhrezPacketReceipt (o : OpEhrez) (s : State) : Res := .next (if ethTaken o.frame then s.receipt o.pkt else s.ethDrop)

/-- Acts on the head packet of a connection when it has the type that the event serves. -/
def State.ethServe (s : State) (c type : Nat) (f : EhrezPacket → State) : State :=
  match (s.conn c).inq with
  | [] => s
  | p :: _ => if p.type = type then f p else s

def execEhrezWrite (o : OpConn) (s : State) : Res := .next (s.ethServe o.conn 0 (s.hostWrite o.conn))
def execEhrezReadRequest (o : OpConn) (s : State) : Res := .next (s.ethServe o.conn 1 (s.hostRead o.conn))
def execEhrezReadResponse (o : OpConn) (s : State) : Res := .next (s.ethServe o.conn 2 (s.hostResponse o.conn))
def execEhrezAcknowledgement (o : OpConn) (s : State) : Res := .next (s.ethServe o.conn 3 (s.hostAck o.conn))
def execEhrezRetransmit (o : OpConn) (s : State) : Res := .next (s.hostAgain o.conn)

/-! Boot (R443) -/

/-- A cold boot: everything is as after power-on, but for what manufacture fixed (R193) and the model's own fields. -/
def State.powerOn (s : State) : State :=
  { State.reset with
    agenda := s.agenda, actor := s.actor, hart := s.hart, eng := s.eng, ir := s.ir, tick := s.tick, lockstep := s.lockstep, travel := s.travel
    defects := s.defects
    cutwork := s.cutwork.map (fun c => (c.1, { c.2 with gw := 0, dorm := false, head := true })) }

def execPowerOn (s : State) : Res := .next s.powerOn

def bootPacket : EhrezPacket :=
  { ver := 1, type := 7, conn := 0, seq := 0, ack := 0, len := 0, addr := 0, status := 0, rsvd := 0, data := [] }

/-- While no image runs, a boot request goes to the all-nodes address every second. -/
def execBootRequest (s : State) : Res :=
  .next (if s.boot = .requesting then { s with outbox := s.outbox ++ [.ehrez bootPacket], bootRequests := s.bootRequests + 1 } else s)

/-- Bytes of the image. When the image is whole, its signature decides: it runs, opens the service connection and sends the
identity message, or it is discarded. -/
def State.bootBytes (s : State) (data : List Byte) (last : Bool) : State :=
  let image := s.bootImage ++ data
  if !last then { s with bootImage := image }
  else if Config.imageValid image then
    let t := { s with bootImage := image, boot := .running }.setConn 0 { s.conn 0 with opened := true }
    t.ctlAnswer 0x01 0 t.identityWords
  else { s with bootImage := [] }

/-- A boot packet on connection 0, framed (R426), accepted in SEQ order and acknowledged (R427). -/
def State.bootReceipt (s : State) (p : EhrezPacket) (last : Bool) : State :=
  let k := s.conn 0
  if !ehrezFramed p || decide (p.type ≠ 7) || decide (p.conn ≠ 0) then s.ethDrop
  else if s.boot ≠ .requesting then s.receipt p
  else if p.seq = k.expect then
    ((s.setConn 0 { k with expect := (k.expect + 1) % 2 ^ 32 }).sendAck 0 (nextOf p) 0).bootBytes p.data last
  else if seqBefore p.seq k.expect then s.ackAgain 0 p
  else s.ethDrop

def execBootPacket (o : OpBoot) (s : State) : Res := .next (s.bootReceipt o.pkt o.last)

/-! Identity and attestation -/

def execIdentity (s : State) : Res := s.ctlRead 0x01 true s.identityWords

/-- The report of R442: nonce, REV, STEP, FEAT, package number, firmware digest and GTIME. -/
def State.report (s : State) (nonce : Nat) : List Nat := [nonce, 4, 1, 0x3FFF, s.pkgNum.getD 0, s.digest, s.gtime]

def execAttestation (o : OpNonce) (s : State) : Res :=
  s.ctlRead 0x02 (decide (o.nonce < 2 ^ 256)) (s.report o.nonce ++ [Config.sign (s.report o.nonce)])

end Sys2Proof.Machine
end

