-- ==== Sys2Proof/Machine/Shoot.lean ====
section
/-! DEFINITION. Shoot-downs (R182, R183): which entries one names, its receipt and acknowledgement by a TLB, and its completion. -/

namespace Sys2Proof.Machine

/-- TLB number: 0 to 191 core, 192 + p last level, 208 scheduler. -/
def State.tlbAt (s : State) (n : Nat) : Tlb :=
  if n < 192 then (s.core n).tlb else if n < 208 then (s.pillar (n - 192)).tlb else s.schedTlb

def State.setTlb (s : State) (n : Nat) (t : Tlb) : State :=
  if n < 192 then s.setCore n { s.core n with tlb := t }
  else if n < 208 then s.setPillar (n - 192) { s.pillar (n - 192) with tlb := t }
  else { s with schedTlb := t }

/-- Receipt: the sequence number rises, unpinned matching entries leave, pinned ones are doomed (R182). -/
def Tlb.receive (t : Tlb) (owner : Nat) (page : Option (Nat × Nat)) : Tlb :=
  { seq := t.seq + 1
    entries := (t.entries.filter (fun e => !(e.hit owner page && e.pins.isEmpty))).map (fun e =>
      if e.hit owner page then { e with doomed := true } else e) }

/-- A vector memory instruction whose next group waits on a watermark or a full/empty bit stops, as soon as its issued elements have
performed: it releases its pins, and will probe again once the shoot-down `sd` is complete (R182, R237). -/
def State.dropStuck (s : State) (sd h cmd : Nat) : State :=
  match (s.thr h).viq.find? (fun e => decide (e.cmd = cmd)) with
  | none => s
  | some e =>
    match e.sect with
    | none => s
    | some sec =>
      if !sec.stuck then s
      else
        let new := if sec.late.isEmpty then none else some { sec with halt := true }
        let s := if sec.late.isEmpty then s.unpinCmd h cmd else s
        s.setThr h { s.thr h with viq := (s.thr h).viq.map (fun x => if x.cmd = cmd then { x with sect := new, after := some sd } else x) }

/-- What the holders of doomed pins do at the receipt; those that do not wait perform their sections first (R182). -/
def State.releaseStuck (s : State) (sd n : Nat) : State :=
  ((s.tlbAt n).entries.flatMap (fun e => if e.doomed then e.pins else [])).foldl (fun s p => s.dropStuck sd p.1 p.2) s

/-- TLB `n` receives the shoot-down `sd`. -/
def State.receiveShoot (s : State) (n sd owner : Nat) (page : Option (Nat × Nat)) : State :=
  (s.setTlb n ((s.tlbAt n).receive owner page)).releaseStuck sd n

/-- A whole shoot-down when the streams run in lockstep: every TLB of the package receives it, in the order of its number. -/
def State.shootAll (s : State) (owner : Nat) (page : Option (Nat × Nat)) : State :=
  (List.range 209).foldl (fun u n => u.receiveShoot n s.shootNext owner page) s

/-- The TLBs that still hold a pinned entry which a shoot-down names: each acknowledges when its sections have performed (R182). -/
def State.heldTlbs (s : State) (owner : Nat) (page : Option (Nat × Nat)) : List Nat :=
  (List.range 209).filter (fun n => (s.tlbAt n).entries.any (fun e => e.doomed && e.hit owner page))

/-- A shoot-down when the streams run in lockstep: every TLB receives it at once; the number under which it goes on while pinned entries
hold acknowledgements back. -/
def State.shootNow (s : State) (owner : Nat) (page : Option (Nat × Nat)) (root : Option Nat) : State × Option Nat :=
  let s := s.shootAll owner page
  match s.heldTlbs owner page with
  | [] => (s, none)
  | l => ({ s with shoots := tput s.shoots s.shootNext { owner := owner, page := page, toReceive := [], toAck := l, root := root }
                   shootNext := s.shootNext + 1 }, some s.shootNext)

/-- Begins a shoot-down that runs by its events: every TLB is still to receive it and to acknowledge. -/
def State.shootBegin (s : State) (owner : Nat) (page : Option (Nat × Nat)) (root : Option Nat) : State × Nat :=
  let all := List.range 209
  ({ s with shoots := tput s.shoots s.shootNext { owner := owner, page := page, toReceive := all, toAck := all, root := root }
            shootNext := s.shootNext + 1 }, s.shootNext)

/-- Whether a TLB still holds a doomed entry that a shoot-down names (R182). -/
def Tlb.doomedBy (t : Tlb) (k : Shoot) : Bool := t.entries.any (fun e => e.doomed && e.hit k.owner k.page)

end Sys2Proof.Machine
end

