-- ==== Sys2Proof/Machine/Manage.lean ====
section
/-! DEFINITION. Messages about partitions, queues, owners, power and contexts (R430, R431): partition-control, queue-control,
owner-control, power-control, partition-drain, partition-reset, context and task-control. -/

namespace Sys2Proof.Machine

/-! Partitions (R147) -/

def poolOk (s : State) (part : Nat) (pool : Nat × Nat) : Bool :=
  decide (pool.1 % 2 ^ 25 = 0) && decide (pool.2 % 2 ^ 25 = 0) && decide (0x2000000000 ≤ pool.1) && decide (pool.1 + pool.2 ≤ 0x8000000000) &&
  s.parts.all (fun p => decide (p.1 = part) || decide (pool.1 + pool.2 ≤ p.2.poolBase) || decide (p.2.poolBase + p.2.poolLen ≤ pool.1))

def coresOk (s : State) (part : Nat) (cores : List Nat) : Bool :=
  decide cores.Nodup && cores.all (fun c => s.isCore c && s.parts.all (fun p => decide (p.1 = part) || !shas p.2.cores c))

/-- Whether a partition-control message is carried out: the first one is whole, and owner, cores and pool change only while no task
of the partition is live. -/
def State.partitionOk (s : State) (o : OpPartition) : Bool :=
  let old := tfind s.parts o.part
  let p := s.part o.part
  let owner := o.owner.getD p.owner
  let cores := o.cores.getD p.cores
  let pool := o.pool.getD (p.poolBase, p.poolLen)
  let step := o.agestep.getD p.agestep
  decide (o.part < 64) && decide (owner < 64) && decide (1 ≤ step ∧ step ≤ 65535) &&
  (old.isSome || (o.owner.isSome && o.cores.isSome && o.grant.isSome && o.pool.isSome)) &&
  (o.cores.isNone || coresOk s o.part cores) && (o.pool.isNone || poolOk s o.part pool) &&
  (!s.partLive o.part || (decide (owner = p.owner) && decide (cores.foldl sadd [] = p.cores) && decide (pool = (p.poolBase, p.poolLen))))

def execPartitionControl (o : OpPartition) (s : State) : Res :=
  s.ctlIf 0x11 (s.partitionOk o) fun s =>
    let p := s.part o.part
    let pool := o.pool.getD (p.poolBase, p.poolLen)
    s.setPart o.part { p with
      owner := o.owner.getD p.owner, cores := (o.cores.getD p.cores).foldl sadd [], grant := o.grant.getD p.grant
      poolBase := pool.1, poolLen := pool.2, agestep := o.agestep.getD p.agestep }

/-! User queues (R148) -/

/-- Whether a descriptor may be enabled. -/
def State.queueOk (s : State) (q : Nat) : Bool :=
  let c := s.qCtl q
  s.queueBase.isSome && decide (q < 4096) && decide (c / 2 ^ 26 = 0) && decide (4 ≤ ctlEvlog c ∧ ctlEvlog c ≤ 16) &&
  decide (4 ≤ ctlLogsz c ∧ ctlLogsz c ≤ 16) && (tfind s.parts (ctlPart c)).isSome

/-- EN is set, and MAPPED and EXP are 0 (R148); a queue that still holds a slot is then mapped anew. -/
def execQueueEnable (o : OpQueueNo) (s : State) : Res :=
  s.ctlIf 0x12 (s.queueOk o.q) fun s =>
    let t := ((s.qCtlBit o.q 24 false).qCtlBit o.q 25 false).qCtlBit o.q 0 true
    match s.slotOf o.q with
    | some n => t.remap n o.q
    | none => t

def execQueueDisable (o : OpQueueNo) (s : State) : Res :=
  s.ctlIf 0x12 (s.queueBase.isSome && decide (o.q < 4096)) fun s => s.disableQueue o.q

/-! Owners -/

/-- ROOT (R169): the message completes after a shoot-down of every translation of the owner. -/
def execSetRoot (o : OpRoot) (s : State) : Res :=
  s.control 0x13 fun s =>
    if 64 ≤ o.owner ∨ o.root % 2 ^ 21 ≠ 0 ∨ 2 ^ 52 ≤ o.root then s.ctlAnswer 0x13 6 []
    else
      let s := s.setOwner o.owner { s.owner o.owner with root := o.root }
      if s.lockstep then
        match s.shootNow o.owner none (some o.root) with
        | (s, none) => s.ctlAnswer 0x13 0 []
        | (s, some _) => s.ctlOwe 0x13
      else (s.shootBegin o.owner none (some o.root)).1.ctlOwe 0x13

/-- The trap routing table (R196). -/
def execSetTrapRouting (o : OpRouting) (s : State) : Res :=
  s.ctlIf 0x13 (decide (o.owner < 64 ∧ o.table < 2 ^ 128)) fun s => s.setOwner o.owner { s.owner o.owner with routing := o.table }

/-- Key pair and export key (R441): refused while the owner holds a partition or has a live task, and when OAEP refuses. -/
def execInstallOwnerKeys (o : OpKeys) (s : State) : Res :=
  s.control 0x13 fun s =>
    let held := s.parts.any (fun p => decide (p.2.owner = o.owner)) || s.ownerLive o.owner
    match (if held || decide (64 ≤ o.owner) then none else Config.oaep o.cipher) with
    | none => s.ctlAnswer 0x13 6 []
    | some key =>
      let w := s.owner o.owner
      (s.setOwner o.owner { w with keyVer := w.keyVer + 1, exportKey := key / 2 ^ 512 % 2 ^ 256 }).ctlAnswer 0x13 0 []

/-! Power -/

/-- A grant (R439), where one below the present sum pre-empts nothing; or a cap of the package (R430, R440), at most that of R440. -/
def execSetPowerGrant (o : OpGrant) (s : State) : Res :=
  match o.cap with
  | none => s.ctlIf 0x14 (tfind s.parts o.part).isSome fun s => s.setPart o.part { s.part o.part with grant := o.mw }
  | some c => s.ctlIf 0x14 (decide (c ≤ packageCap)) fun s => { s with cap := c }

/-- Whether a slot of a core holds a placed task, or a context that is being saved. -/
def State.coreHolds (s : State) (c : Nat) (saving : Bool) : Bool :=
  (threadsOf c).any (fun h => (s.thr h).live || (saving && decide ((s.thr h).slot = .saving)))

/-- Gating begins (R244); the message is answered at the quiesce point. -/
def execGateCore (o : OpCore) (s : State) : Res :=
  s.controlAs 0x14 (.gate o) fun s =>
    if !s.isCore o.c || s.coreHolds o.c false then s.ctlAnswer 0x14 6 []
    else match (s.core o.c).gate with
      | .gated => s.ctlAnswer 0x14 0 []
      | .quiescing => s.ctlWait 0x14 (.gate o)
      | .on => (if s.coreHolds o.c true then s else s.setCore o.c { s.core o.c with gate := .quiescing }).ctlWait 0x14 (.gate o)

/-- Power returns (R244): every byte of the scratchpad reads 0 and every bit empty, and the lines carry no owner. -/
def State.ungate (s : State) (c : Nat) : State :=
  { s.setCore c { s.core c with gate := .on } with
    spad := s.spad.filter (fun x => !decide (x.1 / 2 ^ 24 = c))
    spadOwner := s.spadOwner.filter (fun x => !decide (x.1 / 2 ^ 18 = c))
    spadFull := s.spadFull.filter (fun g => !decide (g / 2 ^ 20 = c))
    spadLoose := sdel s.spadLoose c }

def execUngateCore (o : OpCore) (s : State) : Res :=
  s.controlAs 0x14 (.ungate o) fun s =>
    if !s.isCore o.c then s.ctlAnswer 0x14 6 []
    else match (s.core o.c).gate with
      | .on => s.ctlAnswer 0x14 0 []
      | .quiescing => s.ctlWait 0x14 (.ungate o)
      | .gated => (s.ungate o.c).ctlAnswer 0x14 0 []

/-! Drain and reset of a partition: a drain is answered once every stop that it asked for has ended (`State.answerDrain`). -/

def State.drainMsg (s : State) (p : Nat) (ends : Bool) : Res :=
  s.control 0x15 fun s =>
    if (tfind s.parts p).isNone then s.ctlAnswer 0x15 6 []
    else
      let r := s.drain p ends
      let t := { r.1 with parts := tput r.1.parts p { r.1.part p with owed := some r.2 } }.answerDrain p
      if (t.part p).owed.isSome then t.ctlOwe 0x15 else t

def execPartitionDrainSave (o : OpPart) (s : State) : Res := s.drainMsg o.part false
def execPartitionDrainEnd (o : OpPart) (s : State) : Res := s.drainMsg o.part true

/-- A reset (R247), legal only with no placed task. -/
def execPartitionReset (o : OpPart) (s : State) : Res :=
  s.ctlIf 0x16 ((tfind s.parts o.part).isSome && !s.partPlaced o.part) fun s => s.resetPart o.part

/-! Containers and pre-empted tasks -/

/-- A message about a pre-empted task (R252, R431, R444): refused when the task is not live or is placed, busy while its context is
being saved. -/
def State.onSaved (s : State) (code task : Nat) (f : State → Saved → State) : Res :=
  s.control code fun s =>
    match tfind s.saved task with
    | none => s.ctlAnswer code 6 []
    | some v => if v.saving then s.ctlAnswer code 5 [] else f s v

/-- Word `i` of the scalar operands that an instruction of a thread captured at commit (R17), replaced. -/
def VOp.setScalar (o : VOp) (t : Thread) (i : Nat) (w : Word) : VOp :=
  let src := fun (b : VSrc) => match b with
    | .val _ => VSrc.val w
    | .reg n => .reg n
  match o with
  | .int op d a b => .int op d a (src b)
  | .flt op d a b => .flt op d a (src b)
  | .cmp op d a b => .cmp op d a (src b)
  | .pick d a b => .pick d a (src b)
  | .assign d b => .assign d (src b)
  | .ramp d _ => .ramp d w
  | .fold op d a _ fp => .fold op d a w fp
  | .scan d a _ fp => .scan d a w fp
  | .rand d key ctr =>
    if i = 0 then .rand d w ctr
    else if i = 1 then .rand d key (w.toNat + ctr / 2 ^ 64 * 2 ^ 64)
    else .rand d key (ctr % 2 ^ 64 + w.toNat * 2 ^ 64)
  | .mem m => .mem (if i = 0 then { m with base := w } else { m with stride := w })
  | .shup d a _ => .shup d a w.toNat
  | .shdn d a _ => .shdn d a w.toNat
  | .getx d a _ => .getx d a w.toNat
  | .getf d a _ => .getf d a w.toNat
  | .qput q a _ => .qput q a w.toNat
  | .setl _ sew => .setl w.toNat sew
  | .barWait n scope _ len => .barWait n scope (t.barTarget w) len
  | .mtov d a _ pin => .mtov d a w.toNat pin
  | .fun1 _ _ _ | .cvt _ _ _ _ _ | .cvtRs _ _ _ _ _ _ | .qget _ _ | .klogic _ _ _ _ | .kcount _ _ | .kffs _ _ | .compact _ _ _
  | .redmax _ _ _ | .cfg _ _ | .fenceVv | .barArr _ _ _ => o

/-- A value written to a tile item: one of its 64-bit words, or the whole of a poisoned tile. -/
def PTile.repair (p : PTile) (g word value : Nat) : PTile :=
  let put := fun (at' n : Nat) => (natLe n value).zipIdx.foldl (fun v b => tset v (at' + b.2) b.1 0) p.rows
  if word = 65535 then { p with poison := false, bad := [], rows := put 0 (16384 * g) }
  else { p with bad := sdel p.bad word, rows := put (8 * word) 8 }

/-- Writes a value into one item of the REPAIR section (R241, R444): a DRAM word, a tile word or tile, a v register word, an entry of a queue
register, or the captured operand of a VIQ entry. A tile that has been spilled meanwhile is written in its backing. -/
def State.repairItem (s : State) (v : Saved) (kind key value : Nat) : State × Saved :=
  let t := v.thr
  match kind with
  | 0 => ({ s.dramWrite t.owner key (natLe 8 value) with badWords := sdel s.badWords (key / 8) }, v)
  | 1 =>
    let mine := fun (p : PTile) => p.ofContext t.owner t.mapb && decide (p.tile = key / 65536)
    if s.cores.any (fun c => c.2.tiles.any (fun p => mine p.2)) then
      ({ s with cores := s.cores.map (fun c => (c.1, { c.2 with tiles := c.2.tiles.map (fun p =>
          if mine p.2 then (p.1, p.2.repair t.gang (key % 65536) value) else p) })) }, v)
    else
      let word := key % 65536
      let a := tileBacking t.gang t.mapb (key / 65536) + (if word = 65535 then 0 else 8 * word)
      let n := if word = 65535 then 16384 * t.gang else 8
      ({ s.dramWrite t.owner a (natLe n value) with badWords := s.badWords.filter (fun w => !(decide (a / 8 ≤ w) && decide (w < (a + n) / 8))) }, v)
  | 3 =>
    let q := key / 16
    (s, { v with thr := { t.wq q ((t.rq q).set (key % 16) (toW value)) with qbad := tset t.qbad q (sdel (tget t.qbad q []) (key % 16)) [] } })
  | 4 => (s, { v with thr := { t with viq := t.viq.map (fun e =>
      if e.cmd = key then { e with bad := false, op := e.op.setScalar t e.badWord (toW value) } else e) } })
  | _ => (s, { v with thr := { t with v := writeV t.v (8 * key) 8 value, vpoison := sdel t.vpoison key, verr := sdel t.verr key } })

def execContextRepair (o : OpRepair) (s : State) : Res :=
  s.onSaved 0x17 o.task fun s v =>
    match v.repair[o.item]? with
    | none => s.ctlAnswer 0x17 6 []
    | some (kind, key) =>
      let r := s.repairItem v kind key o.value
      ({ r.1 with saved := tput r.1.saved o.task { r.2 with repair := v.repair.eraseIdx o.item } }.putContainer o.task).ctlAnswer 0x17 0 []

/-- Export (R444): the container under the owner's export key. -/
def execContextExport (o : OpTask) (s : State) : Res :=
  s.onSaved 0x17 o.task fun s v => s.ctlAnswer 0x17 0 [Config.gcmSeal (s.owner v.thr.owner).exportKey v]

/-- A container that replaces another keeps what the package itself gave the task: its number, areas, dispatch and state. -/
def Saved.adopt (new old : Saved) : Saved :=
  { new with
    core := old.core, saving := false, ready := old.ready, order := old.order
    thr := { new.thr with
      gang := old.thr.gang, taskid := old.thr.taskid, owner := old.thr.owner, mapb := old.thr.mapb, slot := old.thr.slot
      info := { new.thr.info with
        part := old.thr.info.part, queue := old.thr.info.queue, slot := old.thr.info.slot, run := old.thr.info.run
        save := old.thr.info.save, since := old.thr.info.since, order := old.thr.info.order } } }

/-- Import (R444): a tag that fails refuses it, and nothing is written. -/
def execContextImport (o : OpImport) (s : State) : Res :=
  s.onSaved 0x17 o.task fun s v =>
    match Config.gcmOpen (s.owner v.thr.owner).exportKey o.blob with
    | none => s.ctlAnswer 0x17 6 []
    | some new => ({ s with saved := tput s.saved o.task (new.adopt v) }.putContainer o.task).ctlAnswer 0x17 0 []

/-- RESUME (R431): the task, or every member of a cohort that was pre-empted together, becomes ready. -/
def execTaskResume (o : OpTask) (s : State) : Res :=
  s.onSaved 0x18 o.task fun s v =>
    if v.refused || (s.part v.thr.info.part).drained then s.ctlAnswer 0x18 6 (optList v.reason)
    else
      let mine := fun (p : Nat × Saved) => decide (p.1 = o.task) ||
        (v.thr.withCohort && p.2.thr.withCohort && decide (p.2.thr.info.run = v.thr.info.run))
      { s with saved := s.saved.map (fun p => if mine p then (p.1, { p.2 with ready := true }) else p) }.ctlAnswer 0x18 0 []

/-- END (R34, R431). -/
def execTaskEnd (o : OpTask) (s : State) : Res :=
  s.onSaved 0x18 o.task fun s _ => (s.endSaved o.task).ctlAnswer 0x18 0 []

end Sys2Proof.Machine
end

