-- ==== Sys2Proof/Machine/Refresh.lean ====
section
/-! DEFINITION. The refresh calendar of near-tier bank groups and REFCAL (R80, R93, R94). -/

namespace Sys2Proof.Machine

/-- Period, step and width of a calendar, in nanoseconds (R93). -/
def calPeriod (hot : Bool) : Nat := if hot then 1920 else 3840
def calStep (hot : Bool) : Nat := if hot then 120 else 240
def windowLen : Nat := 200

/-- The first window start of bank group `i` at or after `t` under a calendar (R93). -/
def windowFrom (hot : Bool) (phi i t : Nat) : Nat :=
  let p := calPeriod hot
  let o := (phi + calStep hot * (i % 16)) % p
  t + (o + p - t % p) % p

/-- The first window start at or after `t`, a change of calendar considered: windows that begin before its boundary follow the old
calendar, the others the new one (R93). -/
def Pillar.windowAfter (k : Pillar) (i t : Nat) : Nat :=
  match k.change with
  | none => windowFrom k.hot k.phi i t
  | some (new, b) =>
    let old := windowFrom (!new) k.phi i t
    if old < b then old else windowFrom new k.phi i (max t b)

/-- The start of the window that is open at `t`, or of the next one (R93). -/
def Pillar.windowAt (k : Pillar) (i t : Nat) : Nat := k.windowAfter i (t + 1 - windowLen)

/-- Whether bank group `i` has its window open at `t` by the calendar. -/
def Pillar.windowOpen (k : Pillar) (i t : Nat) : Bool := decide (k.windowAt i t ≤ t)

/-- REFCAL as a core's thread reads it (R80, R93). -/
def State.refcal (s : State) (c grp : Nat) : Word :=
  let k := s.pillar (pillarOf c)
  toW (k.windowAt grp s.gtime % 2 ^ 32 * 2 ^ 32 + windowLen * 2 ^ 16 + grp)

/-- The second period boundary of the calendar in force strictly after `t` (R93). -/
def Pillar.boundary (k : Pillar) (t : Nat) : Nat :=
  let p := calPeriod k.hot
  let next := t + 1 + (k.phi % p + p - (t + 1) % p) % p
  next + p

end Sys2Proof.Machine
end

