-- ==== Sys2Proof/Machine/MemEvents.lean ====
section
/-! DEFINITION. Events of the memories: arbiters (R91, R96, R104), refresh windows and calendars (R93, R94), evictions (R96, R97),
walks and shoot-downs (R182, R183), offline banks (R242), the quiesce point of a core (R244). -/

namespace Sys2Proof.Machine

def execBankArbiterGrant (o : OpBank) (s : State) : Res := .next (s.grantBank o.c o.lane o.bank)

def execScratchpadBankGrant (o : OpCoreBank) (s : State) : Res := .next (s.grantSpad o.c o.bank)

def execHomeL2Grant (o : OpPillar) (s : State) : Res := .next (s.grantL2 o.p)

/-! Refresh -/

/-- The window of a bank group opens or closes by the calendar of its pillar (R93, R94). -/
def State.setShut (s : State) (c grp : Nat) (b : Bool) : State :=
  let p := pillarOf c
  let k := s.pillar p
  if k.windowOpen grp s.gtime = b then
    s.setPillar p { k with shut := if b then sadd k.shut (c * 64 + grp) else sdel k.shut (c * 64 + grp) }
  else s

def execRefreshWindowOpen (o : OpGroup) (s : State) : Res := .next (s.setShut o.c o.grp true)
def execRefreshWindowClose (o : OpGroup) (s : State) : Res := .next (s.setShut o.c o.grp false)

/-- A change of calendar takes effect at its boundary (R93). -/
def execRefreshCalendarChange (o : OpPillar) (s : State) : Res :=
  let k := s.pillar o.p
  .next (match k.change with
    | some (new, b) => if b ≤ s.gtime then s.setPillar o.p { k with hot := new } else s
    | none => s)

/-- A crossing of the temperature threshold (R93, R440): the other calendar follows at the second period boundary; a crossing back
before it leaves the calendar as it is. -/
def Pillar.cross (k : Pillar) (hot : Bool) (t : Nat) : Pillar :=
  match k.change with
  | none => if k.hot = hot then k else { k with change := some (hot, k.boundary t) }
  | some (new, b) =>
    if t < b then (if new = hot then k else { k with change := none })
    else if new = hot then k
    else
      let k := { k with hot := new }
      { k with change := some (hot, k.boundary t) }

def execDramTemperatureCrossing (o : OpHot) (s : State) : Res :=
  .next ((List.range 16).foldl (fun s p => s.setPillar p ((s.pillar p).cross o.hot s.gtime)) s)

/-! Evictions -/

/-- A dirty line is written back at its eviction (R97); while its bank is closed it stays. -/
def execL1Eviction (o : OpCoreLine) (s : State) : Res :=
  .next (match s.l1Find o.c o.line with
    | some l => if !l.dirty.isEmpty && s.lineShut o.line then s else s.l1Flush o.c o.line
    | none => s)

/-- An L2 line leaves; HBM4 then holds its bytes (R96). -/
def execL2Eviction (o : OpPillarLine) (s : State) : Res :=
  .next (s.setPillar o.p { s.pillar o.p with l2 := tdel (s.pillar o.p).l2 o.line })

/-! Translation -/

/-- Fills the core TLBs that wait for a walk and whose sequence numbers have not moved (R178, R183). -/
def State.fillWaiters (s : State) (e : TlbEntry) (l : Table Nat) : State :=
  l.foldl (fun s x => if (s.core x.1).tlb.seq = x.2 then s.setCore x.1 { s.core x.1 with tlb := fillCore (s.core x.1).tlb e } else s) s

/-- A walk ends (R183): each TLB whose sequence number has not moved is filled; for the others it runs again. One that faults leaves its
fault for the cores that wait (R178). It waits while a bank that it reads is closed (R94). -/
def State.walkDone (s : State) (p id : Nat) : State :=
  let pl := s.pillar p
  match pl.walks[id]? with
  | none => s
  | some w =>
    let path := s.walkPath w.owner w.va
    if w.failed || path.any s.closed then s
    else
      let rest := pl.walks.eraseIdx id
      match s.walk w.owner w.va with
      | .error _ =>
        let s := s.walkTouch w.owner path
        s.setPillar p { s.pillar p with walks := pl.walks.set id { w with failed := true, others := tput w.others w.core w.coreSeq } }
      | .ok (lvl, leaf) =>
        let e := newEntry w.owner w.va lvl leaf s.tick
        let waiters := (w.core, w.coreSeq) :: w.others
        let moved := (waiters.filter (fun x => !decide ((s.core x.1).tlb.seq = x.2))).map (fun x => (x.1, (s.core x.1).tlb.seq))
        let okL := decide (pl.tlb.seq = w.llSeq)
        let again := if moved.isEmpty && !okL then [(w.core, (s.core w.core).tlb.seq)] else moved
        let walks := match again with
          | [] => rest
          | x :: others => pl.walks.set id { w with core := x.1, coreSeq := x.2, llSeq := pl.tlb.seq, others := others }
        let s := (s.walkTouch w.owner path).fillWaiters e waiters
        s.setPillar p { s.pillar p with tlb := if okL then fillLast pl.tlb e else pl.tlb, walks := walks }

def execWalkComplete (o : OpWalk) (s : State) : Res := .next (s.walkDone o.p o.id)

/-- A TLB receives an invalidation (R182). -/
def execTlbInvalidationReceipt (o : OpTlbShoot) (s : State) : Res :=
  .next (match tfind s.shoots o.sd with
    | some k =>
      if shas k.toReceive o.tlb then
        { s with shoots := tput s.shoots o.sd { k with toReceive := sdel k.toReceive o.tlb } }.receiveShoot o.tlb o.sd k.owner k.page
      else s
    | none => s)

/-- A TLB that has received it acknowledges once no doomed entry remains pinned (R182). -/
def execTlbInvalidationAck (o : OpTlbShoot) (s : State) : Res :=
  .next (match tfind s.shoots o.sd with
    | some k =>
      if shas k.toReceive o.tlb || (s.tlbAt o.tlb).doomedBy k then s
      else { s with shoots := tput s.shoots o.sd { k with toAck := sdel k.toAck o.tlb } }
    | none => s)

/-- Every acknowledgement has arrived: the shoot-down is complete, and a SET_ROOT message that waits for it is answered (R169,
R182). A TLBI that waits for it goes on. -/
def State.shootDone (s : State) (sd : Nat) : State :=
  match tfind s.shoots sd with
  | some k =>
    if !k.toReceive.isEmpty || !k.toAck.isEmpty then s
    else
      let s := { s with shoots := tdel s.shoots sd }
      if k.root.isSome then s.ctlAnswer 0x13 0 [] else s
  | none => s

def execShootdownComplete (o : OpShoot) (s : State) : Res := .next (s.shootDone o.sd)

/-! Offline banks -/

/-- Two copies of a bank's repair table fail: it goes offline, with a log record and an interrupt (R242, R432); when the copy that is
left fails too, every granule reads as poisoned. -/
def State.bankOffline (s : State) (k : Nat) : State :=
  let b := s.bank k
  if b.offline then s.setBank k { b with lost := true }
  else ((s.setBank k { b with offline := true }).errorRecord logOffline k).interrupt (s.logBytes logOffline k)

def execBankOffline (o : OpBank) (s : State) : Res := .next (s.bankOffline (bankKey o.c o.lane o.bank))

/-- The accesses that wait at an offline bank are answered retry (R242). -/
def execOfflineAccessRetry (o : OpBank) (s : State) : Res :=
  let k := bankKey o.c o.lane o.bank
  let b := s.bank k
  .next (if b.offline then
      let r := s.turnAway (pillarOf o.c) 2 b.waiting
      r.1.setBank k { b with waiting := r.2 }
    else s)

/-! Gating -/

/-- The queues of a core's scratchpad banks that hold requests: accepted, or held while the core quiesces (R244). -/
def State.spadWaiting (s : State) (c : Nat) (held : Bool) : List (Nat × List BankReq) :=
  s.spadQueue.filter (fun p => decide (p.1 / 256 = c + cond held 256 0) && !p.2.isEmpty)

/-- The quiesce point (R244): once every accepted request has performed, tiles are spilled, the caches written back and
invalidated, the core is gated, and the requests that have come meanwhile are answered with the write error. -/
def State.quiesce (s : State) (c : Nat) : State :=
  if (s.core c).gate ≠ .quiescing ∨ s.spadWaiting c false ≠ [] then s
  else
    let s := ((s.evictAll c).l1FlushAll c).icDropAll c
    let s := s.setCore c { s.core c with gate := .gated, units := [] }
    (s.spadWaiting c true).foldl (fun s p =>
      let r := s.turnAway (pillarOf c) 1 p.2
      { r.1 with spadQueue := tset r.1.spadQueue p.1 r.2 [] }) s

def execCoreQuiescePoint (o : OpCore) (s : State) : Res := .next (s.quiesce o.c)

end Sys2Proof.Machine
end

