-- ==== Sys2Proof/Machine/QueueEvents.lean ====
section
/-! DEFINITION. Events of the queue scheduler (R149 to R158), of the gallery's ports (R165, R215), of power (R437 to R440), of time
(R217, R218), and of links (R436). -/

namespace Sys2Proof.Machine

def execNotifyScan (o : OpQueueNo) (s : State) : Res := .next (s.scanQueue o.q)
def execNotifyNotice (o : OpSlot) (s : State) : Res := .next (s.notice o.slot)
def execQueueMap (s : State) : Res := .next s.mapNext
def execQueueUnmap (o : OpSlot) (s : State) : Res := .next (s.unmapIf o.slot)
def execWatchdogExpiry (o : OpSlot) (s : State) : Res := .next (s.wdExpire o.slot false)

def execGalleryArbitration (o : OpPort) (s : State) : Res := .next (s.arbitrate o.plane o.p o.port).serveBlocks

/-- A port applies the new settings and keeps cls, served, ip and the ages (R215). -/
def execGalarbApply (o : OpPort) (s : State) : Res :=
  let k := portKey o.plane o.p o.port
  .next { s with ports := tput s.ports k { tget s.ports k PortArb.reset with galarb := s.galarb } }

/-! Power -/

/-- One core's clock and lane ratio after a sample (R437, R439, R440). -/
def State.clockCore (s : State) (c : Nat) : State :=
  let k := s.core c
  let clock := if s.overCap c 0 then k.clock - 5 else if Config.clockRise s.tick c then k.clock + 5 else k.clock
  let t := s.setCore c { k with clock := clock, econ := Config.economy s.tick c }
  t.trimClock c

/-- Uses of a power domain so far by a task (R225): instructions issued by its scalar stream; element groups and ballast of its lanes;
requests of its vector memory instructions. Words 8 to 14 of a task's counters are the model's own: uses at the last sample, requests,
ballast, and the energy in picojoules. -/
def State.domainUse (s : State) (task d : Nat) : Nat :=
  let ctr := (s.words task).ctr
  match d with
  | 0 => tget ctr 1 0
  | 1 => tget ctr 2 0 + tget ctr 12 0
  | _ => tget ctr 10 0

/-- Word that holds the uses of a domain at the last sample. -/
def useMark (d : Nat) : Nat :=
  match d with
  | 0 => 8
  | 1 => 9
  | _ => 11

/-- Uses of a domain since the last sample. A cycle issues one instruction of a scalar stream or two (R16), so that the issue cycles of
`n` instructions are a free value from half of `n` to `n`. -/
def State.lately (s : State) (task d : Nat) : Nat :=
  let n := s.domainUse task d - tget (s.words task).ctr (useMark d) 0
  if d = 0 then n - Config.issuePairs s.tick task % (n / 2 + 1) else n

/-- Charges energy, in picojoules, to a task: ENERGY counts whole nanojoules (R224, R225). -/
def State.chargeEnergy (s : State) (task pj : Nat) : State :=
  let w := s.words task
  let sum := tget w.ctr 14 0 + pj
  s.setWords task { w with ctr := tput (tput w.ctr 14 sum) 7 (sum / 1000) }

/-- The tasks that a core has held since the last sample: those in its slots, and those that have left. -/
def State.sharers (s : State) (c : Nat) : List Nat :=
  ((threadsOf c).filter (fun h => !s.slotFree h)).foldl (fun l h => sadd l (s.thr h).taskid) (s.core c).left

/-- Divides the energy of one domain of a core among its tasks in proportion to their use of it since the last sample (R225). What a domain
draws while no thread uses it is charged to none (DESIGN CHOICE, log 9). -/
def State.shareEnergy (s : State) (c d pj : Nat) : State :=
  let uses := (s.sharers c).map (fun k => (k, s.lately k d))
  let total := uses.foldl (fun n x => n + x.2) 0
  uses.foldl (fun s x => s.chargeEnergy x.1 (pj * x.2 / total)) s

/-- The next sample counts the uses of a task from here on. -/
def State.markUse (s : State) (task : Nat) : State :=
  let w := s.words task
  s.setWords task { w with ctr := [0, 1, 2].foldl (fun k d => tput k (useMark d) (s.domainUse task d)) w.ctr }

/-- One sample of the power controller (R225, R440): what it measured is the event's operand. -/
def State.samplePower (s : State) (o : OpPowerSample) : State :=
  let s := { s with
    power := o.pkg, energy := s.energy + o.pkg
    overUs := if s.cap < o.pkg then s.overUs + 1 else 0 }
  let s := o.parts.foldl (fun s x =>
    let p := s.part x.1
    if (tfind s.parts x.1).isSome then s.setPart x.1 { p with overUs := if p.grant < x.2 then p.overUs + 1 else 0 } else s) s
  let s := o.energy.foldl (fun s x => s.shareEnergy (x.1 / 4) (x.1 % 4) x.2) s
  let s := ((List.range 192).filter s.isCore).foldl (fun s c =>
    ((s.sharers c).foldl State.markUse s).setCore c { s.core c with left := [] }) s
  ((List.range 192).filter s.isCore).foldl State.clockCore s

def execPowerSample (o : OpPowerSample) (s : State) : Res := .next (s.samplePower o)

/-- A junction above 105 °C (R440): every partition is drained under END, with a log record and an interrupt. -/
def execThermalTrip (s : State) : Res :=
  let s := s.parts.foldl (fun s p => (s.drain p.1 true).1) s
  .next (({ s with tripped := true }.errorRecord logThermal 0).interrupt (s.logBytes logThermal 0))

/-! Time -/

/-- The cycles of the nanosecond that begins, counted for every placed task (R224): 2 or 3 of 2.1 GHz. -/
def State.countCycles (s : State) : State :=
  s.threads.foldl (fun s x => if x.2.live then s.count x.2.taskid 0 (if Config.cycleEdge s.tick then 3 else 2) else s) s

/-- A nanosecond edge of the package time clock (R216, R217, R224). A watchdog that reached its limit at the last edge expires before this
one, unless a restart has come in between (R216). -/
def execTimeClockEdge (s : State) : Res :=
  let s := s.slots.foldl (fun s k => s.wdExpireNow k.1) s
  let s := { s with gtime := (s.gtime + 1) % 2 ^ 64 }
  .next (s.slots.foldl (fun s k => s.wdTick k.1) s.countCycles)

/-- The master sends its count (R218). -/
def execTimeMessageSend (s : State) : Res :=
  .next (if s.timeMaster.isSome && decide (s.timeMaster = s.pkgNum) then { s with outbox := s.outbox ++ [.time s.gtime] } else s)

def execTimeMessageReceipt (o : OpNs) (s : State) : Res := .next (s.timeMessage o.ns)

/-- The master is lost (R218): the rate stays until a new master is named. -/
def execTimeMasterLoss (s : State) : Res :=
  .next (if s.timeMaster.isSome then
    let t := { s with timeMaster := none, goodMsgs := 0, locked := false }.traceClock
    if s.locked then t.reportLock else t
  else s)

end Sys2Proof.Machine
end

