-- ==== Sys2Proof/Machine/ScalarFloat.lean ====
section
/-! DEFINITION. Scalar floating point (R299 to R301). -/

namespace Sys2Proof.Machine

/-- Operand of an f register at a format's width (R63). -/
def Thread.fOp (t : Thread) (n : Nat) (f : FFmt) : Nat := (t.rf n).toNat % 2 ^ f.width

/-- F[d] := result, with its flags. -/
def fpTo (d : Nat) (r : Thread → Nat × FFlags) (s : State) : Res :=
  regOp 4 s (fun t => let v := r t; (t.wf d (toW v.1)).raise v.2)

/-- X[d] := result, with its flags. -/
def fpToX (d : Nat) (r : Thread → Word × FFlags) (s : State) : Res :=
  regOp 4 s (fun t => let v := r t; (t.wx d v.1).raise v.2)

/-- A rounding operation of two operands (R299). -/
def fp2 (f : FFmt → Nat → Nat → Nat → Nat × FFlags) (o : OpFloat3) (s : State) : Res :=
  fpTo o.d (fun t => f (scalarFmt o.fmt) (t.rmOf o.rm) (t.fOp o.a (scalarFmt o.fmt)) (t.fOp o.b (scalarFmt o.fmt))) s

/-- An operation of two operands without rounding. -/
def fp2n (f : FFmt → Nat → Nat → Nat × FFlags) (o : OpFloat3n) (s : State) : Res :=
  fpTo o.d (fun t => f (scalarFmt o.fmt) (t.fOp o.a (scalarFmt o.fmt)) (t.fOp o.b (scalarFmt o.fmt))) s

/-- A comparison into X[d]. -/
def fpCmp (f : FFmt → Nat → Nat → Bool × FFlags) (o : OpFloat3n) (s : State) : Res :=
  fpToX o.d (fun t =>
    let r := f (scalarFmt o.fmt) (t.fOp o.a (scalarFmt o.fmt)) (t.fOp o.b (scalarFmt o.fmt))
    (bit1 r.1, r.2)) s

def execFadd (o : OpFloat3) (s : State) : Res := fp2 FFmt.add o s
def execFsub (o : OpFloat3) (s : State) : Res := fp2 FFmt.sub o s
def execFmul (o : OpFloat3) (s : State) : Res := fp2 FFmt.mul o s
def execFdiv (o : OpFloat3) (s : State) : Res := fp2 FFmt.div o s
def execFsqrt (o : OpFloat2) (s : State) : Res :=
  fpTo o.d (fun t => (scalarFmt o.fmt).sqrt (t.rmOf o.rm) (t.fOp o.a (scalarFmt o.fmt))) s
def execFmin (o : OpFloat3n) (s : State) : Res := fp2n (fun f => f.minmax false) o s
def execFmax (o : OpFloat3n) (s : State) : Res := fp2n (fun f => f.minmax true) o s
def execFsgcpy (o : OpFloat3n) (s : State) : Res := fp2n (fun f a b => (f.signOp 0 a b, 0)) o s
def execFsginv (o : OpFloat3n) (s : State) : Res := fp2n (fun f a b => (f.signOp 1 a b, 0)) o s
def execFsgxor (o : OpFloat3n) (s : State) : Res := fp2n (fun f a b => (f.signOp 2 a b, 0)) o s
def execFcmpeq (o : OpFloat3n) (s : State) : Res := fpCmp FFmt.cmpEq o s
def execFcmplt (o : OpFloat3n) (s : State) : Res := fpCmp FFmt.cmpLt o s
def execFcmple (o : OpFloat3n) (s : State) : Res := fpCmp FFmt.cmpLe o s
def execFkind (o : OpFloat2n) (s : State) : Res :=
  fpToX o.d (fun t => (toW (2 ^ (scalarFmt o.fmt).kind (t.fOp o.a (scalarFmt o.fmt))), 0)) s

/-- Integer types of conversions: 0 i32, 1 n32, 2 i64, 3 n64 (R299). -/
def itWidth (code : Nat) : Nat := if code < 2 then 32 else 64
def itSigned (code : Nat) : Bool := decide (code % 2 = 0)

def execFtoi (o : OpFloatCvt) (s : State) : Res :=
  fpToX o.d (fun t =>
    let r := (scalarFmt o.fmt).toInt (t.rmOf o.rm) (itWidth o.code) (itSigned o.code) (t.fOp o.a (scalarFmt o.fmt))
    (if itSigned o.code then sextW (itWidth o.code) r.1 else toW r.1, r.2)) s

/-- X[a] read as an integer type. -/
def itRead (code : Nat) (x : Word) : Int :=
  if itSigned code then sx (itWidth code) x.toNat else (x.toNat % 2 ^ itWidth code : Nat)

def execItof (o : OpFloatCvt) (s : State) : Res :=
  fpTo o.d (fun t =>
    let r := (scalarFmt o.fmt).ofInt (t.rmOf o.rm) false (itRead o.code (t.rx o.a))
    (r.1, r.2 &&& flNX)) s
def execFtof (o : OpFloatCvt) (s : State) : Res :=
  fpTo o.d (fun t => (scalarFmt o.fmt).convert (scalarFmt o.code) (t.rmOf o.rm) false 0 (t.fOp o.a (scalarFmt o.code))) s
def execFbitsx (o : OpRR) (s : State) : Res := regOp 4 s (fun t => t.wx o.d (t.rf o.a))
def execXbitsf (o : OpRR) (s : State) : Res := regOp 4 s (fun t => t.wf o.d (t.rx o.a))
def execFmadd (o : OpFmadd) (s : State) : Res :=
  fpTo o.d (fun t =>
    let f := scalarFmt o.fmt
    f.fma (t.rmOf o.rm) (t.fOp o.a f) (t.fOp o.b f) (t.fOp o.c f)) s

end Sys2Proof.Machine
end

