-- ==== Sys2Proof/Machine/System.lean ====
section
/-! DEFINITION. Status and control registers, fences, traps and task control, cache maintenance, queue registers and SPAWN (R306 to
R315, R76 to R80). -/

namespace Sys2Proof.Machine

/-! Status and control registers -/

/-- Whether an MFS waits for an earlier vector or tile instruction; not while a handler runs (R66, R77, R234). -/
def Thread.mfsWaits (t : Thread) (n : Nat) : Bool :=
  !t.hnd && (match n with
    | 0x000 => t.trimming
    | 0x007 => t.win.any (fun e => match e.op with
        | .mcfg _ => true
        | _ => false)
    | 0x030 => !t.viq.isEmpty || !t.win.isEmpty
    | _ => false)

/-- TCAUSE and TVIQ as register values (R79). -/
def Thread.tcause (t : Thread) : Word := toW ((if t.hnd then 2 ^ 31 else 0) + t.tsrc % 4 * 2 ^ 28 + t.tcode % 2 ^ 16)
def Thread.tviq (t : Thread) : Word := toW (t.nkeep % 32 * 256 + t.tpos % 32)

/-- The value of a status and control register; none for an unassigned number (R76, R77). -/
def State.srRead (s : State) (n : Nat) : Option Word :=
  let t := s.cur
  match n with
  | 0x000 => some (toW (if t.hnd then t.vl else t.vlAhead))
  | 0x001 => some (toW t.cmvl)
  | 0x002 => some (toW (t.csew * 16 + t.cnreg))
  | 0x003 => some (toW t.vgrant)
  | 0x004 => some (toW (64 * t.gang))
  | 0x005 => some (toW t.gang)
  | 0x006 => some (toW (256 * t.gang))
  | 0x007 => some t.tshape
  | 0x010 => some (toW (t.mapb * 2 ^ 23))
  | 0x011 => some (toW t.skew)
  | 0x020 => some (toW s.gtime)
  | 0x021 => some (toW t.taskid)
  | 0x022 => some t.nodeid
  | 0x023 => some (toW t.repl)
  | 0x024 => some (toW t.repln)
  | 0x025 => some (toW t.owner)
  | 0x030 => some (t.fstatNow.setWidth 64)
  | 0x031 => some (toW t.frm)
  | 0x040 => some t.tcause
  | 0x041 => some t.tepc
  | 0x042 => some t.tvpc
  | 0x043 => some t.tval
  | 0x044 => some t.tviq
  | 0x045 => some (toW t.tstart)
  | 0x046 => some t.tvec
  | 0x050 => some (t.bstat 0)
  | 0x051 => some (t.bstat 1)
  | 0x052 => some (t.bstat 2)
  | 0x053 => some (t.bstat 3)
  | 0x054 => some (t.bstat 4)
  | 0x055 => some (t.bstat 5)
  | 0x056 => some (t.bstat 6)
  | 0x057 => some (t.bstat 7)
  | 0x060 => some (t.qcfg.setWidth 64)
  | 0x061 => some (s.refcal (coreOf s.hart) t.refgrp)
  | _ => none

def execMfs (o : OpMfs) (s : State) : Res :=
  match s.srRead o.n with
  | none => .next (s.precise s.illegal)
  | some v => if s.cur.mfsWaits o.n then .next (s.waiting .readback) else regOp 4 s (fun t => t.wx o.d v)

/-- An address register without its bit 0 (R79). -/
def evenPc (v : Word) : Word := toW (v.toNat / 2 * 2)

/-- The write of a register with RW fields; none for the others and for an illegal value (R76, R77). -/
def Thread.srWrite (t : Thread) (n : Nat) (v : Word) : Option Thread :=
  match n with
  | 0x011 => some { t with skew := v.toNat % 16 }
  | 0x030 => some (t.setFstat (v.setWidth 6))
  | 0x031 => if 4 ≤ v.toNat % 8 then none else some { t with frm := v.toNat % 8 }
  | 0x041 => some { t with tepc := evenPc v }
  | 0x046 => some { t with tvec := evenPc v }
  | 0x061 => if 16 * t.gang ≤ v.toNat % 64 then none else some { t with refgrp := v.toNat % 64 }
  | _ => none

def execMts (o : OpMts) (s : State) : Res :=
  match s.cur.srWrite o.n (s.cur.rx o.a) with
  | none => .next (s.precise s.illegal)
  | some t => if o.n = 0x030 ∧ s.cur.mfsWaits 0x030 = true then .next (s.waiting .readback) else .next ((s.setCur t).retire 4)

/-! Fences (R98, R129, R308) -/

def execFenceSv (s : State) : Res :=
  if s.dirtyClosed then .next (s.waiting .refresh) else .next (s.release.retire 4)

def execFenceVs (s : State) : Res :=
  if !s.cur.viq.isEmpty then .next (s.waiting .vectorDone) else .next (s.acquire.retire 4)

def execFenceVv (s : State) : Res := s.commitV 4 .fenceVv 0 0 none

/-- Every earlier access of the vector and tile streams has performed, and every bobbin command is complete. -/
def Thread.quiet (t : Thread) : Bool :=
  t.viq.isEmpty && t.win.all (fun e => e.complete) && t.bob.all (fun b => b.2.queue.isEmpty)

def execFenceAll (s : State) : Res :=
  if !s.cur.quiet then .next (s.waiting .drain)
  else if s.dirtyClosed then .next (s.waiting .refresh)
  else .next (s.release.acquire.retire 4)

/-! Traps and task control -/

/-- SYSCALL and BREAK complete, and then trap with TEPC at the next instruction (R229, R309). -/
def State.trapAfter (s : State) (code imm : Nat) : Res :=
  let p := Pend.plain 0 code (toW imm)
  let r := s.route s.cur.owner code
  if s.cur.holding && (decide (r = 1) || decide (r = 2)) then .next (s.waiting .stop)
  else
    let s := s.retire 4
    .next (s.takeTrap s.hart p s.cur.pc)

def execSyscall (o : OpImm10) (s : State) : Res := s.trapAfter 2 o.imm
def execBreakTrap (o : OpImm10) (s : State) : Res := s.trapAfter 3 o.imm

def execEret (s : State) : Res :=
  if s.cur.hnd then .next ((s.count s.cur.taskid 1 1).returnFromTrap s.hart) else .next (s.precise s.illegal)

/-- WFE (R310): ends when the event flag is set, or 10 µs after it began, and clears the flag. -/
def execWfe (s : State) : Res :=
  let t := s.cur
  let since := t.wfeSince.getD s.gtime
  if t.event || decide (10000 ≤ s.gtime - since) then .next ((s.setCur { t with event := false }).retire 4)
  else .next ((s.setCur { t with wfeSince := some since }).waiting .event)

/-- EXIT (R33, R311): the task drains, and retires when the drain has ended. -/
def execExitTask (s : State) : Res :=
  if s.cur.hnd then .next (s.precise s.illegal)
  else .next ((s.setCur { s.cur with slot := .draining }).waiting .drain)

/-- Whether a CPYV of the thread is accepted and not complete (R388). -/
def Thread.cpyvRuns (t : Thread) : Bool :=
  t.bob.any (fun b => b.2.queue.any (fun q => match q.op with
    | .cpyv _ _ _ _ _ _ => true
    | _ => false))

/-- YIELD (R30, R31, R311, R388); a task of a slot whose watchdog has expired runs on (R422). -/
def execYieldTask (s : State) : Res :=
  let t := s.cur
  let h := s.hart
  if t.hnd || t.cpyvRuns || s.expired t || !s.replicaWaits t.info.part then .next (s.retire 4)
  else if t.holding then .next (s.waiting .stop)
  else
    let s := (s.retire 4).preempt h true t.info.cohort true
    if t.info.cohort then .next ((s.cohortSlots t.info.run).foldl (fun s x => s.requestStop x true true) s) else .next s

/-! TLB and cache maintenance -/

/-- The shoot-down of R182: the issuing thread's dirtied lines are written back first, and the scalar stream holds until it is
complete. -/
def State.tlbi (s : State) (owner : Nat) (page : Option (Nat × Nat)) : Res :=
  match s.cur.shoot with
  | some id => if (tfind s.shoots id).isSome then .next (s.waiting .shootdown) else .next (s.retire 4)
  | none =>
    if s.dirtyClosed then .next (s.waiting .refresh)
    else
      let s := s.release
      let hold := fun (s : State) (id : Nat) => Host.Outcome.next ((s.setCur { s.cur with shoot := some id }).waiting .shootdown)
      if s.lockstep then
        match s.shootNow owner page none with
        | (s, none) => .next (s.retire 4)
        | (s, some id) => hold s id
      else
        let r := s.shootBegin owner page none
        hold r.1 r.2

/-- The owner that a TLBI names (R182, R312). -/
def State.tlbiOwner (s : State) (b : Word) : Nat := if s.cur.owner = 0 then b.toNat % 64 else s.cur.owner

/-- log2 of the page size in X[b][9:8] (R312). -/
def tlbiSize (b : Word) : Nat :=
  match b.toNat / 256 % 4 with
  | 0 => 16
  | 1 => 21
  | 2 => 26
  | _ => 30

/-- A page of no entry, for an address that is not canonical (R312). -/
def noPage : Nat × Nat := (2 ^ 65, 16)

def execTlbiPg (o : OpAB) (s : State) : Res :=
  let va := (s.cur.rx o.a).toNat
  let b := s.cur.rx o.b
  s.tlbi (s.tlbiOwner b) (some (if canonical va then (va, tlbiSize b) else noPage))

def execTlbiAll (o : OpB) (s : State) : Res := s.tlbi (s.tlbiOwner (s.cur.rx o.b)) none

/-- A cache maintenance operation on the line of an address; nothing for an address that does not translate (R313). -/
def State.maintain (s : State) (va : Word) (f : State → Nat → Res) : Res :=
  match s.translate (some (coreOf s.hart)) s.cur.owner .maint va.toNat 1 with
  | .err s _ => .next (s.retire 4)
  | .miss s => .next (s.waiting .walk)
  | .ok s (.spad _) => .next (s.retire 4)
  | .ok s (.phys pa _ _) => f s (pa / 64)

/-- Whether a line of the L1 must be written back to a closed bank. -/
def State.lineClosed (s : State) (line : Nat) : Bool :=
  match s.l1Find (coreOf s.hart) line with
  | some l => !l.dirty.isEmpty && s.lineShut line
  | none => false

def execCwb (o : OpA) (s : State) : Res :=
  s.maintain (s.cur.rx o.a) (fun s line =>
    if s.lineClosed line then .next (s.waiting .refresh) else .next ((s.l1WriteBack (coreOf s.hart) line).retire 4))

def execCinv (o : OpA) (s : State) : Res :=
  s.maintain (s.cur.rx o.a) (fun s line =>
    if s.lineClosed line then .next (s.waiting .refresh) else .next ((s.l1Flush (coreOf s.hart) line).retire 4))

def execIcinv (o : OpA) (s : State) : Res :=
  s.maintain (s.cur.rx o.a) (fun s line => .next ((s.icDrop (coreOf s.hart) line).retire 4))

def execIcinvall (s : State) : Res := .next ((s.icDropAll (coreOf s.hart)).retire 4)

/-! Queue registers (R73, R314) -/

def execQput (o : OpQput) (s : State) : Res :=
  let t := s.cur
  if !t.qMayPut o.q 0 then .next (s.precise s.illegal)
  else if 16 ≤ (t.rq o.q).length then .next (s.waiting .queue)
  else regOp 4 s (fun t => t.qPush o.q (t.rx o.a))

def execQget (o : OpQget) (s : State) : Res :=
  let t := s.cur
  if !t.qMayGet o.q 0 then .next (s.precise s.illegal)
  else
    match t.rq o.q with
    | [] => .next (s.waiting .queue)
    | v :: r => if t.headBad o.q then .next (s.precise (s.queueTrap 0)) else regOp 4 s (fun t => (t.qPop o.q r).wx o.d v)

def execQpeek (o : OpQget) (s : State) : Res :=
  let t := s.cur
  if !t.qMayGet o.q 0 then .next (s.precise s.illegal)
  else
    match t.rq o.q with
    | [] => .next (s.waiting .queue)
    | v :: _ => if t.headBad o.q then .next (s.precise (s.queueTrap 0)) else regOp 4 s (fun t => t.wx o.d v)

/-! SPAWN (R315) -/

/-- The check of one of the scheduler's accesses for SPAWN: the trap that it raises in the thread. A walk that cannot go on holds the turn. -/
def State.spawnCheck (s : State) (k : Acc) (va : Nat) : Out Unit :=
  match s.translate none s.cur.owner k va 8 with
  | .err s e => .trap s (Pend.addr e.code (toW va) 2 e.level e.entry)
  | .ok s (.spad _) => .trap s (Pend.addr 5 (toW va) 2 0 0)
  | .ok s _ => .ok s ()
  | .miss _ => .ok { s with stalled := true } ()

/-- An access of SPAWN's as an operation of the instruction: a fault is a trap in the thread, of KIND 1 or 2. -/
def SRes.out (r : SRes) (owner va kind : Nat) : Out (List Byte) :=
  match r with
  | .ok s bs => .ok s bs
  | .err s code =>
    let e := s.leafErr none owner va code
    .trap s (Pend.addr code (toW va) kind e.level e.entry)

/-- The notify word takes n + 1 in one access with its read (R128): of another package's word, an atomic addition of 1 that returned n. -/
def State.notifyNext (s : State) (owner notify n : Nat) : SRes :=
  match s.translate none owner .sstore notify 8 with
  | .ok s' (.phys pa _ _) =>
    match locOf pa with
    | .remote p la =>
      (match s'.askRemote .nobody (fun tag => .access tag p la 8 (2 + 1) 1) with
      | some s' => .ok s' []
      | none => .err s' 13)
    | _ => s.schedWrite owner notify (natLe 8 ((n + 1) % 2 ^ 64))
  | _ => s.schedWrite owner notify (natLe 8 ((n + 1) % 2 ^ 64))

/-- The steps that the queue scheduler performs for queue `u`: the value of X[d], or the trap. Where an access of it meets a closed bank or a
walk that cannot go on, the turn is held and nothing of it happens (R94, R178). -/
def State.spawnInto (s : State) (u : Nat) (node : Word) : Out Nat :=
  let s := s.qTouch u
  let ctl := s.qCtl u
  let owner := s.cur.owner
  let notify := s.qRead u 8 8
  let refused := 2 ^ 64 - 1
  if s.queueBase.isNone || decide (4096 ≤ u) || !ctlEn ctl || !decide ((s.part (ctlPart ctl)).owner = owner) then .ok s refused
  else (s.spawnCheck .satomic notify).bind fun s _ => ((s.schedRead owner notify 8).out owner notify 1).bind fun s bs =>
    let n := leNat bs
    if s.stalled || decide (2 ^ ctlLogsz ctl ≤ (n + 2 ^ 64 - s.qRead u 0x18 8) % 2 ^ 64) then .ok s refused
    else
      let slot := s.qRead u 0 8 + 8 * (n % 2 ^ ctlLogsz ctl)
      (s.spawnCheck .sstore slot).bind fun s _ => ((s.schedWrite owner slot (natLe 8 node.toNat)).out owner slot 2).bind fun s _ =>
        ((s.notifyNext owner notify n).out owner notify 2).bind fun s _ => .ok s n

def execSpawn (o : OpRRR) (s : State) : Res :=
  if s.dirtyClosed then .next (s.waiting .refresh)
  else
    ((s.release.spawnInto (s.cur.rx o.b).toNat (s.cur.rx o.a)).bind fun s n => .ok (s.setCur (s.cur.wx o.d (toW n))) ()).finish 4

end Sys2Proof.Machine
end

