-- ==== Sys2Proof/Machine/Chain.lean ====
section
/-! DEFINITION. Chaining (R19, R231, R237, R238): the entries behind the head of a VIQ that go on before it completes, up to the elements
that it has finished. -/

namespace Sys2Proof.Machine

/-- A memory instruction that may go on beside others: no VLDFF, no acquire, no full/empty bits. -/
def VMem.plain (m : VMem) : Bool := !m.first && !m.acquire && decide (m.fe = 0) && decide (m.ord = 0)

/-- Whether an entry takes part in chaining: it works by elements, or is a plain memory instruction. -/
def VEntry.chains (e : VEntry) : Bool :=
  match e.op with
  | .mem m => m.plain
  | o => o.elementwise

def VEntry.isMem (e : VEntry) : Bool :=
  match e.op with
  | .mem _ => true
  | _ => false

/-- Whether element `i` may read an element other than the `i`th of its sources. -/
def VOp.crosses (o : VOp) : Bool :=
  match o with
  | .shup _ _ _ | .shdn _ _ _ | .pick _ _ _ => true
  | _ => false

/-- Register groups that an entry writes, and that it reads. -/
def VEntry.outs (e : VEntry) : List VGrp :=
  match e.op with
  | .mem m => m.dst (2 ^ e.sew)
  | o => o.dst (2 ^ e.sew)
def VEntry.ins (e : VEntry) : List VGrp :=
  match e.op with
  | .mem m => m.srcs (2 ^ e.sew) ++ m.dst (2 ^ e.sew)
  | o => o.srcs (2 ^ e.sew)

/-- Masks that an entry writes, and that it reads; 8 is ksel. -/
def VEntry.outsK (e : VEntry) : List Nat :=
  match e.op with
  | .cmp _ d _ _ | .klogic _ d _ _ => [d]
  | .mem _ => [8]
  | _ => []
def VEntry.insK (e : VEntry) : List Nat :=
  e.k :: (match e.op with
    | .klogic _ _ a b => [a, b]
    | .mem _ => [8]
    | _ => [])

/-- The pairs of groups of which one entry writes one and another entry uses the other. -/
def VEntry.pairs (x e : VEntry) : List (VGrp × VGrp) :=
  (x.outs.flatMap (fun a => (e.outs ++ e.ins).map (fun b => (a, b))) ++ x.ins.flatMap (fun a => e.outs.map (fun b => (a, b)))).filter
    (fun p => !p.1.apart p.2)

def VEntry.clashK (x e : VEntry) : Bool :=
  x.outsK.any (fun a => decide (a ≠ 0) && (shas (e.outsK ++ e.insK) a)) || x.insK.any (fun a => decide (a ≠ 0) && shas e.outsK a)

/-- The leading elements that an entry has finished (R237): those issued that have not performed are not. -/
def VEntry.finished (e : VEntry) : Nat :=
  match e.sect with
  | none => e.start
  | some z => z.late.foldl (fun n y => min n y.1.i) e.start

/-- Up to which element an entry may go while an older one has not completed: every one when they share no register and no mask, the ones that
the older has finished when both go through the same groups by elements, otherwise none. -/
def VEntry.limitBy (e x : VEntry) (vl : Nat) : Nat :=
  if !x.chains || !e.chains then 0
  else if (x.pairs e).isEmpty && !x.clashK e then vl
  else if (x.pairs e).all (fun p => decide (p.1 = p.2)) && decide (x.sew = e.sew) && decide (x.nreg = e.nreg) && !x.op.crosses &&
      !e.op.crosses then x.finished
  else 0

/-- The entries of a VIQ, each with the element up to which it may go (R19). -/
def chainLimits (vl : Nat) (older : List VEntry) (l : List VEntry) : List (VEntry × Nat) :=
  match l with
  | [] => []
  | e :: r => (e, older.foldl (fun n x => min n (e.limitBy x vl)) vl) :: chainLimits vl (older ++ [e]) r

/-- Elements in one element group of an instruction (R237). -/
def VEntry.per (e : VEntry) : Nat :=
  let w := 2 ^ e.sew
  if (e.op.dst w ++ e.op.srcs w).any (fun g => decide (g.w = 0)) then 32 else 64 / e.wide

/-- What the lanes could perform of a thread's VIQ now: entries that work by elements (R320), each with the element that it may go up to,
between element groups, and the groups up to there. -/
def Thread.laneWork (t : Thread) : List (VEntry × Nat × Nat) :=
  (chainLimits t.vl [] t.viq).filterMap (fun x =>
    let e := x.1
    let stop := min ((t.poisonStop e).getD t.vl) x.2
    let stop := if stop = t.vl then stop else stop / e.per * e.per
    if e.op.elementwise && t.vMay e && decide (e.start < stop) then some (e, stop, ceilDiv stop e.per - e.start / e.per) else none)

/-- Element groups that the lanes could perform. -/
def Thread.headGroups (t : Thread) : Nat := t.laneWork.foldl (fun n x => n + x.2.2) 0

/-- Performs up to `n` element groups of an entry that may go up to element `stop`. -/
def State.runEntry (s : State) (h : Nat) (e : VEntry) (stop n : Nat) : State :=
  let stop := min stop ((e.start / e.per + n) * e.per)
  if n = 0 ∨ stop ≤ e.start then s
  else
    let r := s.vBegin h e
    ((r.1.setThr h ((r.1.thr h).elems e stop)).setHead h { r.2 with start := stop }).countGroups h e e.start stop

/-- Performs `n` element groups of a thread's VIQ, the oldest entry first. -/
def State.runGroups (s : State) (h n : Nat) : State :=
  ((s.thr h).laneWork.foldl (fun (a : State × Nat) x => (a.1.runEntry h x.1 x.2.1 (min x.2.2 a.2), a.2 - min x.2.2 a.2)) (s, n)).1

/-- Tries the oldest memory instruction behind the head when it depends on no older entry, all of which work by elements. When it has
performed whole, it stays in the VIQ until it is the head. -/
def State.vAhead (s : State) (h : Nat) : State :=
  let t := s.thr h
  match (chainLimits t.vl [] t.viq).find? (fun x => x.1.isMem) with
  | none => s
  | some (e, lim) =>
    if s.lockstep || decide (lim < t.vl) || decide (t.vl ≤ e.start) || (t.viq.head?.map (·.cmd)) == some e.cmd then s
    else if !t.vMay e then s.vServe h e
    else
      let r := s.vBegin h e
      match r.1.vTry h r.2 with
      | .done s => s
      | .wait s => s
      | .trap s p => s.raisePend h p

/-- What VECTOR_INSTRUCTION_COMPLETE does: the head is tried, unless the lanes have its groups to perform first; while it stays, what may go
on behind it does. -/
def State.vectorEvent (s : State) (h : Nat) (first : Bool) : State :=
  if first then s.vAhead h
  else
    let r := s.vStep h
    if r.2 then r.1 else r.1.vAhead h

end Sys2Proof.Machine
end

