-- ==== Sys2Proof/Machine/TaskEvents.lean ====
section
/-! DEFINITION. Events of the schedulers and of the streams of threads: scheduling, saving, retirement, waits, deferred traps, the
vector stream and its lanes, the tile units, the bobbins. -/

namespace Sys2Proof.Machine

def execSchedulingStep (s : State) : Res := .next s.schedule

/-- The save of a context has ended (R156, R248, R252): the slot is free, and the container may be read. The lines that the task dirtied
have been evicted by then (R97, R117): while the bank of one is closed, the save goes on. -/
def State.saveDone (s : State) (task : Nat) : State :=
  match tfind s.saved task with
  | none => s
  | some v =>
    let h := s.threads.find? (fun p => decide (p.2.slot = .saving) && decide (p.2.taskid = task))
    let shut := match h with
      | some p => s.dirtyShut p.1
      | none => false
    if !v.saving || shut then s
    else
      let s := match h with
        | some p => s.l1WriteBackThread (coreOf p.1) p.1
        | none => s
      let t := match h with
        | some p => p.2
        | none => v.thr
      let s := { s with saved := tput s.saved task { v with saving := false, thr := t } }.putContainer task
      match h with
      | some p => { s.leaves p.1 with threads := tdel s.threads p.1 }
      | none => s

def execContextSaveComplete (o : OpTask) (s : State) : Res := .next (s.saveDone o.task)

/-- Whether the drain of EXIT has ended, but for the lines that the thread dirtied (R33). -/
def Thread.drained (t : Thread) : Bool :=
  t.viq.isEmpty && t.rbq.isEmpty && t.win.isEmpty && t.pend.isEmpty &&
  t.bob.all (fun b => b.2.queue.isEmpty && decide (b.2.stat.state = 0))

/-- SKEW.EDGE of a thread as its vector stream sees it (R77): that of the instruction at the head of its VIQ. -/
def Thread.edge (t : Thread) : Nat :=
  match t.viq with
  | e :: _ => e.edge
  | [] => t.skew

/-- The number of lane groups by which a core may change what draws in a cycle (R222), for the largest SKEW.EDGE of some threads; none:
no bound. -/
def State.edgeStep (s : State) (c : Nat) (hs : List Nat) : Option Nat :=
  match hs.foldl (fun m h => max m (s.thr h).edge) 0 with
  | 0 => none
  | e => some (ceilDiv (16 * s.width c) e)

/-- The largest-remainder division of `n` groups by weights (R161). -/
def shareOut (n : Nat) (ws : List (Nat × Nat)) : List (Nat × Nat) :=
  let total := ws.foldl (fun a x => a + x.2) 0
  let left := n - ws.foldl (fun a x => a + n * x.2 / total) 0
  ws.map (fun x =>
    let ahead := ws.countP (fun y => decide (n * x.2 % total < n * y.2 % total) ||
      (decide (n * y.2 % total = n * x.2 % total) && decide (y.1 < x.1)))
    (x.1, n * x.2 / total + (if ahead < left then 1 else 0)))

/-- The lane groups of each busy thread of a core (R161, R162). -/
def State.laneGroups (s : State) (c : Nat) : List (Nat × Nat) :=
  let placed := (threadsOf c).filter (fun h => (s.thr h).live)
  let weight := fun (h : Nat) => (h, (s.thr h).info.vshare)
  let busy := placed.filter (fun h => !(s.thr h).viq.isEmpty)
  let own := shareOut (16 * s.width c) (placed.map weight)
  let mine := own.filter (fun x => shas busy x.1)
  let add := shareOut (16 * s.width c - mine.foldl (fun a x => a + x.2) 0) (busy.map weight)
  mine.map (fun x => (x.1, x.2 + (tfind add x.1).getD 0))

/-- Whether ballast of a draining task is still to be performed (R223): of the lane groups that drew in the last cycle more must draw in the
next than the element groups of the other threads can. -/
def State.ramping (s : State) (h : Nat) : Bool :=
  let c := coreOf h
  match s.edgeStep c ((threadsOf c).filter (fun x => (s.thr x).live)) with
  | some n => decide (n + (s.laneGroups c).foldl (fun a x => a + min x.2 (s.thr x.1).headGroups) 0 < (s.core c).drew)
  | none => false

/-- The retirement of a task that has executed EXIT and drained (R33, R157); EXIT then counts as retired (R224). -/
def State.retireTask (s : State) (h : Nat) : State :=
  let t := s.thr h
  if t.slot ≠ .draining ∨ t.drained = false ∨ s.dirtyShut h = true ∨ s.ramping h = true then s
  else
    let s := ((s.l1WriteBackThread (coreOf h) h).count t.taskid 1 1).freeSlot h false
    match tfind s.slots t.info.slot with
    | some k => if k.queue = t.info.queue then (s.restartWdt t.info.slot).noteIdle t.info.slot else s
    | none => s

def execTaskRetirement (o : OpThread) (s : State) : Res := .next (s.retireTask o.h)

/-! Waits -/

/-- The barrier word of a BAR.WAIT at the head of the VIQ is read again (R366). -/
def execBarrierPoll (o : OpThread) (s : State) : Res :=
  .next (match (s.thr o.h).viq with
    | e :: _ => (match e.op with
      | .barWait _ _ _ _ => (s.vStep o.h).1
      | _ => s)
    | [] => s)

/-- A TLWAIT that waits executes again at its thread's next turn, and reads its word anew (R205, R391). -/
def execTlwaitPoll (o : OpThread) (s : State) : Res :=
  let t := s.thr o.h
  .next (if t.wait = .timeline then s.setThr o.h { t with wait := .none, remote := none, away := none } else s)

/-- A WFE that has waited 10 µs ends (R310). -/
def execWfeTimeout (o : OpThread) (s : State) : Res :=
  let t := s.thr o.h
  .next (match t.wfeSince with
    | some g =>
      if t.wait = .event ∧ 10000 ≤ s.gtime - g then
        (s.setThr o.h { t with pc := t.pc + 4, wait := .none, wfeSince := none, event := false }).count t.taskid 1 1
      else s
    | none => s)

/-! Deferred traps -/

/-- The keys by which pending traps are entered (R235): codes 64 and 65 before the others, then the one detected first; of those detected
together vector, tile, then bobbins by their number. -/
def Pend.rank (p : Pend) : List Nat := [if 64 ≤ p.code then 0 else 1, p.seen, p.src, p.cmd]

/-- The order of two lists of keys of one length. -/
def ranksBelow : List Nat → List Nat → Bool
  | a :: r, b :: q => decide (a < b) || (decide (a = b) && ranksBelow r q)
  | _, _ => false

/-- The pending trap that is entered first (R235). -/
def nextPend (l : List Pend) : Option Pend :=
  match l with
  | [] => none
  | p :: r => some (r.foldl (fun b q => if ranksBelow q.rank b.rank then q else b) p)

/-- Whether an older tile entry runs on before a trap that pre-empts is entered (R232): it has issued, has met no trap, and waits neither at a
watermark nor for a receiver to take its tile, which need not end while the task stays (DEDUCED, log 103). -/
def State.runsOn (s : State) (h : Nat) (e : TEntry) : Bool :=
  e.issued && !e.complete && !(s.thr h).trapped e.cmd &&
  (match e.op with
    | .mld _ _ _ | .mst _ _ _ _ => !e.places.any (fun p => s.guarded (coreOf h) none p.1 16)
    | .mmag _ _ _ _ _ _ _ => false
    | .msend _ _ _ => (match e.send with
      | .retry _ => false
      | _ => true)
    | _ => true)

/-- Whether a deferred trap may be entered now: no handler runs, no drain is stopping the thread (R246), no issued access holds the stream
(R231), no remote packet is unanswered (R237), and a trap that pre-empts waits for the bobbins' answers (R413) and for older tile entries
(R232). -/
def State.mayEnter (s : State) (h : Nat) (p : Pend) : Bool :=
  let t := s.thr h
  let r := s.route t.owner p.code
  t.live && !t.hnd && !(t.stopReq.isSome && (s.part t.info.part).drained) && !decide (t.wait = .remote) && !decide (t.wait = .shootdown) && !t.outstanding &&
  !((decide (r = 1) || decide (r = 2)) && t.bobbinsOut) &&
  !(decide (p.src = 2) && decide (r ≠ 0) && t.win.any (fun e => decide (e.cmd < p.cmd) && s.runsOn h e))

/-- Enters the next deferred trap of a thread at its scalar boundary (R231 to R236); an EXIT that drains executes again afterwards. -/
def State.enterDeferred (s : State) (h : Nat) : State :=
  let t := s.thr h
  match nextPend t.pend with
  | none => s
  | some p =>
    if s.mayEnter h p then
      (s.setThr h { t with pend := t.pend.erase p, slot := .placed }).takeTrap h p t.pc
    else s

def execDeferredTrapEntry (o : OpThread) (s : State) : Res := .next (s.enterDeferred o.h)

def execPagerFaultRecord (s : State) : Res := .next s.writeFault

/-! The vector stream -/

/-- Whether the head of a thread's VIQ has element groups to perform that the bound on the lanes of its core limits: they are performed by
lane arbitration (R222). -/
def State.lanesFirst (s : State) (h : Nat) : Bool :=
  match (s.thr h).viq with
  | e :: _ => e.op.elementwise && decide (e.start < ((s.thr h).poisonStop e).getD (s.thr h).vl) &&
      (s.edgeStep (coreOf h) ((threadsOf (coreOf h)).filter (fun x => (s.thr x).live))).isSome && !s.lockstep
  | [] => false

def execVectorInstructionComplete (o : OpThread) (s : State) : Res :=
  .next (if (s.thr o.h).live then s.vectorEvent o.h (s.lanesFirst o.h) else s)

/-- Cuts the groups that draw to at most `n`, from the highest lane groups down. -/
def cutGroups (n : Nat) (l : List (Nat × Nat)) : List (Nat × Nat) :=
  match l with
  | [] => []
  | (h, k) :: r => (h, min n k) :: cutGroups (n - min n k) r

/-- One cycle of a core's lanes: the assignment, the bound of the edge skew, ballast (R161, R222, R223). -/
def State.laneCycle (s : State) (c : Nat) : State :=
  let want := (s.laneGroups c).map (fun x => (x.1, min x.2 (s.thr x.1).headGroups))
  let placed := (threadsOf c).filter (fun h => (s.thr h).live)
  let k := s.core c
  let run := match s.edgeStep c placed with
    | none => want
    | some step => cutGroups (k.drew + step) want
  let total := run.foldl (fun a x => a + x.2) 0
  let ballast := match s.edgeStep c placed with
    | none => 0
    | some step => k.drew - step - total
  let s := run.foldl (fun s x => s.runGroups x.1 x.2) s
  let s := match placed.find? (fun h => decide (placed.all (fun x => (s.thr x).edge ≤ (s.thr h).edge))) with
    | some h => s.count (s.thr h).taskid 12 ballast
    | none => s
  s.setCore c { s.core c with drew := total + ballast, ballast := ballast }

def execLaneArbitration (o : OpCore) (s : State) : Res := .next (s.laneCycle o.c)

/-! The tile units -/

/-- The entry that a thread offers to a unit: its oldest one of that unit that has not issued and is ready (R160). -/
def State.tileOffer (s : State) (h u : Nat) : Option TEntry :=
  if (s.thr h).live then (s.thr h).win.find? (fun e => !e.issued && decide (e.op.unit = some u) && s.tileReady h e) else none

/-- One cycle of a tile unit (R160): its tables are read (R192), and the first offer after the thread served last is issued. -/
def State.unitCycle (s : State) (c u : Nat) : State :=
  let last := tget (s.core c).last u 3
  let s := (s.checkTiles c).askFills c
  let s := (threadsOf c).foldl (fun s h =>
    if (s.thr h).live then ((s.thr h).win.filter (fun e => !e.issued && decide (e.op.unit = some u))).foldl (fun s e => s.fillSources h e) s
    else s) s
  match ([1, 2, 3, 4].map (fun i => 4 * c + (last + i) % 4)).findSome? (fun h => (s.tileOffer h u).map (fun e => (h, e))) with
  | none => s
  | some (h, e) =>
    let s := (s.tileIssue h e).1
    s.setCore c { s.core c with last := tput (s.core c).last u (h % 4) }

def execTileUnitIssue (o : OpCoreUnit) (s : State) : Res := .next (s.unitCycle o.c o.u)

/-- An issued instruction completes, and complete ones retire in order (R160); an instruction of no unit issues and completes. -/
def State.tileFinish (s : State) (h cmd : Nat) : State :=
  match (s.thr h).win.find? (fun e => decide (e.cmd = cmd)) with
  | none => s
  | some e =>
    if (s.thr h).live = false then s
    else if e.complete then s.retireAll h 17
    else if e.issued then (if (s.thr h).trapped cmd then s else s.tileRun h e)
    else if e.op.unit.isNone && !(s.thr h).hnd then s.tileTry h cmd
    else s

def execTileInstructionComplete (o : OpThreadCmd) (s : State) : Res := .next (s.tileFinish o.h o.cmd)

def execTileFillComplete (o : OpCoreTile) (s : State) : Res := .next (s.fillDone o.c o.pt)

/-! Bobbins -/

def execBobbinCommandStart (o : OpBobbin) (s : State) : Res :=
  .next (match (s.bob o.h o.bn).queue with
    | q :: _ => if (s.thr o.h).live && (s.thr o.h).bobReady o.bn then s.bobStart o.h o.bn q else s
    | [] => s)

/-- Moves a bobbin until its watermark has risen or a packet is out, but not to the completion of its command. -/
def State.bobOne (s : State) (h bn w fuel : Nat) : State :=
  match fuel with
  | 0 => s
  | n + 1 =>
    match (s.bob h bn).queue with
    | [] => s
    | q :: _ =>
      if w < tlCount ((s.thr h).rwm bn) ∨ q.count ≤ tlCount ((s.thr h).rwm bn) then s
      else match s.bobMove h bn with
        | .hold s => s
        | .go s => s.bobOne h bn w n

/-- One element lands (R136, R207). -/
def execBobbinElementLanding (o : OpBobbin) (s : State) : Res :=
  .next (match (s.bob o.h o.bn).queue with
    | q :: _ => if (s.thr o.h).live then s.bobOne o.h o.bn (tlCount ((s.thr o.h).rwm o.bn)) (2 + q.esz / q.piece) else s
    | [] => s)

def execBobbinCommandComplete (o : OpBobbin) (s : State) : Res :=
  .next (match (s.bob o.h o.bn).queue with
    | q :: _ =>
      if (s.thr o.h).live && q.started && decide ((s.bob o.h o.bn).stat.state < 2) && q.sent.isEmpty &&
          decide (q.count ≤ tlCount ((s.thr o.h).rwm o.bn)) then s.bobComplete o.h o.bn q
      else s
    | [] => s)

/-- The causes at which a bobbin freezes (R227): those of an address or a length, a gated core, a remote error, a data error. -/
def bobbinCodes : List Nat := [4, 5, 6, 7, 8, 9, 12, 13, 64]

/-- A source read or landing of a running bobbin meets a fault from without (R211, R233). -/
def execBobbinFault (o : OpBobbinFault) (s : State) : Res :=
  .next (match (s.bob o.h o.bn).queue with
    | q :: _ =>
      let ours := match q.io with
        | some .pointRead | some (.pointWrite _ _) => true
        | _ => false
      if shas bobbinCodes o.code && !ours && (s.thr o.h).live && q.started && decide ((s.bob o.h o.bn).stat.state = 1) then
        let q := { q with got := [], io := none }
        (s.setCmd o.h o.bn q).freeze o.h o.bn q o.code o.addr o.dst 0 0 none
      else s
    | [] => s)

end Sys2Proof.Machine
end

