-- ==== Sys2Proof/Machine/Dispatch.lean ====
section
/-! DEFINITION. One arm per instruction: each calls its meaning. -/

namespace Sys2Proof.Machine

def exec (i : Instr) (s : State) : Host.Outcome State Fault Refusal :=
  match i with
  | .ldI8 o => Sys2Proof.Machine.execLdI8 o s
  | .ldI16 o => Sys2Proof.Machine.execLdI16 o s
  | .ldI32 o => Sys2Proof.Machine.execLdI32 o s
  | .ldI64 o => Sys2Proof.Machine.execLdI64 o s
  | .ldN8 o => Sys2Proof.Machine.execLdN8 o s
  | .ldN16 o => Sys2Proof.Machine.execLdN16 o s
  | .ldN32 o => Sys2Proof.Machine.execLdN32 o s
  | .ldF16 o => Sys2Proof.Machine.execLdF16 o s
  | .ldF32 o => Sys2Proof.Machine.execLdF32 o s
  | .ldF64 o => Sys2Proof.Machine.execLdF64 o s
  | .stN8 o => Sys2Proof.Machine.execStN8 o s
  | .stN16 o => Sys2Proof.Machine.execStN16 o s
  | .stN32 o => Sys2Proof.Machine.execStN32 o s
  | .stN64 o => Sys2Proof.Machine.execStN64 o s
  | .stF16 o => Sys2Proof.Machine.execStF16 o s
  | .stF32 o => Sys2Proof.Machine.execStF32 o s
  | .stF64 o => Sys2Proof.Machine.execStF64 o s
  | .ldFe o => Sys2Proof.Machine.execLdFe o s
  | .ldTake o => Sys2Proof.Machine.execLdTake o s
  | .stFill o => Sys2Proof.Machine.execStFill o s
  | .addi o => Sys2Proof.Machine.execAddi o s
  | .lui o => Sys2Proof.Machine.execLui o s
  | .addpc o => Sys2Proof.Machine.execAddpc o s
  | .slli o => Sys2Proof.Machine.execSlli o s
  | .srli o => Sys2Proof.Machine.execSrli o s
  | .srai o => Sys2Proof.Machine.execSrai o s
  | .andi o => Sys2Proof.Machine.execAndi o s
  | .ori o => Sys2Proof.Machine.execOri o s
  | .xori o => Sys2Proof.Machine.execXori o s
  | .setlti o => Sys2Proof.Machine.execSetlti o s
  | .setltiu o => Sys2Proof.Machine.execSetltiu o s
  | .add o => Sys2Proof.Machine.execAdd o s
  | .sub o => Sys2Proof.Machine.execSub o s
  | .andR o => Sys2Proof.Machine.execAndR o s
  | .orR o => Sys2Proof.Machine.execOrR o s
  | .xorR o => Sys2Proof.Machine.execXorR o s
  | .sll o => Sys2Proof.Machine.execSll o s
  | .srl o => Sys2Proof.Machine.execSrl o s
  | .sra o => Sys2Proof.Machine.execSra o s
  | .setlt o => Sys2Proof.Machine.execSetlt o s
  | .setltu o => Sys2Proof.Machine.execSetltu o s
  | .minR o => Sys2Proof.Machine.execMinR o s
  | .maxR o => Sys2Proof.Machine.execMaxR o s
  | .minu o => Sys2Proof.Machine.execMinu o s
  | .maxu o => Sys2Proof.Machine.execMaxu o s
  | .andinv o => Sys2Proof.Machine.execAndinv o s
  | .orinv o => Sys2Proof.Machine.execOrinv o s
  | .mul o => Sys2Proof.Machine.execMul o s
  | .mulhi o => Sys2Proof.Machine.execMulhi o s
  | .mulhiu o => Sys2Proof.Machine.execMulhiu o s
  | .mulhmix o => Sys2Proof.Machine.execMulhmix o s
  | .div o => Sys2Proof.Machine.execDiv o s
  | .divu o => Sys2Proof.Machine.execDivu o s
  | .rem o => Sys2Proof.Machine.execRem o s
  | .remu o => Sys2Proof.Machine.execRemu o s
  | .ixadd1 o => Sys2Proof.Machine.execIxadd1 o s
  | .ixadd2 o => Sys2Proof.Machine.execIxadd2 o s
  | .ixadd3 o => Sys2Proof.Machine.execIxadd3 o s
  | .ixadd4 o => Sys2Proof.Machine.execIxadd4 o s
  | .zlead o => Sys2Proof.Machine.execZlead o s
  | .ztrail o => Sys2Proof.Machine.execZtrail o s
  | .ones o => Sys2Proof.Machine.execOnes o s
  | .jal o => Sys2Proof.Machine.execJal o s
  | .jalr o => Sys2Proof.Machine.execJalr o s
  | .beq o => Sys2Proof.Machine.execBeq o s
  | .bne o => Sys2Proof.Machine.execBne o s
  | .blt o => Sys2Proof.Machine.execBlt o s
  | .bge o => Sys2Proof.Machine.execBge o s
  | .bltu o => Sys2Proof.Machine.execBltu o s
  | .bgeu o => Sys2Proof.Machine.execBgeu o s
  | .fadd o => Sys2Proof.Machine.execFadd o s
  | .fsub o => Sys2Proof.Machine.execFsub o s
  | .fmul o => Sys2Proof.Machine.execFmul o s
  | .fdiv o => Sys2Proof.Machine.execFdiv o s
  | .fsqrt o => Sys2Proof.Machine.execFsqrt o s
  | .fmin o => Sys2Proof.Machine.execFmin o s
  | .fmax o => Sys2Proof.Machine.execFmax o s
  | .fsgcpy o => Sys2Proof.Machine.execFsgcpy o s
  | .fsginv o => Sys2Proof.Machine.execFsginv o s
  | .fsgxor o => Sys2Proof.Machine.execFsgxor o s
  | .fcmpeq o => Sys2Proof.Machine.execFcmpeq o s
  | .fcmplt o => Sys2Proof.Machine.execFcmplt o s
  | .fcmple o => Sys2Proof.Machine.execFcmple o s
  | .fkind o => Sys2Proof.Machine.execFkind o s
  | .ftoi o => Sys2Proof.Machine.execFtoi o s
  | .itof o => Sys2Proof.Machine.execItof o s
  | .ftof o => Sys2Proof.Machine.execFtof o s
  | .fbitsx o => Sys2Proof.Machine.execFbitsx o s
  | .xbitsf o => Sys2Proof.Machine.execXbitsf o s
  | .fmadd o => Sys2Proof.Machine.execFmadd o s
  | .amoSwap o => Sys2Proof.Machine.execAmoSwap o s
  | .amoAdd o => Sys2Proof.Machine.execAmoAdd o s
  | .amoAnd o => Sys2Proof.Machine.execAmoAnd o s
  | .amoOr o => Sys2Proof.Machine.execAmoOr o s
  | .amoXor o => Sys2Proof.Machine.execAmoXor o s
  | .amoMin o => Sys2Proof.Machine.execAmoMin o s
  | .amoMax o => Sys2Proof.Machine.execAmoMax o s
  | .amoMinu o => Sys2Proof.Machine.execAmoMinu o s
  | .amoMaxu o => Sys2Proof.Machine.execAmoMaxu o s
  | .amoFadd o => Sys2Proof.Machine.execAmoFadd o s
  | .amoFmax o => Sys2Proof.Machine.execAmoFmax o s
  | .amoCas o => Sys2Proof.Machine.execAmoCas o s
  | .cas2 o => Sys2Proof.Machine.execCas2 o s
  | .mfs o => Sys2Proof.Machine.execMfs o s
  | .mts o => Sys2Proof.Machine.execMts o s
  | .fenceSv => Sys2Proof.Machine.execFenceSv s
  | .fenceVs => Sys2Proof.Machine.execFenceVs s
  | .fenceVv => Sys2Proof.Machine.execFenceVv s
  | .fenceAll => Sys2Proof.Machine.execFenceAll s
  | .syscall o => Sys2Proof.Machine.execSyscall o s
  | .breakTrap o => Sys2Proof.Machine.execBreakTrap o s
  | .eret => Sys2Proof.Machine.execEret s
  | .wfe => Sys2Proof.Machine.execWfe s
  | .exitTask => Sys2Proof.Machine.execExitTask s
  | .yieldTask => Sys2Proof.Machine.execYieldTask s
  | .tlbiPg o => Sys2Proof.Machine.execTlbiPg o s
  | .tlbiAll o => Sys2Proof.Machine.execTlbiAll o s
  | .cwb o => Sys2Proof.Machine.execCwb o s
  | .cinv o => Sys2Proof.Machine.execCinv o s
  | .icinv o => Sys2Proof.Machine.execIcinv o s
  | .icinvall => Sys2Proof.Machine.execIcinvall s
  | .qput o => Sys2Proof.Machine.execQput o s
  | .qget o => Sys2Proof.Machine.execQget o s
  | .qpeek o => Sys2Proof.Machine.execQpeek o s
  | .spawn o => Sys2Proof.Machine.execSpawn o s
  | .nop => Sys2Proof.Machine.execNop s
  | .hint o => Sys2Proof.Machine.execHint o s
  | .cLdI64 o => Sys2Proof.Machine.execCLdI64 o s
  | .cLdI32 o => Sys2Proof.Machine.execCLdI32 o s
  | .cStN64 o => Sys2Proof.Machine.execCStN64 o s
  | .cStN32 o => Sys2Proof.Machine.execCStN32 o s
  | .cLdF64 o => Sys2Proof.Machine.execCLdF64 o s
  | .cStF64 o => Sys2Proof.Machine.execCStF64 o s
  | .cNop => Sys2Proof.Machine.execCNop s
  | .cAddi o => Sys2Proof.Machine.execCAddi o s
  | .cLi o => Sys2Proof.Machine.execCLi o s
  | .cLui o => Sys2Proof.Machine.execCLui o s
  | .cSlli o => Sys2Proof.Machine.execCSlli o s
  | .cAndi o => Sys2Proof.Machine.execCAndi o s
  | .cJ o => Sys2Proof.Machine.execCJ o s
  | .cBeqz o => Sys2Proof.Machine.execCBeqz o s
  | .cBnez o => Sys2Proof.Machine.execCBnez o s
  | .cMv o => Sys2Proof.Machine.execCMv o s
  | .cAdd o => Sys2Proof.Machine.execCAdd o s
  | .cJr o => Sys2Proof.Machine.execCJr o s
  | .cJalr o => Sys2Proof.Machine.execCJalr o s
  | .cSub o => Sys2Proof.Machine.execCSub o s
  | .cAnd o => Sys2Proof.Machine.execCAnd o s
  | .cOr o => Sys2Proof.Machine.execCOr o s
  | .cXor o => Sys2Proof.Machine.execCXor o s
  | .vsetl o => Sys2Proof.Machine.execVsetl o s
  | .vcfg o => Sys2Proof.Machine.execVcfg o s
  | .vadd o => Sys2Proof.Machine.execVadd o s
  | .vsub o => Sys2Proof.Machine.execVsub o s
  | .vsubr o => Sys2Proof.Machine.execVsubr o s
  | .vmul o => Sys2Proof.Machine.execVmul o s
  | .vmulhi o => Sys2Proof.Machine.execVmulhi o s
  | .vmulhiu o => Sys2Proof.Machine.execVmulhiu o s
  | .vdiv o => Sys2Proof.Machine.execVdiv o s
  | .vdivu o => Sys2Proof.Machine.execVdivu o s
  | .vrem o => Sys2Proof.Machine.execVrem o s
  | .vremu o => Sys2Proof.Machine.execVremu o s
  | .vand o => Sys2Proof.Machine.execVand o s
  | .vor o => Sys2Proof.Machine.execVor o s
  | .vxor o => Sys2Proof.Machine.execVxor o s
  | .vsll o => Sys2Proof.Machine.execVsll o s
  | .vsrl o => Sys2Proof.Machine.execVsrl o s
  | .vsra o => Sys2Proof.Machine.execVsra o s
  | .vmin o => Sys2Proof.Machine.execVmin o s
  | .vmax o => Sys2Proof.Machine.execVmax o s
  | .vminu o => Sys2Proof.Machine.execVminu o s
  | .vmaxu o => Sys2Proof.Machine.execVmaxu o s
  | .vaddsat o => Sys2Proof.Machine.execVaddsat o s
  | .vaddsatu o => Sys2Proof.Machine.execVaddsatu o s
  | .vsubsat o => Sys2Proof.Machine.execVsubsat o s
  | .vsubsatu o => Sys2Proof.Machine.execVsubsatu o s
  | .vmulq o => Sys2Proof.Machine.execVmulq o s
  | .vmulw o => Sys2Proof.Machine.execVmulw o s
  | .vmulwu o => Sys2Proof.Machine.execVmulwu o s
  | .vmacw o => Sys2Proof.Machine.execVmacw o s
  | .vnarrows o => Sys2Proof.Machine.execVnarrows o s
  | .vnarrowu o => Sys2Proof.Machine.execVnarrowu o s
  | .vfadd o => Sys2Proof.Machine.execVfadd o s
  | .vfsub o => Sys2Proof.Machine.execVfsub o s
  | .vfrsub o => Sys2Proof.Machine.execVfrsub o s
  | .vfmul o => Sys2Proof.Machine.execVfmul o s
  | .vfdiv o => Sys2Proof.Machine.execVfdiv o s
  | .vfmin o => Sys2Proof.Machine.execVfmin o s
  | .vfmax o => Sys2Proof.Machine.execVfmax o s
  | .vfma o => Sys2Proof.Machine.execVfma o s
  | .vfnma o => Sys2Proof.Machine.execVfnma o s
  | .vfsgcpy o => Sys2Proof.Machine.execVfsgcpy o s
  | .vfsginv o => Sys2Proof.Machine.execVfsginv o s
  | .vfsgxor o => Sys2Proof.Machine.execVfsgxor o s
  | .vfsqrt o => Sys2Proof.Machine.execVfsqrt o s
  | .vfexp2 o => Sys2Proof.Machine.execVfexp2 o s
  | .vflog2 o => Sys2Proof.Machine.execVflog2 o s
  | .vfrcp o => Sys2Proof.Machine.execVfrcp o s
  | .vfrsqrt o => Sys2Proof.Machine.execVfrsqrt o s
  | .vfcvt o => Sys2Proof.Machine.execVfcvt o s
  | .vfcvtRs o => Sys2Proof.Machine.execVfcvtRs o s
  | .vcmpeq o => Sys2Proof.Machine.execVcmpeq o s
  | .vcmpne o => Sys2Proof.Machine.execVcmpne o s
  | .vcmplt o => Sys2Proof.Machine.execVcmplt o s
  | .vcmple o => Sys2Proof.Machine.execVcmple o s
  | .vcmpltu o => Sys2Proof.Machine.execVcmpltu o s
  | .vcmpleu o => Sys2Proof.Machine.execVcmpleu o s
  | .vqget o => Sys2Proof.Machine.execVqget o s
  | .vqput o => Sys2Proof.Machine.execVqput o s
  | .vfcmpeq o => Sys2Proof.Machine.execVfcmpeq o s
  | .vfcmpne o => Sys2Proof.Machine.execVfcmpne o s
  | .vfcmplt o => Sys2Proof.Machine.execVfcmplt o s
  | .vfcmple o => Sys2Proof.Machine.execVfcmple o s
  | .kand o => Sys2Proof.Machine.execKand o s
  | .kor o => Sys2Proof.Machine.execKor o s
  | .kxor o => Sys2Proof.Machine.execKxor o s
  | .kandinv o => Sys2Proof.Machine.execKandinv o s
  | .kcount o => Sys2Proof.Machine.execKcount o s
  | .kffs o => Sys2Proof.Machine.execKffs o s
  | .vshup o => Sys2Proof.Machine.execVshup o s
  | .vshdn o => Sys2Proof.Machine.execVshdn o s
  | .vpick o => Sys2Proof.Machine.execVpick o s
  | .vcompact o => Sys2Proof.Machine.execVcompact o s
  | .vassign o => Sys2Proof.Machine.execVassign o s
  | .vramp o => Sys2Proof.Machine.execVramp o s
  | .vfoldadd o => Sys2Proof.Machine.execVfoldadd o s
  | .vfoldmin o => Sys2Proof.Machine.execVfoldmin o s
  | .vfoldmax o => Sys2Proof.Machine.execVfoldmax o s
  | .vredmaxi o => Sys2Proof.Machine.execVredmaxi o s
  | .vgetx o => Sys2Proof.Machine.execVgetx o s
  | .vgetf o => Sys2Proof.Machine.execVgetf o s
  | .vscan o => Sys2Proof.Machine.execVscan o s
  | .vrand o => Sys2Proof.Machine.execVrand o s
  | .vld o => Sys2Proof.Machine.execVld o s
  | .vldx o => Sys2Proof.Machine.execVldx o s
  | .vldff o => Sys2Proof.Machine.execVldff o s
  | .vldsh o => Sys2Proof.Machine.execVldsh o s
  | .vlda o => Sys2Proof.Machine.execVlda o s
  | .vst o => Sys2Proof.Machine.execVst o s
  | .vstx o => Sys2Proof.Machine.execVstx o s
  | .vstsh o => Sys2Proof.Machine.execVstsh o s
  | .vldFe o => Sys2Proof.Machine.execVldFe o s
  | .vldTake o => Sys2Proof.Machine.execVldTake o s
  | .vstFill o => Sys2Proof.Machine.execVstFill o s
  | .barArr o => Sys2Proof.Machine.execBarArr o s
  | .barWait o => Sys2Proof.Machine.execBarWait o s
  | .vamoSwap o => Sys2Proof.Machine.execVamoSwap o s
  | .vamoAdd o => Sys2Proof.Machine.execVamoAdd o s
  | .vamoAnd o => Sys2Proof.Machine.execVamoAnd o s
  | .vamoOr o => Sys2Proof.Machine.execVamoOr o s
  | .vamoXor o => Sys2Proof.Machine.execVamoXor o s
  | .vamoMin o => Sys2Proof.Machine.execVamoMin o s
  | .vamoMax o => Sys2Proof.Machine.execVamoMax o s
  | .vamoMinu o => Sys2Proof.Machine.execVamoMinu o s
  | .vamoMaxu o => Sys2Proof.Machine.execVamoMaxu o s
  | .vamoFadd o => Sys2Proof.Machine.execVamoFadd o s
  | .vamoFmax o => Sys2Proof.Machine.execVamoFmax o s
  | .vamoCas o => Sys2Proof.Machine.execVamoCas o s
  | .tlwaitReg o => Sys2Proof.Machine.execTlwaitReg o s
  | .tlwaitMem o => Sys2Proof.Machine.execTlwaitMem o s
  | .tlread o => Sys2Proof.Machine.execTlread o s
  | .tladv o => Sys2Proof.Machine.execTladv o s
  | .feclr o => Sys2Proof.Machine.execFeclr o s
  | .cpyabort o => Sys2Proof.Machine.execCpyabort o s
  | .cpystat o => Sys2Proof.Machine.execCpystat o s
  | .mcfg o => Sys2Proof.Machine.execMcfg o s
  | .mld o => Sys2Proof.Machine.execMld o s
  | .mst o => Sys2Proof.Machine.execMst o s
  | .mzero o => Sys2Proof.Machine.execMzero o s
  | .mma o => Sys2Proof.Machine.execMma o s
  | .mmag o => Sys2Proof.Machine.execMmag o s
  | .mtov o => Sys2Proof.Machine.execMtov o s
  | .vtom o => Sys2Proof.Machine.execVtom o s
  | .mtrans o => Sys2Proof.Machine.execMtrans o s
  | .mcvt o => Sys2Proof.Machine.execMcvt o s
  | .mpref o => Sys2Proof.Machine.execMpref o s
  | .mdrop o => Sys2Proof.Machine.execMdrop o s
  | .msend o => Sys2Proof.Machine.execMsend o s
  | .mopen o => Sys2Proof.Machine.execMopen o s
  | .mscale o => Sys2Proof.Machine.execMscale o s
  | .madd o => Sys2Proof.Machine.execMadd o s
  | .cpy o => Sys2Proof.Machine.execCpy o s
  | .cpyrows o => Sys2Proof.Machine.execCpyrows o s
  | .cpyv o => Sys2Proof.Machine.execCpyv o s
  | .cpyred o => Sys2Proof.Machine.execCpyred o s
  | .golpinAdd o => Sys2Proof.Machine.execGolpinAdd o s
  | .golpinSub o => Sys2Proof.Machine.execGolpinSub o s
  | .golpinAnd o => Sys2Proof.Machine.execGolpinAnd o s
  | .golpinOr o => Sys2Proof.Machine.execGolpinOr o s
  | .golpinXor o => Sys2Proof.Machine.execGolpinXor o s
  | .golpinSll o => Sys2Proof.Machine.execGolpinSll o s
  | .golpinSrl o => Sys2Proof.Machine.execGolpinSrl o s
  | .golpinSra o => Sys2Proof.Machine.execGolpinSra o s
  | .golpinMin o => Sys2Proof.Machine.execGolpinMin o s
  | .golpinMax o => Sys2Proof.Machine.execGolpinMax o s
  | .golpinMinu o => Sys2Proof.Machine.execGolpinMinu o s
  | .golpinMaxu o => Sys2Proof.Machine.execGolpinMaxu o s
  | .golpinMul o => Sys2Proof.Machine.execGolpinMul o s
  | .golpinSetlt o => Sys2Proof.Machine.execGolpinSetlt o s
  | .golpinSetltu o => Sys2Proof.Machine.execGolpinSetltu o s
  | .golpinAddi o => Sys2Proof.Machine.execGolpinAddi o s
  | .golpinAndi o => Sys2Proof.Machine.execGolpinAndi o s
  | .golpinOri o => Sys2Proof.Machine.execGolpinOri o s
  | .golpinXori o => Sys2Proof.Machine.execGolpinXori o s
  | .golpinSlli o => Sys2Proof.Machine.execGolpinSlli o s
  | .golpinSrli o => Sys2Proof.Machine.execGolpinSrli o s
  | .golpinSrai o => Sys2Proof.Machine.execGolpinSrai o s
  | .golpinLui o => Sys2Proof.Machine.execGolpinLui o s
  | .golpinBeq o => Sys2Proof.Machine.execGolpinBeq o s
  | .golpinBne o => Sys2Proof.Machine.execGolpinBne o s
  | .golpinBlt o => Sys2Proof.Machine.execGolpinBlt o s
  | .golpinBge o => Sys2Proof.Machine.execGolpinBge o s
  | .golpinBltu o => Sys2Proof.Machine.execGolpinBltu o s
  | .golpinBgeu o => Sys2Proof.Machine.execGolpinBgeu o s
  | .laddVv o => Sys2Proof.Machine.execLaddVv o s
  | .lsubVv o => Sys2Proof.Machine.execLsubVv o s
  | .landVv o => Sys2Proof.Machine.execLandVv o s
  | .lorVv o => Sys2Proof.Machine.execLorVv o s
  | .lxorVv o => Sys2Proof.Machine.execLxorVv o s
  | .lminVv o => Sys2Proof.Machine.execLminVv o s
  | .lmaxVv o => Sys2Proof.Machine.execLmaxVv o s
  | .lminuVv o => Sys2Proof.Machine.execLminuVv o s
  | .lmaxuVv o => Sys2Proof.Machine.execLmaxuVv o s
  | .lmulVv o => Sys2Proof.Machine.execLmulVv o s
  | .lfaddVv o => Sys2Proof.Machine.execLfaddVv o s
  | .lfmaxVv o => Sys2Proof.Machine.execLfmaxVv o s
  | .lfminVv o => Sys2Proof.Machine.execLfminVv o s
  | .lbfaddVv o => Sys2Proof.Machine.execLbfaddVv o s
  | .laddVs o => Sys2Proof.Machine.execLaddVs o s
  | .lsubVs o => Sys2Proof.Machine.execLsubVs o s
  | .landVs o => Sys2Proof.Machine.execLandVs o s
  | .lorVs o => Sys2Proof.Machine.execLorVs o s
  | .lxorVs o => Sys2Proof.Machine.execLxorVs o s
  | .lminVs o => Sys2Proof.Machine.execLminVs o s
  | .lmaxVs o => Sys2Proof.Machine.execLmaxVs o s
  | .lminuVs o => Sys2Proof.Machine.execLminuVs o s
  | .lmaxuVs o => Sys2Proof.Machine.execLmaxuVs o s
  | .lmulVs o => Sys2Proof.Machine.execLmulVs o s
  | .lfaddVs o => Sys2Proof.Machine.execLfaddVs o s
  | .lfmaxVs o => Sys2Proof.Machine.execLfmaxVs o s
  | .lfminVs o => Sys2Proof.Machine.execLfminVs o s
  | .lbfaddVs o => Sys2Proof.Machine.execLbfaddVs o s
  | .lcmpeq o => Sys2Proof.Machine.execLcmpeq o s
  | .lcmpne o => Sys2Proof.Machine.execLcmpne o s
  | .lcmplt o => Sys2Proof.Machine.execLcmplt o s
  | .lcmpltu o => Sys2Proof.Machine.execLcmpltu o s
  | .lcmpfeq o => Sys2Proof.Machine.execLcmpfeq o s
  | .lcmpflt o => Sys2Proof.Machine.execLcmpflt o s
  | .lcmpfle o => Sys2Proof.Machine.execLcmpfle o s
  | .jand o => Sys2Proof.Machine.execJand o s
  | .jor o => Sys2Proof.Machine.execJor o s
  | .jxor o => Sys2Proof.Machine.execJxor o s
  | .jandinv o => Sys2Proof.Machine.execJandinv o s
  | .jtoh o => Sys2Proof.Machine.execJtoh o s
  | .htoj o => Sys2Proof.Machine.execHtoj o s
  | .jcount o => Sys2Proof.Machine.execJcount o s
  | .lbcst o => Sys2Proof.Machine.execLbcst o s
  | .lext o => Sys2Proof.Machine.execLext o s
  | .lins o => Sys2Proof.Machine.execLins o s
  | .lredadd o => Sys2Proof.Machine.execLredadd o s
  | .lredfadd o => Sys2Proof.Machine.execLredfadd o s
  | .lredmax o => Sys2Proof.Machine.execLredmax o s
  | .lredmaxu o => Sys2Proof.Machine.execLredmaxu o s
  | .lredfmax o => Sys2Proof.Machine.execLredfmax o s
  | .lredfmin o => Sys2Proof.Machine.execLredfmin o s
  | .pld o => Sys2Proof.Machine.execPld o s
  | .pst o => Sys2Proof.Machine.execPst o s
  | .pldl o => Sys2Proof.Machine.execPldl o s
  | .pstl o => Sys2Proof.Machine.execPstl o s
  | .sld o => Sys2Proof.Machine.execSld o s
  | .sst o => Sys2Proof.Machine.execSst o s
  | .sldl o => Sys2Proof.Machine.execSldl o s
  | .sstl o => Sys2Proof.Machine.execSstl o s
  | .pfresh o => Sys2Proof.Machine.execPfresh o s
  | .golpinLoop o => Sys2Proof.Machine.execGolpinLoop o s
  | .emitSt o => Sys2Proof.Machine.execEmitSt o s
  | .emitWin o => Sys2Proof.Machine.execEmitWin o s
  | .fwd => Sys2Proof.Machine.execFwd s
  | .golpinDrop => Sys2Proof.Machine.execGolpinDrop s
  | .reply => Sys2Proof.Machine.execReply s
  | .ktrap o => Sys2Proof.Machine.execKtrap o s
  | .golpinBudgetExpiry o => Sys2Proof.Machine.execGolpinBudgetExpiry o s
  | .golpinPacketStart o => Sys2Proof.Machine.execGolpinPacketStart o s
  | .emitDelivery o => Sys2Proof.Machine.execEmitDelivery o s
  | .ualinkPacketIngress o => Sys2Proof.Machine.execUalinkPacketIngress o s
  | .reducingWriteAnswer o => Sys2Proof.Machine.execReducingWriteAnswer o s
  | .reducingWriteResend o => Sys2Proof.Machine.execReducingWriteResend o s
  | .remoteRequestPacket o => Sys2Proof.Machine.execRemoteRequestPacket o s
  | .remoteAnswer o => Sys2Proof.Machine.execRemoteAnswer o s
  | .msendLanding o => Sys2Proof.Machine.execMsendLanding o s
  | .msendAnswer o => Sys2Proof.Machine.execMsendAnswer o s
  | .msendRetry o => Sys2Proof.Machine.execMsendRetry o s
  | .schedulingStep => Sys2Proof.Machine.execSchedulingStep s
  | .contextSaveComplete o => Sys2Proof.Machine.execContextSaveComplete o s
  | .taskRetirement o => Sys2Proof.Machine.execTaskRetirement o s
  | .barrierPoll o => Sys2Proof.Machine.execBarrierPoll o s
  | .tlwaitPoll o => Sys2Proof.Machine.execTlwaitPoll o s
  | .wfeTimeout o => Sys2Proof.Machine.execWfeTimeout o s
  | .deferredTrapEntry o => Sys2Proof.Machine.execDeferredTrapEntry o s
  | .pagerFaultRecord => Sys2Proof.Machine.execPagerFaultRecord s
  | .vectorInstructionComplete o => Sys2Proof.Machine.execVectorInstructionComplete o s
  | .laneArbitration o => Sys2Proof.Machine.execLaneArbitration o s
  | .tileUnitIssue o => Sys2Proof.Machine.execTileUnitIssue o s
  | .tileInstructionComplete o => Sys2Proof.Machine.execTileInstructionComplete o s
  | .tileFillComplete o => Sys2Proof.Machine.execTileFillComplete o s
  | .bobbinCommandStart o => Sys2Proof.Machine.execBobbinCommandStart o s
  | .bobbinElementLanding o => Sys2Proof.Machine.execBobbinElementLanding o s
  | .bobbinCommandComplete o => Sys2Proof.Machine.execBobbinCommandComplete o s
  | .bobbinFault o => Sys2Proof.Machine.execBobbinFault o s
  | .bankArbiterGrant o => Sys2Proof.Machine.execBankArbiterGrant o s
  | .scratchpadBankGrant o => Sys2Proof.Machine.execScratchpadBankGrant o s
  | .refreshWindowOpen o => Sys2Proof.Machine.execRefreshWindowOpen o s
  | .refreshWindowClose o => Sys2Proof.Machine.execRefreshWindowClose o s
  | .refreshCalendarChange o => Sys2Proof.Machine.execRefreshCalendarChange o s
  | .dramTemperatureCrossing o => Sys2Proof.Machine.execDramTemperatureCrossing o s
  | .l1Eviction o => Sys2Proof.Machine.execL1Eviction o s
  | .l2Eviction o => Sys2Proof.Machine.execL2Eviction o s
  | .walkComplete o => Sys2Proof.Machine.execWalkComplete o s
  | .tlbInvalidationReceipt o => Sys2Proof.Machine.execTlbInvalidationReceipt o s
  | .tlbInvalidationAck o => Sys2Proof.Machine.execTlbInvalidationAck o s
  | .shootdownComplete o => Sys2Proof.Machine.execShootdownComplete o s
  | .bankOffline o => Sys2Proof.Machine.execBankOffline o s
  | .offlineAccessRetry o => Sys2Proof.Machine.execOfflineAccessRetry o s
  | .coreQuiescePoint o => Sys2Proof.Machine.execCoreQuiescePoint o s
  | .notifyScan o => Sys2Proof.Machine.execNotifyScan o s
  | .notifyNotice o => Sys2Proof.Machine.execNotifyNotice o s
  | .queueMap => Sys2Proof.Machine.execQueueMap s
  | .queueUnmap o => Sys2Proof.Machine.execQueueUnmap o s
  | .watchdogExpiry o => Sys2Proof.Machine.execWatchdogExpiry o s
  | .galleryArbitration o => Sys2Proof.Machine.execGalleryArbitration o s
  | .galarbApply o => Sys2Proof.Machine.execGalarbApply o s
  | .powerSample o => Sys2Proof.Machine.execPowerSample o s
  | .thermalTrip => Sys2Proof.Machine.execThermalTrip s
  | .timeMessageSend => Sys2Proof.Machine.execTimeMessageSend s
  | .timeMessageReceipt o => Sys2Proof.Machine.execTimeMessageReceipt o s
  | .timeMasterLoss => Sys2Proof.Machine.execTimeMasterLoss s
  | .linkFailure o => Sys2Proof.Machine.execLinkFailure o s
  | .ehrezPacketReceipt o => Sys2Proof.Machine.execEhrezPacketReceipt o s
  | .ehrezWrite o => Sys2Proof.Machine.execEhrezWrite o s
  | .ehrezReadRequest o => Sys2Proof.Machine.execEhrezReadRequest o s
  | .ehrezReadResponse o => Sys2Proof.Machine.execEhrezReadResponse o s
  | .ehrezAcknowledgement o => Sys2Proof.Machine.execEhrezAcknowledgement o s
  | .ehrezRetransmit o => Sys2Proof.Machine.execEhrezRetransmit o s
  | .powerOn => Sys2Proof.Machine.execPowerOn s
  | .bootRequest => Sys2Proof.Machine.execBootRequest s
  | .bootPacket o => Sys2Proof.Machine.execBootPacket o s
  | .identity => Sys2Proof.Machine.execIdentity s
  | .attestation o => Sys2Proof.Machine.execAttestation o s
  | .setPackageNumber o => Sys2Proof.Machine.execSetPackageNumber o s
  | .setPillarPhase o => Sys2Proof.Machine.execSetPillarPhase o s
  | .setGtime o => Sys2Proof.Machine.execSetGtime o s
  | .setTimeMaster o => Sys2Proof.Machine.execSetTimeMaster o s
  | .setQueueTableBase o => Sys2Proof.Machine.execSetQueueTableBase o s
  | .configureFaultRing o => Sys2Proof.Machine.execConfigureFaultRing o s
  | .configureTraceRing o => Sys2Proof.Machine.execConfigureTraceRing o s
  | .configureErrorLog o => Sys2Proof.Machine.execConfigureErrorLog o s
  | .writeGalarb o => Sys2Proof.Machine.execWriteGalarb o s
  | .readWdt o => Sys2Proof.Machine.execReadWdt o s
  | .readGestat o => Sys2Proof.Machine.execReadGestat o s
  | .readEnergyCounter => Sys2Proof.Machine.execReadEnergyCounter s
  | .readCutwork o => Sys2Proof.Machine.execReadCutwork o s
  | .gangChange o => Sys2Proof.Machine.execGangChange o s
  | .golpinLoadKernel o => Sys2Proof.Machine.execGolpinLoadKernel o s
  | .golpinUnloadKernel o => Sys2Proof.Machine.execGolpinUnloadKernel o s
  | .golpinWriteFlowEntry o => Sys2Proof.Machine.execGolpinWriteFlowEntry o s
  | .golpinSetEmitRange o => Sys2Proof.Machine.execGolpinSetEmitRange o s
  | .golpinSetEventArea o => Sys2Proof.Machine.execGolpinSetEventArea o s
  | .closeReductionRecord o => Sys2Proof.Machine.execCloseReductionRecord o s
  | .openConnection o => Sys2Proof.Machine.execOpenConnection o s
  | .closeConnection o => Sys2Proof.Machine.execCloseConnection o s
  | .partitionControl o => Sys2Proof.Machine.execPartitionControl o s
  | .queueEnable o => Sys2Proof.Machine.execQueueEnable o s
  | .queueDisable o => Sys2Proof.Machine.execQueueDisable o s
  | .setRoot o => Sys2Proof.Machine.execSetRoot o s
  | .setTrapRouting o => Sys2Proof.Machine.execSetTrapRouting o s
  | .installOwnerKeys o => Sys2Proof.Machine.execInstallOwnerKeys o s
  | .setPowerGrant o => Sys2Proof.Machine.execSetPowerGrant o s
  | .gateCore o => Sys2Proof.Machine.execGateCore o s
  | .ungateCore o => Sys2Proof.Machine.execUngateCore o s
  | .partitionDrainSave o => Sys2Proof.Machine.execPartitionDrainSave o s
  | .partitionDrainEnd o => Sys2Proof.Machine.execPartitionDrainEnd o s
  | .partitionReset o => Sys2Proof.Machine.execPartitionReset o s
  | .contextRepair o => Sys2Proof.Machine.execContextRepair o s
  | .contextExport o => Sys2Proof.Machine.execContextExport o s
  | .contextImport o => Sys2Proof.Machine.execContextImport o s
  | .taskResume o => Sys2Proof.Machine.execTaskResume o s
  | .taskEnd o => Sys2Proof.Machine.execTaskEnd o s
  | .timeClockEdge => Sys2Proof.Machine.execTimeClockEdge s
  | .homeL2Grant o => Sys2Proof.Machine.execHomeL2Grant o s

end Sys2Proof.Machine
end

