-- ==== Sys2Proof/Machine/Run.lean ====
section
/-! DEFINITION. The registers that an instruction reads or writes, for the interlock with the read-back queue (R18), and the run of a
decoded word. `Raw.run` is what the compiler runs: it agrees with `exec` of the decoded instruction. -/

namespace Sys2Proof.Machine

/-- The register of the b operand by OK: .vx or .vf (R316). -/
def srcReg (ok b : Nat) : List (Bool × Nat) := if ok = 1 then [(false, b)] else if ok = 3 then [(true, b)] else []

/-- The x registers (false) and f registers (true) that an instruction reads or writes at its turn in the scalar stream. -/
def instrRegs (i : Instr) : List (Bool × Nat) :=
  match i with
  | .ldI8 o => [(false, o.a), (false, o.d)]
  | .ldI16 o => [(false, o.a), (false, o.d)]
  | .ldI32 o => [(false, o.a), (false, o.d)]
  | .ldI64 o => [(false, o.a), (false, o.d)]
  | .ldN8 o => [(false, o.a), (false, o.d)]
  | .ldN16 o => [(false, o.a), (false, o.d)]
  | .ldN32 o => [(false, o.a), (false, o.d)]
  | .ldF16 o => [(false, o.a), (true, o.d)]
  | .ldF32 o => [(false, o.a), (true, o.d)]
  | .ldF64 o => [(false, o.a), (true, o.d)]
  | .stN8 o => [(false, o.a), (false, o.b)]
  | .stN16 o => [(false, o.a), (false, o.b)]
  | .stN32 o => [(false, o.a), (false, o.b)]
  | .stN64 o => [(false, o.a), (false, o.b)]
  | .stF16 o => [(false, o.a), (true, o.b)]
  | .stF32 o => [(false, o.a), (true, o.b)]
  | .stF64 o => [(false, o.a), (true, o.b)]
  | .ldFe o => [(false, o.a), (decide (7 ≤ o.kind), o.d)]
  | .ldTake o => [(false, o.a), (decide (7 ≤ o.kind), o.d)]
  | .stFill o => [(false, o.a), (decide (5 ≤ o.kind), o.b)]
  | .addi o => [(false, o.d), (false, o.a)]
  | .lui o => [(false, o.d)]
  | .addpc o => [(false, o.d)]
  | .slli o => [(false, o.d), (false, o.a)]
  | .srli o => [(false, o.d), (false, o.a)]
  | .srai o => [(false, o.d), (false, o.a)]
  | .andi o => [(false, o.d), (false, o.a)]
  | .ori o => [(false, o.d), (false, o.a)]
  | .xori o => [(false, o.d), (false, o.a)]
  | .setlti o => [(false, o.d), (false, o.a)]
  | .setltiu o => [(false, o.d), (false, o.a)]
  | .add o => [(false, o.d), (false, o.a), (false, o.b)]
  | .sub o => [(false, o.d), (false, o.a), (false, o.b)]
  | .andR o => [(false, o.d), (false, o.a), (false, o.b)]
  | .orR o => [(false, o.d), (false, o.a), (false, o.b)]
  | .xorR o => [(false, o.d), (false, o.a), (false, o.b)]
  | .sll o => [(false, o.d), (false, o.a), (false, o.b)]
  | .srl o => [(false, o.d), (false, o.a), (false, o.b)]
  | .sra o => [(false, o.d), (false, o.a), (false, o.b)]
  | .setlt o => [(false, o.d), (false, o.a), (false, o.b)]
  | .setltu o => [(false, o.d), (false, o.a), (false, o.b)]
  | .minR o => [(false, o.d), (false, o.a), (false, o.b)]
  | .maxR o => [(false, o.d), (false, o.a), (false, o.b)]
  | .minu o => [(false, o.d), (false, o.a), (false, o.b)]
  | .maxu o => [(false, o.d), (false, o.a), (false, o.b)]
  | .andinv o => [(false, o.d), (false, o.a), (false, o.b)]
  | .orinv o => [(false, o.d), (false, o.a), (false, o.b)]
  | .mul o => [(false, o.d), (false, o.a), (false, o.b)]
  | .mulhi o => [(false, o.d), (false, o.a), (false, o.b)]
  | .mulhiu o => [(false, o.d), (false, o.a), (false, o.b)]
  | .mulhmix o => [(false, o.d), (false, o.a), (false, o.b)]
  | .div o => [(false, o.d), (false, o.a), (false, o.b)]
  | .divu o => [(false, o.d), (false, o.a), (false, o.b)]
  | .rem o => [(false, o.d), (false, o.a), (false, o.b)]
  | .remu o => [(false, o.d), (false, o.a), (false, o.b)]
  | .ixadd1 o => [(false, o.d), (false, o.a), (false, o.b)]
  | .ixadd2 o => [(false, o.d), (false, o.a), (false, o.b)]
  | .ixadd3 o => [(false, o.d), (false, o.a), (false, o.b)]
  | .ixadd4 o => [(false, o.d), (false, o.a), (false, o.b)]
  | .zlead o => [(false, o.d), (false, o.a)]
  | .ztrail o => [(false, o.d), (false, o.a)]
  | .ones o => [(false, o.d), (false, o.a)]
  | .jal o => [(false, o.d)]
  | .jalr o => [(false, o.d), (false, o.a)]
  | .beq o => [(false, o.a), (false, o.b)]
  | .bne o => [(false, o.a), (false, o.b)]
  | .blt o => [(false, o.a), (false, o.b)]
  | .bge o => [(false, o.a), (false, o.b)]
  | .bltu o => [(false, o.a), (false, o.b)]
  | .bgeu o => [(false, o.a), (false, o.b)]
  | .fadd o => [(true, o.d), (true, o.a), (true, o.b)]
  | .fsub o => [(true, o.d), (true, o.a), (true, o.b)]
  | .fmul o => [(true, o.d), (true, o.a), (true, o.b)]
  | .fdiv o => [(true, o.d), (true, o.a), (true, o.b)]
  | .fsqrt o => [(true, o.d), (true, o.a)]
  | .fmin o => [(true, o.d), (true, o.a), (true, o.b)]
  | .fmax o => [(true, o.d), (true, o.a), (true, o.b)]
  | .fsgcpy o => [(true, o.d), (true, o.a), (true, o.b)]
  | .fsginv o => [(true, o.d), (true, o.a), (true, o.b)]
  | .fsgxor o => [(true, o.d), (true, o.a), (true, o.b)]
  | .fcmpeq o => [(false, o.d), (true, o.a), (true, o.b)]
  | .fcmplt o => [(false, o.d), (true, o.a), (true, o.b)]
  | .fcmple o => [(false, o.d), (true, o.a), (true, o.b)]
  | .fkind o => [(false, o.d), (true, o.a)]
  | .ftoi o => [(false, o.d), (true, o.a)]
  | .itof o => [(true, o.d), (false, o.a)]
  | .ftof o => [(true, o.d), (true, o.a)]
  | .fbitsx o => [(false, o.d), (true, o.a)]
  | .xbitsf o => [(true, o.d), (false, o.a)]
  | .fmadd o => [(true, o.d), (true, o.a), (true, o.b), (true, o.c)]
  | .amoSwap o => [(false, o.a), (false, o.d), (false, o.b)]
  | .amoAdd o => [(false, o.a), (false, o.d), (false, o.b)]
  | .amoAnd o => [(false, o.a), (false, o.d), (false, o.b)]
  | .amoOr o => [(false, o.a), (false, o.d), (false, o.b)]
  | .amoXor o => [(false, o.a), (false, o.d), (false, o.b)]
  | .amoMin o => [(false, o.a), (false, o.d), (false, o.b)]
  | .amoMax o => [(false, o.a), (false, o.d), (false, o.b)]
  | .amoMinu o => [(false, o.a), (false, o.d), (false, o.b)]
  | .amoMaxu o => [(false, o.a), (false, o.d), (false, o.b)]
  | .amoFadd o => [(false, o.a), (true, o.d), (true, o.b)]
  | .amoFmax o => [(false, o.a), (true, o.d), (true, o.b)]
  | .amoCas o => [(false, o.a), (false, o.d), (false, o.b)]
  | .cas2 o => [(false, o.a), (false, o.b), (false, o.b + 1), (false, o.d), (false, o.d + 1)]
  | .mfs o => [(false, o.d)]
  | .mts o => [(false, o.a)]
  | .fenceSv => []
  | .fenceVs => []
  | .fenceVv => []
  | .fenceAll => []
  | .syscall _ => []
  | .breakTrap _ => []
  | .eret => []
  | .wfe => []
  | .exitTask => []
  | .yieldTask => []
  | .tlbiPg o => [(false, o.a), (false, o.b)]
  | .tlbiAll o => [(false, o.b)]
  | .cwb o => [(false, o.a)]
  | .cinv o => [(false, o.a)]
  | .icinv o => [(false, o.a)]
  | .icinvall => []
  | .qput o => [(false, o.a)]
  | .qget o => [(false, o.d)]
  | .qpeek o => [(false, o.d)]
  | .spawn o => [(false, o.d), (false, o.a), (false, o.b)]
  | .nop => []
  | .hint _ => []
  | .cLdI64 o => [(false, cReg o.a), (false, cReg o.d)]
  | .cLdI32 o => [(false, cReg o.a), (false, cReg o.d)]
  | .cStN64 o => [(false, cReg o.a), (false, cReg o.d)]
  | .cStN32 o => [(false, cReg o.a), (false, cReg o.d)]
  | .cLdF64 o => [(false, cReg o.a), (true, cReg o.d)]
  | .cStF64 o => [(false, cReg o.a), (true, cReg o.d)]
  | .cNop => []
  | .cAddi o => [(false, o.d)]
  | .cLi o => [(false, o.d)]
  | .cLui o => [(false, o.d)]
  | .cSlli o => [(false, o.d)]
  | .cAndi o => [(false, o.d)]
  | .cJ _ => []
  | .cBeqz o => [(false, cReg o.a)]
  | .cBnez o => [(false, cReg o.a)]
  | .cMv o => [(false, o.d), (false, o.b)]
  | .cAdd o => [(false, o.d), (false, o.b)]
  | .cJr o => [(false, o.d)]
  | .cJalr o => [(false, o.d), (false, 31)]
  | .cSub o => [(false, o.d), (false, o.b)]
  | .cAnd o => [(false, o.d), (false, o.b)]
  | .cOr o => [(false, o.d), (false, o.b)]
  | .cXor o => [(false, o.d), (false, o.b)]
  | .vsetl o => [(false, o.d), (false, o.a)]
  | .vcfg o => [(false, o.d)]
  | .vadd o => srcReg o.ok o.b
  | .vsub o => srcReg o.ok o.b
  | .vsubr o => srcReg o.ok o.b
  | .vmul o => srcReg o.ok o.b
  | .vmulhi o => srcReg o.ok o.b
  | .vmulhiu o => srcReg o.ok o.b
  | .vdiv o => srcReg o.ok o.b
  | .vdivu o => srcReg o.ok o.b
  | .vrem o => srcReg o.ok o.b
  | .vremu o => srcReg o.ok o.b
  | .vand o => srcReg o.ok o.b
  | .vor o => srcReg o.ok o.b
  | .vxor o => srcReg o.ok o.b
  | .vsll o => srcReg o.ok o.b
  | .vsrl o => srcReg o.ok o.b
  | .vsra o => srcReg o.ok o.b
  | .vmin o => srcReg o.ok o.b
  | .vmax o => srcReg o.ok o.b
  | .vminu o => srcReg o.ok o.b
  | .vmaxu o => srcReg o.ok o.b
  | .vaddsat o => srcReg o.ok o.b
  | .vaddsatu o => srcReg o.ok o.b
  | .vsubsat o => srcReg o.ok o.b
  | .vsubsatu o => srcReg o.ok o.b
  | .vmulq o => srcReg o.ok o.b
  | .vmulw o => srcReg o.ok o.b
  | .vmulwu o => srcReg o.ok o.b
  | .vmacw o => srcReg o.ok o.b
  | .vnarrows o => srcReg o.ok o.b
  | .vnarrowu o => srcReg o.ok o.b
  | .vfadd o => srcReg o.ok o.b
  | .vfsub o => srcReg o.ok o.b
  | .vfrsub o => srcReg o.ok o.b
  | .vfmul o => srcReg o.ok o.b
  | .vfdiv o => srcReg o.ok o.b
  | .vfmin o => srcReg o.ok o.b
  | .vfmax o => srcReg o.ok o.b
  | .vfma o => srcReg o.ok o.b
  | .vfnma o => srcReg o.ok o.b
  | .vfsgcpy o => srcReg o.ok o.b
  | .vfsginv o => srcReg o.ok o.b
  | .vfsgxor o => srcReg o.ok o.b
  | .vfsqrt _ => []
  | .vfexp2 _ => []
  | .vflog2 _ => []
  | .vfrcp _ => []
  | .vfrsqrt _ => []
  | .vfcvt _ => []
  | .vfcvtRs _ => []
  | .vcmpeq o => srcReg o.ok o.b
  | .vcmpne o => srcReg o.ok o.b
  | .vcmplt o => srcReg o.ok o.b
  | .vcmple o => srcReg o.ok o.b
  | .vcmpltu o => srcReg o.ok o.b
  | .vcmpleu o => srcReg o.ok o.b
  | .vqget _ => []
  | .vqput o => srcReg o.ok o.b
  | .vfcmpeq o => srcReg o.ok o.b
  | .vfcmpne o => srcReg o.ok o.b
  | .vfcmplt o => srcReg o.ok o.b
  | .vfcmple o => srcReg o.ok o.b
  | .kand _ => []
  | .kor _ => []
  | .kxor _ => []
  | .kandinv _ => []
  | .kcount o => [(false, o.d)]
  | .kffs o => [(false, o.d)]
  | .vshup o => srcReg o.ok o.b
  | .vshdn o => srcReg o.ok o.b
  | .vpick o => srcReg o.ok o.b
  | .vcompact _ => []
  | .vassign o => srcReg o.ok o.b
  | .vramp o => srcReg o.ok o.b
  | .vfoldadd o => srcReg o.ok o.b ++ [(decide (o.ok = 3), o.d)]
  | .vfoldmin o => srcReg o.ok o.b ++ [(decide (o.ok = 3), o.d)]
  | .vfoldmax o => srcReg o.ok o.b ++ [(decide (o.ok = 3), o.d)]
  | .vredmaxi o => [(false, o.d)]
  | .vgetx o => srcReg o.ok o.b ++ [(false, o.d)]
  | .vgetf o => srcReg o.ok o.b ++ [(true, o.d)]
  | .vscan o => srcReg o.ok o.b
  | .vrand o => [(false, o.a), (false, o.b), (false, o.b + 1)]
  | .vld o => [(false, o.a), (false, o.b)]
  | .vldx o => [(false, o.a)]
  | .vldff o => [(false, o.a)]
  | .vldsh o => [(false, o.a)]
  | .vlda o => [(false, o.a)]
  | .vst o => [(false, o.a), (false, o.b)]
  | .vstx o => [(false, o.a)]
  | .vstsh o => [(false, o.a)]
  | .vldFe o => (if o.indexed then [] else [(false, o.b)]) ++ [(false, o.a)]
  | .vldTake o => (if o.indexed then [] else [(false, o.b)]) ++ [(false, o.a)]
  | .vstFill o => (if o.indexed then [] else [(false, o.b)]) ++ [(false, o.a)]
  | .barArr o => [(false, o.d)]
  | .barWait o => [(false, o.a)]
  | .vamoSwap o => [(false, o.a)]
  | .vamoAdd o => [(false, o.a)]
  | .vamoAnd o => [(false, o.a)]
  | .vamoOr o => [(false, o.a)]
  | .vamoXor o => [(false, o.a)]
  | .vamoMin o => [(false, o.a)]
  | .vamoMax o => [(false, o.a)]
  | .vamoMinu o => [(false, o.a)]
  | .vamoMaxu o => [(false, o.a)]
  | .vamoFadd o => [(false, o.a)]
  | .vamoFmax o => [(false, o.a)]
  | .vamoCas o => [(false, o.a)]
  | .tlwaitReg o => [(false, o.d), (false, o.b)]
  | .tlwaitMem o => [(false, o.d), (false, o.a), (false, o.b)]
  | .tlread o => [(false, o.d)]
  | .tladv o => [(false, o.b)]
  | .feclr o => [(false, o.a), (false, o.b)]
  | .cpyabort _ => []
  | .cpystat o => [(false, o.d)]
  | .mcfg o => [(false, o.xa)]
  | .mld o => [(false, o.xa), (false, o.xb)]
  | .mst o => [(false, o.xa), (false, o.xb)]
  | .mzero _ => []
  | .mma _ => []
  | .mmag o => [(false, o.xa)]
  | .mtov o => [(false, o.xa)]
  | .vtom o => [(false, o.xa)]
  | .mtrans o => [(false, o.xa)]
  | .mcvt o => [(false, o.xa)]
  | .mpref _ => []
  | .mdrop _ => []
  | .msend o => [(false, o.xa)]
  | .mopen _ => []
  | .mscale o => [(false, o.xa)]
  | .madd o => [(false, o.xa)]
  | .cpy o => [(false, o.xa), (false, o.xb), (false, o.xc), (false, o.xc + 1), (false, o.xc + 2), (false, o.xc + 3)]
  | .cpyrows o => [(false, o.xa), (false, o.xb), (false, o.xc)]
  | .cpyv o => [(false, o.xa), (false, o.xb)]
  | .cpyred o => [(false, o.xa), (false, o.xb), (false, o.xc)]
  | .golpinAdd _ => []
  | .golpinSub _ => []
  | .golpinAnd _ => []
  | .golpinOr _ => []
  | .golpinXor _ => []
  | .golpinSll _ => []
  | .golpinSrl _ => []
  | .golpinSra _ => []
  | .golpinMin _ => []
  | .golpinMax _ => []
  | .golpinMinu _ => []
  | .golpinMaxu _ => []
  | .golpinMul _ => []
  | .golpinSetlt _ => []
  | .golpinSetltu _ => []
  | .golpinAddi _ => []
  | .golpinAndi _ => []
  | .golpinOri _ => []
  | .golpinXori _ => []
  | .golpinSlli _ => []
  | .golpinSrli _ => []
  | .golpinSrai _ => []
  | .golpinLui _ => []
  | .golpinBeq _ => []
  | .golpinBne _ => []
  | .golpinBlt _ => []
  | .golpinBge _ => []
  | .golpinBltu _ => []
  | .golpinBgeu _ => []
  | .laddVv _ => []
  | .lsubVv _ => []
  | .landVv _ => []
  | .lorVv _ => []
  | .lxorVv _ => []
  | .lminVv _ => []
  | .lmaxVv _ => []
  | .lminuVv _ => []
  | .lmaxuVv _ => []
  | .lmulVv _ => []
  | .lfaddVv _ => []
  | .lfmaxVv _ => []
  | .lfminVv _ => []
  | .lbfaddVv _ => []
  | .laddVs _ => []
  | .lsubVs _ => []
  | .landVs _ => []
  | .lorVs _ => []
  | .lxorVs _ => []
  | .lminVs _ => []
  | .lmaxVs _ => []
  | .lminuVs _ => []
  | .lmaxuVs _ => []
  | .lmulVs _ => []
  | .lfaddVs _ => []
  | .lfmaxVs _ => []
  | .lfminVs _ => []
  | .lbfaddVs _ => []
  | .lcmpeq _ => []
  | .lcmpne _ => []
  | .lcmplt _ => []
  | .lcmpltu _ => []
  | .lcmpfeq _ => []
  | .lcmpflt _ => []
  | .lcmpfle _ => []
  | .jand _ => []
  | .jor _ => []
  | .jxor _ => []
  | .jandinv _ => []
  | .jtoh _ => []
  | .htoj _ => []
  | .jcount _ => []
  | .lbcst _ => []
  | .lext _ => []
  | .lins _ => []
  | .lredadd _ => []
  | .lredfadd _ => []
  | .lredmax _ => []
  | .lredmaxu _ => []
  | .lredfmax _ => []
  | .lredfmin _ => []
  | .pld _ => []
  | .pst _ => []
  | .pldl _ => []
  | .pstl _ => []
  | .sld _ => []
  | .sst _ => []
  | .sldl _ => []
  | .sstl _ => []
  | .pfresh _ => []
  | .golpinLoop _ => []
  | .emitSt _ => []
  | .emitWin _ => []
  | .fwd => []
  | .golpinDrop => []
  | .reply => []
  | .ktrap _ => []
  | .golpinBudgetExpiry _ => []
  | .golpinPacketStart _ => []
  | .emitDelivery _ => []
  | .ualinkPacketIngress _ => []
  | .reducingWriteAnswer _ => []
  | .reducingWriteResend _ => []
  | .remoteRequestPacket _ => []
  | .remoteAnswer _ => []
  | .msendLanding _ => []
  | .msendAnswer _ => []
  | .msendRetry _ => []
  | .schedulingStep => []
  | .contextSaveComplete _ => []
  | .taskRetirement _ => []
  | .barrierPoll _ => []
  | .tlwaitPoll _ => []
  | .wfeTimeout _ => []
  | .deferredTrapEntry _ => []
  | .pagerFaultRecord => []
  | .vectorInstructionComplete _ => []
  | .laneArbitration _ => []
  | .tileUnitIssue _ => []
  | .tileInstructionComplete _ => []
  | .tileFillComplete _ => []
  | .bobbinCommandStart _ => []
  | .bobbinElementLanding _ => []
  | .bobbinCommandComplete _ => []
  | .bobbinFault _ => []
  | .bankArbiterGrant _ => []
  | .scratchpadBankGrant _ => []
  | .refreshWindowOpen _ => []
  | .refreshWindowClose _ => []
  | .refreshCalendarChange _ => []
  | .dramTemperatureCrossing _ => []
  | .l1Eviction _ => []
  | .l2Eviction _ => []
  | .walkComplete _ => []
  | .tlbInvalidationReceipt _ => []
  | .tlbInvalidationAck _ => []
  | .shootdownComplete _ => []
  | .bankOffline _ => []
  | .offlineAccessRetry _ => []
  | .coreQuiescePoint _ => []
  | .notifyScan _ => []
  | .notifyNotice _ => []
  | .queueMap => []
  | .queueUnmap _ => []
  | .watchdogExpiry _ => []
  | .galleryArbitration _ => []
  | .galarbApply _ => []
  | .powerSample _ => []
  | .thermalTrip => []
  | .timeMessageSend => []
  | .timeMessageReceipt _ => []
  | .timeMasterLoss => []
  | .linkFailure _ => []
  | .ehrezPacketReceipt _ => []
  | .ehrezWrite _ => []
  | .ehrezReadRequest _ => []
  | .ehrezReadResponse _ => []
  | .ehrezAcknowledgement _ => []
  | .ehrezRetransmit _ => []
  | .powerOn => []
  | .bootRequest => []
  | .bootPacket _ => []
  | .identity => []
  | .attestation _ => []
  | .setPackageNumber _ => []
  | .setPillarPhase _ => []
  | .setGtime _ => []
  | .setTimeMaster _ => []
  | .setQueueTableBase _ => []
  | .configureFaultRing _ => []
  | .configureTraceRing _ => []
  | .configureErrorLog _ => []
  | .writeGalarb _ => []
  | .readWdt _ => []
  | .readGestat _ => []
  | .readEnergyCounter => []
  | .readCutwork _ => []
  | .gangChange _ => []
  | .golpinLoadKernel _ => []
  | .golpinUnloadKernel _ => []
  | .golpinWriteFlowEntry _ => []
  | .golpinSetEmitRange _ => []
  | .golpinSetEventArea _ => []
  | .closeReductionRecord _ => []
  | .openConnection _ => []
  | .closeConnection _ => []
  | .partitionControl _ => []
  | .queueEnable _ => []
  | .queueDisable _ => []
  | .setRoot _ => []
  | .setTrapRouting _ => []
  | .installOwnerKeys _ => []
  | .setPowerGrant _ => []
  | .gateCore _ => []
  | .ungateCore _ => []
  | .partitionDrainSave _ => []
  | .partitionDrainEnd _ => []
  | .partitionReset _ => []
  | .contextRepair _ => []
  | .contextExport _ => []
  | .contextImport _ => []
  | .taskResume _ => []
  | .taskEnd _ => []
  | .timeClockEdge => []
  | .homeL2Grant _ => []

def Raw.regs (r : Raw) : List (Bool × Nat) :=
  match r with
  | .low i => instrRegs i
  | .barArr o => [(false, o.d)]
  | .barWait o => [(false, o.a)]
  | .vamoSwap o => [(false, o.a)]
  | .vamoAdd o => [(false, o.a)]
  | .vamoAnd o => [(false, o.a)]
  | .vamoOr o => [(false, o.a)]
  | .vamoXor o => [(false, o.a)]
  | .vamoMin o => [(false, o.a)]
  | .vamoMax o => [(false, o.a)]
  | .vamoMinu o => [(false, o.a)]
  | .vamoMaxu o => [(false, o.a)]
  | .vamoFadd o => [(false, o.a)]
  | .vamoFmax o => [(false, o.a)]
  | .vamoCas o => [(false, o.a)]
  | .tlwaitReg o => [(false, o.d), (false, o.b)]
  | .tlwaitMem o => [(false, o.d), (false, o.a), (false, o.b)]
  | .tlread o => [(false, o.d)]
  | .tladv o => [(false, o.b)]
  | .feclr o => [(false, o.a), (false, o.b)]
  | .cpyabort _ => []
  | .cpystat o => [(false, o.d)]
  | .mcfg o => [(false, o.xa)]
  | .mld o => [(false, o.xa), (false, o.xb)]
  | .mst o => [(false, o.xa), (false, o.xb)]
  | .mzero _ => []
  | .mma _ => []
  | .mmag o => [(false, o.xa)]
  | .mtov o => [(false, o.xa)]
  | .vtom o => [(false, o.xa)]
  | .mtrans o => [(false, o.xa)]
  | .mcvt o => [(false, o.xa)]
  | .mpref _ => []
  | .mdrop _ => []
  | .msend o => [(false, o.xa)]
  | .mopen _ => []
  | .mscale o => [(false, o.xa)]
  | .madd o => [(false, o.xa)]
  | .cpy o => [(false, o.xa), (false, o.xb), (false, o.xc), (false, o.xc + 1), (false, o.xc + 2), (false, o.xc + 3)]
  | .cpyrows o => [(false, o.xa), (false, o.xb), (false, o.xc)]
  | .cpyv o => [(false, o.xa), (false, o.xb)]
  | .cpyred o => [(false, o.xa), (false, o.xb), (false, o.xc)]
  | .golpinAdd _ => []
  | .golpinSub _ => []
  | .golpinAnd _ => []
  | .golpinOr _ => []
  | .golpinXor _ => []
  | .golpinSll _ => []
  | .golpinSrl _ => []
  | .golpinSra _ => []
  | .golpinMin _ => []
  | .golpinMax _ => []
  | .golpinMinu _ => []
  | .golpinMaxu _ => []
  | .golpinMul _ => []
  | .golpinSetlt _ => []
  | .golpinSetltu _ => []
  | .golpinAddi _ => []
  | .golpinAndi _ => []
  | .golpinOri _ => []
  | .golpinXori _ => []
  | .golpinSlli _ => []
  | .golpinSrli _ => []
  | .golpinSrai _ => []
  | .golpinLui _ => []
  | .golpinBeq _ => []
  | .golpinBne _ => []
  | .golpinBlt _ => []
  | .golpinBge _ => []
  | .golpinBltu _ => []
  | .golpinBgeu _ => []
  | .laddVv _ => []
  | .lsubVv _ => []
  | .landVv _ => []
  | .lorVv _ => []
  | .lxorVv _ => []
  | .lminVv _ => []
  | .lmaxVv _ => []
  | .lminuVv _ => []
  | .lmaxuVv _ => []
  | .lmulVv _ => []
  | .lfaddVv _ => []
  | .lfmaxVv _ => []
  | .lfminVv _ => []
  | .lbfaddVv _ => []
  | .laddVs _ => []
  | .lsubVs _ => []
  | .landVs _ => []
  | .lorVs _ => []
  | .lxorVs _ => []
  | .lminVs _ => []
  | .lmaxVs _ => []
  | .lminuVs _ => []
  | .lmaxuVs _ => []
  | .lmulVs _ => []
  | .lfaddVs _ => []
  | .lfmaxVs _ => []
  | .lfminVs _ => []
  | .lbfaddVs _ => []
  | .lcmpeq _ => []
  | .lcmpne _ => []
  | .lcmplt _ => []
  | .lcmpltu _ => []
  | .lcmpfeq _ => []
  | .lcmpflt _ => []
  | .lcmpfle _ => []
  | .jand _ => []
  | .jor _ => []
  | .jxor _ => []
  | .jandinv _ => []
  | .jtoh _ => []
  | .htoj _ => []
  | .jcount _ => []
  | .lbcst _ => []
  | .lext _ => []
  | .lins _ => []
  | .lredadd _ => []
  | .lredfadd _ => []
  | .lredmax _ => []
  | .lredmaxu _ => []
  | .lredfmax _ => []
  | .lredfmin _ => []
  | .pld _ => []
  | .pst _ => []
  | .pldl _ => []
  | .pstl _ => []
  | .sld _ => []
  | .sst _ => []
  | .sldl _ => []
  | .sstl _ => []
  | .pfresh _ => []
  | .golpinLoop _ => []
  | .emitSt _ => []
  | .emitWin _ => []
  | .fwd => []
  | .golpinDrop => []
  | .reply => []
  | .ktrap _ => []

/-- `exec` of a decoded instruction. -/
def Raw.run (r : Raw) (s : State) : Res :=
  match r with
  | .low i => exec i s
  | .barArr o => execBarArr o s
  | .barWait o => execBarWait o s
  | .vamoSwap o => execVamoSwap o s
  | .vamoAdd o => execVamoAdd o s
  | .vamoAnd o => execVamoAnd o s
  | .vamoOr o => execVamoOr o s
  | .vamoXor o => execVamoXor o s
  | .vamoMin o => execVamoMin o s
  | .vamoMax o => execVamoMax o s
  | .vamoMinu o => execVamoMinu o s
  | .vamoMaxu o => execVamoMaxu o s
  | .vamoFadd o => execVamoFadd o s
  | .vamoFmax o => execVamoFmax o s
  | .vamoCas o => execVamoCas o s
  | .tlwaitReg o => execTlwaitReg o s
  | .tlwaitMem o => execTlwaitMem o s
  | .tlread o => execTlread o s
  | .tladv o => execTladv o s
  | .feclr o => execFeclr o s
  | .cpyabort o => execCpyabort o s
  | .cpystat o => execCpystat o s
  | .mcfg o => execMcfg o s
  | .mld o => execMld o s
  | .mst o => execMst o s
  | .mzero o => execMzero o s
  | .mma o => execMma o s
  | .mmag o => execMmag o s
  | .mtov o => execMtov o s
  | .vtom o => execVtom o s
  | .mtrans o => execMtrans o s
  | .mcvt o => execMcvt o s
  | .mpref o => execMpref o s
  | .mdrop o => execMdrop o s
  | .msend o => execMsend o s
  | .mopen o => execMopen o s
  | .mscale o => execMscale o s
  | .madd o => execMadd o s
  | .cpy o => execCpy o s
  | .cpyrows o => execCpyrows o s
  | .cpyv o => execCpyv o s
  | .cpyred o => execCpyred o s
  | .golpinAdd o => execGolpinAdd o s
  | .golpinSub o => execGolpinSub o s
  | .golpinAnd o => execGolpinAnd o s
  | .golpinOr o => execGolpinOr o s
  | .golpinXor o => execGolpinXor o s
  | .golpinSll o => execGolpinSll o s
  | .golpinSrl o => execGolpinSrl o s
  | .golpinSra o => execGolpinSra o s
  | .golpinMin o => execGolpinMin o s
  | .golpinMax o => execGolpinMax o s
  | .golpinMinu o => execGolpinMinu o s
  | .golpinMaxu o => execGolpinMaxu o s
  | .golpinMul o => execGolpinMul o s
  | .golpinSetlt o => execGolpinSetlt o s
  | .golpinSetltu o => execGolpinSetltu o s
  | .golpinAddi o => execGolpinAddi o s
  | .golpinAndi o => execGolpinAndi o s
  | .golpinOri o => execGolpinOri o s
  | .golpinXori o => execGolpinXori o s
  | .golpinSlli o => execGolpinSlli o s
  | .golpinSrli o => execGolpinSrli o s
  | .golpinSrai o => execGolpinSrai o s
  | .golpinLui o => execGolpinLui o s
  | .golpinBeq o => execGolpinBeq o s
  | .golpinBne o => execGolpinBne o s
  | .golpinBlt o => execGolpinBlt o s
  | .golpinBge o => execGolpinBge o s
  | .golpinBltu o => execGolpinBltu o s
  | .golpinBgeu o => execGolpinBgeu o s
  | .laddVv o => execLaddVv o s
  | .lsubVv o => execLsubVv o s
  | .landVv o => execLandVv o s
  | .lorVv o => execLorVv o s
  | .lxorVv o => execLxorVv o s
  | .lminVv o => execLminVv o s
  | .lmaxVv o => execLmaxVv o s
  | .lminuVv o => execLminuVv o s
  | .lmaxuVv o => execLmaxuVv o s
  | .lmulVv o => execLmulVv o s
  | .lfaddVv o => execLfaddVv o s
  | .lfmaxVv o => execLfmaxVv o s
  | .lfminVv o => execLfminVv o s
  | .lbfaddVv o => execLbfaddVv o s
  | .laddVs o => execLaddVs o s
  | .lsubVs o => execLsubVs o s
  | .landVs o => execLandVs o s
  | .lorVs o => execLorVs o s
  | .lxorVs o => execLxorVs o s
  | .lminVs o => execLminVs o s
  | .lmaxVs o => execLmaxVs o s
  | .lminuVs o => execLminuVs o s
  | .lmaxuVs o => execLmaxuVs o s
  | .lmulVs o => execLmulVs o s
  | .lfaddVs o => execLfaddVs o s
  | .lfmaxVs o => execLfmaxVs o s
  | .lfminVs o => execLfminVs o s
  | .lbfaddVs o => execLbfaddVs o s
  | .lcmpeq o => execLcmpeq o s
  | .lcmpne o => execLcmpne o s
  | .lcmplt o => execLcmplt o s
  | .lcmpltu o => execLcmpltu o s
  | .lcmpfeq o => execLcmpfeq o s
  | .lcmpflt o => execLcmpflt o s
  | .lcmpfle o => execLcmpfle o s
  | .jand o => execJand o s
  | .jor o => execJor o s
  | .jxor o => execJxor o s
  | .jandinv o => execJandinv o s
  | .jtoh o => execJtoh o s
  | .htoj o => execHtoj o s
  | .jcount o => execJcount o s
  | .lbcst o => execLbcst o s
  | .lext o => execLext o s
  | .lins o => execLins o s
  | .lredadd o => execLredadd o s
  | .lredfadd o => execLredfadd o s
  | .lredmax o => execLredmax o s
  | .lredmaxu o => execLredmaxu o s
  | .lredfmax o => execLredfmax o s
  | .lredfmin o => execLredfmin o s
  | .pld o => execPld o s
  | .pst o => execPst o s
  | .pldl o => execPldl o s
  | .pstl o => execPstl o s
  | .sld o => execSld o s
  | .sst o => execSst o s
  | .sldl o => execSldl o s
  | .sstl o => execSstl o s
  | .pfresh o => execPfresh o s
  | .golpinLoop o => execGolpinLoop o s
  | .emitSt o => execEmitSt o s
  | .emitWin o => execEmitWin o s
  | .fwd => execFwd s
  | .golpinDrop => execGolpinDrop s
  | .reply => execReply s
  | .ktrap o => execKtrap o s

theorem Raw.regs_eq (r : Raw) : instrRegs r.instr = r.regs := by cases r <;> rfl
theorem Raw.run_eq (r : Raw) (s : State) : exec r.instr s = r.run s := by cases r <;> rfl

/-- Whether an instruction waits for a value of the read-back queue: one that reads or writes an x or f register that an earlier
vector instruction is to write (R18); x0 takes no value. The instructions that a handler holds do not count (R234). -/
def Thread.interlocked (t : Thread) (l : List (Bool × Nat)) : Bool :=
  !t.hnd && t.rbq.any (fun e => (e.isF || !decide (e.reg = 0)) && l.any (fun r => decide (r.1 = e.isF) && decide (r.2 = e.reg)))

/-- Runs the Yeles instruction whose bits are `w` on the executing thread: an unassigned encoding is illegal (R227, R256). -/
noncomputable def runYeles (w : Nat) (s : State) : Res :=
  match decodeYeles w with
  | .ok i => if s.cur.interlocked (instrRegs i) then .next (s.waiting .readback) else exec i s
  | .error _ => .next (s.precise s.illegal)

/-- What the compiler runs for `runYeles`. -/
def runYelesFast (w : Nat) (s : State) : Res :=
  match rawYeles w with
  | .ok r => if s.cur.interlocked r.regs then .next (s.waiting .readback) else r.run s
  | .error _ => .next (s.precise s.illegal)

@[csimp] theorem runYeles_fast : @runYeles = @runYelesFast := by
  funext w s
  rw [runYeles, runYelesFast, decodeYeles_raw]
  cases rawYeles w with
  | error e => rfl
  | ok r => simp only [Except.map, Raw.regs_eq, Raw.run_eq]

/-- Runs a Golpin word on the executing engine. The loader lets no other word into a kernel (R402). -/
noncomputable def runGolpin (w : Nat) (s : State) : Res :=
  match decodeGolpin w with
  | .ok i => exec i s
  | .error _ => .next s

/-- What the compiler runs for `runGolpin`. -/
def runGolpinFast (w : Nat) (s : State) : Res :=
  match rawDecodeGolpin w with
  | .ok r => r.run s
  | .error _ => .next s

@[csimp] theorem runGolpin_fast : @runGolpin = @runGolpinFast := by
  funext w s
  rw [runGolpin, runGolpinFast, decodeGolpin_raw]
  cases rawDecodeGolpin w with
  | error e => rfl
  | ok r => simp only [Except.map, Raw.run_eq]

/-- Whether an instruction is a device event: it has no encoding. -/
def isEvent (i : Instr) : Bool := decide ((encode i).bytes = 0)

end Sys2Proof.Machine
end

