-- ==== Sys2Proof/Machine/Turn.lean ====
section
/-! DEFINITION. What one turn of an agent is: fetching an instruction (R99, R255), a turn of a thread (R30, R231, R235), of a Golpin
engine (R396, R410), and a device event. -/

namespace Sys2Proof.Machine

/-! Fetch -/

/-- A fetch trap: an access fault comes before a permission fault (R230). -/
def fetchTrap (p : Pend) : Pend := if p.code = 8 ∧ 2 ≤ leafType p.entry then { p with code := 5 } else p

/-- One parcel of the executing thread (R99, R255): a line that is not cached waits while its bank is closed, and raises code 64 for
an uncorrectable word. -/
def State.fetchParcel (s : State) (va : Word) : Out Nat :=
  match s.place .fetch va 2 with
  | .trap s p => .trap s (fetchTrap p)
  | .wait w s => .wait w s
  | .ok s (.spad _) => .trap s (Pend.addr 5 va 0 0 0)
  | .ok s (.phys pa _ _) =>
    let c := coreOf s.hart
    let hit := match tfind (s.core c).l1i (pa / 64) with
      | some l => decide (l.owner = s.cur.owner)
      | none => false
    if !hit && s.lineShut (pa / 64) then .wait .refresh s
    else match (if hit then none else s.badAt pa 2) with
      | some w => .trap s (Pend.dramWord 0 0 w)
      | none =>
        let r := s.icFetch c s.cur.owner pa
        .ok r.1 (leNat r.2)

/-- The parcels from the `k`th on, `n` of them, above the bits already fetched. -/
def State.fetchRest (s : State) (k n acc : Nat) : Out Nat :=
  match n with
  | 0 => .ok s acc
  | m + 1 => (s.fetchParcel (s.cur.pc + toW (2 * k))).bind fun s w => s.fetchRest (k + 1) m (acc + w * 2 ^ (16 * k))

/-- The bits of the instruction at pc: every parcel is fetched before it is decoded (R255). -/
def State.fetch (s : State) : Out Nat := (s.fetchParcel s.cur.pc).bind fun s w => s.fetchRest 1 (instrLen w / 2 - 1) w

/-! Turns -/

/-- Room in the L1 data cache of the executing core for the line that one instruction may add (R97). -/
def State.makeRoom (s : State) : State := s.l1Room (coreOf s.hart)

/-- The scalar stream of the executing thread fetches an instruction and runs it; with a full L1 none of whose lines may leave, it waits
for a bank. One that has issued an access goes on with it. -/
def State.runScalar (s : State) : Res :=
  match s.cur.away with
  | some x => runYeles x.1 { s with ir := x.1 }
  | none =>
  let s := s.makeRoom
  if 1024 ≤ (s.core (coreOf s.hart)).l1d.length then .next (s.waiting .refresh)
  else match s.fetch with
  | .trap s p => .next (s.precise p)
  | .wait w s => .next (s.waiting w)
  | .ok s w => runYeles w { s with ir := w }

/-- Whether a stream goes on before a stop, or a deferred trap that waits: its instruction has issued an access (R30, R231), or a
handler runs. -/
def Thread.mustFinish (t : Thread) : Bool := decide (t.wait = .remote) || decide (t.wait = .shootdown)

/-- A turn of a thread that holds a task: a stop that has been asked for, the next deferred trap, the end of a drain, or one
instruction. -/
def State.threadTurn (s : State) (h : Nat) : Res :=
  let s := { s with hart := h }
  let s := s.pump h
  let t := s.cur
  match t.stopReq with
  | some (cohort, ready) =>
    if !t.holding then
      .next ((if (s.part t.info.part).drained then s.setThr h t.discardTraps else s).preempt h false cohort ready)
    else if t.mustFinish then s.runScalar
    else .next s
  | none =>
    match nextPend t.pend with
    | some p =>
      if s.mayEnter h p then .next (s.enterDeferred h)
      else if (t.hnd || t.mustFinish) && decide (t.slot = .placed) then s.runScalar
      else .next s
    | none =>
      if t.slot = .draining then .next (if s.lockstep then s.retireTask h else s)
      else s.runScalar

/-- The word at an engine's pc (R402). -/
def Engine.wordAt (k : Engine) : Nat :=
  match tfind k.kernels k.kslot with
  | some x => x.words.getD k.pc 0
  | none => 0

/-- A turn of an engine: a packet whose budget is spent traps (R410), otherwise the next instruction runs. -/
def State.engineTurn (s : State) (e : Nat) : Res :=
  let s := { s with eng := e }
  let k := s.curEng
  if !k.busy then .next s
  else if 512 ≤ k.cyc then .next (s.gTrap e 1 0 0)
  else runGolpin k.wordAt { s with ir := k.wordAt }

/-- The turn of one agent, as far as it goes. -/
def State.turnOf (s : State) (t : Turn) : Res :=
  match t with
  | .thread h =>
    if !s.isThread h then .fault .noSuchAgent
    else if (s.thr h).live then s.threadTurn h
    else .next s
  | .engine e => if 32 ≤ e then .fault .noSuchAgent else s.engineTurn e
  | .event i => if isEvent i then exec i s else .fault .notAnEvent

/-- The turn of one agent, and the drains that it completes: where an access of it has met a closed bank, or a walk that cannot go on,
nothing of it has happened yet (R94, R178). -/
def State.turn (s : State) (t : Turn) : Res :=
  match s.turnOf t with
  | .next u => .next (if u.stalled then s else u.answerDrains)
  | r => r

/-! The first instruction of a machine -/

/-- Owner 0 with a page of 1 GiB for virtual addresses 0 to 2^30 − 1: the level-3 table lies at 2 MiB, the level-2 table at 4 MiB, and the
page at 1 GiB of the near tier, readable, writable and executable (R170 to R172). -/
def State.firstPage (s : State) : State :=
  let s := s.setOwner 0 { s.owner 0 with root := 0x200000 }
  (s.dramWrite 0 0x200000 (natLe 8 (3 + 0x400000))).dramWrite 0 0x400000 (natLe 8 (1 + 4 + 8 + 16 + 0x4000 * 2 ^ 26))

/-- Thread 0 holds a task of owner 0 whose next instruction has the bits `w`, 8 bytes of them. -/
def State.firstThread (s : State) (w : Nat) : State :=
  ((s.firstPage).dramWrite 0 0x40001000 (natLe 8 w)).setThr 0 { Thread.reset with slot := .placed, pc := 0x1000 }

/-- Engine 0 holds a packet whose kernel is the one word `w`. -/
def State.firstEngine (s : State) (w : Nat) : State :=
  { s.setEngine 0 { Engine.reset with
      kernels := [(0, { owner := 0, words := [w] })], busy := true, cur := some { pkt := default, flow := 0, fresh := 0 } } with
    actor := .engine 0 }

end Sys2Proof.Machine
end

