-- ==== Sys2Proof/Machine/Step.lean ====
section
/-! DEFINITION. One step of the package: the next agent of the agenda has its turn, or `actor` when the agenda is empty. -/

namespace Sys2Proof.Machine

def step (s : State) : Host.Outcome State Fault Refusal :=
  let s := { s with tick := s.tick + 1 }
  match s.agenda with
  | [] => s.turn s.actor
  | t :: rest => { s with agenda := rest }.turn t

/-- The state with an instruction of `nbits` bits where `step` fetches: at the pc of thread 0, or, for a word of 32 bits that is no
Yeles instruction, in the kernel of engine 0. -/
def State.withFetchWord (s : State) (nbits w : Nat) : State :=
  let w := w % 2 ^ nbits
  if nbits = 32 ∧ !(decide (fld w 0 2 = 3) && (rawYeles w).toBool) then s.firstEngine w else s.firstThread w

end Sys2Proof.Machine
end

