-- ==== Sys2Proof/Safety.lean ====
section
/-! DEFINITION. The terms in which statements about the machine are made: what an instruction leaves unchanged, when it completes,
what a core sees of memory, and the legal states that every step keeps. -/

namespace Sys2Proof.Machine

/-! What stays -/

/-- Counter `n` of a task (R224). -/
def State.counter (s : State) (task n : Nat) : Nat := tget (s.words task).ctr n 0

/-- Every task's words are as before, but for one more retired instruction in SRET of the executing task (R224). -/
structure CountedOne (s t : State) : Prop where
  counters : ∀ k n, t.counter k n = s.counter k n + (if k = s.cur.taskid ∧ n = 1 then 1 else 0)
  owners : ∀ k, (t.words k).owner = (s.words k).owner
  timelines : ∀ k, (t.words k).tl = (s.words k).tl

/-- Everything outside the threads and the counters is as before: all of memory, every cache, TLB, table and queue. -/
def SameElsewhere (s t : State) : Prop := { t with threads := s.threads, tasks := s.tasks } = s

/-- The other threads are as before. -/
def SameOthers (s t : State) : Prop := ∀ h, h ≠ s.hart → t.thr h = s.thr h

/-- A thread keeps everything but its general registers, FSTAT, the pc, and what its scalar stream waits on: every special
register, mask, v register, queue, timeline, watermark, and every stream. -/
def Thread.Like (t u : Thread) : Prop :=
  { t with pc := u.pc, x := u.x, f := u.f, fstat := u.fstat, wait := u.wait, freed := u.freed, remote := u.remote, away := u.away
           shoot := u.shoot, wfeSince := u.wfeSince } = u

/-- The executing thread has completed an instruction: its pc, x registers, f registers and FSTAT are the ones given, it waits for
nothing, and the rest of it is as before. -/
structure Thread.Retired (t u : Thread) (pc : Word) (x f : Nat → Word) (fstat : BitVec 6) : Prop where
  pc : u.pc = pc
  x : ∀ n, u.rx n = x n
  f : ∀ n, u.rf n = f n
  fstat : u.fstat = fstat
  ready : u.wait = .none
  like : u.Like t

/-- The instruction has completed and changed nothing beyond the registers of its thread. -/
structure Retired (s t : State) (pc : Word) (x f : Nat → Word) (fstat : BitVec 6) : Prop where
  thread : s.cur.Retired t.cur pc x f fstat
  hart : t.hart = s.hart
  elsewhere : SameElsewhere s t
  others : SameOthers s t
  counted : CountedOne s t

/-- The x registers after a write of X[d]: x0 reads 0 whatever is written (R62). -/
def xAfter (t : Thread) (d : Nat) (v : Word) (n : Nat) : Word := if n = 0 then 0 else if n = d then v else t.rx n

/-- The f registers after a write of F[d]. -/
def fAfter (t : Thread) (d : Nat) (v : Word) (n : Nat) : Word := if n = d then v else t.rf n

/-- `i` completes with X[d] := v, `len` bytes further on. -/
def WritesX (i : Instr) (s : State) (len d : Nat) (v : Word) : Prop :=
  ∃ t, exec i s = .next t ∧ Retired s t (s.cur.pc + toW len) (xAfter s.cur d v) s.cur.rf s.cur.fstat

/-- `i` completes with X[d] := v and the flags of FSTAT that it raises. -/
def WritesXFlags (i : Instr) (s : State) (d : Nat) (v : Word) (fl : BitVec 6) : Prop :=
  ∃ t, exec i s = .next t ∧ Retired s t (s.cur.pc + 4) (xAfter s.cur d v) s.cur.rf (s.cur.fstat ||| fl)

/-- `i` completes with F[d] := v and the flags of FSTAT that it raises. -/
def WritesF (i : Instr) (s : State) (d : Nat) (v : Word) (fl : BitVec 6) : Prop :=
  ∃ t, exec i s = .next t ∧ Retired s t (s.cur.pc + 4) s.cur.rx (fAfter s.cur d v) (s.cur.fstat ||| fl)

/-- `i` completes at `pc` and writes no register. -/
def GoesTo (i : Instr) (s : State) (pc : Word) : Prop :=
  ∃ t, exec i s = .next t ∧ Retired s t pc s.cur.rx s.cur.rf s.cur.fstat

/-- The instruction raises a trap precisely: the machine goes where that trap goes from the state before the instruction (R229). -/
def Traps (i : Instr) (s : State) (p : Pend) : Prop := exec i s = .next (s.precise p)

/-- A thread at the end of an instruction: at `pc`, waiting for nothing. -/
def Thread.goneTo (t : Thread) (pc : Word) : Thread :=
  { t with pc := pc, wait := .none, freed := false, remote := none, away := none, shoot := none, wfeSince := none }

/-- `i` completes at `pc` and leaves its thread as `u`, and changes nothing else. -/
def Leaves (i : Instr) (s : State) (pc : Word) (u : Thread) : Prop :=
  ∃ t, exec i s = .next t ∧ t.cur = u.goneTo pc ∧ t.hart = s.hart ∧ SameElsewhere s t ∧ SameOthers s t ∧ CountedOne s t

/-- The scalar stream stalls at `i` for `w`, and nothing else changes: the instruction will run again (R28). -/
def Waits (i : Instr) (s : State) (w : WaitOn) : Prop :=
  exec i s = .next (s.setCur { s.cur with wait := w, freed := s.cur.freed || decide (w = .watermark) })

/-- The illegal-instruction trap of the instruction in execution (R227). -/
def Illegal (i : Instr) (s : State) : Prop := Traps i s (Pend.plain 0 1 (BitVec.ofNat 64 s.ir))

/-! Memory -/

/-- An access of `n` bytes at `va` by the executing thread that reaches offset `off` of its core's scratchpad: aligned, inside
the window (R82), held by neither a vector memory instruction (R122) nor a bobbin (R138), and not issued before. -/
structure SpadAccess (s : State) (va : Word) (n off : Nat) : Prop where
  away : s.cur.away = none
  aligned : va.toNat % n = 0
  base : va.toNat = 0x00FFFF0000000000 + off
  inside : off + n ≤ s.width (coreOf s.hart) * 2 ^ 22
  span : s.cur.inSpan va.toNat n = false
  guard : s.guarded (coreOf s.hart) none va.toNat n = false

/-- An access of the executing thread to an offset of its core's scratchpad goes to the bank, while accesses travel, and the stream holds for
the answer (R104). -/
def State.sent (s : State) (off : Nat) (r : MemReq) : State :=
  let c := coreOf s.hart
  (s.arrive (pillarOf c) (35 + s.hart % 4) (0x10000000000 + c * 2 ^ 24 + off) s.cur.owner r (.scalar s.hart)).setCur
    { s.cur with away := some (s.ir, .spad off), wait := .remote }

/-- An access that has travelled: its answer `v` is at hand. -/
structure Answered (s : State) (p : Place) (v : Nat) : Prop where
  travel : s.travel = true
  away : s.cur.away = some (s.ir, p)
  remote : s.cur.remote = some (true, v)

/-- The `n` bytes that the executing thread reads at a scratchpad offset of its core, as a number. -/
def State.spadValue (s : State) (off n : Nat) : Nat :=
  leNat ((List.range n).map (fun i => s.spadByte s.cur.owner (coreOf s.hart) (off + i)))

/-- Everything outside the threads, the counters and the scratchpads is as before: DRAM, every cache, TLB, table and queue. -/
def SameButSpad (s t : State) : Prop :=
  { t with threads := s.threads, tasks := s.tasks, spad := s.spad, spadOwner := s.spadOwner, spadFull := s.spadFull } = s

/-- Every scratchpad byte, as every owner reads it, after owner `o` has stored `bs` at offset `off` of core `c`, inside one 64-byte
line (R110): the bytes stored; zeros elsewhere in the line when it was another owner's or nobody's, and to every other owner; every
other line as before. -/
def SpadStored (s t : State) (o c off : Nat) (bs : List Byte) : Prop :=
  ∀ o' c' a, a < 2 ^ 24 → t.spadByte o' c' a =
    if c' = c ∧ a / 64 = off / 64 then
      (if o' ≠ o then 0
       else if off ≤ a ∧ a < off + bs.length then bs.getD (a - off) 0
       else if tfind s.spadOwner (spadKey c off / 64) = some o then s.spadByte o c a else 0)
    else s.spadByte o' c' a

/-- Every full/empty bit, as every owner sees it, after owner `o` has stored into the line of offset `off` of core `c`: a line taken
over from another owner reads empty (R110); every other line as before. -/
def FullKept (s t : State) (o c off : Nat) : Prop :=
  ∀ o' c' a, a < 2 ^ 24 → t.isFull o' c' a =
    if c' = c ∧ a / 64 = off / 64 then
      (decide (o' = o) && decide (tfind s.spadOwner (spadKey c off / 64) = some o) && s.isFull o c a)
    else s.isFull o' c' a

/-- The same bytes of DRAM under the same keys, the same scratchpads with their owners and full/empty bits. -/
structure SameStores (s t : State) : Prop where
  mem : t.mem = s.mem
  keys : t.keys = s.keys
  bad : t.badWords = s.badWords
  spad : t.spad = s.spad
  spadOwner : t.spadOwner = s.spadOwner
  spadFull : t.spadFull = s.spadFull
  owners : t.owners = s.owners
  tick : t.tick = s.tick

/-- An access of `n` bytes at `va` by the executing thread that translates to physical address `pa` of the near or main tier, and is
held by neither a vector memory instruction (R122) nor a bobbin (R138), and not issued before. -/
structure DramAccess (s u : State) (k : Acc) (va : Word) (n pa : Nat) : Prop where
  away : s.cur.away = none
  aligned : va.toNat % n = 0
  place : ∃ mtype pac, s.translate (some (coreOf s.hart)) s.cur.owner k va.toNat n = .ok u (.phys pa mtype pac)
  dram : isDram pa = true
  /-- true of every translation: pages are whole lines (R170) -/
  within : pa % 64 + n ≤ 64
  span : s.cur.inSpan va.toNat n = false
  guard : s.guarded (coreOf s.hart) none va.toNat n = false

/-- The L1 line of the executing thread's core that holds an address, if it carries the thread's owner. -/
def State.ownLine (s : State) (pa : Nat) : Option L1Line :=
  (tfind (s.core (coreOf s.hart)).l1d (pa / 64)).filter (fun l => decide (l.owner = s.cur.owner))

/-- Whether no line of another owner stands where the access looks (R112). -/
def State.noForeignLine (s : State) (pa : Nat) : Prop :=
  ∀ l, tfind (s.core (coreOf s.hart)).l1d (pa / 64) = some l → l.owner = s.cur.owner

/-- Whether every byte of an access is valid in the L1 line (R97). -/
def State.l1Has (s : State) (pa n : Nat) : Bool :=
  match s.ownLine pa with
  | some l => (List.range n).all (fun i => shas l.valid (pa % 64 + i))
  | none => false

/-- A byte as a scalar load of the thread's core returns it: of the L1 line where it is dirty, or where the load hits; otherwise of
DRAM (R97, R117). -/
def State.loadByte (s : State) (pa : Nat) (hit : Bool) : Byte :=
  match s.ownLine pa with
  | some l => if hit || shas l.dirty (pa % 64) then tget l.bytes (pa % 64) 0 else s.dramByte s.cur.owner pa
  | none => s.dramByte s.cur.owner pa

/-- A byte as the scalar loads of a core find it: valid in its L1 line, or else in DRAM. -/
def State.coreByte (s : State) (pa : Nat) : Byte :=
  match s.ownLine pa with
  | some l => if shas l.valid (pa % 64) then tget l.bytes (pa % 64) 0 else s.dramByte s.cur.owner pa
  | none => s.dramByte s.cur.owner pa

/-! Commit and performance of vector instructions -/

/-- The entry that a vector instruction of the executing thread puts into the VIQ (R17, R201, R317): its place in commit order, its address and bits,
the configuration known at commit, and a start index of 0. -/
def State.newEntry (s : State) (op : VOp) (k rm : Nat) : VEntry :=
  { cmd := s.cur.nextCmd 0, order := (s.core (coreOf s.hart)).commits, pc := s.cur.pc, bits := s.ir, op := op, k := k
    sew := s.cur.csew, nreg := s.cur.cnreg, rm := rm, edge := s.cur.skew, began := false, start := 0, sect := none, sent := 0, remoteTo := 0
    answer := { err := none, gated := [], values := [] }, filled := 0 }

/-- The read-back entries after a commit whose result goes to the register `rb` (R18). -/
def Thread.newReadBack (t : Thread) (rb : Option (Bool × Nat)) : List RbEntry :=
  match rb with
  | some r => t.rbq ++ [{ cmd := t.nextCmd 0, isF := r.1, reg := r.2 }]
  | none => t.rbq

/-- The machine after the commit of a vector instruction: its entry at the end of the VIQ, its read-back entry, the next command number
and place in commit order; the thread is otherwise `v` at `pc`, waiting for `w`. -/
def VQueued (s u : State) (v : Thread) (pc : Word) (w : WaitOn) (op : VOp) (k rm : Nat) (rb : Option (Bool × Nat)) : Prop :=
  let c := coreOf s.hart
  u.cur = { v with viq := s.cur.viq ++ [s.newEntry op k rm], rbq := s.cur.newReadBack rb
                   cmds := tput s.cur.cmds 0 (s.cur.nextCmd 0), pc := pc, wait := w } ∧
  u.hart = s.hart ∧ { u with threads := s.threads, tasks := s.tasks, cores := s.cores } = s ∧ SameOthers s u ∧
  (∀ c', u.core c' = if c' = c then { s.core c with commits := (s.core c).commits + 1 } else s.core c')

/-- `i` commits `op` with mask field `k` and rounding mode `rm` into the VIQ, and completes; the streams then do what they can. The
scalar stream itself has made its thread `v`. -/
def VCommitsAs (i : Instr) (s : State) (len : Nat) (v : Thread) (op : VOp) (k rm : Nat) (rb : Option (Bool × Nat)) : Prop :=
  ∃ u, exec i s = .next (u.pump s.hart) ∧ VQueued s u (v.goneTo 0) (s.cur.pc + toW len) .none op k rm rb ∧ CountedOne s u

/-- What a vector instruction does when it commits: it enters the VIQ when it is `legal`, no handler runs and there is room; otherwise
it is illegal or waits for room. -/
def VCommits (i : Instr) (s : State) (len : Nat) (legal : Prop) (op : VOp) (k rm : Nat) (rb : Option (Bool × Nat)) : Prop :=
  let room := s.cur.viq.length < 32 ∧ (rb ≠ none → s.cur.rbq.length < 8)
  (legal → s.cur.hnd = false → s.cur.cmdsOut 0 = false → room → VCommitsAs i s len s.cur op k rm rb) ∧
  (legal → s.cur.hnd = false → s.cur.cmdsOut 0 = false → ¬ room → Waits i s .viqFull) ∧
  (¬ legal ∨ s.cur.hnd = true → Illegal i s)

/-- A thread whose streams run in lockstep with its scalar stream and hold nothing, with a legal configuration (R64, R78), no poisoned
word and no trace ring: a vector instruction performs as it commits. -/
structure Idle (s : State) : Prop where
  lockstep : s.lockstep = true
  viq : s.cur.viq = []
  rbq : s.cur.rbq = []
  win : s.cur.win = []
  bob : s.cur.bob = []
  pend : s.cur.pend = []
  stopReq : s.cur.stopReq = none
  handler : s.cur.hnd = false
  numbers : s.cur.cmdsOut 0 = false
  sound : s.cur.vSound = true
  traces : s.traceRings = []
  sew : s.cur.sew = s.cur.csew
  nreg : s.cur.nreg = s.cur.cnreg
  sewRange : s.cur.csew ≤ 3
  nregRange : s.cur.cnreg ≤ 3
  grant : s.cur.vgrant ≤ 256
  mvl : s.cur.mvl = mvlOf s.cur.vgrant s.cur.csew s.cur.cnreg
  vl : s.cur.vl ≤ s.cur.mvl

/-- `i` performs at once and leaves its thread as `v` but for the timeline of the vector stream, the event flag and the command
number; the machine is otherwise as before, but for the counters, the commit order and unused physical tiles of the core. -/
def Performs (i : Instr) (s : State) (len : Nat) (R : Thread → Prop) : Prop :=
  ∃ t v, exec i s = .next t ∧ R v ∧
    t.cur = { v with pc := s.cur.pc + toW len, wait := .none, freed := false, remote := none, away := none, shoot := none
                     wfeSince := none, cmds := tput s.cur.cmds 0 (s.cur.nextCmd 0), tl := t.cur.tl, event := t.cur.event } ∧
    (∀ n, t.cur.rtl n = if n = 0 then tlRaise (s.cur.rtl 0) (s.cur.nextCmd 0) false else s.cur.rtl n) ∧
    t.hart = s.hart ∧ SameOthers s t ∧ { t with threads := s.threads, tasks := s.tasks, cores := s.cores } = s ∧
    (∀ c, { t.core c with commits := (s.core c).commits, tiles := (s.core c).tiles } = s.core c) ∧
    (∀ k n, n ≠ 2 → t.counter k n = s.counter k n + (if k = s.cur.taskid ∧ n = 1 then 1 else 0))

/-- Whether element `j` of an instruction with mask field `k` is written: below VL, and its mask bit is 1 (R65, R316). -/
def Thread.writes (t : Thread) (k j : Nat) : Bool := decide (j < t.vl) && t.rk k j

/-- The thread after an instruction that writes the elements of `w` bytes of the group that begins at register `d`, at the places
where `val` is given, and raises the flags `fl`: every other byte of the v registers, and every other register, is as before. -/
def Thread.Lanes (t v : Thread) (d w : Nat) (val : Nat → Option Nat) (fl : FFlags) : Prop :=
  v = { t with v := v.v, wrote := v.wrote, fstat := t.fstat ||| fl } ∧
  (∀ j, j < t.vl → v.vGet t.cnreg d w j = (val j).getD (t.vGet t.cnreg d w j)) ∧
  (∀ b, (∀ j x, j < t.vl → val j ≠ none → x < w → b ≠ t.vKey t.cnreg d (j * w) + x) → tget v.v b 0 = tget t.v b 0)

/-- The flags of the elements that an instruction writes, together (R50). -/
def Thread.laneFlags (t : Thread) (k : Nat) (fl : Nat → FFlags) : FFlags :=
  (List.range t.vl).foldl (fun f j => if t.writes k j then f ||| fl j else f) 0

/-! Golpin engines -/

/-- The engine after a write of H[d]: h0 reads 0, and nothing else changes (R396). -/
def Engine.SetsH (e k : Engine) (d : Nat) (v : BitVec 32) : Prop :=
  { k with h := e.h } = e ∧ ∀ n, k.rh n = if n = 0 then 0 else if n = d then v else e.rh n

/-- The engine after a write of the active lanes of Y[d] (R396, R406). -/
def Engine.SetsY (e k : Engine) (d : Nat) (active : Nat → Bool) (f : Nat → BitVec 32) : Prop :=
  { k with y := e.y } = e ∧ ∀ r i, i < 8 → k.ry r i = if r = d ∧ active i = true then f i else e.ry r i

/-- The engine after a write of the active bits of J[d]: j0 reads all ones (R396). -/
def Engine.SetsJ (e k : Engine) (d : Nat) (active : Nat → Bool) (f : Nat → Bool) : Prop :=
  { k with j := e.j } = e ∧ ∀ n i, i < 8 →
    (k.rj n).getLsbD i = if n = d ∧ d ≠ 0 ∧ active i = true then f i else (e.rj n).getLsbD i

/-- The engine of the executing kernel has committed its packet (R397, R400, R401): its state holds the packet's stores, the last store of a
byte standing, the words that one of them covers whole are no longer poisoned, its emits follow those that wait to leave, and it is idle. -/
def Engine.Committed (e k : Engine) (cost : Nat) : Prop :=
  k.busy = false ∧ k.cur = none ∧ k.stores = [] ∧ k.whole = [] ∧ k.emits = [] ∧ k.poison = e.poison.filter (fun w => !shas e.whole w) ∧ k.outbox = e.outbox ++ e.emits ∧
  k.cyc = min 512 (e.cyc + cost) ∧
  k.pkts = (e.pkts + 1) % 2 ^ 24 ∧ k.traps = e.traps ∧
  ∀ a, tget k.state a 0 = ((e.stores.reverse.find? (fun x => decide (x.1 = a))).map (·.2)).getD (tget e.state a 0)

end Sys2Proof.Machine
end

