-- ==== Sys2Proof/Certificates/Slice0/Obligations.lean ====
section
/-! DEFINITION. The statements about the machine. -/

open Sys2Proof Sys2Proof.Machine

/-! Scalar integer instructions -/

/-- R292, R293: the immediate forms. `signExtend` of the 12, 15 and 20 bits of the immediate field is the instruction's operand. -/
def Obligations.IntegerImmediates : Prop := ∀ s : State,
  (∀ o, WritesX (.addi o) s 4 o.d (s.cur.rx o.a + (BitVec.ofNat 15 o.imm).signExtend 64)) ∧
  (∀ o, WritesX (.lui o) s 4 o.d ((BitVec.ofNat 20 o.imm).signExtend 64 <<< 12)) ∧
  (∀ o, WritesX (.addpc o) s 4 o.d (s.cur.pc + (BitVec.ofNat 20 o.imm).signExtend 64 <<< 12)) ∧
  (∀ o, WritesX (.slli o) s 4 o.d (s.cur.rx o.a <<< o.sh)) ∧
  (∀ o, WritesX (.srli o) s 4 o.d (s.cur.rx o.a >>> o.sh)) ∧
  (∀ o, WritesX (.srai o) s 4 o.d ((s.cur.rx o.a).sshiftRight o.sh)) ∧
  (∀ o, WritesX (.andi o) s 4 o.d (s.cur.rx o.a &&& (BitVec.ofNat 12 o.imm).signExtend 64)) ∧
  (∀ o, WritesX (.ori o) s 4 o.d (s.cur.rx o.a ||| (BitVec.ofNat 12 o.imm).signExtend 64)) ∧
  (∀ o, WritesX (.xori o) s 4 o.d (s.cur.rx o.a ^^^ (BitVec.ofNat 12 o.imm).signExtend 64)) ∧
  (∀ o, WritesX (.setlti o) s 4 o.d (if (s.cur.rx o.a).toInt < (BitVec.ofNat 12 o.imm).toInt then 1 else 0)) ∧
  (∀ o, WritesX (.setltiu o) s 4 o.d (if (s.cur.rx o.a).toNat < ((BitVec.ofNat 12 o.imm).signExtend 64).toNat then 1 else 0))

/-- R42, R294: the register forms; shifts take the amount modulo 64. -/
def Obligations.IntegerRegisters : Prop := ∀ (s : State) (o : OpRRR),
  let x := s.cur.rx o.a
  let y := s.cur.rx o.b
  WritesX (.add o) s 4 o.d (x + y) ∧ WritesX (.sub o) s 4 o.d (x - y) ∧
  WritesX (.andR o) s 4 o.d (x &&& y) ∧ WritesX (.orR o) s 4 o.d (x ||| y) ∧ WritesX (.xorR o) s 4 o.d (x ^^^ y) ∧
  WritesX (.andinv o) s 4 o.d (x &&& ~~~y) ∧ WritesX (.orinv o) s 4 o.d (x ||| ~~~y) ∧
  WritesX (.sll o) s 4 o.d (x <<< (y.toNat % 64)) ∧ WritesX (.srl o) s 4 o.d (x >>> (y.toNat % 64)) ∧
  WritesX (.sra o) s 4 o.d (x.sshiftRight (y.toNat % 64)) ∧
  WritesX (.setlt o) s 4 o.d (if x.toInt < y.toInt then 1 else 0) ∧
  WritesX (.setltu o) s 4 o.d (if x.toNat < y.toNat then 1 else 0) ∧
  WritesX (.minR o) s 4 o.d (BitVec.ofInt 64 (min x.toInt y.toInt)) ∧
  WritesX (.maxR o) s 4 o.d (BitVec.ofInt 64 (max x.toInt y.toInt)) ∧
  WritesX (.minu o) s 4 o.d (BitVec.ofNat 64 (min x.toNat y.toNat)) ∧
  WritesX (.maxu o) s 4 o.d (BitVec.ofNat 64 (max x.toNat y.toNat)) ∧
  WritesX (.ixadd1 o) s 4 o.d (2 * x + y) ∧ WritesX (.ixadd2 o) s 4 o.d (4 * x + y) ∧
  WritesX (.ixadd3 o) s 4 o.d (8 * x + y) ∧ WritesX (.ixadd4 o) s 4 o.d (16 * x + y)

/-- R43, R294: products, quotients and remainders, with the corners of a zero divisor; `sdiv` of the most negative value by −1 is
that value, and `srem` is then 0. -/
def Obligations.MultiplyDivide : Prop := ∀ (s : State) (o : OpRRR),
  let x := s.cur.rx o.a
  let y := s.cur.rx o.b
  WritesX (.mul o) s 4 o.d (BitVec.ofInt 64 (x.toInt * y.toInt)) ∧
  WritesX (.mulhi o) s 4 o.d (BitVec.ofInt 64 (x.toInt * y.toInt / 2 ^ 64)) ∧
  WritesX (.mulhiu o) s 4 o.d (BitVec.ofNat 64 (x.toNat * y.toNat / 2 ^ 64)) ∧
  WritesX (.mulhmix o) s 4 o.d (BitVec.ofInt 64 (x.toInt * y.toNat / 2 ^ 64)) ∧
  WritesX (.div o) s 4 o.d (if y = 0 then BitVec.allOnes 64 else BitVec.ofInt 64 (x.toInt.tdiv y.toInt)) ∧
  WritesX (.divu o) s 4 o.d (if y = 0 then BitVec.allOnes 64 else BitVec.ofNat 64 (x.toNat / y.toNat)) ∧
  WritesX (.rem o) s 4 o.d (if y = 0 then x else BitVec.ofInt 64 (x.toInt.tmod y.toInt)) ∧
  WritesX (.remu o) s 4 o.d (if y = 0 then x else BitVec.ofNat 64 (x.toNat % y.toNat))

/-- R292, R294: ZLEAD counts the zeros above the highest 1, ZTRAIL those below the lowest, and both give 64 for 0; ONES counts
the 1s. -/
def Obligations.BitCounts : Prop := ∀ (s : State) (o : OpRR),
  let x := s.cur.rx o.a
  (∃ n, WritesX (.zlead o) s 4 o.d (BitVec.ofNat 64 n) ∧ n ≤ 64 ∧ (∀ j, 64 ≤ j + n → x.getLsbD j = false) ∧
    (n < 64 → x.getLsbD (63 - n) = true)) ∧
  (∃ n, WritesX (.ztrail o) s 4 o.d (BitVec.ofNat 64 n) ∧ n ≤ 64 ∧ (∀ j, j < n → x.getLsbD j = false) ∧
    (n < 64 → x.getLsbD n = true)) ∧
  WritesX (.ones o) s 4 o.d (BitVec.ofNat 64 ((List.range 64).countP (fun j => x.getLsbD j)))

/-- R262: every word of 32 bits whose low seven bits are 0x7B is a hint, whatever its other bits: pc advances by 4 and nothing else
changes. NOP is the word 0x0000007B, and HINT imm has imm in bits [31:7]. -/
def Obligations.HintSpace : Prop :=
  (∀ (s : State) (imm : Nat), imm < 2 ^ 25 → ∃ i, decodeYeles (imm * 128 + 0x7B) = .ok i ∧ GoesTo i s (s.cur.pc + 4)) ∧
  encode .nop = ⟨4, 0x0000007B⟩ ∧ (∀ imm, imm < 2 ^ 25 → (encode (.hint { imm := imm })) = ⟨4, imm * 128 + 0x7B⟩) ∧
  (∀ s : State, GoesTo .nop s (s.cur.pc + 4) ∧ ∀ o, GoesTo (.hint o) s (s.cur.pc + 4))

/-- R268, R269: the compressed integer instructions and the compressed no-op. The two forms with a shift amount or an
immediate take it from the 6 bits of their field. -/
def Obligations.CompressedIntegers : Prop := ∀ s : State,
  GoesTo .cNop s (s.cur.pc + 2) ∧
  (∀ o, WritesX (.cAddi o) s 2 o.d (s.cur.rx o.d + (BitVec.ofNat 6 o.imm).signExtend 64)) ∧
  (∀ o, WritesX (.cLi o) s 2 o.d ((BitVec.ofNat 6 o.imm).signExtend 64)) ∧
  (∀ o, WritesX (.cLui o) s 2 o.d ((BitVec.ofNat 6 o.imm).signExtend 64 <<< 12)) ∧
  (∀ o, WritesX (.cSlli o) s 2 o.d (s.cur.rx o.d <<< o.imm)) ∧
  (∀ o, WritesX (.cAndi o) s 2 o.d (s.cur.rx o.d &&& (BitVec.ofNat 6 o.imm).signExtend 64)) ∧
  (∀ o, WritesX (.cMv o) s 2 o.d (s.cur.rx o.b)) ∧ (∀ o, WritesX (.cAdd o) s 2 o.d (s.cur.rx o.d + s.cur.rx o.b)) ∧
  (∀ o, WritesX (.cSub o) s 2 o.d (s.cur.rx o.d - s.cur.rx o.b)) ∧ (∀ o, WritesX (.cAnd o) s 2 o.d (s.cur.rx o.d &&& s.cur.rx o.b)) ∧
  (∀ o, WritesX (.cOr o) s 2 o.d (s.cur.rx o.d ||| s.cur.rx o.b)) ∧ (∀ o, WritesX (.cXor o) s 2 o.d (s.cur.rx o.d ^^^ s.cur.rx o.b))

/-! Control transfer -/

/-- `i` completes at `pc` with the link in X[d]. -/
def JumpsTo (i : Instr) (s : State) (d : Nat) (link pc : Word) : Prop :=
  ∃ t, exec i s = .next t ∧ Retired s t pc (xAfter s.cur d link) s.cur.rf s.cur.fstat

/-- R258, R269, R295: a jump writes the address of the next instruction to its link register and goes to its target; the target of
JALR is read before the link is written. A jump through a register to an odd target raises the misaligned trap with TVAL the target,
precisely, and writes no link. A branch goes to pc + 2 × its offset when its condition holds, and to the next instruction otherwise. -/
def Obligations.JumpsAndBranches : Prop := ∀ s : State,
  let goal := fun (o : OpBranch) (c : Prop) [Decidable c] =>
    if c then s.cur.pc + (BitVec.ofNat 15 o.off).signExtend 64 <<< 1 else s.cur.pc + 4
  let goalC := fun (o : OpCB) (c : Prop) [Decidable c] =>
    if c then s.cur.pc + (BitVec.ofNat 8 o.off).signExtend 64 <<< 1 else s.cur.pc + 2
  (∀ o, JumpsTo (.jal o) s o.d (s.cur.pc + 4) (s.cur.pc + (BitVec.ofNat 20 o.imm).signExtend 64 <<< 1)) ∧
  (∀ o, (s.cur.rx o.a + (BitVec.ofNat 15 o.imm).signExtend 64).toNat % 2 = 0 →
    JumpsTo (.jalr o) s o.d (s.cur.pc + 4) (s.cur.rx o.a + (BitVec.ofNat 15 o.imm).signExtend 64)) ∧
  (∀ o, GoesTo (.cJ o) s (s.cur.pc + (BitVec.ofNat 11 o.off).signExtend 64 <<< 1)) ∧
  (∀ o, (s.cur.rx o.d).toNat % 2 = 0 → GoesTo (.cJr o) s (s.cur.rx o.d)) ∧
  (∀ o, (s.cur.rx o.d).toNat % 2 = 0 → JumpsTo (.cJalr o) s 31 (s.cur.pc + 2) (s.cur.rx o.d)) ∧
  (∀ o, (s.cur.rx o.a + (BitVec.ofNat 15 o.imm).signExtend 64).toNat % 2 = 1 →
    exec (.jalr o) s = .next (s.precise (Pend.plain 0 4 (s.cur.rx o.a + (BitVec.ofNat 15 o.imm).signExtend 64)))) ∧
  (∀ o, (s.cur.rx o.d).toNat % 2 = 1 →
    exec (.cJr o) s = .next (s.precise (Pend.plain 0 4 (s.cur.rx o.d))) ∧
    exec (.cJalr o) s = .next (s.precise (Pend.plain 0 4 (s.cur.rx o.d)))) ∧
  (∀ o, GoesTo (.beq o) s (goal o (s.cur.rx o.a = s.cur.rx o.b))) ∧
  (∀ o, GoesTo (.bne o) s (goal o (s.cur.rx o.a ≠ s.cur.rx o.b))) ∧
  (∀ o, GoesTo (.blt o) s (goal o ((s.cur.rx o.a).toInt < (s.cur.rx o.b).toInt))) ∧
  (∀ o, GoesTo (.bge o) s (goal o ((s.cur.rx o.b).toInt ≤ (s.cur.rx o.a).toInt))) ∧
  (∀ o, GoesTo (.bltu o) s (goal o ((s.cur.rx o.a).toNat < (s.cur.rx o.b).toNat))) ∧
  (∀ o, GoesTo (.bgeu o) s (goal o ((s.cur.rx o.b).toNat ≤ (s.cur.rx o.a).toNat))) ∧
  (∀ o, GoesTo (.cBeqz o) s (goalC o (s.cur.rx (8 + o.a) = 0))) ∧
  (∀ o, GoesTo (.cBnez o) s (goalC o (s.cur.rx (8 + o.a) ≠ 0)))

/-! Scalar floating point -/

/-- R47, R49, R299, R300: an arithmetic instruction writes F[d] zero-extended from the format's width and adds its flags to FSTAT; with
rounding field 7 it rounds by FMODE. The value and the flags are the format's operation on the low bits of its operands. The sign
operations take every bit below the sign from F[a], and the sign from F[b], from its complement, or from the exclusive or of the two
signs; they raise no flag. -/
def Obligations.FloatArithmetic : Prop := ∀ s : State,
  let v := fun (fmt n : Nat) => (s.cur.rf n).toNat % 2 ^ (scalarFmt fmt).width
  let rm := fun (field : Nat) => if field = 7 then s.cur.frm else field
  let writes := fun (i : Instr) (d : Nat) (r : Nat × FFlags) => WritesF i s d (BitVec.ofNat 64 r.1) r.2
  (∀ o, writes (.fadd o) o.d ((scalarFmt o.fmt).add (rm o.rm) (v o.fmt o.a) (v o.fmt o.b))) ∧
  (∀ o, writes (.fsub o) o.d ((scalarFmt o.fmt).sub (rm o.rm) (v o.fmt o.a) (v o.fmt o.b))) ∧
  (∀ o, writes (.fmul o) o.d ((scalarFmt o.fmt).mul (rm o.rm) (v o.fmt o.a) (v o.fmt o.b))) ∧
  (∀ o, writes (.fdiv o) o.d ((scalarFmt o.fmt).div (rm o.rm) (v o.fmt o.a) (v o.fmt o.b))) ∧
  (∀ o, writes (.fsqrt o) o.d ((scalarFmt o.fmt).sqrt (rm o.rm) (v o.fmt o.a))) ∧
  (∀ o, writes (.fmin o) o.d ((scalarFmt o.fmt).minmax false (v o.fmt o.a) (v o.fmt o.b))) ∧
  (∀ o, writes (.fmax o) o.d ((scalarFmt o.fmt).minmax true (v o.fmt o.a) (v o.fmt o.b))) ∧
  (∀ o, writes (.fmadd o) o.d ((scalarFmt o.fmt).fma (rm o.rm) (v o.fmt o.a) (v o.fmt o.b) (v o.fmt o.c))) ∧
  (∀ o : OpFloat3n,
    let w := (scalarFmt o.fmt).width
    let x := (s.cur.rf o.a).toNat
    let y := (s.cur.rf o.b).toNat
    let put := fun (sign : Bool) => BitVec.ofNat 64 (x % 2 ^ (w - 1) + (if sign then 2 ^ (w - 1) else 0))
    WritesF (.fsgcpy o) s o.d (put (y.testBit (w - 1))) 0 ∧
    WritesF (.fsginv o) s o.d (put (!y.testBit (w - 1))) 0 ∧
    WritesF (.fsgxor o) s o.d (put (x.testBit (w - 1) ^^ y.testBit (w - 1))) 0)

/-- R299: compares, classification, conversions and moves of bits. A compare writes 1 or 0 to X[d]; FKIND sets one bit; a conversion
to a signed type is sign-extended and one to an unsigned type zero-extended (32-bit unsigned results too). -/
def Obligations.FloatToAndFromIntegers : Prop := ∀ s : State,
  let v := fun (fmt n : Nat) => (s.cur.rf n).toNat % 2 ^ (scalarFmt fmt).width
  let rm := fun (field : Nat) => if field = 7 then s.cur.frm else field
  let flag := fun (i : Instr) (d : Nat) (r : Bool × FFlags) => WritesXFlags i s d (if r.1 then 1 else 0) r.2
  (∀ o, flag (.fcmpeq o) o.d ((scalarFmt o.fmt).cmpEq (v o.fmt o.a) (v o.fmt o.b))) ∧
  (∀ o, flag (.fcmplt o) o.d ((scalarFmt o.fmt).cmpLt (v o.fmt o.a) (v o.fmt o.b))) ∧
  (∀ o, flag (.fcmple o) o.d ((scalarFmt o.fmt).cmpLe (v o.fmt o.a) (v o.fmt o.b))) ∧
  (∀ o, WritesX (.fkind o) s 4 o.d (BitVec.ofNat 64 (2 ^ (scalarFmt o.fmt).kind (v o.fmt o.a)))) ∧
  (∀ o, let r := (scalarFmt o.fmt).toInt (rm o.rm) (itWidth o.code) (itSigned o.code) (v o.fmt o.a)
    WritesXFlags (.ftoi o) s o.d
      (if itSigned o.code then BitVec.ofInt 64 (BitVec.ofNat (itWidth o.code) r.1).toInt else BitVec.ofNat 64 r.1) r.2) ∧
  (∀ o, let i := BitVec.ofNat (itWidth o.code) (s.cur.rx o.a).toNat
    let r := (scalarFmt o.fmt).ofInt (rm o.rm) false (if itSigned o.code then i.toInt else i.toNat)
    WritesF (.itof o) s o.d (BitVec.ofNat 64 r.1) (r.2 &&& flNX)) ∧
  (∀ o, let r := (scalarFmt o.fmt).convert (scalarFmt o.code) (rm o.rm) false 0 (v o.code o.a)
    WritesF (.ftof o) s o.d (BitVec.ofNat 64 r.1) r.2) ∧
  (∀ o, WritesX (.fbitsx o) s 4 o.d (s.cur.rf o.a)) ∧
  (∀ o, WritesF (.xbitsf o) s o.d (s.cur.rx o.a) 0)

/-! Scalar memory accesses -/

/-- Every scalar load without a qualifier: the instruction, its address, width and length, the x registers and the f registers after
it when the bytes read are `v`. -/
def EachLoad (t : Thread) (P : Instr → Word → Nat → Nat → (Nat → Nat → Word) → (Nat → Nat → Word) → Prop) : Prop :=
  (∀ o : OpLoad,
    let va := t.rx o.a + (BitVec.ofNat 12 o.imm).signExtend 64
    let len := if o.long then 8 else 4
    let signed := fun (w v : Nat) => xAfter t o.d ((BitVec.ofNat w v).signExtend 64)
    let zero := fun (v : Nat) => xAfter t o.d (BitVec.ofNat 64 v)
    let float := fun (v : Nat) => fAfter t o.d (BitVec.ofNat 64 v)
    P (.ldI8 o) va 1 len (signed 8) (fun _ => t.rf) ∧ P (.ldI16 o) va 2 len (signed 16) (fun _ => t.rf) ∧
    P (.ldI32 o) va 4 len (signed 32) (fun _ => t.rf) ∧ P (.ldI64 o) va 8 len zero (fun _ => t.rf) ∧
    P (.ldN8 o) va 1 len zero (fun _ => t.rf) ∧ P (.ldN16 o) va 2 len zero (fun _ => t.rf) ∧
    P (.ldN32 o) va 4 len zero (fun _ => t.rf) ∧ P (.ldF16 o) va 2 len (fun _ => t.rx) float ∧
    P (.ldF32 o) va 4 len (fun _ => t.rx) float ∧ P (.ldF64 o) va 8 len (fun _ => t.rx) float) ∧
  (∀ o : OpCM,
    let va := fun (n : Nat) => t.rx (8 + o.a) + BitVec.ofNat 64 (n * o.imm)
    P (.cLdI32 o) (va 4) 4 2 (fun v => xAfter t (8 + o.d) ((BitVec.ofNat 32 v).signExtend 64)) (fun _ => t.rf) ∧
    P (.cLdI64 o) (va 8) 8 2 (fun v => xAfter t (8 + o.d) (BitVec.ofNat 64 v)) (fun _ => t.rf) ∧
    P (.cLdF64 o) (va 8) 8 2 (fun _ => t.rx) (fun v => fAfter t (8 + o.d) (BitVec.ofNat 64 v)))

/-- Every scalar store without a qualifier: the instruction, its address, width and length, and the number whose low bytes it
stores. -/
def EachStore (t : Thread) (P : Instr → Word → Nat → Nat → Nat → Prop) : Prop :=
  (∀ o : OpStore,
    let va := t.rx o.a + (BitVec.ofNat 12 o.imm).signExtend 64
    let len := if o.long then 8 else 4
    let x := (t.rx o.b).toNat
    let f := (t.rf o.b).toNat
    P (.stN8 o) va 1 len x ∧ P (.stN16 o) va 2 len x ∧ P (.stN32 o) va 4 len x ∧ P (.stN64 o) va 8 len x ∧
    P (.stF16 o) va 2 len f ∧ P (.stF32 o) va 4 len f ∧ P (.stF64 o) va 8 len f) ∧
  (∀ o : OpCM,
    let va := fun (n : Nat) => t.rx (8 + o.a) + BitVec.ofNat 64 (n * o.imm)
    P (.cStN32 o) (va 4) 4 2 (t.rx (8 + o.d)).toNat ∧ P (.cStN64 o) (va 8) 8 2 (t.rx (8 + o.d)).toNat ∧
    P (.cStF64 o) (va 8) 8 2 (t.rf (8 + o.d)).toNat)

/-- Every AMO: the instruction with its operand record, the bytes of its access, the value that it writes over `old` (none where it
writes nothing), and the x registers, f registers and flags after it. -/
def EachAmo (t : Thread)
    (P : Instr → OpAmo → Nat → (Nat → Option Nat) → (Nat → Nat → Word) → (Nat → Nat → Word) → (Nat → FFlags) → Prop) : Prop :=
  ∀ o : OpAmo,
  let n := if o.w = 0 then 4 else 8
  let cut := fun (v : Word) => v.toNat % 2 ^ (8 * n)
  let b := cut (t.rx o.b)
  let int := fun (v : Nat) => (BitVec.ofNat (8 * n) v).toInt
  let fmt := scalarFmt (if o.w = 0 then 0 else 1)
  let onX := fun (i : Instr) (new : Nat → Option Nat) =>
    P i o n new (fun old => xAfter t o.d ((BitVec.ofNat (8 * n) old).signExtend 64)) (fun _ => t.rf) (fun _ => 0)
  let onF := fun (i : Instr) (new : Nat → Nat × FFlags) =>
    P i o n (fun old => some (new old).1) (fun _ => t.rx) (fun old => fAfter t o.d (BitVec.ofNat 64 old)) (fun old => (new old).2)
  onX (.amoSwap o) (fun _ => some b) ∧ onX (.amoAdd o) (fun old => some ((old + b) % 2 ^ (8 * n))) ∧
  onX (.amoAnd o) (fun old => some (old &&& b)) ∧ onX (.amoOr o) (fun old => some (old ||| b)) ∧
  onX (.amoXor o) (fun old => some (old ^^^ b)) ∧
  onX (.amoMin o) (fun old => some (if int b < int old then b else old)) ∧
  onX (.amoMax o) (fun old => some (if int old < int b then b else old)) ∧
  onX (.amoMinu o) (fun old => some (min old b)) ∧ onX (.amoMaxu o) (fun old => some (max old b)) ∧
  onF (.amoFadd o) (fun old => fmt.add 0 old (cut (t.rf o.b))) ∧
  onF (.amoFmax o) (fun old => fmt.minmax true old (cut (t.rf o.b))) ∧
  onX (.amoCas o) (fun old => if old = cut (t.rx o.d) then some b else none)

/-- R63, R82, R296: a load from the scratchpad window writes its register, extended as its type says, and changes nothing else. While
accesses travel it goes to the bank first (R104), and completes with the value that comes back. Rests on the log, entries 6 and 85. -/
def Obligations.LoadsFromScratchpad : Prop := ∀ (s : State) (off : Nat),
  EachLoad s.cur fun i va n len x f =>
    let completes := fun (v : Nat) => ∃ t, exec i s = .next t ∧ Retired s t (s.cur.pc + toW len) (x v) (f v) s.cur.fstat
    (s.travel = false → SpadAccess s va n off → completes (s.spadValue off n)) ∧
    (s.travel = true → SpadAccess s va n off → s.cur.remote = none → exec i s = .next (s.sent off (.read n))) ∧
    (∀ v, Answered s (.spad off) v → completes v)

/-- R97, R112, R117, R296: a load from the near or main tier, with its bank open and its word intact: a hit returns the bytes of the
line, a miss the dirty bytes of the line and the others from DRAM; a clean line that a completed span of the thread covers leaves first
(R122). No byte of DRAM or of a scratchpad changes. While accesses travel, a miss asks for its line on VC0 (R418), and waits while nothing
can be sent; it completes with its bytes of the line that comes back. A load released by a watermark is outside this statement. Rests on
the log, entries 4, 6 and 85. -/
def Obligations.LoadsFromDram : Prop := ∀ (s u : State) (pa : Nat),
  EachLoad s.cur fun i va n len x f =>
    let c := coreOf s.hart
    let r := s.l1Renew c s.hart va.toNat pa n
    (DramAccess s u .sload va n pa → r.noForeignLine pa → s.cur.freed = false →
      r.l1Has pa n = true ∨ s.travel = false ∧ s.lineShut (pa / 64) = false ∧ s.badAt pa n = none →
      let v := leNat ((List.range n).map (fun k => r.loadByte (pa + k) (r.l1Has pa n)))
      ∃ t, exec i s = .next t ∧ s.cur.Retired t.cur (s.cur.pc + toW len) (x v) (f v) s.cur.fstat ∧ SameStores s t ∧
        SameOthers s t ∧ CountedOne s t) ∧
    (∀ m k, DramAccess s u .sload va n pa → r.noForeignLine pa → s.cur.freed = false → r.l1Has pa n = false → s.travel = true →
      s.cur.remote = none → s.translate (some c) s.cur.owner .sload va.toNat n = .ok u (.phys pa m k) →
      let line := Place.phys (pa / 64 * 64) m k
      let w := u.l1Renew c s.hart va.toNat pa n
      let sends := w.post c 0 s.cur.owner (35 + s.hart % 4) false line (.read 64) (.line s.hart va.toNat n)
      (∀ z, sends = some z → exec i s = .next (z.setCur { s.cur with away := some (s.ir, line), wait := .remote })) ∧
      (sends = none → exec i s = .next (w.waiting .refresh))) ∧
    (∀ v m k, isDram pa = true → Answered s (.phys pa m k) v →
      let got := leNat ((List.range n).map (fun j => (natLe 64 v).getD (pa % 64 + j) 0))
      ∃ t, exec i s = .next t ∧ Retired s t (s.cur.pc + toW len) (x got) (f got) s.cur.fstat)

/-- R110, R296: a store into the scratchpad window stores the low bytes of its register there; the line becomes its owner's, and
every other line keeps its bytes and its full/empty bits. No register changes. While accesses travel it goes to the bank first (R104), and
completes with the answer. Rests on the log, entries 6 and 85. -/
def Obligations.StoresToScratchpad : Prop := ∀ (s : State) (off : Nat),
  EachStore s.cur fun i va n len v =>
    (s.travel = false → SpadAccess s va n off →
      ∃ t, exec i s = .next t ∧ s.cur.Retired t.cur (s.cur.pc + toW len) s.cur.rx s.cur.rf s.cur.fstat ∧
        SpadStored s t s.cur.owner (coreOf s.hart) off (natLe n v) ∧ FullKept s t s.cur.owner (coreOf s.hart) off ∧
        SameButSpad s t ∧ SameOthers s t ∧ CountedOne s t) ∧
    (s.travel = true → SpadAccess s va n off → s.cur.remote = none →
      exec i s = .next (s.sent off (.write (natLe n v) (2 ^ n - 1)))) ∧
    (∀ a, Answered s (.spad off) a → GoesTo i s (s.cur.pc + toW len))

/-- R97, R117, R296: a store to the near or main tier goes into the L1 line: the scalar loads of the core find the stored bytes there,
and every other byte as before, or, where a completed span of the thread covers the clean line, as in DRAM (R122); no byte of DRAM or of
a scratchpad changes. No register changes. Rests on the log, entries 6 and 85. -/
def Obligations.StoresToDram : Prop := ∀ (s u : State) (pa : Nat),
  EachStore s.cur fun i va n len v => DramAccess s u .sstore va n pa →
    let r := s.l1Renew (coreOf s.hart) s.hart va.toNat pa n
    r.noForeignLine pa →
    ∃ t, exec i s = .next t ∧ s.cur.Retired t.cur (s.cur.pc + toW len) s.cur.rx s.cur.rf s.cur.fstat ∧
      (∀ a, t.coreByte a = if pa ≤ a ∧ a < pa + n then (natLe n v).getD (a - pa) 0 else r.coreByte a) ∧
      SameStores s t ∧ SameOthers s t ∧ CountedOne s t

/-- What a load of a kind writes for the bytes `v`: kinds 0 to 3 the signed integers of 1, 2, 4 and 8 bytes, 4 to 6 the unsigned ones
of 1, 2 and 4, 7 to 9 the floats of 2, 4 and 8 (R296). -/
def feX (t : Thread) (kind d v : Nat) : Nat → Word :=
  if 7 ≤ kind then t.rx
  else if 3 ≤ kind then xAfter t d (BitVec.ofNat 64 v)
  else xAfter t d ((BitVec.ofNat (8 * 2 ^ kind) v).signExtend 64)
def feF (t : Thread) (kind d v : Nat) : Nat → Word := if 7 ≤ kind then fAfter t d (BitVec.ofNat 64 v) else t.rf
def feWidth (kind : Nat) : Nat := if kind < 4 then 2 ^ kind else if kind < 7 then 2 ^ (kind - 4) else 2 ^ (kind - 6)

/-- Every access with .fe, .take or .fill: the instruction, its address, width, access kind and KIND of its fault record. -/
def EachQualified (t : Thread) (P : Instr → Word → Nat → Acc → Nat → Prop) : Prop :=
  (∀ o : OpLoadFe, o.kind < 10 → let va := t.rx o.a + (BitVec.ofNat 12 o.imm).signExtend 64
    P (.ldFe o) va (feWidth o.kind) .sload 1 ∧ P (.ldTake o) va (feWidth o.kind) .sload 1) ∧
  (∀ o : OpStoreFill, o.kind < 8 → o.kind ≠ 4 →
    P (.stFill o) (t.rx o.a + (BitVec.ofNat 12 o.imm).signExtend 64) (if o.kind < 4 then 2 ^ o.kind else 2 ^ (o.kind - 4)) .sstore 2)

/-- R107, R173, R174, R185, R230, R297, R303, R304: an access whose address is no multiple of its width raises the misaligned trap with TVAL
its address; CAS2 names 16 bytes. An aligned access whose translation fails raises the trap of its cause, with TVAL its address, and with
the KIND of its access and the LEVEL and ENTRY of the walk in its record. An access with .fe, .take or .fill outside the scratchpad window
raises the access fault: one whose page is mapped, and one to a sealed page, before code 9. Stated of an access that has not been issued
before; the TLBs keep what the translation `u` has looked up. Rests on the log, entry 15. -/
def Obligations.FailingAccessesTrap : Prop := ∀ s : State, s.cur.away = none →
  (EachLoad s.cur fun i va n _ _ _ => va.toNat % n ≠ 0 → Traps i s (Pend.addr 4 va 1 0 0)) ∧
  (EachStore s.cur fun i va n _ _ => va.toNat % n ≠ 0 → Traps i s (Pend.addr 4 va 2 0 0)) ∧
  (EachAmo s.cur fun i o n _ _ _ _ => (s.cur.rx o.a).toNat % n ≠ 0 → o.scope < 5 → Traps i s (Pend.addr 4 (s.cur.rx o.a) 2 0 0)) ∧
  (∀ o : OpCas2, (s.cur.rx o.a).toNat % 16 ≠ 0 → o.scope < 5 → Traps (.cas2 o) s (Pend.addr 4 (s.cur.rx o.a) 2 0 0)) ∧
  (EachQualified s.cur fun i va n _ kind => va.toNat % n ≠ 0 → Traps i s (Pend.addr 4 va kind 0 0)) ∧
  (∀ (u : State) (e : XErr),
    let fails := fun (k : Acc) (va : Word) (n : Nat) =>
      va.toNat % n = 0 ∧ s.translate (some (coreOf s.hart)) s.cur.owner k va.toNat n = .err u e
    let traps := fun (i : Instr) (code : Nat) (va : Word) (kind : Nat) =>
      exec i s = .next (u.precise (Pend.addr code va kind e.level e.entry))
    (EachLoad s.cur fun i va n _ _ _ => fails .sload va n → traps i e.code va 1) ∧
    (EachStore s.cur fun i va n _ _ => fails .sstore va n → traps i e.code va 2) ∧
    (EachAmo s.cur fun i o n _ _ _ _ => fails .satomic (s.cur.rx o.a) n → o.scope < 5 → traps i e.code (s.cur.rx o.a) 2) ∧
    (∀ o : OpCas2, fails .satomic (s.cur.rx o.a) 16 → o.scope < 5 → traps (.cas2 o) e.code (s.cur.rx o.a) 2) ∧
    (EachQualified s.cur fun i va n k kind => fails k va n → traps i (if e.code = 9 then 5 else e.code) va kind)) ∧
  (EachQualified s.cur fun i va n k kind => ∀ (u : State) (pa m x : Nat), va.toNat % n = 0 →
    s.translate (some (coreOf s.hart)) s.cur.owner k va.toNat n = .ok u (.phys pa m x) →
    let e := u.leafErr (some (coreOf s.hart)) s.cur.owner va.toNat 5
    e.code = 5 ∧ exec i s = .next (u.precise (Pend.addr 5 va kind e.level e.entry)))

/-! Full/empty bits -/

/-- R98, R105, R106, R298: with its granule full, a load with .fe or .take returns the bytes of the scratchpad and acquires: the lines
that no thread has dirtied leave the L1. A .take clears the granule's bit and no other. With the granule empty both wait, and nothing
changes. While accesses travel they go to the bank first (R104), and acquire with the answer. Rests on the log, entries 13 and 85. -/
def Obligations.FullLoads : Prop := ∀ (s : State) (o : OpLoadFe) (off : Nat), o.kind < 10 →
  let n := feWidth o.kind
  let c := coreOf s.hart
  let v := s.spadValue off n
  let done := fun (i : Instr) (t : State) => exec i s = .next t ∧
    s.cur.Retired t.cur (s.cur.pc + 8) (feX s.cur o.kind o.d v) (feF s.cur o.kind o.d v) s.cur.fstat ∧
    (t.core c).l1d = (s.core c).l1d.filter (fun p => !p.2.threads.isEmpty) ∧ t.mem = s.mem ∧ t.keys = s.keys ∧ t.spad = s.spad ∧
    t.spadOwner = s.spadOwner ∧ SameOthers s t ∧ CountedOne s t
  (∀ w bit i, (i, bit) ∈ [(Instr.ldFe o, false), (Instr.ldTake o, true)] →
    (s.travel = true → SpadAccess s (s.cur.rx o.a + (BitVec.ofNat 12 o.imm).signExtend 64) n off → s.isFull s.cur.owner c off = true →
      s.cur.remote = none → exec i s = .next (s.sent off (.full bit n))) ∧
    (Answered s (.spad off) w → ∃ t, exec i s = .next t ∧
      s.cur.Retired t.cur (s.cur.pc + 8) (feX s.cur o.kind o.d w) (feF s.cur o.kind o.d w) s.cur.fstat ∧
      (t.core c).l1d = (s.core c).l1d.filter (fun p => !p.2.threads.isEmpty) ∧ SameStores s t ∧ SameOthers s t ∧ CountedOne s t)) ∧
  (SpadAccess s (s.cur.rx o.a + (BitVec.ofNat 12 o.imm).signExtend 64) n off →
    (s.travel = false → s.isFull s.cur.owner c off = true →
      (∃ t, done (.ldFe o) t ∧ t.spadFull = s.spadFull) ∧
      (∃ t, done (.ldTake o) t ∧ ∀ o' c' a, a < 2 ^ 24 →
        t.isFull o' c' a = (!decide (c' = c ∧ a / 16 = off / 16) && s.isFull o' c' a))) ∧
    (s.isFull s.cur.owner c off = false → Waits (.ldFe o) s .granule ∧ Waits (.ldTake o) s .granule))

/-- R105, R110, R125, R298, R310: a store with .fill writes the lines that the thread dirtied back first, then stores its bytes and sets the
bit of their granule, and no other bit; when the granule becomes full, the event flag of every thread of the core is set. While the bank
of one of those lines is closed, it waits. Minors 0 to 3 store 1, 2, 4 and 8 bytes of X[b], 5 to 7 store 2, 4 and 8 of F[b]. Rests on the
log, entries 13 and 36. -/
def Obligations.FillStores : Prop := ∀ (s : State) (o : OpStoreFill) (off : Nat), o.kind < 8 → o.kind ≠ 4 →
  let n := if o.kind < 4 then 2 ^ o.kind else 2 ^ (o.kind - 4)
  let c := coreOf s.hart
  let v := if o.kind < 4 then (s.cur.rx o.b).toNat else (s.cur.rf o.b).toNat
  SpadAccess s (s.cur.rx o.a + (BitVec.ofNat 12 o.imm).signExtend 64) n off →
    (s.dirtyClosed = true → Waits (.stFill o) s .refresh) ∧
    (s.dirtyClosed = false → s.travel = true → s.cur.remote = none →
      exec (.stFill o) s = .next ((s.l1WriteBackThread c s.hart).sent off (.fill (natLe n v)))) ∧
    (s.dirtyClosed = false → s.travel = false → ∃ t, exec (.stFill o) s = .next t ∧ SpadStored s t s.cur.owner c off (natLe n v) ∧
      (∀ o' c' a, a < 2 ^ 24 → t.isFull o' c' a =
        if c' = c ∧ a / 64 = off / 64 then
          decide (o' = s.cur.owner) && (decide (a / 16 = off / 16) ||
            (decide (tfind s.spadOwner (spadKey c off / 64) = some s.cur.owner) && s.isFull s.cur.owner c a))
        else s.isFull o' c' a) ∧
      (∀ h, (t.thr h).event = ((s.thr h).event ||
        (!s.isFull s.cur.owner c off && decide (coreOf h = c) && (tfind s.threads h).isSome))) ∧
      (∀ h, { t.thr h with event := (s.thr h).event } = if h = s.hart then s.cur.goneTo (s.cur.pc + 8) else s.thr h) ∧
      SameButSpad (s.l1WriteBackThread c s.hart) t ∧ CountedOne s t)

/-! Atomics -/

/-- Whether an order code and scope make an atomic a release, or an acquire, that acts on the L1 (R98, R124). -/
def releases (ord scope : Nat) : Bool := decide (ord = 2 ∨ ord = 3) && decide (scope ≠ 0)
def acquires (ord scope : Nat) : Bool := decide (ord = 1 ∨ ord = 3) && decide (scope ≠ 0)

/-- What an atomic in a scratchpad does beside its access: nothing when it is relaxed or at scope .th; a release writes back the lines
that the thread has dirtied, and an acquire drops from the L1 the lines that no thread has dirtied. -/
def Ordered (s t : State) (ord scope : Nat) : Prop :=
  let c := coreOf s.hart
  let u := if releases ord scope then s.l1WriteBackThread c s.hart else s
  t.mem = u.mem ∧ t.keys = u.keys ∧
  (t.core c).l1d = (if acquires ord scope then (u.core c).l1d.filter (fun p => !p.2.threads.isEmpty) else (u.core c).l1d) ∧
  (releases ord scope = false → acquires ord scope = false → SameButSpad s t)

/-- The PAC class of an atomic (R302). -/
def amoClass (i : Instr) : Nat :=
  match i with
  | .amoFadd _ | .amoFmax _ => 12
  | _ => 11

/-- What an atomic of `n` bytes at `va` does whose address translates to `pa` of the near or main tier, its state then being `u`: with the
lines that a release writes back and then its own line gone from the L1 (`w`), `old` is what DRAM holds, and the new value is written there
under the owner's key; an acquire drops the lines that no thread has dirtied. `got` says what its thread receives. It waits while its bank,
or that of a line to be released, is closed; and a class that the page does not carry is a trap. The result is stated of an access that
performs where it is issued. -/
def AtomicInDram (i : Instr) (s u : State) (va : Word) (pa n cls ord scope : Nat) (new : Nat → Option Nat) (got : State → Nat → Prop) : Prop :=
  let c := coreOf s.hart
  let r := u.l1Renew c s.hart va.toNat pa n
  ord < 4 → scope < 5 → DramAccess s u .satomic va n pa →
  ∀ m pac, s.translate (some c) s.cur.owner .satomic va.toNat n = .ok u (.phys pa m pac) →
    (pacHas pac cls = false →
      let e := r.leafErr (some c) s.cur.owner va.toNat 11
      exec i s = .next (r.precise (Pend.addr 11 va 2 e.level e.entry))) ∧
    (pacHas pac cls = true → (s.closed pa = true ∧ s.travel = false) ∨ (releases ord scope = true ∧ s.dirtyClosed = true) →
      exec i s = .next (r.waiting .refresh)) ∧
    (pacHas pac cls = true → s.travel = false → s.closed pa = false → s.badAt pa n = none → (releases ord scope = true → s.dirtyClosed = false) →
      let w := (if releases ord scope then r.l1WriteBackThread c s.hart else r).l1Flush c (pa / 64)
      let old := leNat ((List.range n).map (fun k => w.dramByte s.cur.owner (pa + k)))
      let z := match new old with
        | some v => w.dramWrite s.cur.owner pa (natLe n v)
        | none => w
      ∃ t, exec i s = .next t ∧ got t old ∧ t.mem = z.mem ∧ t.keys = z.keys ∧ t.l1Find c (pa / 64) = none ∧
        (t.core c).l1d = (if acquires ord scope then (w.core c).l1d.filter (fun p => !p.2.threads.isEmpty) else (w.core c).l1d) ∧
        t.spad = s.spad ∧ t.spadOwner = s.spadOwner ∧ t.spadFull = s.spadFull ∧ SameOthers s t ∧ CountedOne s t)

/-- R98, R110, R125, R128, R302, R303: an AMO in the scratchpad reads the old value into its register, sign-extended at width 4 from an
x register and zero-extended into an f register, and writes the new value in the same step; a CAS that finds another value writes
nothing. It performs its release before and its acquire after.
R112, R134, R305: on a near or main address it writes its L1 line back and invalidates it, and performs at the coherence point as
`AtomicInDram` says; it waits while the bank is closed (R94), and where the page's PAC lacks its class it raises code 11 and performs
nothing. An atomic that has travelled to its bank completes with the old value that comes back. Rests on the log, entries 4, 6 and 85. -/
def Obligations.AtomicsInScratchpad : Prop := ∀ s : State,
  (∀ u pa, EachAmo s.cur fun i o n new x f fl => AtomicInDram i s u (s.cur.rx o.a) pa n (amoClass i) o.ord o.scope new
    (fun t old => s.cur.Retired t.cur (s.cur.pc + 4) (x old) (f old) (s.cur.fstat ||| fl old))) ∧
  (∀ off v, EachAmo s.cur fun i o _ _ x f fl => o.ord < 4 → o.scope < 5 → Answered s (.spad off) v →
    ∃ t, exec i s = .next t ∧ s.cur.Retired t.cur (s.cur.pc + 4) (x v) (f v) (s.cur.fstat ||| fl v) ∧ SameStores s t ∧
      (acquires o.ord o.scope = false → SameElsewhere s t) ∧ SameOthers s t ∧ CountedOne s t) ∧
  ∀ off, EachAmo s.cur fun i o n new x f fl => s.travel = false → SpadAccess s (s.cur.rx o.a) n off → o.ord < 4 → o.scope < 5 →
    (releases o.ord o.scope = true → s.dirtyClosed = false) →
    let old := s.spadValue off n
    ∃ t, exec i s = .next t ∧ s.cur.Retired t.cur (s.cur.pc + 4) (x old) (f old) (s.cur.fstat ||| fl old) ∧
      (match new old with
        | some v => SpadStored s t s.cur.owner (coreOf s.hart) off (natLe n v) ∧ FullKept s t s.cur.owner (coreOf s.hart) off
        | none => t.spad = s.spad ∧ t.spadOwner = s.spadOwner ∧ t.spadFull = s.spadFull) ∧
      Ordered s t o.ord o.scope ∧ SameOthers s t ∧ CountedOne s t

/-- R110, R128, R304: CAS2 in the scratchpad compares 16 bytes with X[d] and X[d + 1] and writes X[b] and X[b + 1] when they are
equal; X[d] and X[d + 1] receive the old bytes in every case. R112, R305: on a near or main address it does the same at the coherence
point, as `AtomicInDram` says. Rests on the log, entries 4, 6 and 85. -/
def Obligations.PairAtomics : Prop := ∀ (s : State) (o : OpCas2), o.d ≠ 0 →
  let pair := fun (r : Nat) => (s.cur.rx r).toNat + 2 ^ 64 * (s.cur.rx (r + 1)).toNat
  let got := fun (t : State) (old : Nat) => s.cur.Retired t.cur (s.cur.pc + 4)
    (fun r => if r = 0 then 0 else if r = o.d + 1 then BitVec.ofNat 64 (old / 2 ^ 64) else if r = o.d then BitVec.ofNat 64 old
      else s.cur.rx r) s.cur.rf s.cur.fstat
  (∀ u pa, AtomicInDram (.cas2 o) s u (s.cur.rx o.a) pa 16 13 o.ord o.scope (fun old => if old = pair o.d then some (pair o.b) else none) got) ∧
  (∀ off v, o.ord < 4 → o.scope < 5 → Answered s (.spad off) v → ∃ t, exec (.cas2 o) s = .next t ∧ got t v ∧ SameStores s t ∧
    SameOthers s t ∧ CountedOne s t) ∧
  ∀ off, s.travel = false → SpadAccess s (s.cur.rx o.a) 16 off → o.ord < 4 → o.scope < 5 → (releases o.ord o.scope = true → s.dirtyClosed = false) →
    let old := s.spadValue off 16
    ∃ t, exec (.cas2 o) s = .next t ∧ got t old ∧
      (if old = pair o.d then
        SpadStored s t s.cur.owner (coreOf s.hart) off (natLe 16 (pair o.b)) ∧ FullKept s t s.cur.owner (coreOf s.hart) off
      else t.spad = s.spad ∧ t.spadOwner = s.spadOwner ∧ t.spadFull = s.spadFull) ∧
      Ordered s t o.ord o.scope ∧ SameOthers s t ∧ CountedOne s t

/-- R123: an atomic with a scope code of 101 to 111 raises the illegal-instruction trap and performs nothing. -/
def Obligations.ReservedScopesTrap : Prop := ∀ s : State,
  (EachAmo s.cur fun i o _ _ _ _ _ => 5 ≤ o.scope → Illegal i s) ∧ (∀ o, 5 ≤ o.scope → Illegal (.cas2 o) s)

/-! Status and control registers -/

/-- R64, R66, R76, R77, R79, R80: the number of each status and control register and the value that it reads, with no earlier
instruction in the VIQ or the tile window. -/
def srValues (s : State) : List (Nat × Word) :=
  let t := s.cur
  let bstat := fun (n : Nat) =>
    let b := t.bobbin n
    BitVec.ofNat 64 ((if b.stat.abt then 2 ^ 32 else 0) + b.stat.fcode.toNat * 2 ^ 16 + b.queue.length * 16 + b.stat.state)
  [ (0x000, BitVec.ofNat 64 t.vl), (0x001, BitVec.ofNat 64 t.cmvl), (0x002, BitVec.ofNat 64 (t.csew * 16 + t.cnreg)),
    (0x003, BitVec.ofNat 64 t.vgrant), (0x004, BitVec.ofNat 64 (64 * t.gang)), (0x005, BitVec.ofNat 64 t.gang),
    (0x006, BitVec.ofNat 64 (256 * t.gang)), (0x007, t.tshape), (0x010, BitVec.ofNat 64 (t.mapb * 2 ^ 23)),
    (0x011, BitVec.ofNat 64 t.skew), (0x020, BitVec.ofNat 64 s.gtime), (0x021, BitVec.ofNat 64 t.taskid), (0x022, t.nodeid),
    (0x023, BitVec.ofNat 64 t.repl), (0x024, BitVec.ofNat 64 t.repln), (0x025, BitVec.ofNat 64 t.owner),
    (0x030, t.fstat.setWidth 64), (0x031, BitVec.ofNat 64 t.frm),
    (0x040, BitVec.ofNat 64 ((if t.hnd then 2 ^ 31 else 0) + t.tsrc % 4 * 2 ^ 28 + t.tcode % 2 ^ 16)), (0x041, t.tepc),
    (0x042, t.tvpc), (0x043, t.tval), (0x044, BitVec.ofNat 64 (t.nkeep % 32 * 256 + t.tpos % 32)), (0x045, BitVec.ofNat 64 t.tstart),
    (0x046, t.tvec), (0x060, t.qcfg.setWidth 64), (0x061, s.refcal (coreOf s.hart) t.refgrp) ] ++
  (List.range 8).map (fun n => (0x050 + n, bstat n))

/-- R50, R66, R77, R234, R306: MFS writes the value of the register it names to X[d], and an unassigned number raises the
illegal-instruction trap. An MFS of FSTAT waits while an earlier vector or tile instruction is not complete, one of VL while an earlier
VLDFF can still trim it, and one of TSHAPE while an earlier MCFG is in the tile window; every other register is read at once. In a handler
none waits: FSTAT then holds the flags of the tile instructions that are complete and have not retired too, and VL is that of the
vector stream. Rests on the log, entry 25. -/
def Obligations.StatusReads : Prop := ∀ (s : State) (o : OpMfs),
  let t := s.cur
  let cfg := t.win.any (fun e => match e.op with
    | .mcfg _ => true
    | _ => false)
  (∀ v, (o.n, v) ∈ srValues s → t.viq = [] → t.win = [] → WritesX (.mfs o) s 4 o.d v) ∧
  (∀ v, (o.n, v) ∈ srValues s → o.n ≠ 0x000 → o.n ≠ 0x007 → o.n ≠ 0x030 → WritesX (.mfs o) s 4 o.d v) ∧
  (o.n = 0x030 → t.hnd = false → t.viq ≠ [] ∨ t.win ≠ [] → Waits (.mfs o) s .readback) ∧
  (o.n = 0x030 → t.hnd = true →
    WritesX (.mfs o) s 4 o.d ((t.win.foldl (fun f e => f ||| e.flags) t.fstat).setWidth 64)) ∧
  (o.n = 0x007 → t.hnd = false → cfg = true → Waits (.mfs o) s .readback) ∧
  (o.n = 0x007 → t.hnd = true ∨ cfg = false → WritesX (.mfs o) s 4 o.d t.tshape) ∧
  (o.n = 0x000 → t.hnd = false → t.trimming = true → Waits (.mfs o) s .readback) ∧
  (o.n = 0x000 → t.hnd = false → t.trimming = false → WritesX (.mfs o) s 4 o.d (BitVec.ofNat 64 t.vlAhead)) ∧
  (o.n = 0x000 → t.hnd = true → WritesX (.mfs o) s 4 o.d (BitVec.ofNat 64 t.vl)) ∧
  (o.n ∉ (srValues s).map (·.1) → Illegal (.mfs o) s)

/-- R47, R50, R76, R77, R79, R80, R306: MTS changes only the fields that software may write: SKEW, FSTAT, FMODE.RM with a legal mode, TEPC
and TVEC with bit 0 clear, and REFCAL.GRP with a group of the core; every other register, and an illegal value, raises the
illegal-instruction trap. An MTS to FSTAT waits until every earlier vector and tile instruction is complete; in a handler it writes at once,
and takes the place of the flags of the tile instructions that are complete and have not retired. Rests on the log, entry 25. -/
def Obligations.StatusWrites : Prop := ∀ (s : State) (o : OpMts),
  let t := s.cur
  let v := t.rx o.a
  let even := v &&& ~~~1
  let leaves := fun (u : Thread) => Leaves (.mts o) s (t.pc + 4) u
  (o.n = 0x011 → leaves { t with skew := v.toNat % 16 }) ∧
  (o.n = 0x030 → t.viq = [] → t.win = [] → leaves { t with fstat := v.setWidth 6 }) ∧
  (o.n = 0x030 → t.hnd = false → t.viq ≠ [] ∨ t.win ≠ [] → Waits (.mts o) s .readback) ∧
  (o.n = 0x030 → t.hnd = true → leaves { t with fstat := v.setWidth 6, win := t.win.map (fun e => { e with flags := 0 }) }) ∧
  (o.n = 0x031 → v.toNat % 8 < 4 → leaves { t with frm := v.toNat % 8 }) ∧
  (o.n = 0x041 → leaves { t with tepc := even }) ∧ (o.n = 0x046 → leaves { t with tvec := even }) ∧
  (o.n = 0x061 → v.toNat % 64 < 16 * t.gang → leaves { t with refgrp := v.toNat % 64 }) ∧
  (o.n = 0x031 → 4 ≤ v.toNat % 8 → Illegal (.mts o) s) ∧ (o.n = 0x061 → 16 * t.gang ≤ v.toNat % 64 → Illegal (.mts o) s) ∧
  (o.n ∉ [0x011, 0x030, 0x031, 0x041, 0x046, 0x061] → Illegal (.mts o) s)

/-! Fences and cache maintenance -/

/-- The dirty bytes of a line of the executing thread's core stand in DRAM under the line's owner. -/
def LineStored (s t : State) (line : Nat) (l : L1Line) : Prop :=
  ∀ off, off < 64 → off ∈ l.dirty → t.dramByte l.owner (64 * line + off) = tget l.bytes off 0

/-- Every byte of DRAM, as every owner reads it, is as before, but where a line of the executing thread's core that is one of `which` writes
it back, or writes back another byte of its granule and the granule stood under another key (R111). -/
def DramKeptBut (s t : State) (which : Nat → L1Line → Prop) : Prop :=
  ∀ o a, (∀ l, s.l1Find (coreOf s.hart) (a / 64) = some l → which (a / 64) l → a % 64 ∉ l.dirty ∧
    ∀ off, off < 64 → off ∈ l.dirty → off / 16 = a % 64 / 16 → tfind s.keys (a / 16) = some (s.keyTag l.owner)) →
    t.dramByte o a = s.dramByte o a

/-- What a write-back of the lines that the executing thread has dirtied leaves: none of them holds a dirty byte, DRAM holds the dirty bytes
of each of them under its owner, and no other byte of DRAM changes. -/
def WrittenBack (s t : State) : Prop :=
  let c := coreOf s.hart
  (∀ line l, s.l1Find c line = some l → shas l.threads s.hart = true →
    LineStored s t line l ∧ ∀ l', t.l1Find c line = some l' → l'.dirty = []) ∧
  DramKeptBut s t (fun _ l => shas l.threads s.hart = true)

/-- R98, R129, R308: FENCE.SV writes back every line that the thread has dirtied; FENCE.VS, with the VIQ empty, drops the lines that no
thread has dirtied; FENCE.ALL, with every stream quiet, does both. No other byte of DRAM changes, no register, nor any scratchpad. While a
line that the thread has dirtied waits for a closed bank, FENCE.SV and FENCE.ALL wait. -/
def Obligations.Fences : Prop := ∀ s : State,
  let c := coreOf s.hart
  let done := fun (i : Instr) (t : State) => exec i s = .next t ∧ t.cur = s.cur.goneTo (s.cur.pc + 4) ∧ t.spad = s.spad ∧
    t.spadOwner = s.spadOwner ∧ t.spadFull = s.spadFull ∧ SameOthers s t ∧ CountedOne s t
  (s.dirtyClosed = false → ∃ t, done .fenceSv t ∧ WrittenBack s t) ∧
  (s.cur.viq = [] → ∃ t, done .fenceVs t ∧ t.mem = s.mem ∧ t.keys = s.keys ∧
    (t.core c).l1d = (s.core c).l1d.filter (fun p => !p.2.threads.isEmpty)) ∧
  (s.cur.quiet = true → s.dirtyClosed = false → ∃ t, done .fenceAll t ∧ (∀ p ∈ (t.core c).l1d, p.2.threads ≠ []) ∧ WrittenBack s t) ∧
  (s.cur.viq ≠ [] → Waits .fenceVs s .vectorDone) ∧ (s.cur.quiet = false → Waits .fenceAll s .drain) ∧
  (s.dirtyClosed = true → Waits .fenceSv s .refresh) ∧ (s.cur.quiet = true → s.dirtyClosed = true → Waits .fenceAll s .refresh)

/-- R99, R313: CWB, CINV and ICINV of an address that the thread's owner maps, its translation being at hand and the line not waiting for a
closed bank, complete: CWB writes the dirty bytes of the line back, whichever thread dirtied it, and leaves it clean in the L1; CINV writes
them back and removes the line; ICINV removes the line from the instruction cache. No other byte of DRAM changes. An address that does not translate, or that lies in the scratchpad window, is a no-op of the three, which complete. ICINVALL always
completes, and empties the instruction cache. Where the translation waits for a walk, or the line for its bank, the instruction waits. -/
def Obligations.CacheMaintenance : Prop := ∀ (s : State) (o : OpA),
  let c := coreOf s.hart
  let va := (s.cur.rx o.a).toNat
  let done := fun (t : State) => t.cur = s.cur.goneTo (s.cur.pc + 4) ∧ t.spad = s.spad ∧ SameOthers s t ∧ CountedOne s t
  (∃ t, exec .icinvall s = .next t ∧ done t ∧ (t.core c).l1i = [] ∧ t.mem = s.mem ∧ (t.core c).l1d = (s.core c).l1d) ∧
  (∀ u pa m x, s.translate (some c) s.cur.owner .maint va 1 = .ok u (.phys pa m x) →
    let stored := fun (t : State) => (∀ l, s.l1Find c (pa / 64) = some l → LineStored s t (pa / 64) l) ∧
      DramKeptBut s t (fun line _ => line = pa / 64)
    (s.lineClosed (pa / 64) = false → ∃ t, exec (.cwb o) s = .next t ∧ done t ∧ stored t ∧
      ∀ l, t.l1Find c (pa / 64) = some l → l.dirty = []) ∧
    (s.lineClosed (pa / 64) = false → ∃ t, exec (.cinv o) s = .next t ∧ done t ∧ stored t ∧ t.l1Find c (pa / 64) = none) ∧
    (∃ t, exec (.icinv o) s = .next t ∧ done t ∧ tfind (t.core c).l1i (pa / 64) = none ∧ t.mem = s.mem) ∧
    (s.lineClosed (pa / 64) = true →
      exec (.cwb o) s = .next (u.waiting .refresh) ∧ exec (.cinv o) s = .next (u.waiting .refresh))) ∧
  (∀ u e, s.translate (some c) s.cur.owner .maint va 1 = .err u e →
    exec (.cwb o) s = .next (u.retire 4) ∧ exec (.cinv o) s = .next (u.retire 4) ∧ exec (.icinv o) s = .next (u.retire 4)) ∧
  (∀ u off, s.translate (some c) s.cur.owner .maint va 1 = .ok u (.spad off) →
    Leaves (.cwb o) s (s.cur.pc + 4) s.cur ∧ Leaves (.cinv o) s (s.cur.pc + 4) s.cur ∧ Leaves (.icinv o) s (s.cur.pc + 4) s.cur) ∧
  (∀ u, s.translate (some c) s.cur.owner .maint va 1 = .miss u →
    exec (.cwb o) s = .next (u.waiting .walk) ∧ exec (.cinv o) s = .next (u.waiting .walk) ∧ exec (.icinv o) s = .next (u.waiting .walk))

/-- The page that a TLBI.PG names: 64 KiB, 2 MiB, 64 MiB or 1 GiB by X[b][9:8]. -/
def tlbiPage (va b : Word) : Nat × Nat :=
  (va.toNat, match b.toNat / 256 % 4 with
    | 0 => 16
    | 1 => 21
    | 2 => 26
    | _ => 30)

/-- R182, R312: a TLBI completes only when no TLB of the package holds a translation that it names; owner 0 names the owner in
X[b][5:0], every other owner itself. Stated for streams that run in lockstep, where the shoot-down runs within the instruction: it ends there
when no section of a vector memory instruction pins an entry, and otherwise the scalar stream holds for the acknowledgements that are still
to come. Rests on the log, entries 3 and 46. -/
def Obligations.TlbInvalidation : Prop := ∀ s : State, s.lockstep = true → s.cur.shoot = none → s.dirtyClosed = false →
  let named := fun (b : Word) => if s.cur.owner = 0 then b.toNat % 64 else s.cur.owner
  let gone := fun (t : State) (owner : Nat) (page : Option (Nat × Nat)) =>
    t.cur = s.cur.goneTo (s.cur.pc + 4) ∧ (∀ n, n ≤ 208 → ∀ e ∈ (t.tlbAt n).entries, e.hit owner page = false) ∧
    (∀ n, n ≤ 208 → ∀ e ∈ (t.tlbAt n).entries, ∃ e' ∈ (s.tlbAt n).entries, e'.owner = e.owner ∧ e'.page = e.page ∧ e'.leaf = e.leaf) ∧
    SameOthers s t ∧ CountedOne s t
  let free := ∀ n, n ≤ 208 → ∀ e ∈ (s.tlbAt n).entries, e.pins = []
  let holds := fun (i : Instr) (owner : Nat) (page : Option (Nat × Nat)) =>
    let u := (s.l1WriteBackThread (coreOf s.hart) s.hart).shootAll owner page
    (∃ n, n ≤ 208 ∧ ∃ e ∈ (u.tlbAt n).entries, e.doomed = true ∧ e.hit owner page = true) →
      ∃ t k, exec i s = .next t ∧ t.cur = { u.cur with shoot := some u.shootNext, wait := .shootdown } ∧
        tfind t.shoots u.shootNext = some k ∧ k.toAck ≠ [] ∧ SameOthers u t
  (∀ o : OpAB, canonical (s.cur.rx o.a).toNat = true →
    let owner := named (s.cur.rx o.b)
    let page := some (tlbiPage (s.cur.rx o.a) (s.cur.rx o.b))
    (free → ∃ t, exec (.tlbiPg o) s = .next t ∧ gone t owner page) ∧ holds (.tlbiPg o) owner page) ∧
  (∀ o : OpB, (free → ∃ t, exec (.tlbiAll o) s = .next t ∧ gone t (named (s.cur.rx o.b)) none) ∧
    holds (.tlbiAll o) (named (s.cur.rx o.b)) none)

/-! Traps and task control -/

/-- R79, R229, R309: SYSCALL and BREAK complete and then enter the handler when code 2 or 3 is routed to it: HND is set, TEPC is the
next instruction, TVAL the immediate, TVPC, TVIQ and TSTART are 0, and the pc is TVEC. A precise trap of the scalar stream does the same
with TEPC at the instruction that trapped. Nothing else changes. While a drain of the task's partition stops the thread, such a trap is
discarded (R246): the instruction will execute again. -/
def Obligations.TrapEntry : Prop := ∀ s : State,
  let enters := fun (code : Nat) (v epc : Word) =>
    { s.cur with hnd := true, tsrc := 0, tcode := code, tepc := epc, tval := v, tvpc := 0, tpos := 0, nkeep := 0, tstart := 0 }
  s.cur.tvec ≠ 0 → s.cur.hnd = false →
    (∀ o, s.route s.cur.owner 2 = 0 → Leaves (.syscall o) s s.cur.tvec (enters 2 (BitVec.ofNat 64 o.imm) (s.cur.pc + 4))) ∧
    (∀ o, s.route s.cur.owner 3 = 0 → Leaves (.breakTrap o) s s.cur.tvec (enters 3 (BitVec.ofNat 64 o.imm) (s.cur.pc + 4))) ∧
    (∀ p : Pend, p.src = 0 → s.route s.cur.owner p.code = 0 → s.drops = false →
      s.precise p = s.setCur ((enters p.code p.tval s.cur.pc).goneTo s.cur.tvec)) ∧
    (∀ p : Pend, s.drops = true → s.precise p = s.setCur { s.cur with wait := .none, freed := false, remote := none, away := none })

/-- R196, R227: the route of each cause. Entry n of the owner's table governs code n below 64; code 64 always goes to system software,
and 65 always ends the task. -/
def Obligations.TrapRoutes : Prop := ∀ (s : State) (o c : Nat),
  s.route o c = if c < 64 then (s.owner o).routing / 2 ^ (2 * c) % 4 else if c = 64 then 2 else 3

/-- R79, R233, R309: ERET clears HND, goes to TEPC and lets the frozen bobbins resume whose traps have been entered; the trap registers
keep their values. With HND clear it raises the illegal-instruction trap. -/
def Obligations.TrapReturn : Prop := ∀ s : State,
  (s.cur.hnd = true → s.traceRings = [] → ∃ t, exec .eret s = .next t ∧
    { t.cur with bob := s.cur.bob } = { s.cur with hnd := false, pc := s.cur.tepc, wait := .none } ∧
    (∀ n, t.cur.bobbin n =
      let b := s.cur.bobbin n
      if b.stat.state = 2 ∧ (∀ p ∈ s.cur.pend, p.src = 3 → p.cmd ≠ n) then { b with stat := { b.stat with state := 1 } } else b) ∧
    t.hart = s.hart ∧ SameElsewhere s t ∧ SameOthers s t ∧ CountedOne s t) ∧
  (s.cur.hnd = false → Illegal .eret s)

/-- R30, R33, R310, R311: WFE completes and clears the event flag when the flag is set or 10 µs have passed since it began, and waits
otherwise. EXIT begins to drain. YIELD does nothing in a handler and when no replica waits. In a
handler EXIT is illegal. Rests on the log, entry 73. -/
def Obligations.WaitsAndEnds : Prop := ∀ s : State,
  let t := s.cur
  (t.event = true ∨ (∃ since, t.wfeSince = some since ∧ since + 10000 ≤ s.gtime) →
    Leaves .wfe s (t.pc + 4) { t with event := false }) ∧
  (t.event = false → t.wfeSince = none → exec .wfe s = .next (s.setCur { t with wfeSince := some s.gtime, wait := .event })) ∧
  (∀ since, t.event = false → t.wfeSince = some since → s.gtime < since + 10000 →
    exec .wfe s = .next (s.setCur { t with wait := .event })) ∧
  (t.hnd = false → exec .exitTask s = .next (s.setCur { t with slot := .draining, wait := .drain })) ∧
  (t.hnd = true → Illegal .exitTask s) ∧
  (t.hnd = true ∨ s.expired t = true ∨ s.replicaWaits t.info.part = false → GoesTo .yieldTask s (t.pc + 4))

/-- R73, R80, R314: the stream that QCFG names as the producer of a queue appends to it, and the one that it names as the consumer
takes or reads its head. A full queue, or an empty one, holds the stream; a stream that QCFG does not name raises the
illegal-instruction trap. A head whose word cannot be read raises code 64 (R240). -/
def Obligations.QueueRegisters : Prop := ∀ s : State,
  let t := s.cur
  let cons := fun (q : Nat) => t.qcfg.toNat / 2 ^ (4 * q) % 4
  let prod := fun (q : Nat) => t.qcfg.toNat / 2 ^ (4 * q + 2) % 4
  let used := fun (q : Nat) => prod q ≠ cons q ∧ prod q ≠ 3 ∧ cons q ≠ 3
  let leaves := fun (i : Instr) (taken : Bool) (q : Nat) (l : List Word) (x : Nat → Word) => ∃ u, exec i s = .next u ∧
    (∀ n, u.cur.rq n = if n = q then l else t.rq n) ∧ (∀ n, u.cur.rx n = x n) ∧
    (∀ n j, j ∈ tget u.cur.qbad n [] ↔ if taken = true ∧ n = q then j + 1 ∈ tget t.qbad q [] else j ∈ tget t.qbad n []) ∧
    { u.cur with q := t.q, qbad := t.qbad, x := t.x } = t.goneTo (t.pc + 4) ∧ u.hart = s.hart ∧ SameElsewhere s u ∧ SameOthers s u ∧ CountedOne s u
  (∀ o : OpQput,
    (used o.q → prod o.q = 0 → (t.rq o.q).length < 16 → leaves (.qput o) false o.q (t.rq o.q ++ [t.rx o.a]) t.rx) ∧
    (used o.q → prod o.q = 0 → 16 ≤ (t.rq o.q).length → Waits (.qput o) s .queue) ∧
    (¬ (used o.q ∧ prod o.q = 0) → Illegal (.qput o) s)) ∧
  (∀ o : OpQget,
    (∀ v r, used o.q → cons o.q = 0 → t.rq o.q = v :: r → 0 ∉ tget t.qbad o.q [] → leaves (.qget o) true o.q r (xAfter t o.d v) ∧
      leaves (.qpeek o) false o.q (v :: r) (xAfter t o.d v)) ∧
    (∀ v r, used o.q → cons o.q = 0 → t.rq o.q = v :: r → 0 ∈ tget t.qbad o.q [] →
      ∃ p, p.src = 0 ∧ p.code = 64 ∧ Traps (.qget o) s p ∧ Traps (.qpeek o) s p) ∧
    (used o.q → cons o.q = 0 → t.rq o.q = [] → Waits (.qget o) s .queue ∧ Waits (.qpeek o) s .queue) ∧
    (¬ (used o.q ∧ cons o.q = 0) → Illegal (.qget o) s ∧ Illegal (.qpeek o) s))

/-- R315: SPAWN into a queue that does not exist, is not enabled, or belongs to another owner, writes 2^64 − 1 to X[d]; into a full
ring likewise. Otherwise it writes the node into the ring entry of the count, raises the count, and X[d] receives the count. The last
clause is stated for a notify word and a ring entry that stand in the main tier, in lines apart, on pages that admit the accesses.
Rests on the log, entry 18. -/
def Obligations.Spawn : Prop := ∀ (s : State) (o : OpRRR), s.dirtyClosed = false →
  let u := (s.cur.rx o.b).toNat
  let r := (s.l1WriteBackThread (coreOf s.hart) s.hart).qTouch u
  let ctl := r.qCtl u
  let refused := fun (t : State) => exec (.spawn o) s = .next t ∧
    s.cur.Retired t.cur (s.cur.pc + 4) (xAfter s.cur o.d (BitVec.allOnes 64)) s.cur.rf s.cur.fstat ∧ SameOthers s t ∧ CountedOne s t
  (s.queueBase = none ∨ 4096 ≤ u ∨ ctl % 2 = 0 ∨ (s.part (ctl / 2 ^ 18 % 64)).owner ≠ s.cur.owner →
    ∃ t, refused t ∧ t.mem = r.mem ∧ t.keys = r.keys) ∧
  (∀ b w paN mN cN wS paS mS cS,
    let owner := s.cur.owner
    let notify := r.qRead u 8 8
    let n := leNat (r.dramRead owner paN 8)
    let size := 2 ^ (ctl / 256 % 32)
    let slot := r.qRead u 0 8 + 8 * (n % size)
    s.queueBase = some b → u < 4096 → ctl % 2 = 1 → (s.part (ctl / 2 ^ 18 % 64)).owner = owner → r.stalled = false →
    r.translate none owner .satomic notify 8 = .ok w (.phys paN mN cN) → w.translate none owner .sload notify 8 = .ok w (.phys paN mN cN) →
    (∃ off, locOf paN = .main off) →
    (size ≤ (n + 2 ^ 64 - r.qRead u 0x18 8) % 2 ^ 64 → ∃ t, refused t) ∧
    ((n + 2 ^ 64 - r.qRead u 0x18 8) % 2 ^ 64 < size → paN % 64 + 8 ≤ 64 → paS % 64 + 8 ≤ 64 → paN / 64 ≠ paS / 64 →
      (∃ off, locOf paS = .main off) →
      (w.l2Touch paN owner false).translate none owner .sstore slot 8 = .ok wS (.phys paS mS cS) →
      wS.translate none owner .sstore slot 8 = .ok wS (.phys paS mS cS) →
      (∀ z, z = wS.dramWrite owner paS (natLe 8 (s.cur.rx o.a).toNat) →
        z.translate none owner .sstore notify 8 = .ok z (.phys paN mN cN)) →
      ∃ t, exec (.spawn o) s = .next t ∧
        s.cur.Retired t.cur (s.cur.pc + 4) (xAfter s.cur o.d (BitVec.ofNat 64 n)) s.cur.rf s.cur.fstat ∧
        t.dramRead owner paS 8 = natLe 8 (s.cur.rx o.a).toNat ∧ t.dramRead owner paN 8 = natLe 8 ((n + 1) % 2 ^ 64) ∧
        SameOthers s t ∧ CountedOne s t))

/-! Timelines and full/empty bits -/

/-- R98, R391: TLWAIT on a timeline register, or on a word of the scratchpad, completes when the COUNT of the value is at least X[b]: X[d]
receives the value, and the lines that no thread has dirtied leave the L1. Otherwise it waits. X[b] with bit 63 set is illegal.
Rests on the log, entry 38. -/
def Obligations.TimelineWaits : Prop := ∀ s : State,
  let t := s.cur
  let c := coreOf s.hart
  let clean := (s.core c).l1d.filter (fun p => !p.2.threads.isEmpty)
  let released := fun (i : Instr) (d : Nat) (v : Word) => ∃ u, exec i s = .next u ∧
    t.Retired u.cur (t.pc + 4) (xAfter t d v) t.rf t.fstat ∧ u.hart = s.hart ∧
    { u with threads := s.threads, tasks := s.tasks, cores := s.cores } = s ∧
    (∀ c', u.core c' = if c' = c then { s.core c with l1d := clean } else s.core c') ∧ SameOthers s u ∧ CountedOne s u
  (∀ o : OpTlwait,
    ((t.rx o.b).toNat < 2 ^ 63 → (t.rx o.b).toNat ≤ (t.rtl o.tl).toNat % 2 ^ 63 → released (.tlwaitReg o) o.d (t.rtl o.tl)) ∧
    ((t.rx o.b).toNat < 2 ^ 63 → (t.rtl o.tl).toNat % 2 ^ 63 < (t.rx o.b).toNat → Waits (.tlwaitReg o) s .timeline) ∧
    (2 ^ 63 ≤ (t.rx o.b).toNat → Illegal (.tlwaitReg o) s)) ∧
  (∀ (o : OpRRR) (off : Nat),
    let v := s.spadValue off 8
    (2 ^ 63 ≤ (t.rx o.b).toNat → Illegal (.tlwaitMem o) s) ∧
    ((t.rx o.b).toNat < 2 ^ 63 → t.away = none → (t.rx o.a).toNat % 8 ≠ 0 → Traps (.tlwaitMem o) s (Pend.addr 4 (t.rx o.a) 1 0 0)) ∧
    ((t.rx o.b).toNat < 2 ^ 63 → s.travel = false → SpadAccess s (t.rx o.a) 8 off →
      ((t.rx o.b).toNat ≤ v % 2 ^ 63 → released (.tlwaitMem o) o.d (BitVec.ofNat 64 v)) ∧
      (v % 2 ^ 63 < (t.rx o.b).toNat → ∃ u, exec (.tlwaitMem o) s = .next u ∧ u.cur = { t with remote := none, away := none, wait := .timeline } ∧
        { u with threads := s.threads, cores := s.cores } = s ∧ SameOthers s u)))

/-- R392: TLREAD writes X[d] := TL[a], E included, whether or not a handler runs; it orders nothing. -/
def Obligations.TimelineReads : Prop := ∀ (s : State) (o : OpTlread), WritesX (.tlread o) s 4 o.d (s.cur.rtl o.tl)

/-- R74, R125, R202, R310, R393: TLADV on tl10 to tl15, with every access that it covers performed, writes back the lines that the thread
has dirtied and raises the timeline: the larger count, and E set by X[b][63] and never cleared; an advance sets the event flag. tl0 to
tl9 are illegal. Stated without a trace ring. Rests on the log, entries 19 and 36. -/
def Obligations.TimelineAdvance : Prop := ∀ (s : State) (o : OpTladv),
  let t := s.cur
  let v := (t.rx o.b).toNat
  let old := (t.rtl o.tl).toNat
  let new := BitVec.ofNat 64 (max (old % 2 ^ 63) (v % 2 ^ 63) + if old.testBit 63 || v.testBit 63 then 2 ^ 63 else 0)
  let r := s.l1WriteBackThread (coreOf s.hart) s.hart
  (10 ≤ o.tl → t.viq = [] → (∀ e ∈ t.win, e.complete = true) → s.dirtyClosed = false → s.traceRings = [] →
    ∃ u, exec (.tladv o) s = .next u ∧ (∀ n, u.cur.rtl n = if n = o.tl then new else t.rtl n) ∧
      u.cur.event = (t.event || decide (new ≠ t.rtl o.tl)) ∧
      { u.cur with tl := t.tl, event := t.event } = t.goneTo (t.pc + 4) ∧
      { u with threads := r.threads, tasks := r.tasks } = r ∧ SameOthers s u ∧ CountedOne s u) ∧
  (10 ≤ o.tl → (t.viq ≠ [] ∨ ∃ e ∈ t.win, e.complete = false) → Waits (.tladv o) s .drain) ∧
  (o.tl < 10 → Illegal (.tladv o) s)

/-- R110, R122, R138, R230, R394: FECLR clears the full/empty bits of the granules of its range whose lines carry the thread's owner, and no
other bit; it waits for vector accesses of the thread whose span it touches, and at watermarks; its traps are the misaligned address or length
first, then the access fault. While accesses travel it goes to the bank first (R104), and completes with the answer. Rests on the log,
entries 13, 37 and 85. -/
def Obligations.GranuleClears : Prop := ∀ (s : State) (o : OpAB),
  let a := s.cur.rx o.a
  let n := (s.cur.rx o.b).toNat
  let c := coreOf s.hart
  (∀ off, a.toNat = 0x00FFFF0000000000 + off → off % 16 = 0 → n % 16 = 0 → s.cur.gang ≤ 4 → off + n ≤ s.cur.gang * 2 ^ 22 →
    s.travel = false → s.cur.away = none → s.cur.inSpan a.toNat n = false → s.guarded c none a.toNat n = false →
    ∃ t, exec (.feclr o) s = .next t ∧ t.cur = s.cur.goneTo (s.cur.pc + 4) ∧
      (∀ o' c' b, b < 2 ^ 24 → t.isFull o' c' b =
        (s.isFull o' c' b && !decide (c' = c ∧ off ≤ b ∧ b < off + n ∧ o' = s.cur.owner))) ∧
      { t with threads := s.threads, tasks := s.tasks, spadFull := s.spadFull } = s ∧ SameOthers s t ∧ CountedOne s t) ∧
  (∀ off, a.toNat = 0x00FFFF0000000000 + off → off % 16 = 0 → n % 16 = 0 → n ≠ 0 → s.cur.gang ≤ 4 → off + n ≤ s.cur.gang * 2 ^ 22 →
    s.cur.away = none →
    (s.travel = true → s.cur.inSpan a.toNat n = false → s.guarded c none a.toNat n = false → s.cur.remote = none →
      exec (.feclr o) s = .next (s.sent off (.empty n))) ∧
    (s.cur.inSpan a.toNat n = true → Waits (.feclr o) s .vectorDone) ∧
    (s.cur.inSpan a.toNat n = false → s.guarded c none a.toNat n = true → Waits (.feclr o) s .watermark)) ∧
  (∀ off v, a.toNat = 0x00FFFF0000000000 + off → off % 16 = 0 → n % 16 = 0 → off + n ≤ s.cur.gang * 2 ^ 22 → Answered s (.spad off) v →
    GoesTo (.feclr o) s (s.cur.pc + 4)) ∧
  (n = 0 → a.toNat % 16 = 0 → GoesTo (.feclr o) s (s.cur.pc + 4)) ∧
  (a.toNat % 16 ≠ 0 → Traps (.feclr o) s (Pend.addr 4 a 2 0 0)) ∧
  (a.toNat % 16 = 0 → n % 16 ≠ 0 → Traps (.feclr o) s (Pend.addr 4 (s.cur.rx o.b) 2 0 0)) ∧
  (a.toNat % 16 = 0 → n % 16 = 0 → n ≠ 0 → a.toNat < 0x00FFFF0000000000 ∨ s.cur.gang * 2 ^ 22 < a.toNat - 0x00FFFF0000000000 + n →
    Traps (.feclr o) s (Pend.addr 5 a 2 0 0))

/-! Vector instructions at commit -/

/-- Every instruction of majors VINT, VFLT and VMASK, with FENCE.VV: the instruction, its length, the condition on the thread's
configuration and QCFG under which its operands are legal, what it puts into the VIQ with the operands that it captures (R17, R316),
its mask field and rounding field, and the register that waits for a result. -/
def EachVector (t : Thread)
    (P : Instr → Nat → Prop → VOp → Nat → Nat → Option (Bool × Nat) → Prop) : Prop :=
  let len := fun (p : Option Modifier) => if p.isSome then 8 else 4
  let vd := fun (p : Option Modifier) (n : Nat) => n + 32 * ((p.map (·.dh)).getD 0)
  let va := fun (p : Option Modifier) (n : Nat) => n + 32 * ((p.map (·.ah)).getD 0)
  let vb := fun (p : Option Modifier) (n : Nat) => n + 32 * ((p.map (·.bh)).getD 0)
  let rm := fun (p : Option Modifier) => let f := (p.map (·.rm)).getD 7; if f = 7 then t.frm else f
  let sat := fun (p : Option Modifier) => decide ((p.map (·.sat)).getD 0 = 1)
  let src := fun (p : Option Modifier) (ok b : Nat) (zero : Bool) =>
    if ok = 0 then VSrc.reg (vb p b) else if ok = 1 then .val (t.rx b)
    else if ok = 2 then .val (if zero then BitVec.ofNat 64 b else (BitVec.ofNat 5 b).signExtend 64) else .val (t.rf b)
  let count := fun (ok b : Nat) => if ok = 1 then (t.rx b).toNat else b
  let start := fun (ok b : Nat) => if ok = 1 then t.rx b else t.rf b
  let toX := fun (d : Nat) => some (false, d)
  let names := fun (op : VOp) => op.groupsOk (2 ^ t.csew) (8 * 2 ^ t.cnreg) = true
  let int := fun (mk : OpV → Instr) (op : VIntOp) (zero half : Bool) => ∀ o : OpV,
    let v := VOp.int op (vd o.p o.d) (va o.p o.a) (src o.p o.ok o.b zero)
    P (mk o) (len o.p) (names v ∧ (half = true → t.csew < 3)) v o.k (rm o.p) none
  let flt := fun (mk : OpV → Instr) (op : VFltOp) => ∀ o : OpV,
    let v := VOp.flt op (vd o.p o.d) (va o.p o.a) (src o.p o.ok o.b false)
    P (mk o) (len o.p) (names v ∧ t.csew ≠ 0) v o.k (rm o.p) none
  let fun1 := fun (mk : OpVun → Instr) (op : VFunOp) => ∀ o : OpVun,
    let v := VOp.fun1 op (vd o.p o.d) (va o.p o.a)
    P (mk o) (len o.p) (names v ∧ t.csew ≠ 0) v o.k (rm o.p) none
  let cmp := fun (mk : OpVcmp → Instr) (op : CmpOp) (float : Bool) => ∀ o : OpVcmp,
    let v := VOp.cmp op o.d (va o.p o.a) (src o.p o.ok o.b false)
    P (mk o) (len o.p) (names v ∧ (float = true → t.csew ≠ 0)) v o.k (rm o.p) none
  let logic := fun (mk : OpKlogic → Instr) (n : Nat) => ∀ o : OpKlogic,
    P (mk o) (len o.p) True (.klogic n o.d o.a o.b) o.k (rm o.p) none
  let fold := fun (mk : OpV → Instr) (n : Nat) => ∀ o : OpV,
    let v := VOp.fold n o.d (va o.p o.a) (start o.ok o.b) (decide (o.ok = 3))
    P (mk o) (len o.p) (names v ∧ (o.ok = 3 → t.csew ≠ 0)) v o.k (rm o.p) (if o.ok = 3 then some (true, o.d) else toX o.d)
  let width := fun (dst from' : Nat) => 8 * 2 ^ t.csew = min (cvtWidth dst) (cvtWidth from')
  (∀ x ∈ [(Instr.vadd, VIntOp.add), (.vsub, .sub), (.vsubr, .rsub), (.vmul, .mul), (.vmulhi, .mulhi), (.vmulhiu, .mulhiu),
      (.vdiv, .div), (.vdivu, .divu), (.vrem, .rem), (.vremu, .remu), (.vand, .and), (.vor, .or), (.vxor, .xor), (.vmin, .min),
      (.vmax, .max), (.vminu, .minu), (.vmaxu, .maxu), (.vaddsat, .addsat), (.vsubsat, .subsat), (.vsubsatu, .subsatu),
      (.vmulq, .mulq)], int x.1 x.2 false false) ∧
  (∀ x ∈ [(Instr.vsll, VIntOp.sll), (.vsrl, .srl), (.vsra, .sra), (.vaddsatu, .addsatu)], int x.1 x.2 true false) ∧
  (∀ x ∈ [(Instr.vmulw, VIntOp.mulw), (.vmulwu, .mulwu), (.vmacw, .macw)], int x.1 x.2 false true) ∧
  (∀ x ∈ [(Instr.vnarrows, VIntOp.narrows), (.vnarrowu, .narrowu)], int x.1 x.2 true true) ∧
  (∀ x ∈ [(Instr.vfadd, VFltOp.add), (.vfsub, .sub), (.vfrsub, .rsub), (.vfmul, .mul), (.vfdiv, .div), (.vfmin, .min), (.vfmax, .max),
      (.vfma, .fma), (.vfnma, .fnma), (.vfsgcpy, .sgcpy), (.vfsginv, .sginv), (.vfsgxor, .sgxor)], flt x.1 x.2) ∧
  (∀ x ∈ [(Instr.vfsqrt, VFunOp.sqrt), (.vfexp2, .exp2), (.vflog2, .log2), (.vfrcp, .rcp), (.vfrsqrt, .rsqrt)], fun1 x.1 x.2) ∧
  (∀ x ∈ [(Instr.vcmpeq, CmpOp.eq), (.vcmpne, .ne), (.vcmplt, .lt), (.vcmple, .le), (.vcmpltu, .ltu), (.vcmpleu, .leu)],
    cmp x.1 x.2 false) ∧
  (∀ x ∈ [(Instr.vfcmpeq, CmpOp.feq), (.vfcmpne, .fne), (.vfcmplt, .flt), (.vfcmple, .fle)], cmp x.1 x.2 true) ∧
  (∀ x ∈ [(Instr.kand, 0), (.kor, 1), (.kxor, 2), (.kandinv, 3)], logic x.1 x.2) ∧
  (∀ x ∈ [(Instr.vfoldadd, 0), (.vfoldmin, 1), (.vfoldmax, 2)], fold x.1 x.2) ∧
  (∀ o : OpVcvt, let v := VOp.cvt o.t o.src (vd o.p o.d) (va o.p o.a) (sat o.p)
    P (.vfcvt o) (len o.p) (names v ∧ width o.t o.src) v o.k (rm o.p) none) ∧
  (∀ o : OpVcvtRs, let p := some o.p
    let from' := if o.ok = 2 then 12 else 13
    let v := VOp.cvtRs o.t from' (vd p o.d) (va p o.a) (vb p o.b) (sat p)
    P (.vfcvtRs o) 8 (names v ∧ width o.t from') v o.k (rm p) none) ∧
  (∀ o : OpVqget, let v := VOp.qget (vd o.p o.d) o.q
    P (.vqget o) (len o.p) (names v ∧ t.qMayGet o.q 1 = true) v o.k (rm o.p) none) ∧
  (∀ o : OpVqput, let v := VOp.qput o.q (va o.p o.a) (count o.ok o.b)
    P (.vqput o) (len o.p) (names v ∧ t.qMayPut o.q 1 = true) v 0 (rm o.p) none) ∧
  (∀ o : OpKcount, P (.kcount o) (len o.p) True (.kcount o.d o.a) o.k (rm o.p) (toX o.d) ∧
    P (.kffs o) (len o.p) True (.kffs o.d o.a) o.k (rm o.p) (toX o.d)) ∧
  (∀ o : OpV, let up := VOp.shup (vd o.p o.d) (va o.p o.a) (count o.ok o.b)
    let dn := VOp.shdn (vd o.p o.d) (va o.p o.a) (count o.ok o.b)
    let pick := VOp.pick (vd o.p o.d) (va o.p o.a) (src o.p o.ok o.b true)
    let scan := VOp.scan (vd o.p o.d) (va o.p o.a) (start o.ok o.b) (decide (o.ok = 3))
    P (.vshup o) (len o.p) (names up) up o.k (rm o.p) none ∧ P (.vshdn o) (len o.p) (names dn) dn o.k (rm o.p) none ∧
    P (.vpick o) (len o.p) (names pick) pick o.k (rm o.p) none ∧
    P (.vscan o) (len o.p) (names scan ∧ (o.ok = 3 → t.csew ≠ 0)) scan o.k (rm o.p) none) ∧
  (∀ o : OpVcompact, let v := VOp.compact (vd o.p o.d) (va o.p o.a) o.b
    P (.vcompact o) (len o.p) (names v) v 0 (rm o.p) none) ∧
  (∀ o : OpVbd, let v := VOp.assign (vd o.p o.d) (src o.p o.ok o.b false)
    let r := VOp.ramp (vd o.p o.d) (if o.ok = 1 then t.rx o.b else (BitVec.ofNat 5 o.b).signExtend 64)
    P (.vassign o) (len o.p) (names v) v o.k (rm o.p) none ∧ P (.vramp o) (len o.p) (names r) r o.k (rm o.p) none) ∧
  (∀ o : OpVget, let x := VOp.getx o.d (va o.p o.a) (count o.ok o.b)
    let f := VOp.getf o.d (va o.p o.a) (count o.ok o.b)
    P (.vgetx o) (len o.p) (names x) x 0 (rm o.p) (toX o.d) ∧ P (.vgetf o) (len o.p) (names f) f 0 (rm o.p) (some (true, o.d))) ∧
  (∀ o : OpVad, let v := VOp.redmax o.d (va o.p o.a) (decide (o.ok = 3))
    P (.vredmaxi o) (len o.p) (names v ∧ (o.ok = 3 → t.csew ≠ 0)) v o.k (rm o.p) (toX o.d)) ∧
  (∀ o : OpVrand, let v := VOp.rand (vd o.p o.d) (t.rx o.a) ((t.rx o.b).toNat + (t.rx (o.b + 1)).toNat * 2 ^ 64)
    P (.vrand o) (len o.p) (names v) v o.k (rm o.p) none) ∧
  P .fenceVv 4 True .fenceVv 0 0 none

/-- R16, R17, R18, R234, R316 to R345: a vector instruction with legal operands enters the VIQ with the operands that it captures at
commit, the scalar stream goes on, and the streams then do what they can; with no room it waits; illegal operands, or a running handler,
raise the illegal-instruction trap. Rests on the log, entries 3 and 33. -/
def Obligations.VectorCommits : Prop := ∀ s : State,
  EachVector s.cur fun i len legal op k rm rb => VCommits i s len legal op k rm rb

/-- A vector memory instruction of an idle thread performs at once and leaves its thread as `v` but for the timeline of the vector stream, the
event flag and the command number; beside what `R` says, the L1 data caches, TLBs and unused tiles of the cores, the residency in the L2s,
and the counters of element groups and requests may change, and nothing else. -/
def PerformsMem (i : Instr) (s : State) (len : Nat) (R : State → Thread → Prop) : Prop :=
  ∃ t v, exec i s = .next t ∧ R t v ∧
    t.cur = { v with pc := s.cur.pc + toW len, wait := .none, freed := false, remote := none, away := none, shoot := none
                     wfeSince := none, cmds := tput s.cur.cmds 0 (s.cur.nextCmd 0), tl := t.cur.tl, event := t.cur.event } ∧
    (∀ n, t.cur.rtl n = if n = 0 then tlRaise (s.cur.rtl 0) (s.cur.nextCmd 0) false else s.cur.rtl n) ∧
    t.hart = s.hart ∧ (∀ h, h ≠ s.hart → { t.thr h with event := (s.thr h).event } = s.thr h) ∧
    { t with threads := s.threads, tasks := s.tasks, cores := s.cores, pillars := s.pillars, mem := s.mem, keys := s.keys, spad := s.spad
             spadOwner := s.spadOwner, spadFull := s.spadFull } = s ∧
    (∀ c, let k := s.core c
      { t.core c with commits := k.commits, tiles := k.tiles, l1d := k.l1d, tlb := k.tlb } = k) ∧
    (∀ k n, n ≠ 2 → n ≠ 10 → t.counter k n = s.counter k n + (if k = s.cur.taskid ∧ n = 1 then 1 else 0))

/-- The elements below `n` that an instruction with mask field `k` accesses lie aligned in the scratchpad of the core, guarded by no bobbin. -/
structure PadElements (s : State) (k w n : Nat) (ea : Nat → Nat) : Prop where
  gang : s.width (coreOf s.hart) ≤ 4
  aligned : ∀ j, j < n → s.cur.writes k j = true → ea j % w = 0
  inside : ∀ j, j < n → s.cur.writes k j = true →
    0x00FFFF0000000000 ≤ ea j ∧ ea j + w ≤ 0x00FFFF0000000000 + s.width (coreOf s.hart) * 2 ^ 22
  guard : ∀ j, j < n → s.cur.writes k j = true → s.guarded (coreOf s.hart) none (ea j) w = false

/-- Every scratchpad byte after owner `o` has stored, in increasing order of j below `n`, the `w` bytes of the value `put j` at offset `el j` of
core `c`, where `put j` is given (R110): a line that a store reaches is the owner's, and what it did not hold of the owner reads 0. -/
def PadStored (s t : State) (o c n w : Nat) (el : Nat → Nat) (put : Nat → Option Nat) : Prop :=
  let covers := fun (j a : Nat) => j < n ∧ put j ≠ none ∧ el j ≤ a ∧ a < el j + w
  let reached := fun (c' a : Nat) => c' = c ∧ ∃ j, j < n ∧ put j ≠ none ∧ el j / 64 = a / 64
  ∀ o' c' a, a < 2 ^ 24 →
    (¬ reached c' a → t.spadByte o' c' a = s.spadByte o' c' a) ∧
    (reached c' a → o' ≠ o → t.spadByte o' c' a = 0) ∧
    (∀ j x, c' = c → o' = o → covers j a → put j = some x → (∀ i, j < i → ¬ covers i a) →
      t.spadByte o' c' a = (natLe w x).getD (a - el j) 0) ∧
    (reached c' a → o' = o → (∀ j, ¬ covers j a) →
      t.spadByte o' c' a = if tfind s.spadOwner (spadKey c a / 64) = some o then s.spadByte o c a else 0)

/-- Every full/empty bit after such stores, with the granules `sets` set and `clears` cleared: a line taken over reads empty otherwise. -/
def PadFull (s t : State) (o c n : Nat) (el : Nat → Nat) (stores : Nat → Bool) (sets clears : Nat → Prop) : Prop :=
  ∀ o' c' a, a < 2 ^ 24 →
    (t.isFull o' c' a = true ↔
      (s.isFull o' c' a = true ∧ (c' = c → (∃ j, j < n ∧ stores j = true ∧ el j / 64 = a / 64) → o' = o) ∧ ¬ (c' = c ∧ clears (a / 16))) ∨
      (o' = o ∧ c' = c ∧ sets (a / 16)))

/-- What a vector memory instruction writes that performs on an idle thread, while accesses do not travel (R351, R355 to R361): of elements in
the scratchpad, however many, and of one element in the near or main tier. A load writes the elements that its mask selects, and clears
ksel (R67); .take empties the granules that it reads and .fill fills those that it writes (R359); VLDFF ends VL at the first element above
its lowest that fails (R357); a vector atomic gives each element the old value, as the scalar atomic does. -/
def VMemDoes (i : Instr) (s : State) (len k : Nat) (m : VMem) : Prop :=
  let t := s.cur
  let c := coreOf s.hart
  let o := t.owner
  let w := 2 ^ t.csew
  let ea := fun (j : Nat) => match m.idx with
    | none => (m.base.toNat + j * m.stride.toNat) % 2 ^ 64
    | some (r, iw) => (m.base.toNat + t.vGet t.cnreg r iw j) % 2 ^ 64
  let el := fun (j : Nat) => ea j - 0x00FFFF0000000000
  let now := { t with k := tdel t.k 8 }
  let old := fun (j : Nat) => s.spadValue (el j) w
  let data := fun (j : Nat) => t.vGet t.cnreg m.d w j
  let apply := fun (op : AmoOp) (j old : Nat) =>
    if op = .cas then op.apply w old (t.vGet t.cnreg (m.d + 1) w j) (data j) else op.apply w old (data j) 0
  let acts := fun (j : Nat) => t.writes k j
  let sameStores := fun (u : State) => u.mem = s.mem ∧ u.keys = s.keys ∧ u.pillars = s.pillars
  let samePad := fun (u : State) => u.spad = s.spad ∧ u.spadOwner = s.spadOwner ∧ u.spadFull = s.spadFull
  let loaded := fun (n : Nat) (v : Thread) => Thread.Lanes { now with vl := n } v m.d w (fun j => if acts j = true then some (old j) else none) 0
  (PadElements s k w t.vl ea → m.shaft = false →
    (m.kind = .load → m.fe < 3 → (m.fe ≠ 0 → ∀ j, acts j = true → s.isFull o c (el j) = true) →
      PerformsMem i s len fun u v => loaded t.vl v ∧ sameStores u ∧ u.spad = s.spad ∧ u.spadOwner = s.spadOwner ∧
        PadFull s u o c 0 el acts (fun _ => False) (fun g => m.fe = 2 ∧ ∃ j, acts j = true ∧ el j / 16 = g)) ∧
    (m.kind = .store → m.fe = 0 ∨ m.fe = 3 →
      PerformsMem i s len fun u v => v = now ∧ sameStores u ∧
        PadStored s u o c t.vl w el (fun j => if acts j = true then some (data j) else none) ∧
        PadFull s u o c t.vl el acts (fun g => m.fe = 3 ∧ ∃ j, acts j = true ∧ el j / 16 = g) (fun _ => False)) ∧
    (∀ op, m.kind = .amo op → m.fe = 0 → (∀ j, acts j = true → tfind s.spadOwner (spadKey c (el j) / 64) = some o) →
      (∀ a b, acts a = true → acts b = true → a < b → el a + w ≤ el b ∨ el b + w ≤ el a) →
      let r := fun (j : Nat) => apply op j (old j)
      PerformsMem i s len fun u v =>
        now.Lanes v m.d w (fun j => if acts j = true then some (old j) else none) (t.laneFlags k (fun j => (r j).2)) ∧ sameStores u ∧
        PadStored s u o c t.vl w el (fun j => if acts j = true then (r j).1 else none) ∧ u.spadFull = s.spadFull)) ∧
  (∀ f b, m.kind = .load → m.fe = 0 → m.shaft = false → m.first = true → PadElements s k w f ea → b < f → acts b = true → acts f = true →
    (ea f % w ≠ 0 ∧ 0x00FFFF0000000000 ≤ ea f ∧ ea f < 0x00FFFF0000000000 + 2 ^ 24) ∨
      (0x00FFFF0000000000 + s.width c * 2 ^ 22 ≤ ea f ∧ ea f < 0x00FFFF0000000000 + 2 ^ 24) →
    PerformsMem i s len fun u v => loaded f v ∧ sameStores u ∧ samePad u) ∧
  (∀ n u pa mt pac, (∀ j, acts j = true ↔ j = n) → ea n % w = 0 → ea n < 0x00FFFF0000000000 ∨ 0x00FFFF0000000000 + 2 ^ 24 ≤ ea n →
    s.translate (some c) o m.acc (ea n) w = .ok u (.phys pa mt pac) → isDram pa = true → u.closed pa = false → u.badAt pa w = none →
    s.guarded c none (ea n) w = false → m.fe = 0 →
    (m.shaft = true → (u.bankOf pa).1 = c ∧ (u.bankOf pa).2.1 = n * w / 16 % (64 * s.width c)) →
    (m.acquires = true → u.homedInside c m.scope (.phys pa mt pac) = true) →
    let was := leNat (u.dramRead o pa w)
    let stored := fun (x : Nat) (y : State) => let z := u.dramWrite o pa (natLe w x); y.mem = z.mem ∧ y.keys = z.keys
    (m.kind = .load → PerformsMem i s len fun y v => now.Lanes v m.d w (fun j => if j = n then some was else none) 0 ∧
      y.mem = s.mem ∧ y.keys = s.keys ∧ samePad y) ∧
    (m.kind = .store → PerformsMem i s len fun y v => v = now ∧ stored (data n) y ∧ samePad y) ∧
    (∀ op, m.kind = .amo op → pacHas pac op.cls = true →
      let r := apply op n was
      PerformsMem i s len fun y v => now.Lanes v m.d w (fun j => if j = n then some was else none) r.2 ∧ samePad y ∧
        (match r.1 with
          | some x => stored x y
          | none => y.mem = s.mem ∧ y.keys = s.keys)))

/-- R123, R346 to R350, R360: vector memory instructions and vector atomics at commit, with the addresses and the fields that they
capture. An atomic runs at SEW 32 or 64, and a scope code of 101 to 111 is illegal. R67, R351, R355 to R361: of an idle thread, what they
then write to the v registers, ksel, VL, the scratchpad and DRAM, as `VMemDoes` says. Rests on the log, entries 3, 4 and 85. -/
def Obligations.VectorMemoryCommits : Prop := ∀ s : State,
  let t := s.cur
  let len := fun (p : Option Modifier) => if p.isSome then 8 else 4
  let f := fun (p : Option Modifier) (g : Modifier → Nat) => (p.map g).getD 0
  let unit := BitVec.ofNat 64 (2 ^ t.csew)
  let mem := fun (p : Option Modifier) (kind : VMemKind) (d : Nat) (base stride : Word) (idx : Option (Nat × Nat)) =>
    ({ kind := kind, d := d + 32 * f p (·.dh), base := base, stride := stride, idx := idx, shaft := false, first := false
       acquire := false, o := decide (f p (·.o) = 1), p := decide (f p (·.p) = 1), fe := f p (·.fe), ord := f p (·.ord)
       scope := f p (·.scope) } : VMem)
  let commits := fun (i : Instr) (p : Option Modifier) (k : Nat) (m : VMem) (extra : Prop) =>
    let legal := extra ∧ m.scope < 5 ∧ m.groupsOk (2 ^ t.csew) (8 * 2 ^ t.cnreg) = true
    VCommits i s (len p) legal (.mem m) k 0 none ∧ (legal → Idle s → s.travel = false → k < 8 → VMemDoes i s (len p) k m)
  let stride := fun (b : Nat) => if b = 0 then unit else t.rx b
  let index := fun (p : Option Modifier) (b iw : Nat) => some (b + 32 * f p (·.bh), 2 ^ iw)
  (∀ o : OpVmem, commits (.vld o) o.p o.k (mem o.p .load o.d (t.rx o.a) (stride o.b) none) True ∧
    commits (.vst o) o.p o.k (mem o.p .store o.d (t.rx o.a) (stride o.b) none) True) ∧
  (∀ o : OpVmemX, let m := fun (kind : VMemKind) => mem o.p kind o.d (t.rx o.a) 0 (index o.p o.b o.iw)
    commits (.vldx o) o.p o.k (m .load) True ∧ commits (.vstx o) o.p o.k (m .store) True ∧
    commits (.vlda o) o.p o.k { m .load with acquire := true } True ∧
    (∀ x ∈ [(Instr.vamoSwap, AmoOp.swap), (.vamoAdd, .add), (.vamoAnd, .and), (.vamoOr, .or), (.vamoXor, .xor), (.vamoMin, .min),
        (.vamoMax, .max), (.vamoMinu, .minu), (.vamoMaxu, .maxu), (.vamoFadd, .fadd), (.vamoFmax, .fmax), (.vamoCas, .cas)],
      commits (x.1 o) o.p o.k (m (.amo x.2)) (2 ≤ t.csew))) ∧
  (∀ o : OpVmem1, let m := fun (kind : VMemKind) => mem o.p kind o.d (t.rx o.a) unit none
    commits (.vldff o) o.p o.k { m .load with first := true } True ∧ commits (.vldsh o) o.p o.k { m .load with shaft := true } True ∧
    commits (.vstsh o) o.p o.k { m .store with shaft := true } True) ∧
  (∀ o : OpVmemFe,
    let m := fun (kind : VMemKind) =>
      if o.indexed then mem (some o.p) kind o.d (t.rx o.a) 0 (index (some o.p) o.b o.iw)
      else mem (some o.p) kind o.d (t.rx o.a) (stride o.b) none
    commits (.vldFe o) (some o.p) o.k (m .load) True ∧ commits (.vldTake o) (some o.p) o.k (m .load) True ∧
    commits (.vstFill o) (some o.p) o.k (m .store) True)

/-- R188, R350, R365, R366, R377: BAR.ARR, BAR.WAIT and MTOV at commit. The barriers are those of the thread's cohort entry; the scalar
stream holds at a BAR.WAIT, whose target is X[a] rounded up to a multiple of REPLN; an MTOV waits while it would hold a 25th tile, and
its tile is fixed at commit. Rests on the log, entries 3 and 40. -/
def Obligations.BarrierAndRowCommits : Prop := ∀ s : State,
  let t := s.cur
  let len := fun (p : Option Modifier) => if p.isSome then 8 else 4
  let scope := fun (p : Option Modifier) => (p.map (·.scope)).getD 0
  (∀ o : OpBarArr, VCommits (.barArr o) s (len o.p) (t.info.cohort = true ∧ o.n < t.info.nbar ∧ scope o.p < 5)
    (.barArr o.d o.n (scope o.p)) 0 0 (some (false, o.d))) ∧
  (∀ o : OpBarWait,
    let v := (t.rx o.a).toNat
    let target := if t.repln = 0 then 0 else (v + t.repln - 1) / t.repln * t.repln
    t.viq = [] → t.info.cohort = true → o.n < t.info.nbar → scope o.p < 5 → t.hnd = false → t.cmdsOut 0 = false →
      ∃ u, exec (.barWait o) s = .next (u.pump s.hart) ∧
        VQueued s u t t.pc .barrier (.barWait o.n (scope o.p) target (len o.p)) 0 0 none) ∧
  (∀ o : OpBarWait, ¬ (t.info.cohort = true ∧ o.n < t.info.nbar ∧ scope o.p < 5) → Illegal (.barWait o) s) ∧
  (∀ o : OpMtov,
    let row := (t.rx o.xa).toNat
    let op := VOp.mtov o.vd o.ta row none
    let legal := row < 64 ∧ op.groupsOk (2 ^ t.csew) (8 * 2 ^ t.cnreg) = true
    (legal → t.hnd = false → t.mtovFull o.ta = false → t.cmdsOut 0 = false → t.viq.length < 32 →
      ∃ u, exec (.mtov o) s = .next ((u.pump s.hart).resolveMtovs s.hart) ∧
        VQueued s u (t.goneTo 0) (t.pc + 8) .none op 0 0 none ∧ CountedOne s u) ∧
    (legal → t.hnd = false → t.mtovFull o.ta = true → Waits (.mtov o) s .mtov) ∧
    (¬ legal → Illegal (.mtov o) s))

/-! Vector results, for a thread whose streams are idle -/

/-- opb(i) of R316, at the element width of the thread: an element of v b, X[b], the immediate, or F[b]. -/
def laneB (t : Thread) (p : Option Modifier) (ok b : Nat) (zero : Bool) (j : Nat) : Nat :=
  let w := 8 * 2 ^ t.csew
  if ok = 0 then t.vGet t.cnreg (pB p b) (2 ^ t.csew) j
  else if ok = 1 then (t.rx b).toNat % 2 ^ w
  else if ok = 2 then (if zero then b % 2 ^ w else ((BitVec.ofNat 5 b).signExtend w).toNat)
  else (t.rf b).toNat % 2 ^ w

/-- The operations of R324 on elements of `w` bits: the instruction, the registers of its destination group and of its first source
group, whether its immediate is zero-extended, and the result with its saturation for the elements `a`, `b` and the old destination
`c`. -/
def EachLane (w : Nat) (P : (OpV → Instr) → Nat → Nat → Bool → (Nat → Nat → Nat → Nat × Bool) → Prop) : Prop :=
  let sgn := fun (x : Nat) => (BitVec.ofNat w x).toInt
  let sgn2 := fun (x : Nat) => (BitVec.ofNat (2 * w) x).toInt
  let bits := fun (v : Int) => (BitVec.ofInt w v).toNat
  let signed := fun (v : Int) => (bits (max (-2 ^ (w - 1)) (min (2 ^ (w - 1) - 1) v)), decide (v < -2 ^ (w - 1) ∨ 2 ^ (w - 1) ≤ v))
  let unsigned := fun (v : Int) => (bits (max 0 (min (2 ^ w - 1) v)), decide (v < 0 ∨ 2 ^ w ≤ v))
  let plain := fun (mk : OpV → Instr) (zero : Bool) (f : Nat → Nat → Nat) => P mk 1 1 zero (fun a b _ => (f a b, false))
  plain .vadd false (fun a b => (a + b) % 2 ^ w) ∧ plain .vsub false (fun a b => bits ((a : Int) - b)) ∧
  plain .vsubr false (fun a b => bits ((b : Int) - a)) ∧ plain .vmul false (fun a b => a * b % 2 ^ w) ∧
  plain .vmulhi false (fun a b => bits (sgn a * sgn b / 2 ^ w)) ∧ plain .vmulhiu false (fun a b => a * b / 2 ^ w) ∧
  plain .vdiv false (fun a b => if b = 0 then 2 ^ w - 1 else bits ((sgn a).tdiv (sgn b))) ∧
  plain .vdivu false (fun a b => if b = 0 then 2 ^ w - 1 else a / b) ∧
  plain .vrem false (fun a b => if b = 0 then a else bits ((sgn a).tmod (sgn b))) ∧
  plain .vremu false (fun a b => if b = 0 then a else a % b) ∧
  plain .vand false (fun a b => a &&& b) ∧ plain .vor false (fun a b => a ||| b) ∧ plain .vxor false (fun a b => a ^^^ b) ∧
  plain .vsll true (fun a b => a * 2 ^ (b % w) % 2 ^ w) ∧ plain .vsrl true (fun a b => a / 2 ^ (b % w)) ∧
  plain .vsra true (fun a b => bits (sgn a / 2 ^ (b % w))) ∧
  plain .vmin false (fun a b => bits (min (sgn a) (sgn b))) ∧ plain .vmax false (fun a b => bits (max (sgn a) (sgn b))) ∧
  plain .vminu false (fun a b => min a b) ∧ plain .vmaxu false (fun a b => max a b) ∧
  P .vaddsat 1 1 false (fun a b _ => signed (sgn a + sgn b)) ∧ P .vaddsatu 1 1 true (fun a b _ => unsigned ((a : Int) + b)) ∧
  P .vsubsat 1 1 false (fun a b _ => signed (sgn a - sgn b)) ∧ P .vsubsatu 1 1 false (fun a b _ => unsigned ((a : Int) - b)) ∧
  P .vmulq 1 1 false (fun a b _ => signed (rneShift (sgn a * sgn b) (w - 1))) ∧
  P .vmulw 2 1 false (fun a b _ => ((BitVec.ofInt (2 * w) (sgn a * sgn b)).toNat, false)) ∧
  P .vmulwu 2 1 false (fun a b _ => (a * b, false)) ∧
  P .vmacw 2 1 false (fun a b c => ((BitVec.ofInt (2 * w) (c + sgn a * sgn b)).toNat, false)) ∧
  P .vnarrows 1 2 true (fun a b _ => signed (rneShift (sgn2 a) (b % (2 * w)))) ∧
  P .vnarrowu 1 2 true (fun a b _ => unsigned (rneShift (a : Int) (b % (2 * w))))

/-- Whether a group of `n` registers may stand at register `r` (R318). -/
def groupAt (t : Thread) (r n : Nat) : Prop := r % n = 0 ∧ r + n ≤ 8 * 2 ^ t.cnreg

/-- Whether two groups share no register (R239). -/
def groupsApart (r n r' n' : Nat) : Prop := r + n ≤ r' ∨ r' + n' ≤ r

/-- R42, R43, R65, R316, R324, R325: the integer vector operations write every element below VL whose mask bit is 1, and no other byte,
and raise SAT when one of those elements is clamped. Divisions by 2^n round to nearest, ties to even. Rests on the log, entry 3. -/
def Obligations.VectorIntegers : Prop :=
  (∀ (v : Int) (n : Nat), 2 * (v - rneShift v n * 2 ^ n).natAbs ≤ 2 ^ n ∧
    (2 * (v - rneShift v n * 2 ^ n).natAbs = 2 ^ n → rneShift v n % 2 = 0)) ∧
  (∀ s : State, Idle s →
    let t := s.cur
    let w := 2 ^ t.csew
    EachLane (8 * w) fun mk nd na zero f => ∀ o : OpV,
      let d := pD o.p o.d
      let a := pA o.p o.a
      let b := pB o.p o.b
      groupAt t d nd → groupAt t a na → (o.ok = 0 → groupAt t b 1) → (nd = 2 ∨ na = 2 → t.csew < 3) →
      (nd ≠ na → groupsApart d nd a na) → (nd = 2 → o.ok = 0 → groupsApart d nd b 1) →
      let r := fun (j : Nat) => f (t.vGet t.cnreg a (na * w) j) (laneB t o.p o.ok o.b zero j) (t.vGet t.cnreg d (nd * w) j)
      Performs (mk o) s (if o.p.isSome then 8 else 4) fun v =>
        t.Lanes v d (nd * w) (fun j => if t.writes o.k j then some (r j).1 else none)
          (t.laneFlags o.k (fun j => if (r j).2 then flSAT else 0)))

/-- R46, R53, R330: a conversion of f32 or f64 elements (format code `src`, at register `a`) to e2m1 blocks at registers `d` and d + 1, with the
random bits `u` of each element: the codes of the written elements, the scales of the blocks that have one, and no other nibble or byte. -/
def ToBlocks (i : Instr) (s : State) (len src d a k rm : Nat) (u : Nat → Nat) : Prop :=
  let t := s.cur
  let val := fun (j : Nat) => (if src = 12 then f32 else f64).decode (t.vGet t.cnreg a (if src = 12 then 4 else 8) j)
  let block := fun (b : Nat) => (List.range 32).map (fun x => if t.writes k (32 * b + x) then val (32 * b + x) else .fin false 0 0)
  let finite := fun (v : FVal) => match v with
    | .fin _ _ _ => true
    | _ => false
  let exp := fun (b : Nat) => (block b).foldl (fun (e : Int) v => match v with
    | .fin _ m x => if m = 0 then e else max e (min (max ((Nat.log2 m : Int) + x - 2) (-127)) 127)
    | _ => e) (-127)
  let code := fun (j : Nat) => match val j with
    | .fin n m x => (e2m1.round rm false (u j) n m (x - exp (j / 32)) false).1
    | _ => 0
  let inexact := fun (j : Nat) => match val j with
    | .fin n m x => decide ((e2m1.round rm false (u j) n m (x - exp (j / 32)) false).2 ≠ 0)
    | _ => false
  Performs i s len fun v =>
    v = { t with v := v.v, wrote := v.wrote, fstat := t.fstat ||| t.laneFlags k (fun j =>
      if (block (j / 32)).all finite then (if inexact j then flNX else 0) else flNV) } ∧
    (∀ j, j < t.mvl → v.mxGet t.cnreg d j =
      if t.writes k j then (if (block (j / 32)).all finite then code j else 0) else t.mxGet t.cnreg d j) ∧
    (∀ b, (∃ x, x < 32 ∧ t.writes k (32 * b + x) = true) →
      v.vGet t.cnreg (d + 1) 1 b = if (block b).all finite then (exp b + 127).toNat else 255) ∧
    (∀ y, (∀ j, t.writes k j = true → y ≠ t.vKey t.cnreg d (j / 2) ∧ y ≠ t.vKey t.cnreg (d + 1) (j / 32)) → tget v.v y 0 = tget t.v y 0)

/-- R46, R47, R53, R54, R316, R317, R326 to R331: the floating-point vector operations, the functions of one operand, and the conversions, those
of e2m1 blocks among them: each written element is the operation of its format on the elements of the sources, under the rounding mode of the
prefix or of FMODE, and the flags of all of them are raised. Rests on the log, entries 3 and 72. -/
def Obligations.VectorFloats : Prop := ∀ s : State, Idle s →
  let t := s.cur
  let w := 2 ^ t.csew
  let f := if t.csew = 1 then f16 else if t.csew = 2 then f32 else f64
  let len := fun (p : Option Modifier) => if p.isSome then 8 else 4
  let rm := fun (p : Option Modifier) => let x := (p.map (·.rm)).getD 7; if x = 7 then t.frm else x
  let sat := fun (p : Option Modifier) => decide ((p.map (·.sat)).getD 0 = 1)
  let writes := fun (i : Instr) (l d wd k : Nat) (r : Nat → Nat × FFlags) => Performs i s l fun v =>
    t.Lanes v d wd (fun j => if t.writes k j then some ((r j).1 % 2 ^ (8 * wd)) else none) (t.laneFlags k (fun j => (r j).2))
  (∀ x ∈ ([(.vfadd, fun p a b _ => f.add (rm p) a b), (.vfsub, fun p a b _ => f.sub (rm p) a b),
      (.vfrsub, fun p a b _ => f.sub (rm p) b a), (.vfmul, fun p a b _ => f.mul (rm p) a b),
      (.vfdiv, fun p a b _ => f.div (rm p) a b), (.vfmin, fun _ a b _ => f.minmax false a b),
      (.vfmax, fun _ a b _ => f.minmax true a b), (.vfma, fun p a b c => f.fma (rm p) a b c),
      (.vfnma, fun p a b c => f.fma (rm p) (a ^^^ 2 ^ (8 * w - 1)) b c),
      (.vfsgcpy, fun _ a b _ => (a % 2 ^ (8 * w - 1) + (if b.testBit (8 * w - 1) then 2 ^ (8 * w - 1) else 0), 0)),
      (.vfsginv, fun _ a b _ => (a % 2 ^ (8 * w - 1) + (if b.testBit (8 * w - 1) then 0 else 2 ^ (8 * w - 1)), 0)),
      (.vfsgxor, fun _ a b _ =>
        (a % 2 ^ (8 * w - 1) + (if a.testBit (8 * w - 1) ^^ b.testBit (8 * w - 1) then 2 ^ (8 * w - 1) else 0), 0))] :
      List ((OpV → Instr) × (Option Modifier → Nat → Nat → Nat → Nat × FFlags))), ∀ o : OpV,
    t.csew ≠ 0 → groupAt t (pD o.p o.d) 1 → groupAt t (pA o.p o.a) 1 → (o.ok = 0 → groupAt t (pB o.p o.b) 1) →
      writes (x.1 o) (len o.p) (pD o.p o.d) w o.k
        (fun j => x.2 o.p (t.vGet t.cnreg (pA o.p o.a) w j) (laneB t o.p o.ok o.b false j) (t.vGet t.cnreg (pD o.p o.d) w j))) ∧
  (∀ x ∈ [(Instr.vfsqrt, VFunOp.sqrt), (.vfexp2, .exp2), (.vflog2, .log2), (.vfrcp, .rcp), (.vfrsqrt, .rsqrt)], ∀ o : OpVun,
    t.csew ≠ 0 → groupAt t (pD o.p o.d) 1 → groupAt t (pA o.p o.a) 1 →
      writes (x.1 o) (len o.p) (pD o.p o.d) w o.k (fun j => vfun x.2 f (rm o.p) (t.vGet t.cnreg (pA o.p o.a) w j))) ∧
  (∀ o : OpVcvt,
    let nd := cvtWidth o.t / (8 * w)
    let na := cvtWidth o.src / (8 * w)
    8 * w = min (cvtWidth o.t) (cvtWidth o.src) → o.t ≠ 14 → o.src ≠ 14 → groupAt t (pD o.p o.d) nd → groupAt t (pA o.p o.a) na →
    (nd ≠ na ∨ pD o.p o.d ≠ pA o.p o.a → groupsApart (pD o.p o.d) nd (pA o.p o.a) na) →
      writes (.vfcvt o) (len o.p) (pD o.p o.d) (nd * w) o.k
        (fun j => cvtScalar o.t o.src (rm o.p) (sat o.p) 0 (t.vGet t.cnreg (pA o.p o.a) (na * w) j))) ∧
  (∀ o : OpVcvtRs,
    let p := some o.p
    let src := if o.ok = 2 then 12 else 13
    let nd := cvtWidth o.t / (8 * w)
    let na := cvtWidth src / (8 * w)
    let nb := 4 / w
    8 * w = min (cvtWidth o.t) (cvtWidth src) → o.t ≠ 14 → w ≤ 4 → groupAt t (pD p o.d) nd → groupAt t (pA p o.a) na →
    groupAt t (pB p o.b) nb → groupsApart (pD p o.d) nd (pA p o.a) na → groupsApart (pD p o.d) nd (pB p o.b) nb →
      writes (.vfcvtRs o) 8 (pD p o.d) (nd * w) o.k (fun j => cvtScalar o.t src (rm p) (sat p)
        (t.vGet t.cnreg (pB p o.b) 4 j % 2 ^ 16) (t.vGet t.cnreg (pA p o.a) (na * w) j))) ∧
  (∀ o : OpVcvt, t.csew = 0 →
    let d := pD o.p o.d
    let a := pA o.p o.a
    let size := fun (code : Nat) => if code = 12 then 4 else 8
    (o.t = 14 → o.src = 12 ∨ o.src = 13 → groupAt t d 2 → groupAt t a (size o.src) → groupsApart d 2 a (size o.src) →
      ToBlocks (.vfcvt o) s (len o.p) o.src d a o.k (rm o.p) (fun _ => 0)) ∧
    (o.src = 14 → o.t = 12 ∨ o.t = 13 → groupAt t d (size o.t) → groupAt t a 2 → groupsApart d (size o.t) a 2 →
      writes (.vfcvt o) (len o.p) d (size o.t) o.k (fun j =>
        let scale := t.vGet t.cnreg (a + 1) 1 (j / 32)
        (if o.t = 12 then f32 else f64).deliver (rm o.p) (sat o.p) 0 (if scale = 255 then .nan false
          else match e2m1.decode (t.vGet t.cnreg a 1 (j / 2) / 16 ^ (j % 2) % 16) with
            | .fin n m e => .fin n m (e + (scale : Int) - 127)
            | v => v)))) ∧
  (∀ o : OpVcvtRs, t.csew = 0 → o.t = 14 →
    let p := some o.p
    let src := if o.ok = 2 then 12 else 13
    let na := if o.ok = 2 then 4 else 8
    groupAt t (pD p o.d) 2 → groupAt t (pA p o.a) na → groupAt t (pB p o.b) 4 → groupsApart (pD p o.d) 2 (pA p o.a) na →
    groupsApart (pD p o.d) 2 (pB p o.b) 4 →
      ToBlocks (.vfcvtRs o) s 8 src (pD p o.d) (pA p o.a) o.k (rm p) (fun j => t.vGet t.cnreg (pB p o.b) 4 j % 2 ^ 16))

/-- R65, R333 to R335: a compare and a mask operation write the mask bit of every element below VL whose mask bit is 1, and no other bit;
k0 is never written. KCOUNT counts, and KFFS finds the lowest, of those elements whose bit is set. Rests on the log, entry 3. -/
def Obligations.VectorMasks : Prop := ∀ s : State, Idle s →
  let t := s.cur
  let w := 2 ^ t.csew
  let f := if t.csew = 1 then f16 else if t.csew = 2 then f32 else f64
  let sgn := fun (x : Nat) => (BitVec.ofNat (8 * w) x).toInt
  let len := fun (p : Option Modifier) => if p.isSome then 8 else 4
  let sets := fun (i : Instr) (l d k : Nat) (val : Nat → Bool) (fl : FFlags) => Performs i s l fun v =>
    { v with k := t.k } = { t with fstat := t.fstat ||| fl } ∧
    (∀ n j, v.rk n j = if n = d ∧ d ≠ 0 ∧ t.writes k j = true then val j else t.rk n j)
  (∀ x ∈ ([(.vcmpeq, fun a b => decide (a = b)), (.vcmpne, fun a b => decide (a ≠ b)), (.vcmplt, fun a b => decide (sgn a < sgn b)),
      (.vcmple, fun a b => decide (sgn a ≤ sgn b)), (.vcmpltu, fun a b => decide (a < b)), (.vcmpleu, fun a b => decide (a ≤ b))] :
      List ((OpVcmp → Instr) × (Nat → Nat → Bool))), ∀ o : OpVcmp,
    groupAt t (pA o.p o.a) 1 → (o.ok = 0 → groupAt t (pB o.p o.b) 1) →
      sets (x.1 o) (len o.p) o.d o.k (fun j => x.2 (t.vGet t.cnreg (pA o.p o.a) w j) (laneB t o.p o.ok o.b false j)) 0) ∧
  (∀ x ∈ ([(.vfcmpeq, fun a b => f.cmpEq a b), (.vfcmpne, fun a b => (!(f.cmpEq a b).1, (f.cmpEq a b).2)),
      (.vfcmplt, fun a b => f.cmpLt a b), (.vfcmple, fun a b => f.cmpLe a b)] :
      List ((OpVcmp → Instr) × (Nat → Nat → Bool × FFlags))), ∀ o : OpVcmp,
    let r := fun (j : Nat) => x.2 (t.vGet t.cnreg (pA o.p o.a) w j) (laneB t o.p o.ok o.b false j)
    t.csew ≠ 0 → groupAt t (pA o.p o.a) 1 → (o.ok = 0 → groupAt t (pB o.p o.b) 1) →
      sets (x.1 o) (len o.p) o.d o.k (fun j => (r j).1) (t.laneFlags o.k (fun j => (r j).2))) ∧
  (∀ x ∈ ([(.kand, fun a b => a && b), (.kor, fun a b => a || b), (.kxor, fun a b => a ^^ b), (.kandinv, fun a b => a && !b)] :
      List ((OpKlogic → Instr) × (Bool → Bool → Bool))), ∀ o : OpKlogic,
    sets (x.1 o) (len o.p) o.d o.k (fun j => x.2 (t.rk o.a j) (t.rk o.b j)) 0) ∧
  (∀ o : OpKcount,
    let hits := (List.range t.vl).filter (fun j => t.rk o.k j && t.rk o.a j)
    let gives := fun (i : Instr) (x : Word) => Performs i s (len o.p) fun v =>
      { v with x := t.x } = t ∧ (∀ n, v.rx n = xAfter t o.d x n)
    gives (.kcount o) (BitVec.ofNat 64 hits.length) ∧
    gives (.kffs o) (match hits with
      | [] => BitVec.allOnes 64
      | j :: _ => BitVec.ofNat 64 j))

/-- R61, R73, R336 to R341, R345: the permutes, the assignments, the random numbers, the reads of one element, and the queue moves of
the vector stream. Rests on the log, entry 3. -/
def Obligations.VectorMoves : Prop := ∀ s : State, Idle s →
  let t := s.cur
  let w := 2 ^ t.csew
  let len := fun (p : Option Modifier) => if p.isSome then 8 else 4
  let el := fun (r j : Nat) => t.vGet t.cnreg r w j
  let one := fun (r : Nat) => groupAt t r 1
  let moves := fun (i : Instr) (p : Option Modifier) (d : Nat) (val : Nat → Option Nat) => Performs i s (len p) fun v =>
    t.Lanes v d w val 0
  (∀ o : OpV,
    let d := pD o.p o.d
    let a := pA o.p o.a
    let n := if o.ok = 1 then (t.rx o.b).toNat else o.b
    one d → one a → d ≠ a →
      moves (.vshup o) o.p d (fun j => if t.writes o.k j ∧ n ≤ j then some (el a (j - n)) else none) ∧
      moves (.vshdn o) o.p d (fun j => if t.writes o.k j then some (if j + n < t.vl then el a (j + n) else 0) else none) ∧
      (o.ok = 1 → moves (.vpick o) o.p d
        (fun j => if t.writes o.k j then some (if n < t.mvl then el a n else 0) else none)) ∧
      (o.ok = 0 → one (pB o.p o.b) → d ≠ pB o.p o.b → moves (.vpick o) o.p d
        (fun j => if t.writes o.k j then some (if el (pB o.p o.b) j < t.mvl then el a (el (pB o.p o.b) j) else 0) else none))) ∧
  (∀ o : OpVcompact,
    let from' := (List.range t.vl).filter (fun j => t.rk o.b j)
    one (pD o.p o.d) → one (pA o.p o.a) → pD o.p o.d ≠ pA o.p o.a →
      moves (.vcompact o) o.p (pD o.p o.d) (fun j => (from'[j]?).map (fun i => el (pA o.p o.a) i))) ∧
  (∀ o : OpVbd, one (pD o.p o.d) →
    ((o.ok = 0 → one (pB o.p o.b)) → moves (.vassign o) o.p (pD o.p o.d)
      (fun j => if t.writes o.k j then some (laneB t o.p o.ok o.b false j) else none)) ∧
    (o.ok = 1 ∨ o.ok = 2 → moves (.vramp o) o.p (pD o.p o.d)
      (fun j => if t.writes o.k j then some ((laneB t o.p o.ok o.b false 0 + j) % 2 ^ (8 * w)) else none))) ∧
  (∀ o : OpVrand, one (pD o.p o.d) →
    let ctr := (t.rx o.b).toNat + 2 ^ 64 * (t.rx (o.b + 1)).toNat
    let r := fun (j : Nat) => philox (t.rx o.a).toNat ((ctr + j) % 2 ^ 128)
    moves (.vrand o) o.p (pD o.p o.d) (fun j => if t.writes o.k j then
      some ((if t.csew = 3 then (r j).1 + 2 ^ 32 * (r j).2.1 else (r j).1) % 2 ^ (8 * w)) else none)) ∧
  (∀ o : OpVget, one (pA o.p o.a) →
    let n := if o.ok = 1 then (t.rx o.b).toNat else o.b
    let x := if n < t.mvl then el (pA o.p o.a) n else 0
    (Performs (.vgetx o) s (len o.p) fun v => { v with x := t.x } = t ∧
      (∀ m, v.rx m = xAfter t o.d ((BitVec.ofNat (8 * w) x).signExtend 64) m)) ∧
    (Performs (.vgetf o) s (len o.p) fun v => { v with f := t.f } = t ∧ (∀ m, v.rf m = fAfter t o.d (BitVec.ofNat 64 x) m))) ∧
  (∀ o : OpVqget, ∀ v r, t.qMayGet o.q 1 = true → t.rq o.q = v :: r → 0 ∉ tget t.qbad o.q [] → one (pD o.p o.d) →
    Performs (.vqget o) s (len o.p) fun u =>
      (∀ n, u.rq n = if n = o.q then r else t.rq n) ∧
      (∀ n j, j ∈ tget u.qbad n [] ↔ if n = o.q then j + 1 ∈ tget t.qbad n [] else j ∈ tget t.qbad n []) ∧
      t.Lanes { u with q := t.q, qbad := t.qbad } (pD o.p o.d) w (fun j => if t.writes o.k j then some (v.toNat % 2 ^ (8 * w)) else none) 0) ∧
  (∀ o : OpVqput, t.qMayPut o.q 1 = true → (t.rq o.q).length < 16 → one (pA o.p o.a) →
    let n := if o.ok = 1 then (t.rx o.b).toNat else o.b
    Performs (.vqput o) s (len o.p) fun u =>
      { u with q := t.q, event := t.event } = t ∧
      (∀ m, u.rq m = if m = o.q then t.rq m ++ [BitVec.ofNat 64 (if n < t.mvl then el (pA o.p o.a) n else 0)] else t.rq m))

/-- R58, R59, R342 to R344: folds of integers give the sum, the least or the greatest of the start value and the written elements, folds of
floating-point elements give the tree of R58; VREDMAXI gives the lowest index of the greatest integer, or of the greatest number among
floating-point elements, -0 below +0, and without a number the lowest; a scan gives every written element the running value. Rests on the
log, entry 3. -/
def Obligations.VectorReductions : Prop := ∀ s : State, Idle s →
  let t := s.cur
  let w := 8 * 2 ^ t.csew
  let f := if t.csew = 1 then f16 else if t.csew = 2 then f32 else f64
  let len := fun (p : Option Modifier) => if p.isSome then 8 else 4
  let rm := fun (p : Option Modifier) => let x := (p.map (·.rm)).getD 7; if x = 7 then t.frm else x
  let sgn := fun (x : Nat) => (BitVec.ofNat w x).toInt
  let at' := fun (a k : Nat) => ((List.range t.vl).filter (fun j => t.rk k j)).map (fun j => t.vGet t.cnreg a (2 ^ t.csew) j)
  let toX := fun (i : Instr) (p : Option Modifier) (d : Nat) (x : Word) => Performs i s (len p) fun v =>
    { v with x := t.x } = t ∧ (∀ n, v.rx n = xAfter t d x n)
  let toF := fun (i : Instr) (p : Option Modifier) (d : Nat) (r : Nat × FFlags) => Performs i s (len p) fun v =>
    { v with f := t.f } = { t with fstat := t.fstat ||| r.2 } ∧ (∀ n, v.rf n = fAfter t d (BitVec.ofNat 64 r.1) n)
  (∀ o : OpV, o.ok = 1 → groupAt t (pA o.p o.a) 1 →
    let l := at' (pA o.p o.a) o.k
    let start := (t.rx o.b).toNat % 2 ^ w
    toX (.vfoldadd o) o.p o.d ((BitVec.ofNat w (start + l.sum)).signExtend 64) ∧
    toX (.vfoldmin o) o.p o.d (BitVec.ofInt 64 ((l.map sgn).foldl min (sgn start))) ∧
    toX (.vfoldmax o) o.p o.d (BitVec.ofInt 64 ((l.map sgn).foldl max (sgn start)))) ∧
  (∀ o : OpV, o.ok = 3 → t.csew ≠ 0 → groupAt t (pA o.p o.a) 1 →
    let l := at' (pA o.p o.a) o.k
    let start := (t.rf o.b).toNat % 2 ^ w
    toF (.vfoldadd o) o.p o.d (foldTree (f.add (rm o.p)) start l l.length) ∧
    toF (.vfoldmin o) o.p o.d (foldTree (f.minmax false) start l l.length) ∧
    toF (.vfoldmax o) o.p o.d (foldTree (f.minmax true) start l l.length)) ∧
  (∀ o : OpVad, o.ok = 1 → groupAt t (pA o.p o.a) 1 →
    let el := fun (j : Nat) => sgn (t.vGet t.cnreg (pA o.p o.a) (2 ^ t.csew) j)
    ((∀ j, t.writes o.k j = false) → toX (.vredmaxi o) o.p o.d (BitVec.allOnes 64)) ∧
    (∀ i, t.writes o.k i = true → (∀ j, t.writes o.k j = true → el j ≤ el i ∧ (j < i → el j < el i)) →
      toX (.vredmaxi o) o.p o.d (BitVec.ofNat 64 i))) ∧
  (∀ o : OpVad, o.ok = 3 → t.csew ≠ 0 → groupAt t (pA o.p o.a) 1 →
    let el := fun (j : Nat) => f.decode (t.vGet t.cnreg (pA o.p o.a) (2 ^ t.csew) j)
    let number := fun (j : Nat) => t.writes o.k j = true ∧ isNan (el j) = false
    let gives := fun (x : Word) => Performs (.vredmaxi o) s (len o.p) fun v =>
      { v with x := t.x } = { t with fstat := t.fstat ||| t.laneFlags o.k (fun j => if el j = .nan true then flNV else 0) } ∧
      (∀ n, v.rx n = xAfter t o.d x n)
    ((∀ j, t.writes o.k j = false) → gives (BitVec.allOnes 64)) ∧
    (∀ i, t.writes o.k i = true → (∀ j, ¬ number j) → (∀ j, j < i → t.writes o.k j = false) → gives (BitVec.ofNat 64 i)) ∧
    (∀ i, number i → (∀ j, number j → valLt true (el i) (el j) = false ∧ (j < i → valLt true (el j) (el i) = true)) →
      gives (BitVec.ofNat 64 i))) ∧
  (∀ o : OpV, groupAt t (pD o.p o.d) 1 → groupAt t (pA o.p o.a) 1 → pD o.p o.d ≠ pA o.p o.a →
    let el := fun (j : Nat) => t.vGet t.cnreg (pA o.p o.a) (2 ^ t.csew) j
    let upTo := fun (n : Nat) => ((List.range n).filter (fun j => t.writes o.k j)).map el
    let before := fun (j : Nat) => (upTo j).foldl (fun x y => (f.add (rm o.p) x y).1) ((t.rf o.b).toNat % 2 ^ w)
    (o.ok = 1 → Performs (.vscan o) s (len o.p) fun v => t.Lanes v (pD o.p o.d) (2 ^ t.csew)
      (fun j => if t.writes o.k j then some (((t.rx o.b).toNat + (upTo (j + 1)).sum) % 2 ^ w) else none) 0) ∧
    (o.ok = 3 → t.csew ≠ 0 → Performs (.vscan o) s (len o.p) fun v => t.Lanes v (pD o.p o.d) (2 ^ t.csew)
      (fun j => if t.writes o.k j then some ((f.add (rm o.p) (before j) (el j)).1 % 2 ^ w) else none)
      (t.laneFlags o.k (fun j => (f.add (rm o.p) (before j) (el j)).2))))

/-- R64, R65, R66, R322, R323: VSETL and VCFG give X[d] and VL the length that the grant and the configuration admit; mask bits at and
above the smaller of the old and the new MVL read 0; a VCFG that changes the register count clears every v register and VL, and one that
does not is illegal when VL exceeds the new MVL. While a VLDFF has not completed both wait. Rests on the log, entries 3 and 32. -/
def Obligations.VectorConfiguration : Prop := ∀ s : State,
  let t := s.cur
  let masks := fun (v : Thread) (m : Nat) => ∀ n j, v.rk n j = if n ≠ 0 ∧ m ≠ t.mvl ∧ min m t.mvl ≤ j then false else t.rk n j
  (∀ o : OpVsetl,
    let m := t.vgrant * 16384 / (2 ^ (3 + t.cnreg) * 2 ^ o.sew)
    let l := min (t.rx o.a).toNat m
    (Idle s → Performs (.vsetl o) s 4 fun v => masks v m ∧ (∀ n, v.rx n = xAfter t o.d (BitVec.ofNat 64 l) n) ∧
      { v with x := t.x, k := t.k } =
        { t with csew := o.sew, cmvl := m, reqLen := t.rx o.a, sew := o.sew, mvl := m, vl := l }) ∧
    (t.hnd = false → t.trimming = true → Waits (.vsetl o) s .vectorDone) ∧
    (t.hnd = true → Illegal (.vsetl o) s)) ∧
  (∀ o : OpVcfg,
    let m := t.vgrant * 16384 / (2 ^ (3 + o.nreg) * 2 ^ o.sew)
    (Idle s → o.nreg ≠ t.cnreg ∨ t.vl ≤ m →
      Performs (.vcfg o) s 4 fun v => masks v m ∧ (∀ n, v.rx n = xAfter t o.d (BitVec.ofNat 64 m) n) ∧
        { v with x := t.x, k := t.k } =
          { t with csew := o.sew, cnreg := o.nreg, cmvl := m, sew := o.sew, nreg := o.nreg, mvl := m
                   vl := if o.nreg = t.cnreg then t.vl else 0, v := if o.nreg = t.cnreg then t.v else [] }) ∧
    (Idle s → o.nreg = t.cnreg → m < t.vl → Illegal (.vcfg o) s) ∧
    (t.hnd = false → t.trimming = true → Waits (.vcfg o) s .vectorDone) ∧
    (t.hnd = true → Illegal (.vcfg o) s))

/-! Tile and bobbin instructions at commit -/

/-- The first of some values that is no multiple of `n`. -/
def firstMisaligned (n : Nat) (l : List Word) : Option Word := l.find? (fun v => decide (v.toNat % n ≠ 0))

/-- What a tile instruction does when it commits (R16, R230, R234, R369): a legal one whose values are aligned enters the tile window, the
fills of the tiles that it reads are asked for, and the streams then do what they can; a full window holds the scalar stream; an illegal
operand, or a running handler, comes before a misaligned value. -/
def TCommits (i : Instr) (s : State) (legal : Prop) (aligned : List Word) (op : TOp) : Prop :=
  let t := s.cur
  let c := coreOf s.hart
  let e : TEntry := { cmd := t.nextCmd 1, order := (s.core c).commits, pc := t.pc, bits := s.ir, op := op, issued := false
                      complete := false, dst := [], send := .unsent, flags := 0 }
  (legal → t.hnd = false → t.cmdsOut 1 = false → firstMisaligned 16 aligned = none → t.win.length < 16 →
    ∃ u, exec i s = .next (((u.fillSources s.hart e).retire 8).pump s.hart) ∧
      u.cur = { t with win := t.win ++ [e], cmds := tput t.cmds 1 (t.nextCmd 1) } ∧ u.hart = s.hart ∧
      { u with threads := s.threads, cores := s.cores } = s ∧ SameOthers s u ∧
      (∀ c', u.core c' = if c' = c then { s.core c with commits := (s.core c).commits + 1 } else s.core c')) ∧
  (legal → t.hnd = false → t.cmdsOut 1 = false → firstMisaligned 16 aligned = none → 16 ≤ t.win.length → Waits i s .windowFull) ∧
  (∀ v, legal → t.hnd = false → firstMisaligned 16 aligned = some v → Traps i s (Pend.addr 4 v 5 0 0)) ∧
  (¬ legal ∨ t.hnd = true → Illegal i s)

/-- The bytes of tile `n` of a thread: those of its physical tile; a dead tile, and one that is not resident, has none here (R68). -/
def tileRows (s : State) (h n : Nat) : Table Byte :=
  match tfind (s.thr h).prick n with
  | some p => if p.state = .live ∧ p.res = true then ((tfind (s.core (coreOf h)).tiles p.ptile).map (·.rows)).getD [] else []
  | none => []

/-- Tile `n` of the executing thread is dead, or resident in a physical tile of its context that can be read. -/
def TileReadable (s : State) (n : Nat) : Prop :=
  ∀ p, tfind s.cur.prick n = some p → p.state ≠ .receivable ∧
    (p.state = .live → p.res = true ∧ ∃ q, tfind (s.core (coreOf s.hart)).tiles p.ptile = some q ∧
      q.ofContext s.cur.owner s.cur.mapb = true ∧ q.tile = n ∧ q.poison = false ∧ q.bad = [] ∧ q.filling = false)

/-- A placed thread with empty streams whose tile instructions perform at once: accesses do not travel, physical tiles are free, and no copy of a
Pricking or a tag has an error. -/
structure TileIdle (s : State) : Prop where
  idle : Idle s
  still : s.travel = false
  live : s.cur.live = true
  numbers : s.cur.cmdsOut 1 = false
  room : (s.core (coreOf s.hart)).tiles.length < 511
  sound : s.tileErrors (coreOf s.hart) = false

/-- A tile instruction performs at once and raises the flags `fl`: beside what `R` says of the tiles in `changed`, every tile and every readable
tile's bytes are as before, and the machine is but for the timeline and the command number of the tile stream, TSHAPE, the event flag, the
counters, the commit order and the physical tiles of the core; `R` says what a store writes. -/
def PerformsTile (i : Instr) (s : State) (fl : FFlags) (changed : List Nat) (R : State → Prop) : Prop :=
  let h := s.hart
  ∃ t, exec i s = .next t ∧ R t ∧
    t.cur = { s.cur with pc := s.cur.pc + 8, wait := .none, freed := false, remote := none, away := none, shoot := none, wfeSince := none
                         cmds := tput s.cur.cmds 1 (s.cur.nextCmd 1), fstat := s.cur.fstat ||| fl, tl := t.cur.tl, event := t.cur.event
                         prick := t.cur.prick, tshape := t.cur.tshape } ∧
    (∀ n, t.cur.rtl n = if n = 1 then tlRaise (s.cur.rtl 1) (s.cur.nextCmd 1) false else s.cur.rtl n) ∧
    (∀ n, n ∉ changed → tfind t.cur.prick n = tfind s.cur.prick n ∧ (TileReadable s n → tileRows t h n = tileRows s h n)) ∧
    t.hart = h ∧ (∀ h', h' ≠ h → { t.thr h' with event := (s.thr h').event } = s.thr h') ∧
    { t with threads := s.threads, tasks := s.tasks, cores := s.cores, spad := s.spad, spadOwner := s.spadOwner, spadFull := s.spadFull } = s ∧
    (∀ c, { t.core c with commits := (s.core c).commits, tiles := (s.core c).tiles } = s.core c) ∧
    (∀ k n, n ≠ 2 → n ≠ 3 → t.counter k n = s.counter k n + (if k = s.cur.taskid ∧ n = 1 then 1 else 0))

/-- What the tile instructions of such a thread make of their tiles and of the scratchpad (R55 to R57, R188, R369, R371 to R376, R378 to R383),
where the tiles that they read are readable, no tile that they name waits for a landing, and the scratchpad bytes that they access are
guarded by no bobbin. A tile marked .l that is no destination is dead afterwards. -/
def TilesDo (s : State) : Prop :=
  let t := s.cur
  let h := s.hart
  let c := coreOf h
  let g := t.gang
  let sh := t.tshape
  let samePad := fun (u : State) => u.spad = s.spad ∧ u.spadOwner = s.spadOwner ∧ u.spadFull = s.spadFull
  let fresh := fun (st : TileState) => ({ state := st, res := false, dirty := false, ptile := 0 } : PEntry)
  let now := tileRows s h
  let closed := fun (n : Nat) => ∀ p, tfind t.prick n = some p → p.state ≠ .receivable
  let lost := fun (l : List (Nat × Bool)) (ds : List Nat) => (l.filter (fun x => x.2 && !ds.any (fun d => decide (d = x.1)))).map (·.1)
  let comes := fun (u : State) (d : Nat) => ∃ pt, tfind u.cur.prick d = some { state := .live, res := true, dirty := true, ptile := pt }
  let makes := fun (i : Instr) (d : Nat) (reads : List (Nat × Bool)) (w : Nat) (val : Nat → Nat → Nat × FFlags) =>
    (∀ x ∈ reads, TileReadable s x.1) → closed d →
    PerformsTile i s ((List.range (64 * (256 * g / w))).foldl (fun f k => f ||| (val (k / (256 * g / w)) (k % (256 * g / w))).2) 0)
      (d :: lost reads [d]) fun u => u.cur.tshape = sh ∧ samePad u ∧ comes u d ∧
        (∀ x ∈ lost reads [d], tfind u.cur.prick x = some (fresh .dead)) ∧
        (∀ r j, r < 64 → j < 256 * g / w → tileElem g (tileRows u h d) r w j = (val r j).1 % 2 ^ (8 * w))
  let dot := fun (i : Instr) (d : Nat) (reads : List (Nat × Bool)) (a b : Nat → Table Byte) (row : Nat → Nat) (sa sb : Table Byte) =>
    let fa := shapeA sh
    makes i d reads 4 fun r j =>
      let old := tileElem g (now d) r 4 j
      if shapeM sh ≤ r ∨ shapeN sh ≤ j then (old, 0)
      else if fa = 5 ∨ fa = 6 ∨ fa = 7 then
        let el := fun (f : Nat) (x : Nat) => if f = 5 then (BitVec.ofNat 8 x).toInt else (x : Int)
        (((old : Int) + (List.range (shapeK sh)).foldl (fun acc k =>
          acc + el fa (tileElem g (a r) (row r) 1 k) * el (shapeB sh) (tileElem g (b r) j 1 k)) 0).emod (2 ^ 32) |>.toNat, 0)
      else mmaDot (shapeK sh) (decide (fa = 4)) (mmaVal g fa (a r) (row r)) (mmaVal g (shapeB sh) (b r) j)
        (fun grp => tileElem g sa r 1 grp) (fun grp => tileElem g sb j 1 grp) old
  let inPad := fun (a : Int) (n : Nat) => (0x00FFFF0000000000 : Int) ≤ a ∧ a + n ≤ (0x00FFFF0000000000 : Int) + (g * 2 ^ 22 : Nat)
  let rowAt := fun (base stride : Word) (r : Nat) => (base.toNat : Int) + r * stride.toInt
  let padRows := fun (base stride : Word) => g = s.width c ∧ g ≤ 4 ∧ base.toNat % 16 = 0 ∧ stride.toNat % 16 = 0 ∧
    (∀ r, r < 64 → inPad (rowAt base stride r) (256 * g)) ∧
    (∀ r k, r < 64 → k < 16 * g → s.guarded c none ((rowAt base stride r).toNat + 16 * k) 16 = false)
  let rm := fun (v : Nat) => if v = 7 then t.frm else v
  (∀ o : OpXa, shapeOk (t.rx o.xa) g = true → PerformsTile (.mcfg o) s 0 [] fun u => u.cur.tshape = t.rx o.xa ∧ samePad u) ∧
  (∀ o : OpTd,
    (PerformsTile (.mdrop o) s 0 [o.td] fun u => u.cur.tshape = sh ∧ samePad u ∧ tfind u.cur.prick o.td = some (fresh .dead)) ∧
    (PerformsTile (.mopen o) s 0 [o.td] fun u => u.cur.tshape = sh ∧ samePad u ∧ tfind u.cur.prick o.td = some (fresh .receivable)) ∧
    makes (.mzero o) o.td [] 1 fun _ _ => (0, 0)) ∧
  (∀ o : OpTa, TileReadable s o.ta → PerformsTile (.mpref o) s 0 [] fun u => u.cur.tshape = sh ∧ samePad u) ∧
  (∀ o : OpMld, let base := t.rx o.xa
    let stride := t.rx o.xb
    padRows base stride → stride = 0 ∨ 256 * (g : Int) ≤ stride.toInt ∨ stride.toInt ≤ -(256 * (g : Int)) →
    makes (.mld o) o.td [] 1 fun r j => ((s.spadByte t.owner c ((rowAt base stride r).toNat + j - 0x00FFFF0000000000)).toNat, 0)) ∧
  (∀ o : OpMst, let base := t.rx o.xa
    let stride := t.rx o.xb
    let dead := if o.la then [o.ta] else []
    padRows base stride → 256 * (g : Int) ≤ stride.toInt ∨ stride.toInt ≤ -(256 * (g : Int)) → TileReadable s o.ta →
    PerformsTile (.mst o) s 0 dead fun u =>
      let el := fun (i : Nat) => (rowAt base stride (i / (16 * g))).toNat + 16 * (i % (16 * g)) - 0x00FFFF0000000000
      u.cur.tshape = sh ∧ (∀ x ∈ dead, tfind u.cur.prick x = some (fresh .dead)) ∧
        PadStored s u t.owner c (1024 * g) 16 el (fun i => some (readV (now o.ta) (16 * i) 16)) ∧
        PadFull s u t.owner c (1024 * g) el (fun _ => true) (fun _ => False) (fun _ => False)) ∧
  (∀ o : OpMma, let pair := fun (f : Nat) (x : Nat) (l : Bool) => if shapeA sh = 4 ∧ f = 4 then [(x, l), (x + 1, l)] else [(x, l)]
    (shapeA sh = 4 ↔ shapeB sh = 4) → (shapeA sh = 4 → o.ta % 2 = 0 ∧ o.tb % 2 = 0) →
    dot (.mma o) o.td (pair (shapeA sh) o.ta o.la ++ pair (shapeB sh) o.tb o.lb ++ [(o.td, false)]) (fun _ => now o.ta) (fun _ => now o.tb) id
      (if shapeA sh = 4 then now (o.ta + 1) else []) (if shapeA sh = 4 then now (o.tb + 1) else [])) ∧
  (∀ o : OpMmag, let base := (t.rx o.xa).toNat
    let row := fun (i : Nat) => base + t.vGet t.cnreg o.va 4 i
    let gathered := fun (i : Nat) => (List.range (256 * g)).map (fun j => (j, s.spadByte t.owner c (row i + j - 0x00FFFF0000000000)))
    g ≤ 4 → shapeA sh ≠ 4 → shapeB sh ≠ 4 → o.va < 8 * 2 ^ t.cnreg → 0x00FFFF0000000000 ≤ base → base < 0x00FFFF0000000000 + 2 ^ 24 →
    (∀ i, i < shapeM sh → t.vGet t.cnreg o.va 4 i % 16 = 0 ∧ row i + 256 * g ≤ 0x00FFFF0000000000 + g * 2 ^ 22 ∧
      s.guarded c none (row i) (256 * g) = false) →
    dot (.mmag o) o.td [(o.tb, o.lb), (o.td, false)] gathered (fun _ => now o.tb) (fun _ => 0) [] []) ∧
  (∀ o : OpVtom, o.va < 8 * 2 ^ t.cnreg → (t.rx o.xa).toNat < 64 →
    makes (.vtom o) o.td [(o.td, false)] 1 fun r j =>
      (if r = (t.rx o.xa).toNat then (if j < t.regBytes t.cnreg then t.vGet t.cnreg o.va 1 j else 0) else tileElem g (now o.td) r 1 j, 0)) ∧
  (∀ o : OpMtrans, (t.rx o.xa).toNat < 3 →
    let w := 2 ^ (t.rx o.xa).toNat
    makes (.mtrans o) o.td [(o.ta, o.la)] w fun r j => (tileElem g (now o.ta) (j % 64) w (j / 64 * 64 + r), 0)) ∧
  (∀ o : OpMcvt,
    let v := (t.rx o.xa).toNat
    let both := [(o.ta, o.la), (o.tb, o.lb)]
    let f := if v % 4 = 0 then f32 else if v % 4 = 1 then bf16 else f16
    let w := if v % 4 = 1 ∨ v % 4 = 2 then 2 else 4
    let legal := v < 128 ∧ v / 4 % 4 = 0 ∧ (v / 16 < 4 ∨ v / 16 = 7) ∧ (v % 4 = 3 → v / 16 = 0)
    (legal → makes (.madd o) o.td both w fun r j =>
      let x := tileElem g (now o.ta) r w j
      let y := tileElem g (now o.tb) r w j
      if v % 4 = 3 then ((x + y) % 2 ^ 32, 0) else f.add (rm (v / 16)) x y) ∧
    (legal → v % 4 = 0 → makes (.mscale o) o.td both 4 fun r j =>
      let p := valMul (f32.decode (tileElem g (now o.ta) r 4 j)) (f32.decode (tileElem g (now o.tb) 0 4 j))
      let q := valMul p.1 (f32.decode (tileElem g (now o.tb) 1 4 r))
      let z := f32.deliver (rm (v / 16)) false 0 q.1
      (z.1, p.2 ||| q.2 ||| z.2)) ∧
    (cvtOk v o.td o.ta o.tb g o.lb = true → v % 16 ≠ 14 → v / 16 % 16 ≠ 14 → v / 256 % 8 ≠ 4 →
      let src := v / 16 % 16
      let es := 256 * g / (cvtWidth src / 8)
      let et := 256 * g / (cvtWidth (v % 16) / 8)
      let part := v / 4096 % 8
      let one := fun (r j : Nat) => cvtScalar (v % 16) src (rm (v / 256 % 8)) (v.testBit 11) 0 (tileElem g (now o.ta) r (cvtWidth src / 8) j)
      makes (.mcvt o) o.td ((o.ta, o.la) :: if es < et then [(o.td, false)] else []) (cvtWidth (v % 16) / 8) fun r j =>
        if et < es then one r (part * et + j)
        else if part * es ≤ j ∧ j < part * es + es then one r (j - part * es)
        else (tileElem g (now o.td) r (cvtWidth (v % 16) / 8) j, 0))) ∧
  (∀ o : OpMsend, let v := (t.rx o.xa).toNat
    let dead := if o.la then [o.ta] else []
    let c' := v / 2 ^ 24 % 256
    let off := v % 2 ^ 24
    g ≤ 4 → s.width c' ≤ 4 → v < 2 ^ 43 → v / 2 ^ 42 = 1 → s.pkgNum = some (v / 2 ^ 32 % 1024) → s.isCore c' = true → (s.core c').gate = .on →
    off % 16 = 0 → off + 16384 * g ≤ s.width c' * 2 ^ 22 → TileReadable s o.ta →
    PerformsTile (.msend o) s 0 dead fun u => u.cur.tshape = sh ∧ (∀ x ∈ dead, tfind u.cur.prick x = some (fresh .dead)) ∧
      PadStored s u t.owner c' (1024 * g) 16 (fun i => off + 16 * i) (fun i => some (readV (now o.ta) (16 * i) 16)) ∧
      PadFull s u t.owner c' (1024 * g) (fun i => off + 16 * i) (fun _ => true) (fun x => off / 16 ≤ x ∧ x < off / 16 + 1024 * g) (fun _ => False))

/-- R78, R369, R371 to R376, R378 to R382: the tile instructions at commit: their legal operands, the values that must be multiples of 16, and what
they put into the window. MMAG's base lies in the scratchpad window, or code 5 is raised. R55 to R57, R372 to R383: what they then make of the
tiles and of the scratchpad, as `TilesDo` says of a thread whose streams are empty. Rests on the log, entries 3, 34 and 95. -/
def Obligations.TileCommits : Prop := ∀ s : State, (TileIdle s → TilesDo s) ∧
  let t := s.cur
  let shape := t.shapeNow
  let afmt := fun (v : Word) => v.toNat / 2 ^ 28 % 8
  let far := fun (v : Word) => 256 * (t.gang : Int) ≤ v.toInt ∨ v.toInt ≤ -(256 * (t.gang : Int))
  let ctl := fun (v : Word) => let rm := v.toNat / 16 % 8; if rm = 7 then t.frm else rm
  let ctlOk := fun (v : Word) => v.toNat < 128 ∧ v.toNat / 4 % 4 = 0 ∧ (v.toNat / 16 < 4 ∨ v.toNat / 16 = 7) ∧
    (v.toNat % 4 = 3 → v.toNat / 16 = 0)
  (∀ o : OpXa,
    let v := t.rx o.xa
    let n := v.toNat
    let a := afmt v
    let b := n / 2 ^ 31
    let k := n / 2 ^ 16 % 2 ^ 12
    TCommits (.mcfg o) s
      (n < 2 ^ 34 ∧ 1 ≤ n % 128 ∧ n % 128 ≤ 64 ∧ 1 ≤ n / 128 % 512 ∧ n / 128 % 512 ≤ 64 ∧ 1 ≤ k ∧
        k ≤ (if a = 2 ∨ a = 3 then 128 else if a = 4 then 512 else 256) * t.gang ∧
        ((a < 2 ∧ b < 2) ∨ (a = b ∧ 2 ≤ a ∧ a ≤ 4) ∨ ((a = 5 ∨ a = 6) ∧ (b = 5 ∨ b = 6)))) [] (.mcfg v)) ∧
  (∀ o : OpMld, TCommits (.mld o) s (far (t.rx o.xb) ∨ t.rx o.xb = 0) [t.rx o.xa, t.rx o.xb] (.mld o.td (t.rx o.xa) (t.rx o.xb))) ∧
  (∀ o : OpMst, TCommits (.mst o) s (far (t.rx o.xb)) [t.rx o.xa, t.rx o.xb]
    (.mst o.ta o.la (t.rx o.xa) (t.rx o.xb))) ∧
  (∀ o : OpTd, TCommits (.mzero o) s True [] (.mzero o.td) ∧ TCommits (.mdrop o) s True [] (.mdrop o.td) ∧
    TCommits (.mopen o) s True [] (.mopen o.td)) ∧
  (∀ o : OpTa, TCommits (.mpref o) s True [] (.mpref o.ta)) ∧
  (∀ o : OpMma, TCommits (.mma o) s (afmt shape = 4 → o.ta % 2 = 0 ∧ o.tb % 2 = 0) [] (.mma o.td o.ta o.tb o.la o.lb shape)) ∧
  (∀ o : OpMmag,
    let base := t.rx o.xa
    let window := 0x00FFFF0000000000 ≤ base.toNat ∧ base.toNat < 0x00FFFF0000000000 + 2 ^ 24
    let legal := o.va < 8 * 2 ^ t.cnreg ∧ afmt shape ≠ 4
    (window → TCommits (.mmag o) s legal [] (.mmag o.td o.va o.tb o.lb base shape t.cnreg)) ∧
    (¬ window → legal → t.hnd = false → Traps (.mmag o) s (Pend.addr 5 base 5 0 0))) ∧
  (∀ o : OpVtom, TCommits (.vtom o) s (o.va < 8 * 2 ^ t.cnreg ∧ (t.rx o.xa).toNat < 64) []
    (.vtom o.td o.va (t.rx o.xa).toNat t.cnreg)) ∧
  (∀ o : OpMtrans, TCommits (.mtrans o) s ((t.rx o.xa).toNat < 3) [] (.mtrans o.td o.ta o.la (t.rx o.xa).toNat)) ∧
  (∀ o : OpMcvt,
    let v := t.rx o.xa
    let rm := v.toNat / 256 % 8
    TCommits (.mcvt o) s (cvtOk v.toNat o.td o.ta o.tb t.gang o.lb = true) []
      (.mcvt o.td o.ta o.tb o.la o.lb v.toNat (if rm = 7 then t.frm else rm)) ∧
    TCommits (.mscale o) s (ctlOk v ∧ v.toNat % 4 = 0) [] (.mscale o.td o.ta o.tb o.la o.lb (ctl v)) ∧
    TCommits (.madd o) s (ctlOk v) [] (.madd o.td o.ta o.tb o.la o.lb (v.toNat % 4) (ctl v))) ∧
  (∀ o : OpMsend,
    let v := (t.rx o.xa).toNat
    TCommits (.msend o) s (v < 2 ^ 43 ∧ (v / 2 ^ 42 = 0 → v / 2 ^ 29 % 8 = 0) ∧
      (v / 2 ^ 42 = 1 → v / 2 ^ 24 % 256 < 192 ∧ v % 2 ^ 24 % 16 = 0)) [] (.msend o.ta o.la (t.rx o.xa)))

/-- What a bobbin command does when it commits (R201, R230, R234, R385): it joins the queue of its bobbin, which holds at most four; an illegal
operand, or a running handler, comes before a misaligned value. `aligned` holds the values that must be multiples of `n`, with the KIND of
their records (R185): 7 of the destination, 6 of the source; `seq` is the reduction sequence of a CPYRED. -/
def BCommits (i : Instr) (s : State) (bn : Nat) (legal : Prop) (n : Nat) (aligned : List (Word × Nat)) (op : BOp) (dst src : Word)
    (seq last : Nat) : Prop :=
  let t := s.cur
  let c := coreOf s.hart
  let b := t.bobbin bn
  let bad := aligned.find? (fun v => decide (v.1.toNat % n ≠ 0))
  let q : BCmd := { num := t.nextCmd (2 + bn), op := op, dst := dst, src := src, order := (s.core c).commits, started := false
                    rowSrc := [], seq := seq, sent := [], ahead := [], got := [], io := none }
  (legal → t.hnd = false → t.cmdsOut (2 + bn) = false → bad = none → b.queue.length < 4 →
    ∃ u, exec i s = .next (u.pump s.hart) ∧ (∀ m, u.cur.bobbin m = if m = bn then { b with queue := b.queue ++ [q] } else t.bobbin m) ∧
      { u.cur with bob := t.bob } = { t.goneTo (t.pc + 8) with cmds := tput t.cmds (2 + bn) (t.nextCmd (2 + bn)) } ∧
      u.hart = s.hart ∧ u.redLast = last ∧
      { u with threads := s.threads, tasks := s.tasks, cores := s.cores, redLast := s.redLast } = s ∧ SameOthers s u ∧
      CountedOne s u ∧
      (∀ c', u.core c' = if c' = c then { s.core c with commits := (s.core c).commits + 1 } else s.core c')) ∧
  (legal → t.hnd = false → t.cmdsOut (2 + bn) = false → bad = none → 4 ≤ b.queue.length → Waits i s .bobbinFull) ∧
  (∀ v, legal → t.hnd = false → bad = some v → Traps i s (Pend.addr 4 v.1 v.2 0 0)) ∧
  (¬ legal ∨ t.hnd = true → Illegal i s)

/-- R207, R385 to R389: the bobbin commands at commit: the boxes, rows, registers and reductions that are legal, and the operands that
each command captures. Rests on the log, entries 3 and 35. -/
def Obligations.BobbinCommits : Prop := ∀ s : State,
  let t := s.cur
  (∀ o : OpCpy,
    let f := fun (r lo n : Nat) => (t.rx (o.xc + r)).toNat / 2 ^ lo % 2 ^ n
    let g := fun (r lo : Nat) => (BitVec.ofNat 32 (f r lo 32)).toInt
    let e := 2 ^ f 0 48 3
    let n0 := f 0 0 16
    let n1 := f 0 16 16
    let n2 := f 0 32 16
    let d0 := f 1 0 32
    let d1 := f 1 32 32
    let d2 := f 2 0 32
    let used := fun (n : Nat) (v : Int) (kind : Nat) => if n = 1 then [] else [(BitVec.ofInt 64 v, kind)]
    BCommits (.cpy o) s o.bb
      (f 0 51 13 = 0 ∧ e < 128 ∧ 0 < n0 ∧ 0 < n1 ∧ 0 < n2 ∧ (n0 = 1 ∨ e ≤ d0) ∧ (n1 = 1 ∨ (n0 - 1) * d0 + e ≤ d1) ∧
        (n2 = 1 ∨ (n1 - 1) * d1 + (n0 - 1) * d0 + e ≤ d2))
      e ([(t.rx o.xa, 7), (t.rx o.xb, 6)] ++ used n0 d0 7 ++ used n1 d1 7 ++ used n2 d2 7 ++ used n0 (g 2 32) 6 ++ used n1 (g 3 0) 6 ++
        used n2 (g 3 32) 6)
      (.cpy e n0 n1 n2 d0 d1 d2 (g 2 32) (g 3 0) (g 3 32)) (t.rx o.xa) (t.rx o.xb) 0 s.redLast) ∧
  (∀ o : OpCpyrows,
    let v := (t.rx o.xc).toNat
    let len := v % 2 ^ 32
    let n := v / 2 ^ 32 % 2 ^ 20
    let iw := v / 2 ^ 56 % 2
    let regs := (n * (if iw = 1 then 8 else 4) + t.regBytes t.cnreg - 1) / t.regBytes t.cnreg
    let a := (t.rx o.xa).toNat
    let legal := v / 2 ^ 52 % 16 = 0 ∧ v / 2 ^ 57 = 0 ∧ len % 16 = 0 ∧ 16 ≤ len ∧ len ≤ 65536 ∧ 1 ≤ n ∧ regs ≤ 8 ∧
      regs ≤ 8 * 2 ^ t.cnreg - o.va
    let inside := 0x00FFFF0000000000 ≤ a ∧ a - 0x00FFFF0000000000 + n * len ≤ t.gang * 2 ^ 22
    (inside → BCommits (.cpyrows o) s o.bb legal 16 [(t.rx o.xa, 7)] (.rows len n iw o.va o.kb t.cnreg) (t.rx o.xa) (t.rx o.xb) 0 s.redLast) ∧
    (¬ inside → legal → t.hnd = false → a % 16 = 0 → Traps (.cpyrows o) s (Pend.addr 5 (t.rx o.xa) 7 0 0))) ∧
  (∀ o : OpCpyv,
    let v := (t.rx o.xb).toNat
    let regs := 2 ^ (v % 4)
    BCommits (.cpyv o) s o.bb (v / 32 = 0 ∧ v / 4 % 4 = 0 ∧ groupAt t o.vd regs) (2 ^ t.csew) [(t.rx o.xa, if v / 16 = 0 then 6 else 7)]
      (.cpyv (v / 16) regs o.vd (2 ^ t.csew) t.cnreg (t.regBytes t.cnreg)) (t.rx o.xa) 0 0 s.redLast) ∧
  (∀ o : OpCpy,
    let v := (t.rx o.xc).toNat
    let op := v / 2 ^ 32
    let e := if op = 1 then 2 else if op = 3 then 8 else 4
    let seq := max (s.redLast + 1) (16 * s.gtime)
    BCommits (.cpyred o) s o.bb (op < 8 ∧ 1 ≤ v % 2 ^ 32) e [(t.rx o.xa, 7), (t.rx o.xb, 6)] (.red op e (v % 2 ^ 32)) (t.rx o.xa) (t.rx o.xb) seq seq)

/-- R79, R203, R213, R395: CPYABORT ends every command of its bobbin at once when no answer is awaited: the timeline takes the number of
the last command with E, the watermark keeps its count with the abort flag, and ABT is set; an idle bobbin changes nothing. CPYSTAT
copies BSTAT. Stated without a trace ring. Rests on the log, entry 29. -/
def Obligations.BobbinControl : Prop := ∀ s : State,
  let t := s.cur
  (∀ o : OpBob, (t.bobbin o.bn).queue = [] → GoesTo (.cpyabort o) s (t.pc + 4)) ∧
  (∀ o : OpBob, ∀ q r, (t.bobbin o.bn).queue = q :: r → (∀ x ∈ q :: r, x.sent = [] ∧ x.io = none) → s.traceRings = [] →
    let b := t.bobbin o.bn
    let last := (q :: r).foldl (fun n x => max n x.num) 0
    ∃ u, exec (.cpyabort o) s = .next u ∧
      (∀ n, u.cur.rtl n = if n = 2 + o.bn then
          BitVec.ofNat 64 (max ((t.rtl n).toNat % 2 ^ 63) last + 2 ^ 63) else t.rtl n) ∧
      (∀ n, u.cur.rwm n = if n = o.bn then
          BitVec.ofNat 64 ((if q.started then (t.rwm n).toNat % 2 ^ 63 else 0) + 2 ^ 63) else t.rwm n) ∧
      (∀ n, u.cur.bobbin n = if n = o.bn then { queue := [], stat := { b.stat with abt := true, state := 0 } } else t.bobbin n) ∧
      { u.cur with tl := t.tl, wm := t.wm, bob := t.bob, event := t.event } = t.goneTo (t.pc + 4) ∧
      u.hart = s.hart ∧ SameElsewhere s u ∧ SameOthers s u ∧ CountedOne s u) ∧
  (∀ o : OpCpystat,
    let b := t.bobbin o.bn
    WritesX (.cpystat o) s 4 o.d (BitVec.ofNat 64
      ((if b.stat.abt then 2 ^ 32 else 0) + b.stat.fcode.toNat * 2 ^ 16 + b.queue.length * 16 + b.stat.state)))

/-! Golpin words -/

/-- `i` goes on with the next instruction of the kernel, or where its loops lead (R409), after `cost` cycles, and leaves its engine as `k`;
the words of flow state that it has corrected go into the error log. -/
def GDoes (i : Instr) (s : State) (cost : Nat) (R : Engine → Prop) : Prop :=
  ∃ k, exec i s = .next ((s.logCorrections k).setCurEng (k.goTo cost (s.curEng.pc + 1))) ∧ R k

/-- R396, R406, R409: the scalar and immediate instructions of the engines, LUI and the branches. -/
def Obligations.GolpinScalars : Prop := ∀ s : State,
  let e := s.curEng
  let x18 := fun (n : Nat) => (BitVec.ofNat 18 n).signExtend 32
  (∀ x ∈ ([(.golpinAdd, fun a b => a + b), (.golpinSub, fun a b => a - b), (.golpinAnd, fun a b => a &&& b),
      (.golpinOr, fun a b => a ||| b), (.golpinXor, fun a b => a ^^^ b), (.golpinSll, fun a b => a <<< (b.toNat % 32)),
      (.golpinSrl, fun a b => a >>> (b.toNat % 32)), (.golpinSra, fun a b => a.sshiftRight (b.toNat % 32)),
      (.golpinMin, fun a b => BitVec.ofInt 32 (min a.toInt b.toInt)), (.golpinMax, fun a b => BitVec.ofInt 32 (max a.toInt b.toInt)),
      (.golpinMinu, fun a b => BitVec.ofNat 32 (min a.toNat b.toNat)), (.golpinMaxu, fun a b => BitVec.ofNat 32 (max a.toNat b.toNat)),
      (.golpinMul, fun a b => a * b), (.golpinSetlt, fun a b => if a.toInt < b.toInt then 1 else 0),
      (.golpinSetltu, fun a b => if a.toNat < b.toNat then 1 else 0)] :
      List ((OpG3 → Instr) × (BitVec 32 → BitVec 32 → BitVec 32))), ∀ o : OpG3,
    GDoes (x.1 o) s 1 fun k => e.SetsH k o.d (x.2 (e.rh o.a) (e.rh o.b))) ∧
  (∀ x ∈ ([(.golpinAddi, fun a n => a + x18 n), (.golpinAndi, fun a n => a &&& BitVec.ofNat 32 n),
      (.golpinOri, fun a n => a ||| BitVec.ofNat 32 n), (.golpinXori, fun a n => a ^^^ BitVec.ofNat 32 n)] :
      List ((OpGi → Instr) × (BitVec 32 → Nat → BitVec 32))), ∀ o : OpGi,
    GDoes (x.1 o) s 1 fun k => e.SetsH k o.d (x.2 (e.rh o.a) o.imm)) ∧
  (∀ o : OpGsh, GDoes (.golpinSlli o) s 1 (fun k => e.SetsH k o.d (e.rh o.a <<< o.sh)) ∧
    GDoes (.golpinSrli o) s 1 (fun k => e.SetsH k o.d (e.rh o.a >>> o.sh)) ∧
    GDoes (.golpinSrai o) s 1 (fun k => e.SetsH k o.d ((e.rh o.a).sshiftRight o.sh))) ∧
  (∀ o : OpGlui, GDoes (.golpinLui o) s 1 fun k => e.SetsH k o.d (BitVec.ofNat 32 (o.imm * 2 ^ 14))) ∧
  (∀ x ∈ ([(.golpinBeq, fun a b => decide (a = b)), (.golpinBne, fun a b => decide (a ≠ b)),
      (.golpinBlt, fun a b => decide (a.toInt < b.toInt)), (.golpinBge, fun a b => decide (b.toInt ≤ a.toInt)),
      (.golpinBltu, fun a b => decide (a.toNat < b.toNat)), (.golpinBgeu, fun a b => decide (b.toNat ≤ a.toNat))] :
      List ((OpGb → Instr) × (BitVec 32 → BitVec 32 → Bool))), ∀ o : OpGb,
    exec (x.1 o) s = .next (s.setCurEng (e.goTo 1 (e.pc + if x.2 (e.rh o.a) (e.rh o.b) then o.off else 1))))

/-- R44, R54, R58, R396, R406: the lane instructions write the active lanes of their destination and no other; compares and mask logic
write bits of a j register; LRED combines the active lanes with its start value. The operand b is a lane, or H[b] in every lane. -/
def Obligations.GolpinLanes : Prop := ∀ s : State,
  let e := s.curEng
  let on := fun (jm i : Nat) => (e.rj jm).getLsbD i
  let fp := fun (f : Nat → Nat → Nat × FFlags) (a b : BitVec 32) => BitVec.ofNat 32 (f a.toNat b.toNat).1
  let half := fun (a b : BitVec 32) => BitVec.ofNat 32
    ((bf16.add 0 (a.toNat % 65536) (b.toNat % 65536)).1 + 65536 * (bf16.add 0 (a.toNat / 65536) (b.toNat / 65536)).1)
  (∀ x ∈ ([(.laddVv, .laddVs, fun a b => a + b), (.lsubVv, .lsubVs, fun a b => a - b), (.landVv, .landVs, fun a b => a &&& b),
      (.lorVv, .lorVs, fun a b => a ||| b), (.lxorVv, .lxorVs, fun a b => a ^^^ b),
      (.lminVv, .lminVs, fun a b => BitVec.ofInt 32 (min a.toInt b.toInt)), (.lmaxVv, .lmaxVs, fun a b => BitVec.ofInt 32 (max a.toInt b.toInt)),
      (.lminuVv, .lminuVs, fun a b => BitVec.ofNat 32 (min a.toNat b.toNat)),
      (.lmaxuVv, .lmaxuVs, fun a b => BitVec.ofNat 32 (max a.toNat b.toNat)), (.lmulVv, .lmulVs, fun a b => a * b),
      (.lfaddVv, .lfaddVs, fp (f32.add 0)), (.lfmaxVv, .lfmaxVs, fp (f32.minmax true)), (.lfminVv, .lfminVs, fp (f32.minmax false)),
      (.lbfaddVv, .lbfaddVs, half)] :
      List ((OpGl → Instr) × (OpGl → Instr) × (BitVec 32 → BitVec 32 → BitVec 32))), ∀ o : OpGl,
    GDoes (x.1 o) s 1 (fun k => e.SetsY k o.d (on o.jm) (fun i => x.2.2 (e.ry o.a i) (e.ry o.b i))) ∧
    GDoes (x.2.1 o) s 1 (fun k => e.SetsY k o.d (on o.jm) (fun i => x.2.2 (e.ry o.a i) (e.rh o.b)))) ∧
  (∀ x ∈ ([(.lcmpeq, fun a b => decide (a = b)), (.lcmpne, fun a b => decide (a ≠ b)), (.lcmplt, fun a b => decide (a.toInt < b.toInt)),
      (.lcmpltu, fun a b => decide (a.toNat < b.toNat)), (.lcmpfeq, fun a b => (f32.cmpEq a.toNat b.toNat).1),
      (.lcmpflt, fun a b => (f32.cmpLt a.toNat b.toNat).1), (.lcmpfle, fun a b => (f32.cmpLe a.toNat b.toNat).1)] :
      List ((OpGcmp → Instr) × (BitVec 32 → BitVec 32 → Bool))), ∀ o : OpGcmp,
    GDoes (x.1 o) s 1 (fun k => e.SetsJ k o.d (on o.jm) (fun i => x.2 (e.ry o.a i) (e.ry o.b i)))) ∧
  (∀ x ∈ ([(.jand, fun a b => a && b), (.jor, fun a b => a || b), (.jxor, fun a b => a ^^ b), (.jandinv, fun a b => a && !b)] :
      List ((OpJ3 → Instr) × (Bool → Bool → Bool))), ∀ o : OpJ3,
    GDoes (x.1 o) s 1 (fun k => e.SetsJ k o.d (fun _ => true) (fun i => x.2 (on o.a i) (on o.b i)))) ∧
  (∀ o : OpJtoh, GDoes (.jtoh o) s 1 (fun k => e.SetsH k o.d ((e.rj o.a).setWidth 32)) ∧
    GDoes (.jcount o) s 1 (fun k => e.SetsH k o.d (BitVec.ofNat 32 ((List.range 8).countP (on o.a))))) ∧
  (∀ o : OpHtoj, GDoes (.htoj o) s 1 (fun k => e.SetsJ k o.d (fun _ => true) (fun i => (e.rh o.a).getLsbD i))) ∧
  (∀ o : OpGbcst, GDoes (.lbcst o) s 1 (fun k => e.SetsY k o.d (on o.jm) (fun _ => e.rh o.a))) ∧
  (∀ o : OpGlane, o.lane < 8 → GDoes (.lext o) s 1 (fun k => e.SetsH k o.d (e.ry o.a o.lane)) ∧
    GDoes (.lins o) s 1 (fun k => e.SetsY k o.d (fun i => decide (i = o.lane)) (fun _ => e.rh o.a))) ∧
  (∀ o : OpGl,
    let l := ((List.range 8).filter (on o.jm)).map (fun i => e.ry o.a i)
    let b := e.rh o.b
    let tree := fun (f : Nat → Nat → Nat × FFlags) => BitVec.ofNat 32 (foldTree f b.toNat (l.map (·.toNat)) 4).1
    GDoes (.lredadd o) s 3 (fun k => e.SetsH k o.d (b + BitVec.ofNat 32 (l.map (·.toNat)).sum)) ∧
    GDoes (.lredmax o) s 3 (fun k => e.SetsH k o.d (BitVec.ofInt 32 ((l.map (·.toInt)).foldl max b.toInt))) ∧
    GDoes (.lredmaxu o) s 3 (fun k => e.SetsH k o.d (BitVec.ofNat 32 ((l.map (·.toNat)).foldl max b.toNat))) ∧
    GDoes (.lredfadd o) s 3 (fun k => e.SetsH k o.d (tree (f32.add 0))) ∧
    GDoes (.lredfmax o) s 3 (fun k => e.SetsH k o.d (tree (f32.minmax true))) ∧
    GDoes (.lredfmin o) s 3 (fun k => e.SetsH k o.d (tree (f32.minmax false))))

/-- R399 to R401, R407 to R412: window and state accesses, PFRESH, LOOP, the emits, and the ends of a kernel, with their trap causes: 2 for a
state address, 3 for a window address, 4 for a forward out of the flow's window or longer than the packet, 5 for an emit outside the
owner's ranges, 6 for too many stores or emits, 7 for a reply to a write, 8 for an uncorrectable word, 9 for KTRAP.
The healing of a poisoned word by one store that covers it whole is log 57. Rests on the log, entries 53, 54, 55 and 57. -/
def Obligations.GolpinPackets : Prop := ∀ s : State,
  let e := s.curEng
  let f := s.flowOf s.eng
  let addr := fun (o : OpGi) => (e.rh o.a + (BitVec.ofNat 18 o.imm).signExtend 32).toNat
  let traps := fun (i : Instr) (cause cost : Nat) => exec i s = .next (s.gTrap s.eng cause 0 cost)
  let answered := fun (u : State) => (.next (u.gCommit u.eng 1) : Res)
  let writes := fun (k : Engine) (a : Nat) (bs : List Byte) => { k with window := e.window } = e ∧
    ∀ b, k.winByte b = if a ≤ b ∧ b < a + bs.length then bs.getD (b - a) 0 else e.winByte b
  let word := fun (a i : Nat) => BitVec.ofNat 32 (leNat (e.winRead (a + 4 * i) 4))
  let settable := fun (a n : Nat) => 0x40 ≤ a ∨ (n = 4 ∧ (a = 0 ∨ a = 4 ∨ a = 0x0C))
  let inside := fun (a n : Nat) => a % n = 0 ∧ a + n ≤ 0x140
  let base := f.stbase * 64 + if f.ctl.testBit 4 then 4608 else 0
  let held := fun (a n : Nat) => a % n = 0 ∧ base + a + n ≤ (f.stbase + f.stlen) * 64
  let stored := fun (k : Engine) (a : Nat) (bs : List Byte) => k = { e with stores := k.stores, whole := k.whole } ∧
    (∀ w, shas k.whole w = (shas e.whole w || (decide ((base + a) / 8 ≤ w) && decide (w < (base + a) / 8 + bs.length / 8)))) ∧
    ∀ b, k.stByte b = if base + a ≤ b ∧ b < base + a + bs.length then bs.getD (b - (base + a)) 0 else e.stByte b
  let fixed := fun (a n : Nat) => e.correctAt (base + a) n (Config.freeWord s.tick 8).toNat
  let room := fun (a n : Nat) => (stLines (e.stores ++ (List.range n).map (fun i => (base + a + i, (0 : Byte))))).length ≤ 32
  (∀ o : OpGi, let a := addr o
    (inside a 4 → GDoes (.pld o) s 1 (fun k => e.SetsH k o.d (word a 0))) ∧ (¬ inside a 4 → traps (.pld o) 3 1) ∧
    (inside a 4 → settable a 4 → GDoes (.pst o) s 1 (fun k => writes k a (natLe 4 (e.rh o.d).toNat))) ∧
    (¬ (inside a 4 ∧ settable a 4) → traps (.pst o) 3 1) ∧
    (inside a 32 → GDoes (.pldl o) s 1 (fun k => e.SetsY k o.d (fun _ => true) (word a))) ∧ (¬ inside a 32 → traps (.pldl o) 3 1) ∧
    (inside a 32 → settable a 32 → GDoes (.pstl o) s 1 (fun k => writes k a (e.yBytes o.d))) ∧
    (¬ (inside a 32 ∧ settable a 32) → traps (.pstl o) 3 1)) ∧
  (∀ a n, (e.stSingle (base + a) n = false → fixed a n = e) ∧
    (e.stSingle (base + a) n = true → e.busy = true → e.cyc < 512 →
      e.cyc < (fixed a n).cyc ∧ (fixed a n).cyc ≤ 512 ∧ { fixed a n with cyc := e.cyc, single := e.single } = e) ∧
    (0 < n → (fixed a n).stSingle (base + a) n = false)) ∧
  (∀ o : OpGi, let a := addr o
    let bytes := fun (n i : Nat) => BitVec.ofNat 32 (leNat ((List.range n).map (fun j => e.stByte (base + a + 4 * i + j))))
    (held a 4 → e.stBad (base + a) 4 = false → GDoes (.sld o) s 2 (fun k => (fixed a 4).SetsH k o.d (bytes 4 0))) ∧
    (held a 32 → e.stBad (base + a) 32 = false → GDoes (.sldl o) s 2 (fun k => (fixed a 32).SetsY k o.d (fun _ => true) (bytes 4))) ∧
    (held a 4 → e.stBad (base + a) 4 = true → traps (.sld o) 8 2) ∧ (held a 32 → e.stBad (base + a) 32 = true → traps (.sldl o) 8 2) ∧
    (¬ held a 4 → traps (.sld o) 2 2 ∧ traps (.sst o) 2 1) ∧ (¬ held a 32 → traps (.sldl o) 2 2 ∧ traps (.sstl o) 2 1) ∧
    (held a 4 → room a 4 → GDoes (.sst o) s 1 (fun k => stored k a (natLe 4 (e.rh o.d).toNat))) ∧
    (held a 32 → room a 32 → GDoes (.sstl o) s 1 (fun k => stored k a (e.yBytes o.d))) ∧
    (held a 4 → ¬ room a 4 → traps (.sst o) 6 1) ∧ (held a 32 → ¬ room a 32 → traps (.sstl o) 6 1)) ∧
  (∀ o : OpPfresh, let g := (e.rh o.a + (BitVec.ofNat 18 o.imm).signExtend 32).toNat
    let fresh := fun (n : Nat) => (leNat (e.winRead 0x30 16)).testBit n
    let esz := (e.winByte 0x13).toNat
    GDoes (.pfresh o) s 1 (fun k => e.SetsJ k o.d (fun _ => true) (fun i =>
      if esz = 8 then fresh (4 * g + i / 2) else if esz = 2 then fresh (16 * g + 2 * i) && fresh (16 * g + 2 * i + 1)
      else fresh (8 * g + i)))) ∧
  (∀ o : OpLoop, let n := min (e.rh o.a).toNat o.max
    (n = 0 → exec (.golpinLoop o) s = .next (s.setCurEng (e.goTo 1 (e.pc + 1 + o.len)))) ∧
    (n ≠ 0 → exec (.golpinLoop o) s = .next (s.setCurEng { e with
      loops := { start := e.pc + 1, stop := e.pc + 1 + o.len, left := n } :: e.loops, pc := e.pc + 1, cyc := min 512 (e.cyc + 1) }))) ∧
  (∀ o : OpEmit,
    let n := 32 * (o.n + 1)
    let src := (e.rh o.b).toNat
    let dest := (e.rh (o.a + 1)).toNat * 2 ^ 32 + (e.rh o.a).toNat
    let allowed := ∃ i r, i < 4 ∧ tfind (s.block (s.eng / 8)).ranges (4 * f.owner + i) = some r ∧ r.1 ≤ dest ∧ dest + n ≤ r.1 + r.2
    let sends := fun (e k : Engine) (bs : List Byte) => k = { e with emits := e.emits ++ [{ dest := dest, owner := f.owner, bytes := bs }] }
    let win := src % 32 = 0 ∧ src + n ≤ 256
    let st := src % 32 = 0 ∧ base + src + n ≤ (f.stbase + f.stlen) * 64
    (win → allowed → e.emits.length < 4 → GDoes (.emitWin o) s 4 (fun k => sends e k (e.winRead (0x40 + src) n))) ∧
    (st → e.stBad (base + src) n = false → allowed → e.emits.length < 4 →
      GDoes (.emitSt o) s 4 (fun k => sends (fixed src n) k (bytesAt n e.stByte (base + src)))) ∧
    (¬ win → traps (.emitWin o) 3 4) ∧ (¬ st → traps (.emitSt o) 2 4) ∧
    (win → ¬ allowed → traps (.emitWin o) 5 4) ∧ (win → allowed → 4 ≤ e.emits.length → traps (.emitWin o) 6 4)) ∧
  (∀ x, e.cur = some x →
    let p := { x.pkt with addr := e.winAddr, len := e.winLen, data := e.winRead 0x40 256 }
    let out := e.winAddr &&& f.mask ≠ f.base ∨ x.pkt.len < e.winLen ∨ (x.pkt.kind = 3 ∧ e.winLen % x.pkt.esz ≠ 0)
    (out → traps .fwd 4 1) ∧
    (¬ out → ∀ s', s.deliver (s.eng / 8) f.owner p x.fresh = some s' → exec .fwd s = .next (s'.gCommit s'.eng 1)) ∧
    (¬ out → s.deliver (s.eng / 8) f.owner p x.fresh = none → exec .fwd s = .next (s.setCurEng { e with cyc := min 512 (e.cyc + 1) })) ∧
    exec .golpinDrop s = answered (s.answerTo x.pkt (if x.pkt.kind = 0 ∨ x.pkt.kind = 3 then 0 else 1) []) ∧
    (x.pkt.kind = 0 ∨ x.pkt.kind = 3 → traps .reply 7 1) ∧
    (x.pkt.kind ≠ 0 → x.pkt.kind ≠ 3 → exec .reply s =
      answered (s.answerTo x.pkt 0 (e.winRead 0x40 (if x.pkt.kind = 1 then min e.winLen 256 else 8)))) ∧
    (∀ u : State, u.engine s.eng = e →
      let m := (u.marked s.eng).engine s.eng
      m.Committed ((u.gCommit s.eng 1).engine s.eng) 1 ∧ (x.pkt.kind ≠ 3 → m = e) ∧
      (x.pkt.kind = 3 → m = e.putRecord (u.flowOf s.eng) x.pkt.bobbin ((e.record (u.flowOf s.eng) x.pkt.bobbin).mark x.pkt x.fresh)))) ∧
  (∀ k : Engine, ((∀ w ∈ e.single, w ∈ k.single) → s.logCorrections k = s) ∧
    ∀ w, e.single = [w] → w ∉ k.single → s.logCorrections k = s.errorRecord logCorrected (2 ^ 32 * s.eng + 8 * w)) ∧
  (∀ o : OpKtrap, exec (.ktrap o) s = .next (s.gTrap s.eng 9 o.imm 1)) ∧
  (∀ (k : Engine) (cost next : Nat),
    (k.loops = [] → k.goTo cost next = { k with pc := next, cyc := min 512 (k.cyc + cost) }) ∧
    (∀ l r, k.loops = l :: r →
      (next ≠ l.stop → k.goTo cost next = { k with pc := next, cyc := min 512 (k.cyc + cost) }) ∧
      (next = l.stop → 1 < l.left →
        k.goTo cost next = { k with loops := { l with left := l.left - 1 } :: r, pc := l.start, cyc := min 512 (k.cyc + cost) }) ∧
      (next = l.stop → l.left ≤ 1 → k.goTo cost next = { k with loops := r }.goTo cost next)))

/-! Device events and control messages -/

/-- A control message with this code has its turn (R430): the service connection is open, no message before it waits for a shoot-down or a
drain, the received message that is next, if one waits, has this code, and no other message has begun. `m` is the message itself where it
may have begun and wait for its end. -/
def Served (s : State) (code : Nat) (m : Option HeldMsg := none) : Prop :=
  (s.conn 0).opened = true ∧ (s.conn 0).failed = false ∧ (∀ k ∈ s.shoots, k.2.root = none) ∧ (∀ p ∈ s.parts, p.2.owed = none) ∧
  (s.ctlIn = [] ∨ ∃ r, s.ctlIn = code :: r) ∧ (s.ctlHeld = none ∨ m ≠ none ∧ s.ctlHeld = m)

/-- The message acts: the machine is as `u` says, and the answer has status 0; without its condition it is answered with status 6 and
changes nothing else. Before the service connection is open it waits. -/
def Message (i : Instr) (s : State) (code : Nat) (ok : Prop) (u : State) (m : Option HeldMsg := none) : Prop :=
  (Served s code m → ok → exec i s = .next (u.ctlAnswer code 0 [])) ∧
  (Served s code m → ¬ ok → exec i s = .next (s.ctlAnswer code 6 [])) ∧ ((s.conn 0).opened = false → exec i s = .next s)

/-- The message reads: its answer carries `data`. -/
def Query (i : Instr) (s : State) (code : Nat) (ok : Prop) (data : List Nat) : Prop :=
  (Served s code → ok → exec i s = .next (s.ctlAnswer code 0 data)) ∧
  (Served s code → ¬ ok → exec i s = .next (s.ctlAnswer code 6 [])) ∧ ((s.conn 0).opened = false → exec i s = .next s)

/-- R93, R148, R185, R193, R195, R199, R214, R216 to R218, R220, R225, R397, R402 to R404, R415, R428 to R430, R432, R434, R442: the device-control messages:
when each acts, what it then changes, and what it answers. The answer is a packet of TYPE 5 on the service connection with the status,
under the next sequence number; it stays unacknowledged. An answer ends its message; the received messages that come next and whose codes
are unknown are then answered with status 7, and no other part of the machine changes. A message that waits for the end of its effect holds
the others. Rests on the log, entries 8, 54, 56, 64, 65, 67 and 69. -/
def Obligations.DeviceControl : Prop := ∀ s : State,
  let inTier := fun (base len : Nat) => dramRange base len = true
  let counts := fun (n prod cons : Nat) => cons ≤ prod ∧ prod - cons ≤ 2 ^ n
  let digest := Config.digest s.bootImage
  let words := [4, 1, 0x3FFF, Config.identity 0, digest, Config.identity 2]
  let report := fun (nonce : Nat) => [nonce, 4, 1, 0x3FFF, s.pkgNum.getD 0, digest, s.gtime]
  Query .identity s 0x01 True (words ++ [Config.sign words]) ∧
  (∀ o : OpNonce, Query (.attestation o) s 0x02 (o.nonce < 2 ^ 256) (report o.nonce ++ [Config.sign (report o.nonce)])) ∧
  (∀ o : OpNumber, Message (.setPackageNumber o) s 0x10 (s.pkgNum = none ∧ o.n < 1024) { s with pkgNum := some o.n }) ∧
  (∀ o : OpPhase, Message (.setPillarPhase o) s 0x10 (o.p < 16 ∧ o.phi < 3840) (s.setPillar o.p { s.pillar o.p with phi := o.phi })) ∧
  (∀ o : OpNs, Message (.setGtime o) s 0x10 (s.gtimeSet = false ∧ o.ns < 2 ^ 64) { s with gtime := o.ns, gtimeSet := true }) ∧
  (∀ o : OpNumber, Message (.setTimeMaster o) s 0x10 (o.n < 1024)
    (let t := { s with timeMaster := some o.n, goodMsgs := 0, locked := false }
     if s.timeMaster = some o.n then s else if s.locked then t.traceClock.reportLock else t)) ∧
  (∀ o : OpBase, Message (.setQueueTableBase o) s 0x10 (inTier o.base (4096 * 64)) { s with queueBase := some o.base }) ∧
  (∀ o : OpRing, Message (.configureFaultRing o) s 0x10 (inTier o.base (64 * 2 ^ o.n) ∧ counts o.n o.prod o.cons)
      { s with faultRing := some (newRing s.faultRing o.base o.n 0 o.prod o.cons) } ∧
    Message (.configureErrorLog o) s 0x10 (inTier o.base (32 * 2 ^ o.n) ∧ counts o.n o.prod o.cons)
      { s with errorLog := some (newRing s.errorLog o.base o.n 0 o.prod o.cons) }) ∧
  (∀ o : OpTraceRing, Message (.configureTraceRing o) s 0x10
    ((tfind s.parts o.part).isSome = true ∧ o.base + 32 * 2 ^ o.n ≤ 2 ^ 64 ∧ counts o.n o.prod o.cons)
    { s with traceRings := tput s.traceRings o.part (newRing (tfind s.traceRings o.part) o.base o.n o.mask o.prod o.cons) }) ∧
  (∀ o : OpNumber, Message (.writeGalarb o) s 0x10 (o.n / 2 ^ 24 % 256 ≠ 0)
    { s with galarb := o.n / 2 ^ 24 % 256 * 2 ^ 24 + o.n % 65536 }) ∧
  (∀ o : OpSlot, Query (.readWdt o) s 0x10 (o.slot < 64) [s.wdt o.slot]) ∧
  (∀ o : OpEngine, let k := s.engine o.e
    Query (.readGestat o) s 0x10 (o.e < 32)
      [k.pkts * 2 ^ 40 + k.traps * 2 ^ 32 + k.flow * 2 ^ 20 + k.kslot * 2 ^ 14 + k.cyc * 16 + if k.busy then 1 else 0]) ∧
  Query .readEnergyCounter s 0x10 True [s.energy / 1000] ∧
  (∀ o : OpPillar, Query (.readCutwork o) s 0x10 (o.p < 16) ((List.range 12).map (fun j =>
    let k := s.cut (12 * o.p + j)
    k.hsa * 1024 + k.hsb * 32 + k.gw * 8 + (if k.dorm then 4 else 0) + (if k.head then 2 else 0) + if k.good then 1 else 0))) ∧
  (∀ o : OpGang, let cs := s.touched o.p o.first o.width
    let legal := o.p < 16 ∧ (o.width = 1 ∨ o.width = 2 ∨ o.width = 4) ∧ o.first % o.width = 0 ∧ o.first + o.width ≤ 12 ∧
      s.gangHeld cs = false
    (s.gangBusy cs = false → Message (.gangChange o) s 0x10 legal (s.regroup o.p o.first o.width) (some (.gang o))) ∧
    (Served s 0x10 (some (.gang o)) → legal → s.gangBusy cs = true → exec (.gangChange o) s = .next (s.ctlWait 0x10 (.gang o)))) ∧
  (∀ o : OpKernel, let k := s.engine o.e
    let named := o.e < 32 ∧ o.slot < 64 ∧ o.owner < 64
    let mine := Served s 0x10 (some (.load o))
    let fault := kernelFault o.words (k.room o.slot) (k.slotOk o.slot o.owner)
    (mine → ¬ named → exec (.golpinLoadKernel o) s = .next (s.ctlAnswer 0x10 6 [])) ∧
    (∀ i c, mine → named → fault = some (i, c) → exec (.golpinLoadKernel o) s = .next (s.ctlAnswer 0x10 6 [i, c])) ∧
    (mine → named → fault = none → s.kernelBusy o.e o.slot = true →
      exec (.golpinLoadKernel o) s = .next (s.ctlWait 0x10 (.load o))) ∧
    (mine → named → fault = none → s.kernelBusy o.e o.slot = false → exec (.golpinLoadKernel o) s =
      .next ((s.setEngine o.e { k.stall (Config.freeWord s.tick o.e).toNat with
        kernels := tput k.kernels o.slot { owner := o.owner, words := o.words } }).ctlAnswer 0x10 0 []))) ∧
  (∀ o : OpKernelSlot, let k := s.engine o.e
    (s.kernelBusy o.e o.slot = false → Message (.golpinUnloadKernel o) s 0x10 (o.e < 32 ∧ o.slot < 64)
      (s.setEngine o.e { k with kernels := tdel k.kernels o.slot }) (some (.unload o))) ∧
    (Served s 0x10 (some (.unload o)) → o.e < 32 → o.slot < 64 → s.kernelBusy o.e o.slot = true →
      exec (.golpinUnloadKernel o) s = .next (s.ctlWait 0x10 (.unload o)))) ∧
  (∀ o : OpFlow,
    let legal := o.blk < 4 ∧ o.idx < 4096 ∧ s.flowOk o.blk o.idx o.entry = true
    (s.flowBusy o.blk o.idx = false → Message (.golpinWriteFlowEntry o) s 0x10 legal (s.putFlow o.blk o.idx o.entry) (some (.flow o))) ∧
    (Served s 0x10 (some (.flow o)) → legal → s.flowBusy o.blk o.idx = true →
      exec (.golpinWriteFlowEntry o) s = .next (s.ctlWait 0x10 (.flow o)))) ∧
  (∀ o : OpEmitRange, let b := s.block o.blk
    Message (.golpinSetEmitRange o) s 0x10 (o.blk < 4 ∧ o.owner < 64 ∧ o.idx < 4)
      (s.setBlock o.blk { b with ranges := (if o.len = 0 then tdel b.ranges (4 * o.owner + o.idx)
        else tput b.ranges (4 * o.owner + o.idx) (o.base, o.len)) })) ∧
  (∀ o : OpEventArea, let b := s.block o.blk
    (o.base = 0 ∧ o.n = 0 → Message (.golpinSetEventArea o) s 0x10 (o.blk < 4 ∧ ∀ f ∈ b.flows, f.2.owner ≠ o.owner)
      (s.setBlock o.blk { b with areas := tdel b.areas o.owner })) ∧
    (¬ (o.base = 0 ∧ o.n = 0) → Message (.golpinSetEventArea o) s 0x10
      (o.blk < 4 ∧ o.owner < 64 ∧ 4 ≤ o.n ∧ o.n ≤ 12 ∧ o.base % 4096 = 0 ∧ counts o.n o.prod o.cons)
      (s.setBlock o.blk { b with areas := (tput b.areas o.owner (EventArea.mk o.base o.n o.prod o.cons (match tfind b.areas o.owner with
            | some a => if a.base = o.base then a.lost else 0
            | none => 0))) }))) ∧
  (∀ o : OpRecord, let b := s.block o.blk
    let does := Message (.closeReductionRecord o) s 0x10 (o.blk < 4 ∧ o.b < 8)
    (o.cached = true → does (s.setBlock o.blk
      { b with cache := b.cache.map (fun x => if x.1 = cacheKey o.a o.sender o.b then (x.1, { x.2 with total := 0 }) else x) })) ∧
    (o.cached = false → ((∀ f, tfind b.flows o.a = some f → f.ctl.testBit 4 = false) → does s) ∧
      ∀ f, tfind b.flows o.a = some f → f.ctl.testBit 4 = true →
        let e := 8 * o.blk + f.engine
        does (s.setEngine e ((s.engine e).putState (f.stbase * 64 + 576 * o.b + 8) [0, 0, 0, 0])))) ∧
  (∀ o : OpOpen, Message (.openConnection o) s 0x10
    (1 ≤ o.conn ∧ o.conn < 256 ∧ o.owner < 64 ∧ o.base + o.len ≤ 2 ^ 64 ∧ o.hostLen ≤ 2 ^ 42 ∧ (s.conn o.conn).opened = false)
    (s.setConn o.conn { Conn.reset with opened := true, owner := o.owner, base := o.base, len := o.len, rd := o.rd, wr := o.wr
                                        hostLen := o.hostLen })) ∧
  (∀ o : OpConn, let k := s.conn o.conn
    let busy := s.hostWaits o.conn ≠ [] ∨ (k.failed = false ∧ k.inq ≠ [])
    (¬ busy → Message (.closeConnection o) s 0x10 (o.conn ≠ 0 ∧ k.opened = true)
      { s.setConn o.conn Conn.reset with ethIn := s.ethIn - k.inq.length } (some (.close o))) ∧
    (Served s 0x10 (some (.close o)) → o.conn ≠ 0 → k.opened = true → busy →
      exec (.closeConnection o) s = .next ((s.setConn o.conn { k with closing := true }).ctlWait 0x10 (.close o)))) ∧
  (∀ (code : Nat) (m : HeldMsg), { s.ctlWait code m with ctlIn := s.ctlIn, ctlHeld := s.ctlHeld } = s ∧
    (s.ctlWait code m).ctlHeld = some m ∧ (s.ctlWait code m).ctlIn = if s.ctlIn = [] then [code] else s.ctlIn) ∧
  (∀ (code status : Nat) (data : List Nat),
    let t := s.ctlReply code status data
    let k := s.conn 0
    let u := { s with ctlIn := s.ctlIn.tail, ctlHeld := none }.ctlReply code status data
    ((∀ c r, s.ctlIn.tail = c :: r → ctlKnown c = true) → s.ctlAnswer code status data = u) ∧
    (∀ c r, s.ctlIn.tail = c :: r → ctlKnown c = false →
      s.ctlAnswer code status data = ({ u with ctlIn := r }.ctlReply c 7 []).ctlUnknown) ∧
    t.answers = s.answers ++ [{ code := code, status := status, data := data }] ∧
    (t.conn 0).nextSeq = (k.nextSeq + 1) % 2 ^ 32 ∧
    (t.conn 0).outq = k.outq ++ [{ pkt := { ver := 1, type := 5, conn := 0, seq := k.nextSeq, ack := k.expect, len := 0, addr := 0
                                            status := status, rsvd := 0, data := [] }, sends := 1, since := s.gtime }] ∧
    { t.conn 0 with nextSeq := k.nextSeq, outq := k.outq } = k ∧ (∀ c, c ≠ 0 → t.conn c = s.conn c) ∧
    { t with answers := s.answers, conns := s.conns } = s)

/-- R34, R147, R148, R169, R182, R196, R244, R246, R247, R430, R431, R439, R441, R444: the messages about partitions, queues, owners, power, drains and
pre-empted tasks. A message about a task is refused when it is not live or is placed, and busy while its context is being saved.
A refused container is answered with the number of its reason (log 79); repair items have the numbers of log 88. Rests on the log, entries 3,
8, 61, 66, 68, 70, 79 and 88. -/
def Obligations.ManagementControl : Prop := ∀ s : State,
  let saved := fun (i : Instr) (code task : Nat) =>
    (Served s code → tfind s.saved task = none → exec i s = .next (s.ctlAnswer code 6 [])) ∧
    (∀ v, Served s code → tfind s.saved task = some v → v.saving = true → exec i s = .next (s.ctlAnswer code 5 []))
  (∀ o : OpPartition, let p := s.part o.part
    let pool := o.pool.getD (p.poolBase, p.poolLen)
    Message (.partitionControl o) s 0x11 (s.partitionOk o = true) (s.setPart o.part { p with
      owner := o.owner.getD p.owner, cores := (o.cores.getD p.cores).foldl sadd [], grant := o.grant.getD p.grant
      poolBase := pool.1, poolLen := pool.2, agestep := o.agestep.getD p.agestep })) ∧
  (∀ o : OpQueueNo,
    let t := ((s.qCtlBit o.q 24 false).qCtlBit o.q 25 false).qCtlBit o.q 0 true
    (s.slotOf o.q = none → Message (.queueEnable o) s 0x12 (s.queueOk o.q = true) t) ∧
    (∀ n, s.slotOf o.q = some n → Message (.queueEnable o) s 0x12 (s.queueOk o.q = true) (t.remap n o.q)) ∧
    Message (.queueDisable o) s 0x12 (s.queueBase.isSome = true ∧ o.q < 4096) (s.disableQueue o.q)) ∧
  (∀ o : OpRoot,
    let legal := o.owner < 64 ∧ o.root % 2 ^ 21 = 0 ∧ o.root < 2 ^ 52
    let r := s.setOwner o.owner { s.owner o.owner with root := o.root }
    let shot := r.shootAll o.owner none
    let held := shot.heldTlbs o.owner none
    (s.lockstep = true → held = [] → Message (.setRoot o) s 0x13 legal shot) ∧
    (s.lockstep = true → held ≠ [] → Served s 0x13 → legal → exec (.setRoot o) s = .next ({ shot with
      shoots := tput shot.shoots shot.shootNext { owner := o.owner, page := none, toReceive := [], toAck := held, root := some o.root }
      shootNext := shot.shootNext + 1 }.ctlOwe 0x13)) ∧
    (s.lockstep = false → Served s 0x13 → legal → ∃ t : State, exec (.setRoot o) s = .next t ∧ (t.owner o.owner).root = o.root ∧
      tfind t.shoots s.shootNext = some { owner := o.owner, page := none, toReceive := List.range 209, toAck := List.range 209
                                          root := some o.root } ∧
      t.ctlIn = (if s.ctlIn = [] then [0x13] else s.ctlIn) ∧
      { t with owners := s.owners, shoots := s.shoots, shootNext := s.shootNext, ctlIn := s.ctlIn } = s)) ∧
  (∀ o : OpRouting, Message (.setTrapRouting o) s 0x13 (o.owner < 64 ∧ o.table < 2 ^ 128)
    (s.setOwner o.owner { s.owner o.owner with routing := o.table })) ∧
  (∀ o : OpKeys, let w := s.owner o.owner
    let free := (∀ p ∈ s.parts, p.2.owner ≠ o.owner) ∧ s.ownerLive o.owner = false ∧ o.owner < 64
    (Served s 0x13 → ¬ free ∨ Config.oaep o.cipher = none → exec (.installOwnerKeys o) s = .next (s.ctlAnswer 0x13 6 [])) ∧
    (∀ key, Served s 0x13 → free → Config.oaep o.cipher = some key → exec (.installOwnerKeys o) s =
      .next ((s.setOwner o.owner { w with keyVer := w.keyVer + 1, exportKey := key / 2 ^ 512 % 2 ^ 256 }).ctlAnswer 0x13 0 []))) ∧
  (∀ o : OpGrant, (o.cap = none → Message (.setPowerGrant o) s 0x14 ((tfind s.parts o.part).isSome = true)
      (s.setPart o.part { s.part o.part with grant := o.mw })) ∧
    (∀ c, o.cap = some c → Message (.setPowerGrant o) s 0x14 (c ≤ 2400000) { s with cap := c })) ∧
  (∀ o : OpCore, let k := s.core o.c
    let held := fun (saving : Bool) => s.coreHolds o.c saving
    let gates := Served s 0x14 (some (.gate o))
    let ungates := Served s 0x14 (some (.ungate o))
    (gates → s.isCore o.c = false ∨ held false = true → exec (.gateCore o) s = .next (s.ctlAnswer 0x14 6 [])) ∧
    (gates → s.isCore o.c = true → held false = false → k.gate = .gated → exec (.gateCore o) s = .next (s.ctlAnswer 0x14 0 [])) ∧
    (gates → s.isCore o.c = true → held true = false → k.gate = .on →
      exec (.gateCore o) s = .next ((s.setCore o.c { k with gate := .quiescing }).ctlWait 0x14 (.gate o))) ∧
    (gates → s.isCore o.c = true → held false = false → (held true = true ∧ k.gate = .on) ∨ k.gate = .quiescing →
      exec (.gateCore o) s = .next (s.ctlWait 0x14 (.gate o))) ∧
    (ungates → s.isCore o.c = false → exec (.ungateCore o) s = .next (s.ctlAnswer 0x14 6 [])) ∧
    (ungates → s.isCore o.c = true → k.gate = .on → exec (.ungateCore o) s = .next (s.ctlAnswer 0x14 0 [])) ∧
    (ungates → s.isCore o.c = true → k.gate = .quiescing → exec (.ungateCore o) s = .next (s.ctlWait 0x14 (.ungate o))) ∧
    (ungates → s.isCore o.c = true → k.gate = .gated → o.c < 192 → ∃ t : State, exec (.ungateCore o) s = .next t ∧ (t.core o.c).gate = .on ∧
      (∀ owner a, a < 2 ^ 24 → t.spadByte owner o.c a = 0 ∧ t.isFull owner o.c a = false) ∧
      (∀ owner c a, c ≠ o.c → a < 2 ^ 24 → t.spadByte owner c a = s.spadByte owner c a ∧ t.isFull owner c a = s.isFull owner c a))) ∧
  (∀ o : OpPart,
    let some' := (tfind s.parts o.part).isSome = true
    (Served s 0x15 → ¬ some' → exec (.partitionDrainSave o) s = .next (s.ctlAnswer 0x15 6 []) ∧
      exec (.partitionDrainEnd o) s = .next (s.ctlAnswer 0x15 6 [])) ∧
    (∀ x ∈ [(Instr.partitionDrainSave o, false), (.partitionDrainEnd o, true)], Served s 0x15 → some' →
      let r := s.drain o.part x.2
      let t := r.1.setPart o.part { r.1.part o.part with owed := some r.2 }
      let stops := (∃ y ∈ t.threads, y.2.slot ≠ .free ∧ y.2.info.part = o.part ∧ y.2.stopReq ≠ none) ∨
        ∃ y ∈ t.remotes, ∃ a b c, y.2.src = .update o.part a b c
      (stops → exec x.1 s = .next (t.ctlOwe 0x15)) ∧
      (¬ stops → exec x.1 s = .next ((t.setPart o.part { r.1.part o.part with owed := none }).ctlAnswer 0x15 0 [r.2]))) ∧
    Message (.partitionReset o) s 0x16 (some' ∧ ∀ x ∈ s.threads, x.2.live = true → x.2.info.part ≠ o.part) (s.resetPart o.part)) ∧
  (∀ o : OpRepair, saved (.contextRepair o) 0x17 o.task ∧
    (∀ v, Served s 0x17 → tfind s.saved o.task = some v → v.saving = false →
      (v.repair[o.item]? = none → exec (.contextRepair o) s = .next (s.ctlAnswer 0x17 6 [])) ∧
      (∀ kind key, v.repair[o.item]? = some (kind, key) →
        let r := s.repairItem v kind key o.value
        exec (.contextRepair o) s =
          .next (({ r.1 with saved := tput r.1.saved o.task { r.2 with repair := v.repair.eraseIdx o.item } }.putContainer o.task).ctlAnswer
            0x17 0 [])))) ∧
  (∀ o : OpTask, saved (.contextExport o) 0x17 o.task ∧ saved (.taskResume o) 0x18 o.task ∧ saved (.taskEnd o) 0x18 o.task ∧
    (∀ v, Served s 0x17 → tfind s.saved o.task = some v → v.saving = false →
      exec (.contextExport o) s = .next (s.ctlAnswer 0x17 0 [Config.gcmSeal (s.owner v.thr.owner).exportKey v])) ∧
    (∀ v, Served s 0x18 → tfind s.saved o.task = some v → v.saving = false →
      exec (.taskEnd o) s = .next ((s.endSaved o.task).ctlAnswer 0x18 0 []) ∧
      (v.refused = true ∨ (s.part v.thr.info.part).drained = true → exec (.taskResume o) s = .next (s.ctlAnswer 0x18 6
        (if v.refused then [v.reason.getD 0] else []))) ∧
      (v.refused = false → (s.part v.thr.info.part).drained = false → ∃ t : State, exec (.taskResume o) s = .next (t.ctlAnswer 0x18 0 []) ∧
        { t with saved := s.saved } = s ∧
        ∀ k, tfind t.saved k = (tfind s.saved k).map (fun x =>
          if k = o.task ∨ (v.thr.withCohort = true ∧ x.thr.withCohort = true ∧ x.thr.info.run = v.thr.info.run) then
            { x with ready := true } else x)))) ∧
  (∀ o : OpImport, saved (.contextImport o) 0x17 o.task ∧
    (∀ v, Served s 0x17 → tfind s.saved o.task = some v → v.saving = false →
      let opened := Config.gcmOpen (s.owner v.thr.owner).exportKey o.blob
      (opened = none → exec (.contextImport o) s = .next (s.ctlAnswer 0x17 6 [])) ∧
      (∀ new, opened = some new → exec (.contextImport o) s =
        .next (({ s with saved := tput s.saved o.task (new.adopt v) }.putContainer o.task).ctlAnswer 0x17 0 []))))

/-! Events of the machine -/

/-- The event changes nothing: what it waits for has not come. -/
def Passes (i : Instr) (s : State) : Prop := exec i s = .next s

/-- R134, R233, R245, R363, R382, R413, R436: what the answer `a` to a request of `src` comes to. `v` is the machine after it, `u` before. -/
def Answers (u : State) (src : RemoteFrom) (a : RemoteAnswerMsg) (v : State) : Prop :=
  let frozen := fun (h bn code va : Nat) => u.traceRings = [] →
    ((v.thr h).bobbin bn).stat = { ((u.thr h).bobbin bn).stat with state := 2, fcode := BitVec.ofNat 16 code } ∧
    ∃ p, (v.thr h).pend = (u.thr h).pend ++ [p] ∧ p.src = 3 ∧ p.code = code ∧ p.cmd = bn ∧ p.tval = toW va
  match src with
  | .scalar h => let t := u.thr h
    (t.wait = .remote → t.remote = none → v = u.setThr h { t with
      remote := some (if a.err.isSome then (false, 13) else if a.gated = [] then (true, (tfind a.values 0).getD 0) else (false, 12)) }) ∧
    (t.wait ≠ .remote ∨ t.remote ≠ none → v = u)
  | .vector h cmd idxs => let t := u.thr h
    let mine := t.viq.find? (fun e => decide (e.cmd = cmd) && decide (e.sent ≠ 0))
    (mine = none → v = u) ∧
    (∀ e, mine = some e → v = u.setThr h { t with viq := t.viq.map (fun x => if x.cmd = cmd then { e with
      sent := e.sent - 1
      kept := if a.err.isSome then e.kept else idxs.foldl sadd e.kept
      answer := { err := firstIdx e.answer.err a.err, gated := e.answer.gated ++ a.gated, values := e.answer.values ++ a.values } } else x) })
  | .bobbin h bn => let t := u.thr h
    let w := tlCount (t.rwm bn)
    ((t.bobbin bn).queue = [] → v = u) ∧
    (∀ q rest, (t.bobbin bn).queue = q :: rest →
      let src := (q.srcAt (w + q.got.length / q.esz)).getD 0 + q.got.length % q.esz
      (q.io ≠ some .remoteRead → q.io ≠ some .remoteWrite → v = u) ∧
      (q.io = some .remoteWrite → a.err = none → a.gated = [] → (v.thr h).rwm bn =
        toW (slide w ((List.range q.held).foldl (fun l x => sadd l (w + x)) q.ahead) (q.ahead.length + q.held)).1) ∧
      (q.io = some .remoteRead → a.err = none → a.gated = [] →
        v = u.setCmd h bn { q with got := q.got ++ ualinkBytes src q.piece ((tfind a.values 0).getD 0), io := none }) ∧
      (q.io = some .remoteWrite → a.err.isSome = true ∨ a.gated ≠ [] → frozen h bn (if a.err.isSome then 13 else 12) ((q.dstAt w).getD 0)) ∧
      (q.io = some .remoteRead → a.err.isSome = true ∨ a.gated ≠ [] → frozen h bn (if a.err.isSome then 13 else 12) src))
  | .reduce h bn seq => (a.err = none ∨ u.redOf h bn seq = none → v = u) ∧
    (∀ q p, u.redOf h bn seq = some (q, p) → p.done = false → a.err.isSome = true → frozen h bn 13 ((q.dst.toNat + seq * q.esz) % 2 ^ 64))
  | .send h cmd => v = if a.err.isSome then u.sendAnswered h cmd 2 else u
  | .update _ q node word => v = if a.err.isSome then u.queueEvent q 5 13 node word else if a.gated ≠ [] then u.queueEvent q 5 12 node word else u
  | .nobody => v = u

/-- What a scheduling step finds in a package with one open partition `p` that has one mapped slot `n` and no pre-empted task. -/
structure OneSlot (s : State) (p n : Nat) (k : HwSlot) : Prop where
  parts : s.parts.map (·.1) = [p]
  opened : (s.part p).opened = true
  saved : s.saved = []
  slots : s.slots = [(n, k)]
  number : n < 64
  mine : k.part = p
  counts : k.exp = false

/-- A replica at launch (R27): what the table of R27 lists, and every other register at its reset value. -/
structure Launched (t : Thread) (r : NodeRun) (owner task repl grant : Nat) : Prop where
  pc : t.pc = toW r.pc
  x : ∀ n, t.rx n = if n = 1 then toW r.args else if n = 2 then toW repl else if n = 3 then toW r.repln else 0
  f : ∀ n, t.rf n = 0
  vectors : t.v = [] ∧ t.k = [] ∧ t.vl = 0
  config : t.sew = r.vcfg / 16 % 4 ∧ t.nreg = r.vcfg % 4 ∧ t.csew = t.sew ∧ t.cnreg = t.nreg ∧ t.qcfg = BitVec.ofNat 32 r.qcfg
  mvl : t.mvl = grant * 16384 / (2 ^ (3 + r.vcfg % 4) * 2 ^ (r.vcfg / 16 % 4))
  place : t.vgrant = grant ∧ t.gang = r.width ∧ t.repl = repl ∧ t.repln = r.repln
  names : t.taskid = task ∧ t.nodeid = toW r.node ∧ t.owner = owner
  tiles : t.prick = []
  counters : t.q = [] ∧ t.tl = [] ∧ t.wm = []
  streams : t.viq = [] ∧ t.win = [] ∧ t.bob = [] ∧ t.rbq = [] ∧ t.pend = []
  status : t.fstat = 0 ∧ t.frm = 0 ∧ t.hnd = false ∧ t.tvec = 0 ∧ t.tshape = toW (64 + 64 * 2 ^ 7 + 256 * r.width * 2 ^ 16)
  slot : t.slot = .placed

/-- R23, R24: the update of the word at DONETL of a node that has failed, or some replica of which ended in error (`bad`): none where DONETL is
0; the larger count, the error flag set by an error and never cleared; where the access fails, a record of KIND 5. -/
def Updated (s t : State) (r : NodeRun) (bad : Bool) : Prop :=
  let owner := (s.part r.part).owner
  (r.donetl = 0 → t = s) ∧
  (∀ y e, r.donetl ≠ 0 → r.donetl % 8 = 0 → s.translate none owner .satomic r.donetl 8 = .err y e →
    t = y.queueEvent r.queue 5 e.code r.node r.donetl) ∧
  (∀ y pa mt pac, r.donetl ≠ 0 → r.donetl % 8 = 0 → s.translate none owner .satomic r.donetl 8 = .ok y (.phys pa mt pac) → isDram pa = true →
    y.closed pa = false →
    let old := leNat (y.dramRead owner pa 8)
    (pac.testBit 0 = false → t = y.queueEvent r.queue 5 11 r.node r.donetl) ∧
    (pac.testBit 0 = true → t = y.dramWrite owner pa
      (natLe 8 (max (old % 2 ^ 63) (r.doneval % 2 ^ 63) + (if bad = true ∨ 2 ^ 63 ≤ old then 2 ^ 63 else 0)))))

/-- A scheduling step (R21 to R27, R149, R150, R154) that finds one slot. Its head entry is validated: a bad entry is skipped with its record, and
a node record that breaks R21 fails with the first cause that holds. A head node with one edge waits while the word is below
WAITVAL, fails with cause 9 or 10, or becomes ready. The last replica of a ready head node that is no cohort starts at the first free
slot of the lowest core that grants it VGMIN units, with the state of R27; HEAD, the credit and the pointer of R154 move on. -/
def SchedulingStep (s : State) : Prop := ∀ p n k, OneSlot s p n k →
  let u := s.qTouch k.queue
  let owner := (s.part p).owner
  let looks := fun (v : State) => exec .schedulingStep s = .next v
  (∀ v bs, k.run = none → s.isPending k = true → (k.head + 1) % 2 ^ 64 = k.notify →
    u.schedRead owner (u.qRead k.queue 0 8 + 8 * (k.head % 2 ^ ctlLogsz (u.qCtl k.queue))) 8 = .ok v bs →
    let e := leNat bs
    (e = 0 → looks (v.advanceHead n)) ∧
    (e % 128 ≠ 0 → looks ((v.queueEvent k.queue 2 1 e k.head).advanceHead n)) ∧
    (∀ w rec, e ≠ 0 → e % 128 = 0 → v.schedWords owner e 16 = .ok w rec →
      let r := (NodeRun.blank e k.queue n p).read rec
      let flags := recField rec 0x0C 4
      let reserved := flags / 4096 ≠ 0 ∨ flags / 8 % 2 = 1 ∨ flags / 128 % 2 = 1
      let fails := fun (cause : Nat) => looks (((w.queueEvent k.queue 1 cause e 0).completeNode { r with failed := true }).advanceHead n)
      (reserved → fails 1) ∧
      (¬ reserved → flags % 4 = 3 → fails 2) ∧
      (¬ reserved → flags % 4 ≠ 3 → 4 < flags / 16 % 8 → fails 3) ∧
      (¬ reserved → flags % 4 ≠ 3 → flags / 16 % 8 ≤ 4 →
        (r.repln = 0 ∨ 65536 < r.repln → fails 4) ∧
        (1 ≤ r.repln → r.repln ≤ 65536 → r.vgmin = 0 ∨ r.vgreq < r.vgmin ∨ 64 * r.width < r.vgreq → fails 5)))) ∧
  (∀ id r a val, k.run = some id → tfind s.runs id = some r → r.ready = false → r.edges = [(a, val)] →
    let failed := fun (w : State) (cause data : Nat) => ∃ x, Updated (w.queueEvent r.queue 1 cause r.node data) x r true ∧
      looks ({ x with runs := tdel s.runs id }.advanceHead n)
    (∀ w c, u.schedRead owner a 8 = .err w c → r.live = 0 → failed w 9 a) ∧
    (∀ w bs, u.schedRead owner a 8 = .ok w bs → w.stalled = false →
      (leNat bs % 2 ^ 63 < val → looks w) ∧
      (val ≤ leNat bs % 2 ^ 63 → 2 ^ 63 ≤ leNat bs → r.live = 0 → failed w 10 0) ∧
      (val ≤ leNat bs % 2 ^ 63 → leNat bs < 2 ^ 63 → (∀ x ∈ s.threads, x.2.slot = .free) →
        let now := { r with ready := true }
        let y := { w with runs := tput s.runs id now }
        y.placeable now = false → looks y))) ∧
  (∀ id r c h task P backing save, k.run = some id → tfind s.runs id = some r → r.ready = true → r.cohort = false → r.part = p →
    r.started + 1 = r.repln → ctlEn (s.qCtl k.queue) = true ∨ r.started ≠ 0 → 0 < k.credit ∨ 0 < k.weight →
    let free := fun (c : Nat) => (threadsOf c).countP (fun x => s.slotFree x)
    let units := fun (c : Nat) => 64 * s.width c - (threadsOf c).foldl (fun m x => if s.slotFree x then m else m + (s.thr x).vgrant) 0
    let grant := min r.vgreq (units c / free c)
    c ∈ s.partCores p r.width → (s.core c).gate = .on → h ∈ threadsOf c → s.slotFree h = true → (∀ x ∈ threadsOf c, x < h → s.slotFree x = false) →
    r.vgmin ≤ grant →
    (∀ c' ∈ s.partCores p r.width, c' < c → (s.core c').gate = .on → free c' = 0 ∨ min r.vgreq (units c' / free c') < r.vgmin) →
    (s.part p).takeAreas r.width = some (P, backing, save) → s.partCharge p + powerCharge r.power ≤ (s.part p).grant → s.newTask = some task →
    let credit := (if k.credit = 0 then k.weight else k.credit) - 1
    let level := min 7 (k.prio + k.age / (s.part p).agestep)
    ∃ t k', looks t ∧ Launched (t.thr h) r owner task r.started grant ∧ (t.thr h).mapb = backing / 2 ^ 23 ∧ (t.thr h).info.save = save ∧
      (∀ x, x ≠ h → t.thr x = s.thr x) ∧ t.saved = [] ∧ tfind t.runs id = some { r with started := r.repln, live := r.live + 1 } ∧
      (t.part p).areas = (s.part p).areas ++ [(backing, 8 * r.width * 2 ^ 20), (save, 2 * r.width * 2 ^ 20)] ∧
      t.slots = [(n, k')] ∧ k'.head = (k.head + 1) % 2 ^ 64 ∧ k'.run = none ∧ k'.credit = credit ∧ k'.age = 0 ∧
      tget (t.part p).rp level 0 = if credit = 0 then (n + 1) % 64 else n)

/-- R30, R33, R70, R71, R156, R160, R161, R205, R209, R211, R231, R233, R235, R237, R310, R366, R384, R413: the events of tasks and of their
streams: when each acts and what it does then. Where its condition does not hold, an event changes nothing.
The write-back at CONTEXT_SAVE_COMPLETE with its wait for a closed bank is log 84, and the lockstep clauses are log 3: the model's choices.
R21 to R27, R149, R150, R154: what a scheduling step does for a slot, as `SchedulingStep` says.
Rests on the log, entries 1, 3, 28, 59 and 84. -/
def Obligations.StreamEvents : Prop := ∀ s : State,
  (exec .schedulingStep s = .next s.schedule ∧ ((∀ p ∈ s.parts, p.2.opened = false) → s.schedule = s) ∧ SchedulingStep s) ∧
  (∀ o : OpTask,
    ((∀ v, tfind s.saved o.task = some v → v.saving = false) → Passes (.contextSaveComplete o) s) ∧
    let slot := s.threads.find? (fun x => decide (x.2.slot = .saving) && decide (x.2.taskid = o.task))
    let shut := ∃ x, slot = some x ∧ s.dirtyShut x.1 = true
    (shut → Passes (.contextSaveComplete o) s) ∧
    (∀ v, tfind s.saved o.task = some v → v.saving = true → ¬ shut → ∃ t : State, exec (.contextSaveComplete o) s = .next t ∧
      { t with saved := s.saved, threads := s.threads, cores := s.cores, mem := s.mem, keys := s.keys, pillars := s.pillars } = s ∧
      (∀ k, k ≠ o.task → tfind t.saved k = tfind s.saved k) ∧
      tfind t.saved o.task = some { v with saving := false, thr := match slot with
        | some x => x.2
        | none => v.thr } ∧
      (∀ h, (∀ x, slot = some x → x.1 ≠ h) → tfind t.threads h = tfind s.threads h) ∧ (∀ x, slot = some x → tfind t.threads x.1 = none))) ∧
  (∀ o : OpThread, let t := s.thr o.h
    let ends := t.slot = .draining ∧ t.drained = true ∧ s.ramping o.h = false ∧
      (s.core (coreOf o.h)).l1d.any (fun p => shas p.2.threads o.h && s.lineShut p.1) = false
    let u := ((s.l1WriteBackThread (coreOf o.h) o.h).count t.taskid 1 1).freeSlot o.h false
    (¬ ends → Passes (.taskRetirement o) s) ∧
    (ends → (∀ k, tfind u.slots t.info.slot = some k → k.queue ≠ t.info.queue) → exec (.taskRetirement o) s = .next u) ∧
    (∀ k, ends → tfind u.slots t.info.slot = some k → k.queue = t.info.queue →
      exec (.taskRetirement o) s = .next ((u.restartWdt t.info.slot).noteIdle t.info.slot))) ∧
  (∀ o : OpThread, let t := s.thr o.h
    (t.wait = .timeline → exec (.tlwaitPoll o) s =
      .next (s.setThr o.h { t with wait := .none, remote := none, away := none })) ∧
    (t.wait ≠ .timeline → Passes (.tlwaitPoll o) s) ∧
    (∀ g, t.wfeSince = some g → t.wait = .event → g + 10000 ≤ s.gtime → exec (.wfeTimeout o) s =
      .next ((s.setThr o.h { t with pc := t.pc + 4, wait := .none, wfeSince := none, event := false }).count t.taskid 1 1)) ∧
    (t.wfeSince = none ∨ t.wait ≠ .event ∨ (∃ g, t.wfeSince = some g ∧ s.gtime < g + 10000) → Passes (.wfeTimeout o) s)) ∧
  (∀ o : OpThread, let t := s.thr o.h
    (nextPend t.pend = none ∨ (∃ p, nextPend t.pend = some p ∧ s.mayEnter o.h p = false) → Passes (.deferredTrapEntry o) s) ∧
    (∀ p, nextPend t.pend = some p → s.mayEnter o.h p = true → s.route t.owner p.code = 0 → t.tvec ≠ 0 →
      ∃ u : State, exec (.deferredTrapEntry o) s = .next u ∧ (u.thr o.h).hnd = true ∧ (u.thr o.h).tsrc = p.src ∧
        (u.thr o.h).tcode = p.code ∧ (u.thr o.h).tepc = t.pc ∧ (u.thr o.h).tval = p.tval ∧ (u.thr o.h).pc = t.tvec ∧
        (p.src ≠ 2 → (u.thr o.h).pend = t.pend.erase p) ∧
        (p.src = 3 →
          let v := (s.setThr o.h { t with pend := t.pend.erase p, slot := .placed }).stopVector o.h
          u = v.setThr o.h { v.thr o.h with
            hnd := true, tsrc := 3, tcode := p.code, tepc := t.pc, tval := p.tval, tvpc := 0, tpos := 0, nkeep := 0, tstart := 0
            pc := t.tvec, wait := .none, freed := false, remote := none, away := none, shoot := none, wfeSince := none }))) ∧
  (∀ o : OpThread, let t := s.thr o.h
    (t.live = false ∨ t.viq = [] → Passes (.vectorInstructionComplete o) s) ∧
    (∀ e rest, t.live = true → t.viq = e :: rest → t.vMay e = false → s.lockstep = true → (∀ x ∈ t.viq, x.sect = none) →
      Passes (.vectorInstructionComplete o) s) ∧
    (t.live = true → s.lanesFirst o.h = true → exec (.vectorInstructionComplete o) s = .next (s.vAhead o.h)) ∧
    (∀ e rest, t.live = true → t.viq = e :: rest → t.vMay e = true → s.lanesFirst o.h = false →
      let r := s.vBegin o.h e
      (∀ u, r.1.vTry o.h r.2 = .done u → exec (.vectorInstructionComplete o) s = .next (u.vComplete o.h e)) ∧
      (∀ u, r.1.vTry o.h r.2 = .wait u → exec (.vectorInstructionComplete o) s = .next (u.vAhead o.h)) ∧
      (∀ u p, r.1.vTry o.h r.2 = .trap u p → exec (.vectorInstructionComplete o) s = .next ((u.raisePend o.h p).vAhead o.h)) ∧
      (s.traceRings = [] → r.1 = if e.began then s else s.setHead o.h { e with began := true })) ∧
    (s.lockstep = true → s.lanesFirst o.h = false ∧ s.vAhead o.h = s) ∧
    (∀ e rest v k b g, t.viq = e :: rest → e.op = .barWait v k b g → exec (.barrierPoll o) s = .next (s.vStep o.h).1) ∧
    (t.viq = [] ∨ (∃ e rest, t.viq = e :: rest ∧ ∀ v k b g, e.op ≠ .barWait v k b g) → Passes (.barrierPoll o) s)) ∧
  (∀ o : OpCore, ∃ t : State, exec (.laneArbitration o) s = .next t ∧
    ((∀ h ∈ threadsOf o.c, (s.thr h).viq = []) → { t with cores := s.cores, tasks := s.tasks } = s ∧
      (∀ k n, n ≠ 12 → t.counter k n = s.counter k n) ∧ (∀ c, c ≠ o.c → t.core c = s.core c) ∧
      { t.core o.c with drew := (s.core o.c).drew, ballast := (s.core o.c).ballast } = s.core o.c)) ∧
  (∀ o : OpCoreUnit, exec (.tileUnitIssue o) s = .next (s.unitCycle o.c o.u) ∧
    ((∀ h ∈ threadsOf o.c, ∀ e ∈ (s.thr h).win, e.issued = true ∨ e.op.unit ≠ some o.u) →
      s.tileErrors o.c = false → s.travel = false → s.unitCycle o.c o.u = s)) ∧
  (∀ o : OpThreadCmd, let found := (s.thr o.h).win.find? (fun e => decide (e.cmd = o.cmd))
    let runs := (s.thr o.h).live = true
    (found = none ∨ ¬ runs → Passes (.tileInstructionComplete o) s) ∧
    (∀ e, found = some e → e.complete = false → e.issued = false → (e.op.unit ≠ none ∨ (s.thr o.h).hnd = true) →
      Passes (.tileInstructionComplete o) s) ∧
    (∀ e, found = some e → runs → e.complete = true → exec (.tileInstructionComplete o) s = .next (s.retireAll o.h 17)) ∧
    (∀ e, found = some e → runs → e.complete = false → e.issued = true →
      ((s.thr o.h).trapped o.cmd = false → exec (.tileInstructionComplete o) s = .next (s.tileRun o.h e)) ∧
      ((s.thr o.h).trapped o.cmd = true → Passes (.tileInstructionComplete o) s)) ∧
    (∀ e, found = some e → runs → (s.thr o.h).hnd = false → e.complete = false → e.issued = false → e.op.unit = none →
      exec (.tileInstructionComplete o) s = .next (s.tileTry o.h o.cmd)) ∧
    (found = none ∨ (∃ e, found = some e ∧ ∀ g, e.send ≠ .retry g) → Passes (.msendRetry o) s) ∧
    (∀ e g, found = some e → e.send = .retry g → exec (.msendRetry o) s = .next (s.tileRun o.h e))) ∧
  (∀ o : OpCoreTile, let k := s.core o.c
    let asks := s.threads.find? (fun x => match tfind k.tiles o.pt with
      | some p => decide (coreOf x.1 = o.c) && x.2.live && p.ofContext x.2.owner x.2.mapb
      | none => false)
    (tfind k.tiles o.pt = none ∨ (∃ p, tfind k.tiles o.pt = some p ∧ p.filling = false) → Passes (.tileFillComplete o) s) ∧
    let all := 1024 * s.width o.c
    (∀ p, tfind k.tiles o.pt = some p → s.travel = true → p.came.length < all → Passes (.tileFillComplete o) s) ∧
    (∀ p, tfind k.tiles o.pt = some p → p.filling = true → (s.travel = false ∨ all ≤ p.came.length) → asks = none →
      exec (.tileFillComplete o) s = .next (s.setCore o.c { k with tiles := tdel k.tiles o.pt })) ∧
    (∀ p x, tfind k.tiles o.pt = some p → p.filling = true → asks = some x →
      (s.travel = false → p.came.length < all →
        exec (.tileFillComplete o) s = .next ((s.fillTile x.1 p.tile o.pt).resolveMtovs x.1)) ∧
      (all ≤ p.came.length → exec (.tileFillComplete o) s = .next ((s.fillEnd x.1 p.tile o.pt p.rows).resolveMtovs x.1)))) ∧
  (∀ o : OpBobbin, let t := s.thr o.h
    let b := t.bobbin o.bn
    let w := fun (t : State) => (t.thr o.h).rwm o.bn
    let ended := fun (q : BCmd) => t.live = true ∧ q.started = true ∧ b.stat.state < 2 ∧ q.sent = [] ∧ q.count ≤ tlCount (t.rwm o.bn)
    (t.live = false ∨ t.bobReady o.bn = false → Passes (.bobbinCommandStart o) s) ∧
    (∀ q rest, b.queue = q :: rest → t.live = true → t.bobReady o.bn = true → s.traceRings = [] →
      ∃ u : State, exec (.bobbinCommandStart o) s = .next u ∧ w u = 0 ∧
        ((∀ l n iw va kb nreg, q.op ≠ .rows l n iw va kb nreg) →
          (u.thr o.h).bobbin o.bn = { queue := b.queue.map (fun x => if x.num = q.num then { q with started := true, rowSrc := [] } else x)
                                      stat := { abt := false, fcode := 0, state := 1 } })) ∧
    (b.queue = [] ∨ t.live = false → Passes (.bobbinElementLanding o) s) ∧
    (∀ q rest, b.queue = q :: rest → t.live = true →
      exec (.bobbinElementLanding o) s = .next (s.bobOne o.h o.bn (tlCount (t.rwm o.bn)) (2 + q.esz / q.piece))) ∧
    (b.queue = [] ∨ (∃ q rest, b.queue = q :: rest ∧ ¬ ended q) → Passes (.bobbinCommandComplete o) s) ∧
    (∀ q rest, b.queue = q :: rest → ended q → s.traceRings = [] → ∃ u : State, exec (.bobbinCommandComplete o) s = .next u ∧
      (u.thr o.h).bobbin o.bn = { queue := b.queue.filter (fun x => decide (x.num ≠ q.num)), stat := { b.stat with state := 0 } } ∧
      (∀ n, (u.thr o.h).rtl n = if n = 2 + o.bn then tlRaise (t.rtl n) q.num false else t.rtl n))) ∧
  (∀ o : OpBobbinFault, let t := s.thr o.h
    let b := t.bobbin o.bn
    let runs := fun (q : BCmd) => t.live = true ∧ q.started = true ∧ b.stat.state = 1 ∧ o.code ∈ bobbinCodes ∧
      q.io ≠ some .pointRead ∧ ∀ i n, q.io ≠ some (.pointWrite i n)
    (b.queue = [] ∨ (∃ q rest, b.queue = q :: rest ∧ ¬ runs q) → Passes (.bobbinFault o) s) ∧
    (∀ q rest, b.queue = q :: rest → runs q → s.traceRings = [] → ∃ u : State, exec (.bobbinFault o) s = .next u ∧
      ((u.thr o.h).bobbin o.bn).stat = { b.stat with state := 2, fcode := BitVec.ofNat 16 o.code } ∧
      (u.thr o.h).event = true ∧ (∃ p, (u.thr o.h).pend = t.pend ++ [p] ∧ p.src = 3 ∧ p.code = o.code ∧ p.tval = toW o.addr ∧ p.cmd = o.bn) ∧
      (u.thr o.h).wm = t.wm)) ∧
  (∀ o : OpReducing, let d := s.remoteDone (.reduce o.h o.bn o.seq)
    let goes := fun (u : State) => exec (.reducingWriteAnswer o) s = .next u
    (s.redOf o.h o.bn o.seq = none → goes d ∧ Passes (.reducingWriteResend o) s) ∧
    (∃ u : State, goes u ∧ (o.err = true → Answers d (.reduce o.h o.bn o.seq) { err := some 0, gated := [], values := [] } u)) ∧
    (∀ q p, s.redOf o.h o.bn o.seq = some (q, p) →
      let now := { p with out := p.out - 1, done := p.done || o.applied, retry := p.retry || !o.applied
                          since := if o.applied then p.since else s.gtime }
      let sent := q.sent.filterMap (fun x =>
        if x.seq = o.seq then (if now.done = true ∧ now.out = 0 then none else some now) else some x)
      (o.err = false → o.applied = false ∨ p.done = true → goes (d.setCmd o.h o.bn { q with sent := sent })) ∧
      (o.err = false → o.applied = true → p.done = false → ∃ u : State, goes u ∧
        (∃ x r, ((u.thr o.h).bobbin o.bn).queue = x :: r ∧ x.sent = sent) ∧
        (u.thr o.h).rwm o.bn = toW (slide (tlCount ((s.thr o.h).rwm o.bn)) ((List.range p.count).foldl (fun l x => sadd l (o.seq + x)) q.ahead)
          (q.ahead.length + p.count)).1)) ∧
    (∀ q p, s.redOf o.h o.bn o.seq = some (q, p) → (p.done = true ∨ s.gtime < p.since + (if p.retry then 1000 else 50000)) →
      Passes (.reducingWriteResend o) s) ∧
    (exec (.reducingWriteResend o) s = .next (s.redAgain o.h o.bn o.seq))) ∧
  (∀ o : OpAnswer,
    (tfind s.remotes o.tag = none → Passes (.remoteAnswer o) s) ∧
    (∀ r, tfind s.remotes o.tag = some r → ∃ u : State, exec (.remoteAnswer o) s = .next u ∧
      Answers { s with remotes := tdel s.remotes o.tag } r.src o.ans u)) ∧
  (∀ o : OpSendAnswer, let u := s.remoteDone (.send o.h o.cmd)
    let e? := (s.thr o.h).win.find? (fun e => decide (e.cmd = o.cmd))
    let goes := fun (v : State) => exec (.msendAnswer o) s = .next v
    (e? = none ∨ (∃ e, e? = some e ∧ e.send ≠ .sent) → goes u) ∧
    (∀ e v pt d, e? = some e → e.send = .sent → e.op = .msend v pt d →
      (o.ans = 0 → goes ((u.setEntry o.h { e with send := .landed }).tileRun o.h { e with send := .landed })) ∧
      (o.ans = 1 → goes (u.setEntry o.h { e with send := .retry s.gtime })) ∧
      (o.ans = 2 → goes ((u.setEntry o.h { e with send := .unsent }).raisePend o.h (tileTrap o.cmd 14 d 0 0)))))

/-- R91, R93, R94, R96, R97, R104, R182, R183, R242, R244, R440: the events of the memories. An arbiter grants one request, which then
performs; a closed or offline bank grants none; a shoot-down counts receipts and acknowledgements.
Rests on the log, entries 1, 17 and 60. -/
def Obligations.MemoryEvents : Prop := ∀ s : State,
  let alone := fun (q : BankReq) => q.reply = .none ∧ (q.req.cut q.pa).2 = none
  (∀ o : OpBank, let b := s.bank (bankKey o.c o.lane o.bank)
    let shut := (b.offline = true ∧ b.lost = false) ∨ shas (s.pillar (pillarOf o.c)).shut (o.c * 64 + o.lane / 4) = true
    (shut ∨ b.waiting = [] → Passes (.bankArbiterGrant o) s) ∧
    (∀ q rest, ¬ shut → b.pick = some (q, rest) → alone q → exec (.bankArbiterGrant o) s =
      .next ((s.setBank (bankKey o.c o.lane o.bank) { b with
        waiting := rest, ptr := if q.input = 5 then b.ptr else (q.input + 1) % 5 }).performReq q.pa q.owner q.req).1) ∧
    (∀ q rest, b.pick = some (q, rest) → q ∈ b.waiting ∧ rest = b.waiting.erase q ∧
      (∀ x ∈ b.waiting, x.input = 5 → q.input = 5) ∧
      (∀ x ∈ b.waiting, x.input < 5 → q.input < 5 → (q.input + 5 - b.ptr % 5) % 5 ≤ (x.input + 5 - b.ptr % 5) % 5)) ∧
    (b.offline = false → (∃ t : State, exec (.bankOffline o) s = .next t ∧ (t.bank (bankKey o.c o.lane o.bank)).offline = true) ∧
      Passes (.offlineAccessRetry o) s) ∧
    (b.offline = true →
      exec (.bankOffline o) s = .next (s.setBank (bankKey o.c o.lane o.bank) { b with lost := true }) ∧
      exec (.offlineAccessRetry o) s = .next (let r := s.turnAway (pillarOf o.c) 2 b.waiting
        r.1.setBank (bankKey o.c o.lane o.bank) { b with waiting := r.2 }))) ∧
  (∀ o : OpCoreBank, let own := tget s.spadQueue (spadKeyOf o.c o.bank false) []
    let later := tget s.spadQueue (spadKeyOf o.c o.bank true) []
    let quiet := (s.core o.c).gate = .quiescing
    (own = [] → later = [] ∨ quiet → Passes (.scratchpadBankGrant o) s) ∧
    let rest := fun (l : List BankReq) (q : BankReq) => (l.erase q).map (fun x => { x with denied := x.denied + 1 })
    (∀ q, spadPick own = some q → alone q → exec (.scratchpadBankGrant o) s =
      .next ({ s with spadQueue := tset s.spadQueue (spadKeyOf o.c o.bank false) (rest own q) [] }.performReq q.pa q.owner q.req).1) ∧
    (∀ q, own = [] → ¬ quiet → spadPick later = some q → alone q → exec (.scratchpadBankGrant o) s =
      .next ({ s with spadQueue := tset s.spadQueue (spadKeyOf o.c o.bank true) (rest later q) [] }.performReq q.pa q.owner q.req).1)) ∧
  (∀ (l : List BankReq) (q : BankReq), spadPick l = some q → q ∈ l ∧ (∀ x ∈ l, 8 ≤ x.denied → 8 ≤ q.denied) ∧
    ∀ x ∈ l, (8 ≤ x.denied ∨ q.denied < 8) → q.input ≤ x.input) ∧
  (∀ o : OpPillar,
    (tget s.l2Queue o.p [] = [] → Passes (.homeL2Grant o) s) ∧
    (∀ q rest, tget s.l2Queue o.p [] = q :: rest → alone q → exec (.homeL2Grant o) s =
      .next ({ s with l2Queue := tset s.l2Queue o.p rest [] }.performReq q.pa q.owner q.req).1) ∧
    ((s.pillar o.p).change = none ∨ (∃ new b, (s.pillar o.p).change = some (new, b) ∧ s.gtime < b) → Passes (.refreshCalendarChange o) s) ∧
    (∀ new b, (s.pillar o.p).change = some (new, b) → b ≤ s.gtime →
      exec (.refreshCalendarChange o) s = .next (s.setPillar o.p { s.pillar o.p with hot := new }))) ∧
  (∀ o : OpGroup, let k := s.pillar (pillarOf o.c)
    let opened := k.windowAt o.grp s.gtime ≤ s.gtime
    (opened → exec (.refreshWindowOpen o) s = .next (s.setPillar (pillarOf o.c) { k with shut := sadd k.shut (o.c * 64 + o.grp) }) ∧
      Passes (.refreshWindowClose o) s) ∧
    (¬ opened → exec (.refreshWindowClose o) s = .next (s.setPillar (pillarOf o.c) { k with shut := sdel k.shut (o.c * 64 + o.grp) }) ∧
      Passes (.refreshWindowOpen o) s)) ∧
  (∀ o : OpHot, ∃ t : State, exec (.dramTemperatureCrossing o) s = .next t ∧ { t with pillars := s.pillars } = s ∧
    ∀ p, t.pillar p = if p < 16 then (s.pillar p).cross o.hot s.gtime else s.pillar p) ∧
  (∀ o : OpCoreLine, let l := tfind (s.core o.c).l1d o.line
    (l = none ∨ (∃ x, l = some x ∧ x.dirty ≠ [] ∧ s.lineShut o.line = true) → Passes (.l1Eviction o) s) ∧
    (∀ x, l = some x → x.dirty = [] ∨ s.lineShut o.line = false → exec (.l1Eviction o) s = .next (s.l1Flush o.c o.line))) ∧
  (∀ o : OpPillarLine, ∃ t : State, exec (.l2Eviction o) s = .next t ∧ { t with pillars := s.pillars } = s ∧
    tfind (t.pillar o.p).l2 o.line = none ∧ (∀ k, k ≠ o.line → tfind (t.pillar o.p).l2 k = tfind (s.pillar o.p).l2 k) ∧
    (∀ p, p ≠ o.p → t.pillar p = s.pillar p)) ∧
  (∀ o : OpWalk, let k := s.pillar o.p
    (k.walks[o.id]? = none → Passes (.walkComplete o) s) ∧
    (∀ w, k.walks[o.id]? = some w → w.failed = true ∨ (∃ a ∈ s.walkPath w.owner w.va, s.closed a = true) → Passes (.walkComplete o) s) ∧
    (∀ w e, k.walks[o.id]? = some w → w.failed = false → (∀ a ∈ s.walkPath w.owner w.va, s.closed a = false) →
      s.walk w.owner w.va = .error e → ∃ t : State, exec (.walkComplete o) s = .next t ∧
        (t.pillar o.p).walks = k.walks.set o.id { w with failed := true, others := tput w.others w.core w.coreSeq } ∧
        (t.pillar o.p).tlb = k.tlb ∧ { t with pillars := s.pillars } = s) ∧
    (∀ w lvl leaf, k.walks[o.id]? = some w → w.failed = false → (∀ a ∈ s.walkPath w.owner w.va, s.closed a = false) →
      s.walk w.owner w.va = .ok (lvl, leaf) → ∃ t : State, exec (.walkComplete o) s = .next t ∧
      let waiters := (w.core, w.coreSeq) :: w.others
      let still := (∀ x ∈ waiters, (s.core x.1).tlb.seq = x.2) ∧ k.tlb.seq = w.llSeq
      (still → (t.pillar o.p).walks = k.walks.eraseIdx o.id) ∧
      (¬ still → ∃ w' : Walk, (t.pillar o.p).walks = k.walks.set o.id w' ∧ w'.owner = w.owner ∧ w'.va = w.va ∧ w'.llSeq = k.tlb.seq ∧
        ∀ x ∈ (w'.core, w'.coreSeq) :: w'.others, (∃ y ∈ waiters, y.1 = x.1) ∧ x.2 = (s.core x.1).tlb.seq) ∧
      (∀ c, (∀ x ∈ waiters, x.1 = c → (s.core c).tlb.seq ≠ x.2) → (t.core c).tlb = (s.core c).tlb) ∧
      (k.tlb.seq ≠ w.llSeq → (t.pillar o.p).tlb = k.tlb) ∧
      { t with pillars := s.pillars, cores := s.cores } = s)) ∧
  (∀ o : OpTlbShoot,
    (∀ k, tfind s.shoots o.sd = some k → shas k.toReceive o.tlb = true → exec (.tlbInvalidationReceipt o) s =
      .next ({ s with shoots := tput s.shoots o.sd { k with toReceive := sdel k.toReceive o.tlb } }.receiveShoot o.tlb o.sd k.owner k.page)) ∧
    ((∀ k, tfind s.shoots o.sd = some k → shas k.toReceive o.tlb = false) → Passes (.tlbInvalidationReceipt o) s) ∧
    ((∀ k, tfind s.shoots o.sd = some k → shas k.toReceive o.tlb = true ∨
        ∃ e ∈ (s.tlbAt o.tlb).entries, e.doomed = true ∧ e.hit k.owner k.page = true) → Passes (.tlbInvalidationAck o) s) ∧
    (∀ k, tfind s.shoots o.sd = some k → shas k.toReceive o.tlb = false →
      (∀ e ∈ (s.tlbAt o.tlb).entries, e.doomed = true → e.hit k.owner k.page = false) →
      exec (.tlbInvalidationAck o) s = .next { s with shoots := tput s.shoots o.sd { k with toAck := sdel k.toAck o.tlb } })) ∧
  (∀ o : OpShoot,
    ((∀ k, tfind s.shoots o.sd = some k → k.toReceive ≠ [] ∨ k.toAck ≠ []) → Passes (.shootdownComplete o) s) ∧
    (∀ k, tfind s.shoots o.sd = some k → k.toReceive = [] → k.toAck = [] → exec (.shootdownComplete o) s =
      .next (if k.root = none then { s with shoots := tdel s.shoots o.sd }
        else { s with shoots := tdel s.shoots o.sd }.ctlAnswer 0x13 0 []))) ∧
  (∀ o : OpCore, let point := (s.core o.c).gate = .quiescing ∧ s.spadWaiting o.c false = []
    (¬ point → Passes (.coreQuiescePoint o) s) ∧
    (point → ∃ t : State, exec (.coreQuiescePoint o) s = .next t ∧ (t.core o.c).gate = .gated ∧ (t.core o.c).units = []))

/-- R166, R362, R363, R383, R396, R398, R410, R412, R426 to R429, R433, R435, R436, R443: the events of the engines, of the
links to other packages, of the Ethernet port, and of the boot. That request packets and tiles of other packages are not matched against
the flow table is the model's choice (log 81); that each answer comes by an event is log 48. Rests on the log, entries 1, 8, 48, 52, 58, 62
and 81. -/
def Obligations.NetworkEvents : Prop := ∀ s : State,
  let tells := fun (m : OutMsg) => { s with outbox := s.outbox ++ [m] }
  (∀ o : OpEngine, let k := s.engine o.e
    (k.busy = true ∧ 512 ≤ k.cyc → exec (.golpinBudgetExpiry o) s = .next (s.gTrap o.e 1 0 0)) ∧
    (¬ (k.busy = true ∧ 512 ≤ k.cyc) → Passes (.golpinBudgetExpiry o) s) ∧
    (k.input = [] ∨ k.busy = true → exec (.golpinPacketStart o) s = .next s.serveBlocks) ∧
    ((∀ b ∈ s.blocks, b.2.queued = 0) → s.serveBlocks = s) ∧
    (∀ x rest, k.input = x :: rest → k.busy = false →
      let f := tget (s.block (o.e / 8)).flows x.flow default
      let begins := fun (k : Engine) (x : EnginePacket) => s.setEngine o.e { k with
        input := rest, cur := some x, window := (windowBytes x).zipIdx.map (fun b => (b.2, b.1)), h := [], y := [], j := []
        pc := 0, loops := [], cyc := 0, flow := x.flow, kslot := f.kernel, busy := true, stores := [], whole := [], emits := [] }
      let goes := fun (u : State) => exec (.golpinPacketStart o) s = .next u.serveBlocks
      (x.pkt.kind ≠ 3 → goes (begins k x)) ∧
      (x.pkt.kind = 3 →
        let r := (k.record f x.pkt.bobbin).check x.pkt
        let kept := { k with input := rest }.putRecord f x.pkt.bobbin r.1
        (r.2 = .applied → goes ((s.setEngine o.e kept).answerTo x.pkt 0 [])) ∧
        (r.2 = .retry → goes ((s.setEngine o.e kept).answerTo x.pkt 2 [])) ∧
        (∀ m, r.2 = .fresh m → goes (begins kept { x with fresh := m })))) ∧
    (k.outbox = [] → Passes (.emitDelivery o) s) ∧
    (∀ m rest p la, k.outbox = m :: rest → locOf m.dest = .remote p la →
      exec (.emitDelivery o) s = .next { s.setEngine o.e { k with outbox := rest } with
        outbox := s.outbox ++ [.write p la m.owner m.bytes] }) ∧
    exec (.emitDelivery o) s = .next (s.gEmitOut o.e)) ∧
  (∀ o : OpUalink, let p := o.pkt
    let b := s.block o.blk
    let l := tget b.ingress o.port []
    let held := s.pkgNum = none ∨ 4 ≤ o.blk ∨ 6 ≤ o.port ∨ shas s.linksDown (6 * o.blk + o.port) = true ∨ 64 ≤ l.length
    (held → Passes (.ualinkPacketIngress o) s) ∧
    (¬ held → exec (.ualinkPacketIngress o) s =
      .next ((s.setBlock o.blk { b with ingress := tput b.ingress o.port (l ++ [p]) }).servePorts o.blk (b.queued + 1))) ∧
    (¬ held → b.ingress = [] →
      let u := s.setBlock o.blk { b with ingress := [(o.port, [p])] }
      exec (.ualinkPacketIngress o) s = .next (match u.takePacket o.blk p with
        | some v => v.setBlock o.blk { v.block o.blk with ingress := tset (v.block o.blk).ingress o.port [] [], served := o.port }
        | none => u)) ∧
    (s.pkgNum ≠ some p.dst → s.takePacket o.blk p =
      some { tells (.answer p.src p.tag 1 []) with misdirected := s.misdirected + 1 }) ∧
    (s.pkgNum = some p.dst →
      let flow := b.flows.find? (fun x => flowTakes x.2 p)
      (packetOk p = false → s.takePacket o.blk p = some (tells (.answer p.src p.tag 1 []))) ∧
      (∀ i f, packetOk p = true → flow = some (i, f) →
        let e := 8 * o.blk + f.engine
        s.takePacket o.blk p = (if 32 ≤ (s.engine e).input.length then none
          else some (s.setEngine e { s.engine e with
            input := (s.engine e).input ++ [{ pkt := p, flow := i, fresh := plainFresh p.len }] }))) ∧
      (packetOk p = true → flow = none → p.kind = 3 → s.takePacket o.blk p = s.cachedReduce o.blk p) ∧
      (packetOk p = true → flow = none → p.kind ≠ 3 → s.takePacket o.blk p = s.deliver o.blk p.owner p 0))) ∧
  (∀ o : OpRequest, let p := o.pkt
    let check := fun (x : RemoteElem) => s.checkElem p.kind p.w x.addr
    let goes := fun (u : State) => exec (.remoteRequestPacket o) s = .next u
    let reply := fun (a : RemoteAnswerMsg) => tells (.requestAnswer p.pkg p.tag a)
    let failed : RemoteAnswerMsg := { err := some ((p.elems.head?).elim 0 (·.idx)), gated := [], values := [] }
    let carried := p.kind < 2 ∨ (p.kind = 2 ∧ p.op < 12 ∧ (p.w = 4 ∨ p.w = 8))
    let shut := ∃ x ∈ p.elems, s.closed x.addr = true
    let runs := s.pkgNum = some p.dst ∧ carried ∧ ¬ shut
    (s.pkgNum = none ∨ (s.pkgNum = some p.dst ∧ carried ∧ shut) → Passes (.remoteRequestPacket o) s) ∧
    (∀ me, s.pkgNum = some me → me ≠ p.dst → goes { reply failed with misdirected := s.misdirected + 1 }) ∧
    (s.pkgNum = some p.dst → ¬ carried → goes (reply failed)) ∧
    (∀ x, runs → p.elems.find? (fun x => decide (check x = .bad)) = some x → goes (reply { err := some x.idx, gated := [], values := [] })) ∧
    (runs → (∀ x ∈ p.elems, check x = .gated) → goes (reply { err := none, gated := p.elems.map (·.idx), values := [] })) ∧
    (∀ x, runs → p.elems = [x] → check x = .fine →
      let y := s.performReq x.addr p.owner (elemReq p x)
      goes { y.1 with outbox := y.1.outbox ++ [.requestAnswer p.pkg p.tag
        { err := none, gated := [], values := if p.kind = 1 then [] else [(x.idx, leNat y.2.2)] }] })) ∧
  (∀ o : OpSend, let m := o.msg
    (s.pkgNum = none → Passes (.msendLanding o) s) ∧
    (∀ me, s.pkgNum = some me → sendPkg (toW m.dest) ≠ me → exec (.msendLanding o) s =
      .next { tells (.sendAnswer m.pkg m.h m.cmd 2) with misdirected := s.misdirected + 1 }) ∧
    (∀ me, s.pkgNum = some me → sendPkg (toW m.dest) = me → ∃ rows : Table Byte,
      (∀ j, tget rows j 0 = m.rows.getD j 0) ∧
      let r := s.land m.owner m.gang (toW m.dest) rows
      (r.2 = 3 → Passes (.msendLanding o) s) ∧
      (r.2 ≠ 3 → exec (.msendLanding o) s = .next { r.1 with outbox := r.1.outbox ++ [.sendAnswer m.pkg m.h m.cmd r.2] }))) ∧
  (∀ o : OpLink,
    (24 ≤ o.port ∨ shas s.linksDown o.port = true → Passes (.linkFailure o) s) ∧
    (o.port < 24 → shas s.linksDown o.port = false →
      let d := ({ s with linksDown := sadd s.linksDown o.port }.errorRecord logLink o.port).interrupt (s.logBytes logLink o.port)
      exec (.linkFailure o) s = .next (d.failLink o.port) ∧
      ((∀ x ∈ s.remotes, x.2.port ≠ o.port) → d.failLink o.port = d) ∧
      (∀ x, s.remotes.filter (fun y => decide (y.2.port = o.port)) = [x] →
        Answers { d with remotes := tdel d.remotes x.1 } x.2.src { err := some x.2.src.first, gated := [], values := [] } (d.failLink o.port)))) ∧
  (∀ o : OpEhrez, let p := o.pkt
    let k := s.conn p.conn
    let drops := exec (.ehrezPacketReceipt o) s = .next { s with ethDrops := s.ethDrops + 1 }
    let f := o.frame
    let taken := f.ipv6 = true ∧ f.fragment = false ∧ f.extension = false ∧ f.size ≤ 9216 ∧ f.port = 47806
    let fits := taken ∧ ehrezFramed p = true ∧ k.opened = true ∧ k.failed = false ∧ s.ethIn < 256
    (¬ fits → drops) ∧
    (fits → p.type ≠ 3 → p.seq ≠ k.expect → seqBefore p.seq k.expect = false → drops) ∧
    (fits → p.type < 3 → p.seq = k.expect → ∃ t : State, exec (.ehrezPacketReceipt o) s = .next t ∧
      (t.conn p.conn).inq = k.inq ++ [p] ∧ (t.conn p.conn).expect = (k.expect + 1) % 2 ^ 32 ∧ t.ethIn = s.ethIn + 1 ∧
      { t with conns := s.conns, ethIn := s.ethIn } = s) ∧
    (fits → p.type = 3 → exec (.ehrezPacketReceipt o) s =
      .next { s.setConn p.conn { k with inq := k.inq ++ [p] } with ethIn := s.ethIn + 1 }) ∧
    let queued := ∃ q ∈ k.inq, q.seq = p.seq ∧ q.type ≠ 3
    let ack := fun (status : Nat) => ({ ver := 1, type := 3, conn := p.conn, seq := k.nextSeq, ack := (p.seq + 1) % 2 ^ 32, len := 0
                                        addr := 0, status := status, rsvd := 0, data := [] } : EhrezPacket)
    let acked := fun (t : State) (status : Nat) => t.outbox = s.outbox ++ [.ehrez (ack status)]
    (fits → p.type ≠ 3 → seqBefore p.seq k.expect = true → ∃ t : State, exec (.ehrezPacketReceipt o) s = .next t ∧
      { t with conns := s.conns, outbox := s.outbox } = s ∧ (queued → t.outbox = s.outbox) ∧ (¬ queued → acked t (tget k.failures p.seq 0))) ∧
    let u := s.setConn p.conn { k.acked p.ack with expect := (k.expect + 1) % 2 ^ 32 }
    (fits → p.seq = k.expect → p.type = 4 → p.conn ≠ 0 → exec (.ehrezPacketReceipt o) s = .next (u.sendPacket p.conn 5 0 6 [])) ∧
    (fits → p.seq = k.expect → p.type = 4 → p.conn = 0 → ∃ t : State, exec (.ehrezPacketReceipt o) s = .next (t.ctlReceive p) ∧
      { t with conns := s.conns, outbox := s.outbox } = s ∧ acked t 0 ∧ (t.conn 0).expect = (k.expect + 1) % 2 ^ 32) ∧
    (fits → p.seq = k.expect → 4 < p.type → ∃ t : State, exec (.ehrezPacketReceipt o) s = .next t ∧
      { t with conns := s.conns, outbox := s.outbox } = s ∧ acked t 0 ∧ (t.conn p.conn).expect = (k.expect + 1) % 2 ^ 32)) ∧
  (∀ (p : EhrezPacket) (code : Nat), code = (p.data.headD 0).toNat →
    (s.ctlIn ≠ [] ∨ code = 1 ∨ code = 2 ∨ (0x10 ≤ code ∧ code ≤ 0x18) → s.ctlReceive p = { s with ctlIn := s.ctlIn ++ [code] }) ∧
    (s.ctlIn = [] → code = 0 ∨ (2 < code ∧ code < 0x10) ∨ 0x18 < code →
      s.ctlReceive p = ({ s with answers := s.answers ++ [{ code := code, status := 7, data := [] }] } : State).sendPacket 0 5 0 7 [])) ∧
  (∀ o : OpConn, let k := s.conn o.conn
    let serves := fun (i : Instr) (type : Nat) (f : EhrezPacket → State) =>
      (∀ p rest, k.inq = p :: rest → p.type = type → exec i s = .next (f p)) ∧
      (k.inq = [] ∨ (∃ p rest, k.inq = p :: rest ∧ p.type ≠ type) → Passes i s)
    let late := fun (x : OutPacket) => x.since + 50000 ≤ s.gtime
    serves (.ehrezWrite o) 0 (s.hostWrite o.conn) ∧ serves (.ehrezReadRequest o) 1 (s.hostRead o.conn) ∧
    serves (.ehrezReadResponse o) 2 (s.hostResponse o.conn) ∧ serves (.ehrezAcknowledgement o) 3 (s.hostAck o.conn) ∧
    (k.opened = false ∨ k.failed = true → Passes (.ehrezRetransmit o) s) ∧
    (k.opened = true → k.failed = false → (∃ x ∈ k.outq, late x ∧ 17 ≤ x.sends) →
      exec (.ehrezRetransmit o) s = .next ((s.hostWaits o.conn).foldl (fun t x => t.hostFreeze x.1 x.2.1 x.2.2.1 x.2.2.2.2)
        (s.setConn o.conn { k with failed := true }))) ∧
    (k.opened = true → k.failed = false → (∀ x ∈ k.outq, late x → x.sends < 17) →
      exec (.ehrezRetransmit o) s = .next (s.setConn o.conn { k with outq := k.outq.map (fun x =>
        if late x then { pkt := { x.pkt with ack := k.expect }, sends := x.sends + 1, since := s.gtime } else x) }))) ∧
  (∃ t : State, exec .powerOn s = .next t ∧ t.threads = State.reset.threads ∧ t.mem = State.reset.mem ∧ t.spad = State.reset.spad ∧
    t.gtime = State.reset.gtime ∧ t.boot = State.reset.boot ∧ t.conns = State.reset.conns ∧ t.parts = State.reset.parts ∧
    t.owners = State.reset.owners ∧ ∀ c, (t.cut c).good = (s.cut c).good) ∧
  (s.boot = .requesting → exec .bootRequest s = .next { tells (.ehrez bootPacket) with bootRequests := s.bootRequests + 1 }) ∧
  (s.boot ≠ .requesting → Passes .bootRequest s) ∧
  (∀ o : OpBoot, let p := o.pkt
    let k := s.conn 0
    let goes := fun (u : State) => exec (.bootPacket o) s = .next u
    let drops := goes { s with ethDrops := s.ethDrops + 1 }
    let fits := ehrezFramed p = true ∧ p.type = 7 ∧ p.conn = 0
    let asks := fits ∧ s.boot = .requesting
    let next := asks ∧ p.seq = k.expect
    let u := (s.setConn 0 { k with expect := (k.expect + 1) % 2 ^ 32 }).sendAck 0 ((p.seq + 1) % 2 ^ 32) 0
    let image := s.bootImage ++ p.data
    (¬ fits → drops) ∧
    (fits → s.boot ≠ .requesting → goes (s.receipt p)) ∧
    (asks → p.seq ≠ k.expect → seqBefore p.seq k.expect = false → drops) ∧
    (asks → p.seq ≠ k.expect → seqBefore p.seq k.expect = true → goes (s.ackAgain 0 p)) ∧
    (next → o.last = false → goes { u with bootImage := image }) ∧
    (next → o.last = true → Config.imageValid image = false → goes { u with bootImage := [] }) ∧
    (next → o.last = true → Config.imageValid image = true → s.ctlIn = [] → ∃ t : State, goes t ∧ t.boot = .running ∧ (t.conn 0).opened = true ∧
      let w := [4, 1, 0x3FFF, Config.identity 0, Config.digest image, Config.identity 2]
      t.answers = s.answers ++ [{ code := 1, status := 0, data := w ++ [Config.sign w] }]))

/-- R151, R152, R158, R164, R165, R215, R216, R217, R218, R225, R432, R440: the events of the queue scheduler, of the gallery's ports, and of
the package's power and time. That a queue is mapped onto the free slot of lowest number is the model's choice (log 80), and so is how the
lock is reported (log 104). Rests on the log, entries 1, 9, 42, 65, 80, 100 and 104. -/
def Obligations.PackageEvents : Prop := ∀ s : State,
  (∀ o : OpQueueNo, let q := o.q
    let known := s.queueBase ≠ none ∧ q < 4096 ∧ s.slotOf q = none
    let scans := known ∧ ctlEn (s.qCtl q) = true
    (¬ known → Passes (.notifyScan o) s) ∧
    (known → ctlEn (s.qCtl q) = false → exec (.notifyScan o) s = .next (s.qTouch q)) ∧
    (∀ u, scans → s.readNotify q = (u, none) → exec (.notifyScan o) s = .next u) ∧
    (∀ u v, scans → s.readNotify q = (u, some v) → u.overrun q (u.qRead q 0x18 8) v = true →
      exec (.notifyScan o) s = .next (u.ringOverrun q v)) ∧
    (∀ u v, scans → s.readNotify q = (u, some v) → u.overrun q (u.qRead q 0x18 8) v = false → v ≠ u.qRead q 0x20 8 →
      tfind u.pending q = none → exec (.notifyScan o) s = .next { u with pending := tput u.pending q u.gtime })) ∧
  (∀ o : OpSlot,
    (tfind s.slots o.slot = none → Passes (.notifyNotice o) s ∧ Passes (.queueUnmap o) s ∧ Passes (.watchdogExpiry o) s) ∧
    (∀ k u v, tfind s.slots o.slot = some k → ctlEn ((s.qTouch k.queue).qCtl k.queue) = true →
      (s.qTouch k.queue).readNotify k.queue = (u, some v) → u.overrun k.queue k.head v = false →
      exec (.notifyNotice o) s = .next ((u.setSlot o.slot { k with notify := v }).noteIdle o.slot)) ∧
    (∀ k, tfind s.slots o.slot = some k →
      let due := k.exp = false ∧ k.wdlim ≠ 0 ∧ k.wdlim * 1000 ≤ k.wdcount ∧ k.rose ≠ s.gtime
      (¬ due → Passes (.watchdogExpiry o) s) ∧
      (due → exec (.watchdogExpiry o) s = .next (
        let u := ((s.setSlot o.slot { k with exp := true }).qCtlBit k.queue 25 true)
        (u.queueEvent k.queue 3 0 (s.wdNode o.slot k) (s.slotTasks o.slot k)).interrupt
          (u.eventBytes k.queue 3 0 (s.wdNode o.slot k) (s.slotTasks o.slot k))))) ∧
    (∀ k, (s.noteIdle o.slot) = s → tfind s.slots o.slot = some k →
      let long := ∃ t, k.idle = some t ∧ t + 10000 ≤ s.gtime
      let unmaps := s.mayUnmap o.slot k = true ∧ (long ∨ ctlEn (s.qCtl k.queue) = false ∨ s.mustYield o.slot = true)
      (¬ unmaps → Passes (.queueUnmap o) s) ∧
      (unmaps → k.run = none → exec (.queueUnmap o) s = .next (s.unmapSlot o.slot)))) ∧
  ((∀ n, n < 64 → (tfind s.slots n).isSome = true) ∨ s.pending = [] → Passes .queueMap s) ∧
  (∀ n q, n < 64 → tfind s.slots n = none → (∀ m, m < n → (tfind s.slots m).isSome = true) → s.nextPending = some q →
    exec .queueMap s = .next (s.mapQueue n q)) ∧
  (∀ o : OpPort, exec (.galleryArbitration o) s = .next (s.arbitrate o.plane o.p o.port).serveBlocks ∧
    (s.heads o.plane o.p o.port = [] → (∀ b ∈ s.blocks, b.2.queued = 0) → ∃ t : State, exec (.galleryArbitration o) s = .next t ∧ { t with ports := s.ports } = s ∧
      ∀ k, tget t.ports k PortArb.reset = tget s.ports k PortArb.reset) ∧
    (∃ t : State, exec (.galarbApply o) s = .next t ∧ { t with ports := s.ports } = s ∧
      ∀ k, tget t.ports k PortArb.reset = { tget s.ports k PortArb.reset with
        galarb := if k = (o.plane * 16 + o.p) * 5 + o.port then s.galarb else (tget s.ports k PortArb.reset).galarb })) ∧
  (∀ o : OpPowerSample, ∃ t : State, exec (.powerSample o) s = .next t ∧ t.power = o.pkg ∧ t.energy = s.energy + o.pkg ∧
    t.overUs = (if s.cap < o.pkg then s.overUs + 1 else 0) ∧
    (∀ c, s.isCore c = true →
      let k := (t.core c).clock
      let above := 20 < t.overUs ∨ ∃ p, t.parts.find? (fun p => shas p.2.cores c) = some p ∧ 20 < p.2.overUs
      (above → k = 105) ∧
      (¬ above → 105 ≤ k ∧ (∀ x ∈ s.corePowers c, powerFmin x ≤ k) ∧
        (k ≤ 210 ∨ (k ≤ 230 ∧ o.pkg < 2400000 ∧ ∀ x ∈ s.corePowers c, powerBoost x = true) ∨
          ∃ x ∈ s.corePowers c, k = (powerFmin x + 4) / 5 * 5))) ∧
    { t with power := s.power, energy := s.energy, overUs := s.overUs, parts := s.parts, cores := s.cores, tasks := s.tasks } = s) ∧
  (let d := s.parts.foldl (fun s p => (s.drain p.1 true).1) s
   exec .thermalTrip s = .next (({ d with tripped := true }.errorRecord logThermal 0).interrupt (d.logBytes logThermal 0)) ∧
   ∀ p ∈ s.parts, (d.part p.1).drained = true) ∧
  (∀ kind loc, let bs := natLe 8 s.gtime ++ natLe 8 kind ++ natLe 16 loc
    (s.errorLog = none → s.errorRecord kind loc = s) ∧
    (∀ r, s.errorLog = some r → r.prod - r.cons = 2 ^ r.n → s.errorRecord kind loc = { s with errorLog := some { r with lost := r.lost + 1 } }) ∧
    (∀ r, s.errorLog = some r → r.prod - r.cons ≠ 2 ^ r.n → s.errorRecord kind loc =
      { s.sysWrite (r.base + 32 * (r.prod % 2 ^ r.n)) bs with errorLog := some { r with prod := r.prod + 1 } })) ∧
  (∀ bs : List Byte, s.interrupt bs = if (s.conn 0).opened then s.sendPacket 0 6 0 0 (bs ++ List.replicate (64 - bs.length) 0) else s) ∧
  ((∀ k ∈ s.slots, k.2.exp = true ∨ k.2.wdlim = 0 ∨ k.2.wdcount < k.2.wdlim * 1000) → ∃ t : State, exec .timeClockEdge s = .next t ∧
    t.gtime = (s.gtime + 1) % 2 ^ 64 ∧ { t with gtime := s.gtime, slots := s.slots, tasks := s.tasks } = s ∧
    (s.slots = [] → t.slots = []) ∧ (∀ k n, n ≠ 0 → t.counter k n = s.counter k n) ∧
    (∀ h x, s.threads = [(h, x)] → x.live = true →
      t.counter x.taskid 0 = s.counter x.taskid 0 + (if Config.cycleEdge s.tick = true then 3 else 2))) ∧
  (∀ n, s.timeMaster = some n → s.pkgNum = some n → exec .timeMessageSend s = .next { s with outbox := s.outbox ++ [.time s.gtime] }) ∧
  (s.timeMaster = none ∨ s.timeMaster ≠ s.pkgNum → Passes .timeMessageSend s) ∧
  (∀ o : OpNs, let n := if ((o.ns : Int) - s.gtime).natAbs ≤ 50 then s.goodMsgs + 1 else 0
    (s.timeMaster = none ∨ s.timeMaster = s.pkgNum ∨ s.linksUp = [] → Passes (.timeMessageReceipt o) s) ∧
    (s.timeMaster ≠ none → s.timeMaster ≠ s.pkgNum → s.linksUp ≠ [] → s.traceRings = [] → ∃ r : Int,
      let t := { s with timeWord := o.ns % 2 ^ 64, rate := r, goodMsgs := n, locked := decide (16 ≤ n) }
      let turns := (s.locked = true ∧ n = 0) ∨ (s.locked = false ∧ 16 ≤ n)
      (-200 ≤ r) ∧ r ≤ 200 ∧ (s.gtime < o.ns → 1 ≤ r) ∧ (o.ns < s.gtime → r ≤ -1) ∧
      (turns → exec (.timeMessageReceipt o) s = .next t.reportLock) ∧ (¬ turns → exec (.timeMessageReceipt o) s = .next t))) ∧
  (s.timeMaster = none → Passes .timeMasterLoss s) ∧
  (let t := { s with timeMaster := none, goodMsgs := 0, locked := false }
   s.timeMaster ≠ none → s.traceRings = [] → (s.locked = true → exec .timeMasterLoss s = .next t.reportLock) ∧ (s.locked = false → exec .timeMasterLoss s = .next t)) ∧
  (s.faultRing = none ∨ s.faultWait = [] ∨ (∃ r, s.faultRing = some r ∧ r.prod - r.cons = 2 ^ r.n) → Passes .pagerFaultRecord s) ∧
  (∀ r f rest, s.faultRing = some r → s.faultWait = f :: rest → r.prod - r.cons ≠ 2 ^ r.n → exec .pagerFaultRecord s =
    .next { s.sysWrite (r.base + 64 * (r.prod % 2 ^ r.n)) f.bytes with
      faultRing := some { r with prod := r.prod + 1 }, faultWait := rest })

/-! Reset, decoding and the step -/

/-- R105, R110, R165, R196, R204, R443, R445: the machine after power-on: no task has run, the boot ROM asks for an image, every entry of every
trap routing table is 11, every scratchpad byte reads 0 and every full/empty bit is empty, the ports of the gallery stand at class 0 with
weights 1, 1, 2, 4 and an age limit of 64, and the first task number is 0. Memory lists nothing, in canonical form.
Rests on the log, entries 4 and 5. -/
def Obligations.ResetState : Prop :=
  let s := State.reset
  Memory.wf s.mem = true ∧ s.mem = [] ∧ (∀ h, (s.thr h).slot = .free) ∧ s.saved = [] ∧ s.taskNext = 0 ∧
  s.boot = .requesting ∧ s.bootImage = [] ∧
  (∀ o c, c < 64 → s.route o c = 3) ∧ (∀ o, s.route o 64 = 2 ∧ s.route o 65 = 3) ∧
  (∀ o c a, a < 2 ^ 24 → s.spadByte o c a = 0 ∧ s.isFull o c a = false) ∧
  (∀ k, (tget s.ports k PortArb.reset).cls = 0 ∧ (tget s.ports k PortArb.reset).served = 0 ∧
    (∀ c, tget (tget s.ports k PortArb.reset).ip c 0 = 0) ∧
    ([0, 1, 2, 3].map (galWeight (tget s.ports k PortArb.reset).galarb)) = [1, 1, 2, 4] ∧
    galLimit (tget s.ports k PortArb.reset).galarb = 64)

/-- R276, R302 to R306, R324 to R331, R356 to R366, R371 to R390, R405: the words that the manual works out by hand decode to the instructions
that it gives them for, with their operands. -/
def Obligations.DecodedWords : Prop :=
  let pre := fun (rm scope ord fe dh : Nat) =>
    ({ rm := rm, sat := 0, scope := scope, ord := ord, o := 0, p := 0, fe := fe, dh := dh, ah := 0, bh := 0 } : Modifier)
  (∀ p ∈ ([(0x00C80297, .addi { d := 5, a := 0, imm := 100 }), (0x3E99, .cLi { d := 6, imm := 61 }), (0x0000007B, .nop),
      (0x0280938300100E7F, .ldFe { kind := 2, d := 7, a := 9, imm := 32 }),
      (0x00CA140B, .stN64 { long := false, b := 5, a := 1, imm := 8 }), (0xFFCC5AAF, .beq { a := 5, b := 6, off := 0x7FF5 }),
      (0x00000010040648FF, .mma { td := 3, ta := 1, tb := 2, la := true, lb := false }),
      (0x004002D3, .mfs { d := 5, n := 0x20 }), (0x0518B52B, .div { d := 10, a := 11, b := 12 }),
      (0x200620CB, .fmadd { d := 1, a := 2, b := 3, c := 4, fmt := 0, rm := 0 }),
      (0xE2CE62CF, .amoAdd { d := 5, a := 6, b := 7, ord := 3, w := 1, scope := 3 }), (0x00C00057, .fenceAll)] :
        List (Nat × Instr)), decodeYeles p.1 = .ok p.2) ∧
  (∀ p ∈ ([(0x000411DF, .vadd { p := none, ok := 0, k := 0, b := 2, a := 1, d := 3 }),
      (0xCE444463, .vfma { p := none, ok := 3, k := 1, b := 2, a := 4, d := 8 }), (0x0004A2DB, .vsetl { d := 5, a := 10, sew := 2 }),
      (0x22C02367, .kffs { p := none, k := 3, a := 2, d := 6 }), (0xF60103E7, .vredmaxi { p := none, ok := 3, k := 0, a := 16, d := 7 }),
      (0xB61882630000087F, .vfcvtRs { p := pre 4 0 0 0 0, t := 11, ok := 2, k := 0, b := 12, a := 8, d := 4 }),
      (0x000051EB, .vld { p := none, k := 0, b := 0, a := 5, d := 3 }), (0x0C5051EB, .vldx { p := none, iw := 2, k := 1, b := 8, a := 5, d := 3 }),
      (0x4000946B00700E7F, .vstFill { p := pre 7 0 0 3 1, indexed := false, iw := 0, k := 0, b := 0, a := 9, d := 8 }),
      (0x1450526F00036E7F, .vamoAdd { p := some (pre 7 3 3 0 0), iw := 2, k := 1, b := 8, a := 5, d := 4 }),
      (0x800402EB00006E7F, .barArr { p := some (pre 7 3 0 0 0), d := 5, n := 2 }),
      (0x8804506B00006E7F, .barWait { p := some (pre 7 3 0 0 0), a := 5, n := 2 })] : List (Nat × Instr)), decodeYeles p.1 = .ok p.2) ∧
  (∀ p ∈ ([(0x00006000000000FF, .mcfg { xa := 6 }), (0x0016A000000A02FF, .mld { td := 5, xa := 10, xb := 11 }),
      (0x0016A000140044FF, .mst { ta := 5, la := true, xa := 10, xb := 11 }),
      (0x0000901020060AFF, .mmag { td := 3, va := 8, tb := 2, lb := false, xa := 9 }),
      (0x0000C000A00E0CFF, .mtov { vd := 7, ta := 40, xa := 12 }), (0x0000D000180018FF, .msend { ta := 6, la := false, xa := 13 }),
      (0x1B16A000000020FF, .cpy { bb := 3, xa := 10, xb := 11, xc := 12 }), (0x000C22F3, .tlwaitReg { d := 5, tl := 2, b := 6 }),
      (0x004C92F3, .tlwaitMem { d := 5, a := 9, b := 6 }), (0x00CEA073, .tladv { tl := 10, b := 7 }), (0x01149073, .feclr { a := 9, b := 10 }),
      (0x01401073, .cpyabort { bn := 1 }), (0x01801473, .cpystat { d := 8, bn := 1 })] : List (Nat × Instr)), decodeYeles p.1 = .ok p.2) ∧
  (∀ p ∈ ([(0x60400020, .pld { d := 1, a := 0, imm := 0x20 }), (0x0C440FFF, .golpinAndi { d := 1, a := 1, imm := 0xFFF }),
      (0x18440002, .golpinSlli { d := 1, a := 1, sh := 2 }), (0x08800040, .golpinAddi { d := 2, a := 0, imm := 0x40 }),
      (0x1CCC0005, .golpinSrli { d := 3, a := 3, sh := 5 }), (0x84C20008, .golpinLoop { a := 3, max := 8, len := 8 }),
      (0x80500000, .pfresh { d := 1, a := 4, imm := 0 }), (0x68480000, .pldl { d := 1, a := 2, imm := 0 }),
      (0x78840000, .sldl { d := 2, a := 1, imm := 0 }), (0x40886900, .lfaddVv { d := 2, a := 2, b := 1, jm := 1 }),
      (0x7C840000, .sstl { d := 2, a := 1, imm := 0 }), (0x90000000, .golpinDrop)] : List (Nat × Instr)), decodeGolpin p.1 = .ok p.2)

/-- R253 to R255, R396, R402, R410: whose turn it is, and what runs then. A thread that holds a task runs the instruction that its bytes at
the pc decode to, once its streams have done what they can, unless a stop or a deferred trap comes first; one whose register waits for a
vector result waits, and bits that decode to nothing are illegal; one that has issued an access goes on with its instruction. An engine runs the
word at its pc, and an event of the device itself. That a turn which meets a closed bank where it may not wait in place is taken back, and
changes nothing but the agenda, is the model's choice (log 89); a turn answers the drains that it completes. Rests on the log, entries 1, 3
and 89. -/
def Obligations.StepRunsTheDecodedInstruction : Prop := ∀ s : State,
  let agent := s.agenda.headD s.actor
  let s1 := { s with tick := s.tick + 1, agenda := s.agenda.tail }
  let runs := fun (r : Res) =>
    (∀ u, r = .next u → u.stalled = false → step s = .next u.answerDrains) ∧ (∀ u, r = .next u → u.stalled = true → step s = .next s1) ∧
    ((∀ u, r ≠ .next u) → step s = r)
  (∀ h : Nat,
    let q := { s1 with hart := h }.pump h
    let m := q.makeRoom
    agent = .thread h → s.isThread h = true → (s.thr h).live = true → q.cur.stopReq = none →
    nextPend q.cur.pend = none → q.cur.slot ≠ .draining →
      (∀ w p i, q.cur.away = some (w, p) → decodeYeles w = .ok i → q.cur.interlocked (instrRegs i) = false →
        runs (exec i { q with ir := w })) ∧
      (q.cur.away = none → 1024 ≤ (m.core (coreOf m.hart)).l1d.length → runs (.next (m.waiting .refresh))) ∧
      (∀ w u, q.cur.away = none → (m.core (coreOf m.hart)).l1d.length < 1024 → m.fetch = .ok u w →
        (∀ i, decodeYeles w = .ok i → u.cur.interlocked (instrRegs i) = false → runs (exec i { u with ir := w })) ∧
        (∀ i, decodeYeles w = .ok i → u.cur.interlocked (instrRegs i) = true → runs (.next ({ u with ir := w }.waiting .readback))) ∧
        (∀ e, decodeYeles w = .error e → runs (.next ({ u with ir := w }.precise (Pend.plain 0 1 (BitVec.ofNat 64 w))))))) ∧
  (∀ u : State, (∀ p ∈ u.parts, (u.part p.1).owed = none) → u.answerDrains = u) ∧
  (∀ (h : Nat) (va : Word) (u : State) (pa : Nat) (m : Nat) (x : Nat),
    let p := { s with hart := h }
    p.place .fetch va 2 = .ok u (.phys pa m x) → pa % 2 = 0 → tfind (u.core (coreOf h)).l1i (pa / 64) = none → u.hart = h →
    u.cur = p.cur → u.lineShut (pa / 64) = false → u.badAt pa 2 = none → ∃ t, p.fetchParcel va =
      .ok t ((u.dramByte p.cur.owner pa).toNat + 256 * (u.dramByte p.cur.owner (pa + 1)).toNat)) ∧
  (∀ e i, agent = .engine e → e < 32 → (s.engine e).busy = true → (s.engine e).cyc < 512 →
    decodeGolpin (s.engine e).wordAt = .ok i → runs (exec i { s1 with eng := e, ir := (s.engine e).wordAt })) ∧
  (∀ i, agent = .event i → (encode i).bytes = 0 → runs (exec i s1)) ∧
  (∀ i, agent = .event i → (encode i).bytes ≠ 0 → step s = .fault .notAnEvent) ∧
  (∀ h, agent = .thread h → s.isThread h = true → (s.thr h).live = false → s.stalled = false → step s = .next s1.answerDrains)

/-! Encoding, and what every step keeps -/

/-- R253 to R270, R405: decoding and encoding agree. Every well-formed instruction that has an encoding is what its own word decodes to,
whatever bits follow that word; and a word that decodes to an instruction is that instruction's encoding, so no bit is ignored. -/
def Obligations.RoundTrip : Prop :=
  (∀ (i : Instr) (above : Nat), i.wf = true → (encode i).bytes ≠ 0 →
    (decodeYeles ((encode i).word + above * 2 ^ (8 * (encode i).bytes)) = .ok i ∧ (encode i).bytes = instrLen (encode i).word) ∨
    (decodeGolpin ((encode i).word + above * 2 ^ 32) = .ok i ∧ (encode i).bytes = 4)) ∧
  (∀ w i, decodeYeles w = .ok i → i.wf = true ∧ encode i = ⟨instrLen w, w % 2 ^ (8 * instrLen w)⟩) ∧
  (∀ w i, decodeGolpin w = .ok i → i.wf = true ∧ encode i = ⟨4, w % 2 ^ 32⟩)

/-- The memory keeps its canonical form over every step, of whichever agent: its addresses rise strictly. (An unlisted address reads as a
free byte, so no entry could be dropped.) Rests on the log, entry 4. -/
def Obligations.MemoryStaysCanonical : Prop := ∀ s t : State, Memory.wf s.mem = true → step s = .next t → Memory.wf t.mem = true
end

