-- ==== Sys2Proof/Laws/Table.lean ====
section
/-! SUPPORT. The laws of tables: what a key reads after a change, and that the keys stay strictly rising. -/

namespace Sys2Proof.Machine

variable {α : Type}

theorem tget_tput (t : Table α) (k j : Nat) (v d : α) : tget (tput t k v) j d = if j = k then v else tget t j d := by
  induction t with
  | nil => simp only [tput, tget]; grind
  | cons p r ih =>
    obtain ⟨a, b⟩ := p
    simp only [tput]
    split
    · simp only [tget]; grind
    · split
      · simp only [tget]; grind
      · simp only [tget, ih]; grind

theorem tfind_tput (t : Table α) (k j : Nat) (v : α) : tfind (tput t k v) j = if j = k then some v else tfind t j := by
  induction t with
  | nil => simp only [tput, tfind]; grind
  | cons p r ih =>
    obtain ⟨a, b⟩ := p
    simp only [tput]
    split
    · simp only [tfind]; grind
    · split
      · simp only [tfind]; grind
      · simp only [tfind, ih]; grind

theorem tget_filter (t : Table α) (q : Nat → Bool) (j : Nat) (d : α) :
    tget (t.filter (fun p => q p.1)) j d = if q j then tget t j d else d := by
  induction t with
  | nil => simp [tget]
  | cons p r ih => obtain ⟨a, b⟩ := p; simp only [List.filter_cons, tget]; split <;> simp only [tget, ih] <;> grind

theorem tfind_filter (t : Table α) (q : Nat → Bool) (j : Nat) :
    tfind (t.filter (fun p => q p.1)) j = if q j then tfind t j else none := by
  induction t with
  | nil => simp [tfind]
  | cons p r ih => obtain ⟨a, b⟩ := p; simp only [List.filter_cons, tfind]; split <;> simp only [tfind, ih] <;> grind

theorem tget_tdel (t : Table α) (k j : Nat) (d : α) : tget (tdel t k) j d = if j = k then d else tget t j d := by
  rw [tdel, tget_filter t (fun a => !decide (a = k))]; grind

theorem tfind_tdel (t : Table α) (k j : Nat) : tfind (tdel t k) j = if j = k then none else tfind t j := by
  rw [tdel, tfind_filter t (fun a => !decide (a = k))]; grind

theorem tget_tset [DecidableEq α] (t : Table α) (k j : Nat) (v d : α) :
    tget (tset t k v d) j d = if j = k then v else tget t j d := by
  rw [tset]; split
  · rw [tget_tdel]; grind
  · rw [tget_tput]

theorem tget_tput_self (t : Table α) (k : Nat) (v d : α) : tget (tput t k v) k d = v := by rw [tget_tput]; simp
theorem tget_tput_ne (t : Table α) {k j : Nat} (v d : α) (h : j ≠ k) : tget (tput t k v) j d = tget t j d := by rw [tget_tput]; simp [h]

/-! Rising keys -/

theorem rising_iff (t : Table α) : rising t = true ↔ t.Pairwise (fun a b => a.1 < b.1) := by
  induction t with
  | nil => simp [rising]
  | cons a r ih =>
    cases r with
    | nil => simp [rising]
    | cons b r =>
      simp only [rising, Bool.and_eq_true, decide_eq_true_eq, ih, List.pairwise_cons, List.mem_cons]
      grind

theorem mem_tput {t : Table α} {k : Nat} {v : α} {p : Nat × α} (h : p ∈ tput t k v) : p = (k, v) ∨ p ∈ t := by
  induction t with
  | nil => simp_all [tput]
  | cons a r ih => obtain ⟨x, y⟩ := a; simp only [tput] at h; grind

theorem rising_tput {t : Table α} (k : Nat) (v : α) (h : rising t = true) : rising (tput t k v) = true := by
  rw [rising_iff] at *
  induction t with
  | nil => simp [tput]
  | cons a r ih =>
    obtain ⟨x, y⟩ := a
    rw [List.pairwise_cons] at h
    simp only [tput]
    split
    · rw [List.pairwise_cons, List.pairwise_cons]; grind
    · split
      · rw [List.pairwise_cons]; grind
      · rw [List.pairwise_cons]
        refine ⟨fun p hp => ?_, ih h.2⟩
        rcases mem_tput hp with rfl | hp <;> grind

theorem rising_filter {t : Table α} (q : Nat × α → Bool) (h : rising t = true) : rising (t.filter q) = true := by
  rw [rising_iff] at *; exact h.filter q

theorem rising_tdel {t : Table α} (k : Nat) (h : rising t = true) : rising (tdel t k) = true := rising_filter _ h

theorem rising_tset [DecidableEq α] {t : Table α} (k : Nat) (v d : α) (h : rising t = true) : rising (tset t k v d) = true := by
  rw [tset]; split
  · exact rising_tdel k h
  · exact rising_tput k v h

/-- A table written by `tset` lists no default. -/
theorem tset_lists_no_default [DecidableEq α] {t : Table α} {k : Nat} {v d : α} (h : ∀ p ∈ t, p.2 ≠ d) :
    ∀ p ∈ tset t k v d, p.2 ≠ d := by
  intro p hp
  rw [tset] at hp
  split at hp
  · exact h p (List.mem_of_mem_filter hp)
  · rcases mem_tput hp with rfl | hp
    · assumption
    · exact h p hp

/-! Sets of numbers -/

theorem shas_sadd (l : List Nat) (n m : Nat) : shas (sadd l n) m = (decide (m = n) || shas l m) := by
  induction l with
  | nil => simp [sadd, shas, eq_comm]
  | cons a r ih => simp only [shas] at *; simp only [sadd]; grind

theorem shas_sdel (l : List Nat) (n m : Nat) : shas (sdel l n) m = (!decide (m = n) && shas l m) := by
  simp only [shas, sdel, List.any_filter]
  induction l with
  | nil => simp
  | cons a r ih => simp only [List.any_cons]; grind

end Sys2Proof.Machine
end

