-- ==== Sys2Proof/Laws/State.lean ====
section
/-! SUPPORT. What each field of State reads after each of its named updates, and what each accessor reads. -/

namespace Sys2Proof.Machine

section setThr
variable (s : State) (n : Nat) (v : Thread)
@[simp] theorem State.setThr_agenda : (s.setThr n v).agenda = s.agenda := rfl
@[simp] theorem State.setThr_actor : (s.setThr n v).actor = s.actor := rfl
@[simp] theorem State.setThr_hart : (s.setThr n v).hart = s.hart := rfl
@[simp] theorem State.setThr_eng : (s.setThr n v).eng = s.eng := rfl
@[simp] theorem State.setThr_ir : (s.setThr n v).ir = s.ir := rfl
@[simp] theorem State.setThr_tick : (s.setThr n v).tick = s.tick := rfl
@[simp] theorem State.setThr_lockstep : (s.setThr n v).lockstep = s.lockstep := rfl
@[simp] theorem State.setThr_travel : (s.setThr n v).travel = s.travel := rfl
@[simp] theorem State.setThr_stalled : (s.setThr n v).stalled = s.stalled := rfl
@[simp] theorem State.setThr_mem : (s.setThr n v).mem = s.mem := rfl
@[simp] theorem State.setThr_keys : (s.setThr n v).keys = s.keys := rfl
@[simp] theorem State.setThr_badWords : (s.setThr n v).badWords = s.badWords := rfl
@[simp] theorem State.setThr_spad : (s.setThr n v).spad = s.spad := rfl
@[simp] theorem State.setThr_spadOwner : (s.setThr n v).spadOwner = s.spadOwner := rfl
@[simp] theorem State.setThr_spadFull : (s.setThr n v).spadFull = s.spadFull := rfl
@[simp] theorem State.setThr_spadLoose : (s.setThr n v).spadLoose = s.spadLoose := rfl
@[simp] theorem State.setThr_cores : (s.setThr n v).cores = s.cores := rfl
@[simp] theorem State.setThr_cutwork : (s.setThr n v).cutwork = s.cutwork := rfl
@[simp] theorem State.setThr_defects : (s.setThr n v).defects = s.defects := rfl
@[simp] theorem State.setThr_pillars : (s.setThr n v).pillars = s.pillars := rfl
@[simp] theorem State.setThr_banks : (s.setThr n v).banks = s.banks := rfl
@[simp] theorem State.setThr_l2Queue : (s.setThr n v).l2Queue = s.l2Queue := rfl
@[simp] theorem State.setThr_spadQueue : (s.setThr n v).spadQueue = s.spadQueue := rfl
@[simp] theorem State.setThr_schedTlb : (s.setThr n v).schedTlb = s.schedTlb := rfl
@[simp] theorem State.setThr_shoots : (s.setThr n v).shoots = s.shoots := rfl
@[simp] theorem State.setThr_shootNext : (s.setThr n v).shootNext = s.shootNext := rfl
@[simp] theorem State.setThr_buffers : (s.setThr n v).buffers = s.buffers := rfl
@[simp] theorem State.setThr_ports : (s.setThr n v).ports = s.ports := rfl
@[simp] theorem State.setThr_galarb : (s.setThr n v).galarb = s.galarb := rfl
@[simp] theorem State.setThr_egress : (s.setThr n v).egress = s.egress := rfl
@[simp] theorem State.setThr_engines : (s.setThr n v).engines = s.engines := rfl
@[simp] theorem State.setThr_blocks : (s.setThr n v).blocks = s.blocks := rfl
@[simp] theorem State.setThr_owners : (s.setThr n v).owners = s.owners := rfl
@[simp] theorem State.setThr_parts : (s.setThr n v).parts = s.parts := rfl
@[simp] theorem State.setThr_slots : (s.setThr n v).slots = s.slots := rfl
@[simp] theorem State.setThr_wdHeld : (s.setThr n v).wdHeld = s.wdHeld := rfl
@[simp] theorem State.setThr_pending : (s.setThr n v).pending = s.pending := rfl
@[simp] theorem State.setThr_runs : (s.setThr n v).runs = s.runs := rfl
@[simp] theorem State.setThr_runNext : (s.setThr n v).runNext = s.runNext := rfl
@[simp] theorem State.setThr_saved : (s.setThr n v).saved = s.saved := rfl
@[simp] theorem State.setThr_tasks : (s.setThr n v).tasks = s.tasks := rfl
@[simp] theorem State.setThr_taskNext : (s.setThr n v).taskNext = s.taskNext := rfl
@[simp] theorem State.setThr_orderNext : (s.setThr n v).orderNext = s.orderNext := rfl
@[simp] theorem State.setThr_redLast : (s.setThr n v).redLast = s.redLast := rfl
@[simp] theorem State.setThr_portable : (s.setThr n v).portable = s.portable := rfl
@[simp] theorem State.setThr_queueBase : (s.setThr n v).queueBase = s.queueBase := rfl
@[simp] theorem State.setThr_faultRing : (s.setThr n v).faultRing = s.faultRing := rfl
@[simp] theorem State.setThr_faultWait : (s.setThr n v).faultWait = s.faultWait := rfl
@[simp] theorem State.setThr_traceRings : (s.setThr n v).traceRings = s.traceRings := rfl
@[simp] theorem State.setThr_traceSeq : (s.setThr n v).traceSeq = s.traceSeq := rfl
@[simp] theorem State.setThr_errorLog : (s.setThr n v).errorLog = s.errorLog := rfl
@[simp] theorem State.setThr_gtime : (s.setThr n v).gtime = s.gtime := rfl
@[simp] theorem State.setThr_gtimeSet : (s.setThr n v).gtimeSet = s.gtimeSet := rfl
@[simp] theorem State.setThr_timeMaster : (s.setThr n v).timeMaster = s.timeMaster := rfl
@[simp] theorem State.setThr_rate : (s.setThr n v).rate = s.rate := rfl
@[simp] theorem State.setThr_goodMsgs : (s.setThr n v).goodMsgs = s.goodMsgs := rfl
@[simp] theorem State.setThr_locked : (s.setThr n v).locked = s.locked := rfl
@[simp] theorem State.setThr_pkgNum : (s.setThr n v).pkgNum = s.pkgNum := rfl
@[simp] theorem State.setThr_linksDown : (s.setThr n v).linksDown = s.linksDown := rfl
@[simp] theorem State.setThr_remotes : (s.setThr n v).remotes = s.remotes := rfl
@[simp] theorem State.setThr_remoteNext : (s.setThr n v).remoteNext = s.remoteNext := rfl
@[simp] theorem State.setThr_timeWord : (s.setThr n v).timeWord = s.timeWord := rfl
@[simp] theorem State.setThr_outbox : (s.setThr n v).outbox = s.outbox := rfl
@[simp] theorem State.setThr_misdirected : (s.setThr n v).misdirected = s.misdirected := rfl
@[simp] theorem State.setThr_power : (s.setThr n v).power = s.power := rfl
@[simp] theorem State.setThr_cap : (s.setThr n v).cap = s.cap := rfl
@[simp] theorem State.setThr_energy : (s.setThr n v).energy = s.energy := rfl
@[simp] theorem State.setThr_overUs : (s.setThr n v).overUs = s.overUs := rfl
@[simp] theorem State.setThr_tripped : (s.setThr n v).tripped = s.tripped := rfl
@[simp] theorem State.setThr_boot : (s.setThr n v).boot = s.boot := rfl
@[simp] theorem State.setThr_bootImage : (s.setThr n v).bootImage = s.bootImage := rfl
@[simp] theorem State.setThr_bootRequests : (s.setThr n v).bootRequests = s.bootRequests := rfl
@[simp] theorem State.setThr_conns : (s.setThr n v).conns = s.conns := rfl
@[simp] theorem State.setThr_ethIn : (s.setThr n v).ethIn = s.ethIn := rfl
@[simp] theorem State.setThr_ethDrops : (s.setThr n v).ethDrops = s.ethDrops := rfl
@[simp] theorem State.setThr_answers : (s.setThr n v).answers = s.answers := rfl
@[simp] theorem State.setThr_ctlIn : (s.setThr n v).ctlIn = s.ctlIn := rfl
@[simp] theorem State.setThr_ctlHeld : (s.setThr n v).ctlHeld = s.ctlHeld := rfl
@[simp] theorem State.setThr_core (m : Nat) : (s.setThr n v).core m = s.core m := rfl
@[simp] theorem State.setThr_pillar (m : Nat) : (s.setThr n v).pillar m = s.pillar m := rfl
@[simp] theorem State.setThr_bank (m : Nat) : (s.setThr n v).bank m = s.bank m := rfl
@[simp] theorem State.setThr_engine (m : Nat) : (s.setThr n v).engine m = s.engine m := rfl
@[simp] theorem State.setThr_block (m : Nat) : (s.setThr n v).block m = s.block m := rfl
@[simp] theorem State.setThr_owner (m : Nat) : (s.setThr n v).owner m = s.owner m := rfl
@[simp] theorem State.setThr_part (m : Nat) : (s.setThr n v).part m = s.part m := rfl
@[simp] theorem State.setThr_conn (m : Nat) : (s.setThr n v).conn m = s.conn m := rfl
@[simp] theorem State.setThr_words (m : Nat) : (s.setThr n v).words m = s.words m := rfl
theorem State.thr_setThr (m : Nat) : (s.setThr n v).thr m = if m = n then v else s.thr m := tget_tput _ _ _ _ _
@[simp] theorem State.thr_setThr_self : (s.setThr n v).thr n = v := tget_tput_self _ _ _ _
theorem State.thr_setThr_ne {m : Nat} (h : m ≠ n) : (s.setThr n v).thr m = s.thr m := tget_tput_ne _ _ _ h
end setThr

section setCore
variable (s : State) (n : Nat) (v : Core)
@[simp] theorem State.setCore_agenda : (s.setCore n v).agenda = s.agenda := rfl
@[simp] theorem State.setCore_actor : (s.setCore n v).actor = s.actor := rfl
@[simp] theorem State.setCore_hart : (s.setCore n v).hart = s.hart := rfl
@[simp] theorem State.setCore_eng : (s.setCore n v).eng = s.eng := rfl
@[simp] theorem State.setCore_ir : (s.setCore n v).ir = s.ir := rfl
@[simp] theorem State.setCore_tick : (s.setCore n v).tick = s.tick := rfl
@[simp] theorem State.setCore_lockstep : (s.setCore n v).lockstep = s.lockstep := rfl
@[simp] theorem State.setCore_travel : (s.setCore n v).travel = s.travel := rfl
@[simp] theorem State.setCore_stalled : (s.setCore n v).stalled = s.stalled := rfl
@[simp] theorem State.setCore_mem : (s.setCore n v).mem = s.mem := rfl
@[simp] theorem State.setCore_keys : (s.setCore n v).keys = s.keys := rfl
@[simp] theorem State.setCore_badWords : (s.setCore n v).badWords = s.badWords := rfl
@[simp] theorem State.setCore_spad : (s.setCore n v).spad = s.spad := rfl
@[simp] theorem State.setCore_spadOwner : (s.setCore n v).spadOwner = s.spadOwner := rfl
@[simp] theorem State.setCore_spadFull : (s.setCore n v).spadFull = s.spadFull := rfl
@[simp] theorem State.setCore_spadLoose : (s.setCore n v).spadLoose = s.spadLoose := rfl
@[simp] theorem State.setCore_threads : (s.setCore n v).threads = s.threads := rfl
@[simp] theorem State.setCore_cutwork : (s.setCore n v).cutwork = s.cutwork := rfl
@[simp] theorem State.setCore_defects : (s.setCore n v).defects = s.defects := rfl
@[simp] theorem State.setCore_pillars : (s.setCore n v).pillars = s.pillars := rfl
@[simp] theorem State.setCore_banks : (s.setCore n v).banks = s.banks := rfl
@[simp] theorem State.setCore_l2Queue : (s.setCore n v).l2Queue = s.l2Queue := rfl
@[simp] theorem State.setCore_spadQueue : (s.setCore n v).spadQueue = s.spadQueue := rfl
@[simp] theorem State.setCore_schedTlb : (s.setCore n v).schedTlb = s.schedTlb := rfl
@[simp] theorem State.setCore_shoots : (s.setCore n v).shoots = s.shoots := rfl
@[simp] theorem State.setCore_shootNext : (s.setCore n v).shootNext = s.shootNext := rfl
@[simp] theorem State.setCore_buffers : (s.setCore n v).buffers = s.buffers := rfl
@[simp] theorem State.setCore_ports : (s.setCore n v).ports = s.ports := rfl
@[simp] theorem State.setCore_galarb : (s.setCore n v).galarb = s.galarb := rfl
@[simp] theorem State.setCore_egress : (s.setCore n v).egress = s.egress := rfl
@[simp] theorem State.setCore_engines : (s.setCore n v).engines = s.engines := rfl
@[simp] theorem State.setCore_blocks : (s.setCore n v).blocks = s.blocks := rfl
@[simp] theorem State.setCore_owners : (s.setCore n v).owners = s.owners := rfl
@[simp] theorem State.setCore_parts : (s.setCore n v).parts = s.parts := rfl
@[simp] theorem State.setCore_slots : (s.setCore n v).slots = s.slots := rfl
@[simp] theorem State.setCore_wdHeld : (s.setCore n v).wdHeld = s.wdHeld := rfl
@[simp] theorem State.setCore_pending : (s.setCore n v).pending = s.pending := rfl
@[simp] theorem State.setCore_runs : (s.setCore n v).runs = s.runs := rfl
@[simp] theorem State.setCore_runNext : (s.setCore n v).runNext = s.runNext := rfl
@[simp] theorem State.setCore_saved : (s.setCore n v).saved = s.saved := rfl
@[simp] theorem State.setCore_tasks : (s.setCore n v).tasks = s.tasks := rfl
@[simp] theorem State.setCore_taskNext : (s.setCore n v).taskNext = s.taskNext := rfl
@[simp] theorem State.setCore_orderNext : (s.setCore n v).orderNext = s.orderNext := rfl
@[simp] theorem State.setCore_redLast : (s.setCore n v).redLast = s.redLast := rfl
@[simp] theorem State.setCore_portable : (s.setCore n v).portable = s.portable := rfl
@[simp] theorem State.setCore_queueBase : (s.setCore n v).queueBase = s.queueBase := rfl
@[simp] theorem State.setCore_faultRing : (s.setCore n v).faultRing = s.faultRing := rfl
@[simp] theorem State.setCore_faultWait : (s.setCore n v).faultWait = s.faultWait := rfl
@[simp] theorem State.setCore_traceRings : (s.setCore n v).traceRings = s.traceRings := rfl
@[simp] theorem State.setCore_traceSeq : (s.setCore n v).traceSeq = s.traceSeq := rfl
@[simp] theorem State.setCore_errorLog : (s.setCore n v).errorLog = s.errorLog := rfl
@[simp] theorem State.setCore_gtime : (s.setCore n v).gtime = s.gtime := rfl
@[simp] theorem State.setCore_gtimeSet : (s.setCore n v).gtimeSet = s.gtimeSet := rfl
@[simp] theorem State.setCore_timeMaster : (s.setCore n v).timeMaster = s.timeMaster := rfl
@[simp] theorem State.setCore_rate : (s.setCore n v).rate = s.rate := rfl
@[simp] theorem State.setCore_goodMsgs : (s.setCore n v).goodMsgs = s.goodMsgs := rfl
@[simp] theorem State.setCore_locked : (s.setCore n v).locked = s.locked := rfl
@[simp] theorem State.setCore_pkgNum : (s.setCore n v).pkgNum = s.pkgNum := rfl
@[simp] theorem State.setCore_linksDown : (s.setCore n v).linksDown = s.linksDown := rfl
@[simp] theorem State.setCore_remotes : (s.setCore n v).remotes = s.remotes := rfl
@[simp] theorem State.setCore_remoteNext : (s.setCore n v).remoteNext = s.remoteNext := rfl
@[simp] theorem State.setCore_timeWord : (s.setCore n v).timeWord = s.timeWord := rfl
@[simp] theorem State.setCore_outbox : (s.setCore n v).outbox = s.outbox := rfl
@[simp] theorem State.setCore_misdirected : (s.setCore n v).misdirected = s.misdirected := rfl
@[simp] theorem State.setCore_power : (s.setCore n v).power = s.power := rfl
@[simp] theorem State.setCore_cap : (s.setCore n v).cap = s.cap := rfl
@[simp] theorem State.setCore_energy : (s.setCore n v).energy = s.energy := rfl
@[simp] theorem State.setCore_overUs : (s.setCore n v).overUs = s.overUs := rfl
@[simp] theorem State.setCore_tripped : (s.setCore n v).tripped = s.tripped := rfl
@[simp] theorem State.setCore_boot : (s.setCore n v).boot = s.boot := rfl
@[simp] theorem State.setCore_bootImage : (s.setCore n v).bootImage = s.bootImage := rfl
@[simp] theorem State.setCore_bootRequests : (s.setCore n v).bootRequests = s.bootRequests := rfl
@[simp] theorem State.setCore_conns : (s.setCore n v).conns = s.conns := rfl
@[simp] theorem State.setCore_ethIn : (s.setCore n v).ethIn = s.ethIn := rfl
@[simp] theorem State.setCore_ethDrops : (s.setCore n v).ethDrops = s.ethDrops := rfl
@[simp] theorem State.setCore_answers : (s.setCore n v).answers = s.answers := rfl
@[simp] theorem State.setCore_ctlIn : (s.setCore n v).ctlIn = s.ctlIn := rfl
@[simp] theorem State.setCore_ctlHeld : (s.setCore n v).ctlHeld = s.ctlHeld := rfl
@[simp] theorem State.setCore_thr (m : Nat) : (s.setCore n v).thr m = s.thr m := rfl
@[simp] theorem State.setCore_pillar (m : Nat) : (s.setCore n v).pillar m = s.pillar m := rfl
@[simp] theorem State.setCore_bank (m : Nat) : (s.setCore n v).bank m = s.bank m := rfl
@[simp] theorem State.setCore_engine (m : Nat) : (s.setCore n v).engine m = s.engine m := rfl
@[simp] theorem State.setCore_block (m : Nat) : (s.setCore n v).block m = s.block m := rfl
@[simp] theorem State.setCore_owner (m : Nat) : (s.setCore n v).owner m = s.owner m := rfl
@[simp] theorem State.setCore_part (m : Nat) : (s.setCore n v).part m = s.part m := rfl
@[simp] theorem State.setCore_conn (m : Nat) : (s.setCore n v).conn m = s.conn m := rfl
@[simp] theorem State.setCore_words (m : Nat) : (s.setCore n v).words m = s.words m := rfl
theorem State.core_setCore (m : Nat) : (s.setCore n v).core m = if m = n then v else s.core m := tget_tput _ _ _ _ _
@[simp] theorem State.core_setCore_self : (s.setCore n v).core n = v := tget_tput_self _ _ _ _
theorem State.core_setCore_ne {m : Nat} (h : m ≠ n) : (s.setCore n v).core m = s.core m := tget_tput_ne _ _ _ h
end setCore

section setPillar
variable (s : State) (n : Nat) (v : Pillar)
@[simp] theorem State.setPillar_agenda : (s.setPillar n v).agenda = s.agenda := rfl
@[simp] theorem State.setPillar_actor : (s.setPillar n v).actor = s.actor := rfl
@[simp] theorem State.setPillar_hart : (s.setPillar n v).hart = s.hart := rfl
@[simp] theorem State.setPillar_eng : (s.setPillar n v).eng = s.eng := rfl
@[simp] theorem State.setPillar_ir : (s.setPillar n v).ir = s.ir := rfl
@[simp] theorem State.setPillar_tick : (s.setPillar n v).tick = s.tick := rfl
@[simp] theorem State.setPillar_lockstep : (s.setPillar n v).lockstep = s.lockstep := rfl
@[simp] theorem State.setPillar_travel : (s.setPillar n v).travel = s.travel := rfl
@[simp] theorem State.setPillar_stalled : (s.setPillar n v).stalled = s.stalled := rfl
@[simp] theorem State.setPillar_mem : (s.setPillar n v).mem = s.mem := rfl
@[simp] theorem State.setPillar_keys : (s.setPillar n v).keys = s.keys := rfl
@[simp] theorem State.setPillar_badWords : (s.setPillar n v).badWords = s.badWords := rfl
@[simp] theorem State.setPillar_spad : (s.setPillar n v).spad = s.spad := rfl
@[simp] theorem State.setPillar_spadOwner : (s.setPillar n v).spadOwner = s.spadOwner := rfl
@[simp] theorem State.setPillar_spadFull : (s.setPillar n v).spadFull = s.spadFull := rfl
@[simp] theorem State.setPillar_spadLoose : (s.setPillar n v).spadLoose = s.spadLoose := rfl
@[simp] theorem State.setPillar_threads : (s.setPillar n v).threads = s.threads := rfl
@[simp] theorem State.setPillar_cores : (s.setPillar n v).cores = s.cores := rfl
@[simp] theorem State.setPillar_cutwork : (s.setPillar n v).cutwork = s.cutwork := rfl
@[simp] theorem State.setPillar_defects : (s.setPillar n v).defects = s.defects := rfl
@[simp] theorem State.setPillar_banks : (s.setPillar n v).banks = s.banks := rfl
@[simp] theorem State.setPillar_l2Queue : (s.setPillar n v).l2Queue = s.l2Queue := rfl
@[simp] theorem State.setPillar_spadQueue : (s.setPillar n v).spadQueue = s.spadQueue := rfl
@[simp] theorem State.setPillar_schedTlb : (s.setPillar n v).schedTlb = s.schedTlb := rfl
@[simp] theorem State.setPillar_shoots : (s.setPillar n v).shoots = s.shoots := rfl
@[simp] theorem State.setPillar_shootNext : (s.setPillar n v).shootNext = s.shootNext := rfl
@[simp] theorem State.setPillar_buffers : (s.setPillar n v).buffers = s.buffers := rfl
@[simp] theorem State.setPillar_ports : (s.setPillar n v).ports = s.ports := rfl
@[simp] theorem State.setPillar_galarb : (s.setPillar n v).galarb = s.galarb := rfl
@[simp] theorem State.setPillar_egress : (s.setPillar n v).egress = s.egress := rfl
@[simp] theorem State.setPillar_engines : (s.setPillar n v).engines = s.engines := rfl
@[simp] theorem State.setPillar_blocks : (s.setPillar n v).blocks = s.blocks := rfl
@[simp] theorem State.setPillar_owners : (s.setPillar n v).owners = s.owners := rfl
@[simp] theorem State.setPillar_parts : (s.setPillar n v).parts = s.parts := rfl
@[simp] theorem State.setPillar_slots : (s.setPillar n v).slots = s.slots := rfl
@[simp] theorem State.setPillar_wdHeld : (s.setPillar n v).wdHeld = s.wdHeld := rfl
@[simp] theorem State.setPillar_pending : (s.setPillar n v).pending = s.pending := rfl
@[simp] theorem State.setPillar_runs : (s.setPillar n v).runs = s.runs := rfl
@[simp] theorem State.setPillar_runNext : (s.setPillar n v).runNext = s.runNext := rfl
@[simp] theorem State.setPillar_saved : (s.setPillar n v).saved = s.saved := rfl
@[simp] theorem State.setPillar_tasks : (s.setPillar n v).tasks = s.tasks := rfl
@[simp] theorem State.setPillar_taskNext : (s.setPillar n v).taskNext = s.taskNext := rfl
@[simp] theorem State.setPillar_orderNext : (s.setPillar n v).orderNext = s.orderNext := rfl
@[simp] theorem State.setPillar_redLast : (s.setPillar n v).redLast = s.redLast := rfl
@[simp] theorem State.setPillar_portable : (s.setPillar n v).portable = s.portable := rfl
@[simp] theorem State.setPillar_queueBase : (s.setPillar n v).queueBase = s.queueBase := rfl
@[simp] theorem State.setPillar_faultRing : (s.setPillar n v).faultRing = s.faultRing := rfl
@[simp] theorem State.setPillar_faultWait : (s.setPillar n v).faultWait = s.faultWait := rfl
@[simp] theorem State.setPillar_traceRings : (s.setPillar n v).traceRings = s.traceRings := rfl
@[simp] theorem State.setPillar_traceSeq : (s.setPillar n v).traceSeq = s.traceSeq := rfl
@[simp] theorem State.setPillar_errorLog : (s.setPillar n v).errorLog = s.errorLog := rfl
@[simp] theorem State.setPillar_gtime : (s.setPillar n v).gtime = s.gtime := rfl
@[simp] theorem State.setPillar_gtimeSet : (s.setPillar n v).gtimeSet = s.gtimeSet := rfl
@[simp] theorem State.setPillar_timeMaster : (s.setPillar n v).timeMaster = s.timeMaster := rfl
@[simp] theorem State.setPillar_rate : (s.setPillar n v).rate = s.rate := rfl
@[simp] theorem State.setPillar_goodMsgs : (s.setPillar n v).goodMsgs = s.goodMsgs := rfl
@[simp] theorem State.setPillar_locked : (s.setPillar n v).locked = s.locked := rfl
@[simp] theorem State.setPillar_pkgNum : (s.setPillar n v).pkgNum = s.pkgNum := rfl
@[simp] theorem State.setPillar_linksDown : (s.setPillar n v).linksDown = s.linksDown := rfl
@[simp] theorem State.setPillar_remotes : (s.setPillar n v).remotes = s.remotes := rfl
@[simp] theorem State.setPillar_remoteNext : (s.setPillar n v).remoteNext = s.remoteNext := rfl
@[simp] theorem State.setPillar_timeWord : (s.setPillar n v).timeWord = s.timeWord := rfl
@[simp] theorem State.setPillar_outbox : (s.setPillar n v).outbox = s.outbox := rfl
@[simp] theorem State.setPillar_misdirected : (s.setPillar n v).misdirected = s.misdirected := rfl
@[simp] theorem State.setPillar_power : (s.setPillar n v).power = s.power := rfl
@[simp] theorem State.setPillar_cap : (s.setPillar n v).cap = s.cap := rfl
@[simp] theorem State.setPillar_energy : (s.setPillar n v).energy = s.energy := rfl
@[simp] theorem State.setPillar_overUs : (s.setPillar n v).overUs = s.overUs := rfl
@[simp] theorem State.setPillar_tripped : (s.setPillar n v).tripped = s.tripped := rfl
@[simp] theorem State.setPillar_boot : (s.setPillar n v).boot = s.boot := rfl
@[simp] theorem State.setPillar_bootImage : (s.setPillar n v).bootImage = s.bootImage := rfl
@[simp] theorem State.setPillar_bootRequests : (s.setPillar n v).bootRequests = s.bootRequests := rfl
@[simp] theorem State.setPillar_conns : (s.setPillar n v).conns = s.conns := rfl
@[simp] theorem State.setPillar_ethIn : (s.setPillar n v).ethIn = s.ethIn := rfl
@[simp] theorem State.setPillar_ethDrops : (s.setPillar n v).ethDrops = s.ethDrops := rfl
@[simp] theorem State.setPillar_answers : (s.setPillar n v).answers = s.answers := rfl
@[simp] theorem State.setPillar_ctlIn : (s.setPillar n v).ctlIn = s.ctlIn := rfl
@[simp] theorem State.setPillar_ctlHeld : (s.setPillar n v).ctlHeld = s.ctlHeld := rfl
@[simp] theorem State.setPillar_thr (m : Nat) : (s.setPillar n v).thr m = s.thr m := rfl
@[simp] theorem State.setPillar_core (m : Nat) : (s.setPillar n v).core m = s.core m := rfl
@[simp] theorem State.setPillar_bank (m : Nat) : (s.setPillar n v).bank m = s.bank m := rfl
@[simp] theorem State.setPillar_engine (m : Nat) : (s.setPillar n v).engine m = s.engine m := rfl
@[simp] theorem State.setPillar_block (m : Nat) : (s.setPillar n v).block m = s.block m := rfl
@[simp] theorem State.setPillar_owner (m : Nat) : (s.setPillar n v).owner m = s.owner m := rfl
@[simp] theorem State.setPillar_part (m : Nat) : (s.setPillar n v).part m = s.part m := rfl
@[simp] theorem State.setPillar_conn (m : Nat) : (s.setPillar n v).conn m = s.conn m := rfl
@[simp] theorem State.setPillar_words (m : Nat) : (s.setPillar n v).words m = s.words m := rfl
theorem State.pillar_setPillar (m : Nat) : (s.setPillar n v).pillar m = if m = n then v else s.pillar m := tget_tput _ _ _ _ _
@[simp] theorem State.pillar_setPillar_self : (s.setPillar n v).pillar n = v := tget_tput_self _ _ _ _
theorem State.pillar_setPillar_ne {m : Nat} (h : m ≠ n) : (s.setPillar n v).pillar m = s.pillar m := tget_tput_ne _ _ _ h
end setPillar

section setBank
variable (s : State) (n : Nat) (v : Bank)
@[simp] theorem State.setBank_agenda : (s.setBank n v).agenda = s.agenda := rfl
@[simp] theorem State.setBank_actor : (s.setBank n v).actor = s.actor := rfl
@[simp] theorem State.setBank_hart : (s.setBank n v).hart = s.hart := rfl
@[simp] theorem State.setBank_eng : (s.setBank n v).eng = s.eng := rfl
@[simp] theorem State.setBank_ir : (s.setBank n v).ir = s.ir := rfl
@[simp] theorem State.setBank_tick : (s.setBank n v).tick = s.tick := rfl
@[simp] theorem State.setBank_lockstep : (s.setBank n v).lockstep = s.lockstep := rfl
@[simp] theorem State.setBank_travel : (s.setBank n v).travel = s.travel := rfl
@[simp] theorem State.setBank_stalled : (s.setBank n v).stalled = s.stalled := rfl
@[simp] theorem State.setBank_mem : (s.setBank n v).mem = s.mem := rfl
@[simp] theorem State.setBank_keys : (s.setBank n v).keys = s.keys := rfl
@[simp] theorem State.setBank_badWords : (s.setBank n v).badWords = s.badWords := rfl
@[simp] theorem State.setBank_spad : (s.setBank n v).spad = s.spad := rfl
@[simp] theorem State.setBank_spadOwner : (s.setBank n v).spadOwner = s.spadOwner := rfl
@[simp] theorem State.setBank_spadFull : (s.setBank n v).spadFull = s.spadFull := rfl
@[simp] theorem State.setBank_spadLoose : (s.setBank n v).spadLoose = s.spadLoose := rfl
@[simp] theorem State.setBank_threads : (s.setBank n v).threads = s.threads := rfl
@[simp] theorem State.setBank_cores : (s.setBank n v).cores = s.cores := rfl
@[simp] theorem State.setBank_cutwork : (s.setBank n v).cutwork = s.cutwork := rfl
@[simp] theorem State.setBank_defects : (s.setBank n v).defects = s.defects := rfl
@[simp] theorem State.setBank_pillars : (s.setBank n v).pillars = s.pillars := rfl
@[simp] theorem State.setBank_l2Queue : (s.setBank n v).l2Queue = s.l2Queue := rfl
@[simp] theorem State.setBank_spadQueue : (s.setBank n v).spadQueue = s.spadQueue := rfl
@[simp] theorem State.setBank_schedTlb : (s.setBank n v).schedTlb = s.schedTlb := rfl
@[simp] theorem State.setBank_shoots : (s.setBank n v).shoots = s.shoots := rfl
@[simp] theorem State.setBank_shootNext : (s.setBank n v).shootNext = s.shootNext := rfl
@[simp] theorem State.setBank_buffers : (s.setBank n v).buffers = s.buffers := rfl
@[simp] theorem State.setBank_ports : (s.setBank n v).ports = s.ports := rfl
@[simp] theorem State.setBank_galarb : (s.setBank n v).galarb = s.galarb := rfl
@[simp] theorem State.setBank_egress : (s.setBank n v).egress = s.egress := rfl
@[simp] theorem State.setBank_engines : (s.setBank n v).engines = s.engines := rfl
@[simp] theorem State.setBank_blocks : (s.setBank n v).blocks = s.blocks := rfl
@[simp] theorem State.setBank_owners : (s.setBank n v).owners = s.owners := rfl
@[simp] theorem State.setBank_parts : (s.setBank n v).parts = s.parts := rfl
@[simp] theorem State.setBank_slots : (s.setBank n v).slots = s.slots := rfl
@[simp] theorem State.setBank_wdHeld : (s.setBank n v).wdHeld = s.wdHeld := rfl
@[simp] theorem State.setBank_pending : (s.setBank n v).pending = s.pending := rfl
@[simp] theorem State.setBank_runs : (s.setBank n v).runs = s.runs := rfl
@[simp] theorem State.setBank_runNext : (s.setBank n v).runNext = s.runNext := rfl
@[simp] theorem State.setBank_saved : (s.setBank n v).saved = s.saved := rfl
@[simp] theorem State.setBank_tasks : (s.setBank n v).tasks = s.tasks := rfl
@[simp] theorem State.setBank_taskNext : (s.setBank n v).taskNext = s.taskNext := rfl
@[simp] theorem State.setBank_orderNext : (s.setBank n v).orderNext = s.orderNext := rfl
@[simp] theorem State.setBank_redLast : (s.setBank n v).redLast = s.redLast := rfl
@[simp] theorem State.setBank_portable : (s.setBank n v).portable = s.portable := rfl
@[simp] theorem State.setBank_queueBase : (s.setBank n v).queueBase = s.queueBase := rfl
@[simp] theorem State.setBank_faultRing : (s.setBank n v).faultRing = s.faultRing := rfl
@[simp] theorem State.setBank_faultWait : (s.setBank n v).faultWait = s.faultWait := rfl
@[simp] theorem State.setBank_traceRings : (s.setBank n v).traceRings = s.traceRings := rfl
@[simp] theorem State.setBank_traceSeq : (s.setBank n v).traceSeq = s.traceSeq := rfl
@[simp] theorem State.setBank_errorLog : (s.setBank n v).errorLog = s.errorLog := rfl
@[simp] theorem State.setBank_gtime : (s.setBank n v).gtime = s.gtime := rfl
@[simp] theorem State.setBank_gtimeSet : (s.setBank n v).gtimeSet = s.gtimeSet := rfl
@[simp] theorem State.setBank_timeMaster : (s.setBank n v).timeMaster = s.timeMaster := rfl
@[simp] theorem State.setBank_rate : (s.setBank n v).rate = s.rate := rfl
@[simp] theorem State.setBank_goodMsgs : (s.setBank n v).goodMsgs = s.goodMsgs := rfl
@[simp] theorem State.setBank_locked : (s.setBank n v).locked = s.locked := rfl
@[simp] theorem State.setBank_pkgNum : (s.setBank n v).pkgNum = s.pkgNum := rfl
@[simp] theorem State.setBank_linksDown : (s.setBank n v).linksDown = s.linksDown := rfl
@[simp] theorem State.setBank_remotes : (s.setBank n v).remotes = s.remotes := rfl
@[simp] theorem State.setBank_remoteNext : (s.setBank n v).remoteNext = s.remoteNext := rfl
@[simp] theorem State.setBank_timeWord : (s.setBank n v).timeWord = s.timeWord := rfl
@[simp] theorem State.setBank_outbox : (s.setBank n v).outbox = s.outbox := rfl
@[simp] theorem State.setBank_misdirected : (s.setBank n v).misdirected = s.misdirected := rfl
@[simp] theorem State.setBank_power : (s.setBank n v).power = s.power := rfl
@[simp] theorem State.setBank_cap : (s.setBank n v).cap = s.cap := rfl
@[simp] theorem State.setBank_energy : (s.setBank n v).energy = s.energy := rfl
@[simp] theorem State.setBank_overUs : (s.setBank n v).overUs = s.overUs := rfl
@[simp] theorem State.setBank_tripped : (s.setBank n v).tripped = s.tripped := rfl
@[simp] theorem State.setBank_boot : (s.setBank n v).boot = s.boot := rfl
@[simp] theorem State.setBank_bootImage : (s.setBank n v).bootImage = s.bootImage := rfl
@[simp] theorem State.setBank_bootRequests : (s.setBank n v).bootRequests = s.bootRequests := rfl
@[simp] theorem State.setBank_conns : (s.setBank n v).conns = s.conns := rfl
@[simp] theorem State.setBank_ethIn : (s.setBank n v).ethIn = s.ethIn := rfl
@[simp] theorem State.setBank_ethDrops : (s.setBank n v).ethDrops = s.ethDrops := rfl
@[simp] theorem State.setBank_answers : (s.setBank n v).answers = s.answers := rfl
@[simp] theorem State.setBank_ctlIn : (s.setBank n v).ctlIn = s.ctlIn := rfl
@[simp] theorem State.setBank_ctlHeld : (s.setBank n v).ctlHeld = s.ctlHeld := rfl
@[simp] theorem State.setBank_thr (m : Nat) : (s.setBank n v).thr m = s.thr m := rfl
@[simp] theorem State.setBank_core (m : Nat) : (s.setBank n v).core m = s.core m := rfl
@[simp] theorem State.setBank_pillar (m : Nat) : (s.setBank n v).pillar m = s.pillar m := rfl
@[simp] theorem State.setBank_engine (m : Nat) : (s.setBank n v).engine m = s.engine m := rfl
@[simp] theorem State.setBank_block (m : Nat) : (s.setBank n v).block m = s.block m := rfl
@[simp] theorem State.setBank_owner (m : Nat) : (s.setBank n v).owner m = s.owner m := rfl
@[simp] theorem State.setBank_part (m : Nat) : (s.setBank n v).part m = s.part m := rfl
@[simp] theorem State.setBank_conn (m : Nat) : (s.setBank n v).conn m = s.conn m := rfl
@[simp] theorem State.setBank_words (m : Nat) : (s.setBank n v).words m = s.words m := rfl
theorem State.bank_setBank (m : Nat) : (s.setBank n v).bank m = if m = n then v else s.bank m := tget_tput _ _ _ _ _
@[simp] theorem State.bank_setBank_self : (s.setBank n v).bank n = v := tget_tput_self _ _ _ _
theorem State.bank_setBank_ne {m : Nat} (h : m ≠ n) : (s.setBank n v).bank m = s.bank m := tget_tput_ne _ _ _ h
end setBank

section setEngine
variable (s : State) (n : Nat) (v : Engine)
@[simp] theorem State.setEngine_agenda : (s.setEngine n v).agenda = s.agenda := rfl
@[simp] theorem State.setEngine_actor : (s.setEngine n v).actor = s.actor := rfl
@[simp] theorem State.setEngine_hart : (s.setEngine n v).hart = s.hart := rfl
@[simp] theorem State.setEngine_eng : (s.setEngine n v).eng = s.eng := rfl
@[simp] theorem State.setEngine_ir : (s.setEngine n v).ir = s.ir := rfl
@[simp] theorem State.setEngine_tick : (s.setEngine n v).tick = s.tick := rfl
@[simp] theorem State.setEngine_lockstep : (s.setEngine n v).lockstep = s.lockstep := rfl
@[simp] theorem State.setEngine_travel : (s.setEngine n v).travel = s.travel := rfl
@[simp] theorem State.setEngine_stalled : (s.setEngine n v).stalled = s.stalled := rfl
@[simp] theorem State.setEngine_mem : (s.setEngine n v).mem = s.mem := rfl
@[simp] theorem State.setEngine_keys : (s.setEngine n v).keys = s.keys := rfl
@[simp] theorem State.setEngine_badWords : (s.setEngine n v).badWords = s.badWords := rfl
@[simp] theorem State.setEngine_spad : (s.setEngine n v).spad = s.spad := rfl
@[simp] theorem State.setEngine_spadOwner : (s.setEngine n v).spadOwner = s.spadOwner := rfl
@[simp] theorem State.setEngine_spadFull : (s.setEngine n v).spadFull = s.spadFull := rfl
@[simp] theorem State.setEngine_spadLoose : (s.setEngine n v).spadLoose = s.spadLoose := rfl
@[simp] theorem State.setEngine_threads : (s.setEngine n v).threads = s.threads := rfl
@[simp] theorem State.setEngine_cores : (s.setEngine n v).cores = s.cores := rfl
@[simp] theorem State.setEngine_cutwork : (s.setEngine n v).cutwork = s.cutwork := rfl
@[simp] theorem State.setEngine_defects : (s.setEngine n v).defects = s.defects := rfl
@[simp] theorem State.setEngine_pillars : (s.setEngine n v).pillars = s.pillars := rfl
@[simp] theorem State.setEngine_banks : (s.setEngine n v).banks = s.banks := rfl
@[simp] theorem State.setEngine_l2Queue : (s.setEngine n v).l2Queue = s.l2Queue := rfl
@[simp] theorem State.setEngine_spadQueue : (s.setEngine n v).spadQueue = s.spadQueue := rfl
@[simp] theorem State.setEngine_schedTlb : (s.setEngine n v).schedTlb = s.schedTlb := rfl
@[simp] theorem State.setEngine_shoots : (s.setEngine n v).shoots = s.shoots := rfl
@[simp] theorem State.setEngine_shootNext : (s.setEngine n v).shootNext = s.shootNext := rfl
@[simp] theorem State.setEngine_buffers : (s.setEngine n v).buffers = s.buffers := rfl
@[simp] theorem State.setEngine_ports : (s.setEngine n v).ports = s.ports := rfl
@[simp] theorem State.setEngine_galarb : (s.setEngine n v).galarb = s.galarb := rfl
@[simp] theorem State.setEngine_egress : (s.setEngine n v).egress = s.egress := rfl
@[simp] theorem State.setEngine_blocks : (s.setEngine n v).blocks = s.blocks := rfl
@[simp] theorem State.setEngine_owners : (s.setEngine n v).owners = s.owners := rfl
@[simp] theorem State.setEngine_parts : (s.setEngine n v).parts = s.parts := rfl
@[simp] theorem State.setEngine_slots : (s.setEngine n v).slots = s.slots := rfl
@[simp] theorem State.setEngine_wdHeld : (s.setEngine n v).wdHeld = s.wdHeld := rfl
@[simp] theorem State.setEngine_pending : (s.setEngine n v).pending = s.pending := rfl
@[simp] theorem State.setEngine_runs : (s.setEngine n v).runs = s.runs := rfl
@[simp] theorem State.setEngine_runNext : (s.setEngine n v).runNext = s.runNext := rfl
@[simp] theorem State.setEngine_saved : (s.setEngine n v).saved = s.saved := rfl
@[simp] theorem State.setEngine_tasks : (s.setEngine n v).tasks = s.tasks := rfl
@[simp] theorem State.setEngine_taskNext : (s.setEngine n v).taskNext = s.taskNext := rfl
@[simp] theorem State.setEngine_orderNext : (s.setEngine n v).orderNext = s.orderNext := rfl
@[simp] theorem State.setEngine_redLast : (s.setEngine n v).redLast = s.redLast := rfl
@[simp] theorem State.setEngine_portable : (s.setEngine n v).portable = s.portable := rfl
@[simp] theorem State.setEngine_queueBase : (s.setEngine n v).queueBase = s.queueBase := rfl
@[simp] theorem State.setEngine_faultRing : (s.setEngine n v).faultRing = s.faultRing := rfl
@[simp] theorem State.setEngine_faultWait : (s.setEngine n v).faultWait = s.faultWait := rfl
@[simp] theorem State.setEngine_traceRings : (s.setEngine n v).traceRings = s.traceRings := rfl
@[simp] theorem State.setEngine_traceSeq : (s.setEngine n v).traceSeq = s.traceSeq := rfl
@[simp] theorem State.setEngine_errorLog : (s.setEngine n v).errorLog = s.errorLog := rfl
@[simp] theorem State.setEngine_gtime : (s.setEngine n v).gtime = s.gtime := rfl
@[simp] theorem State.setEngine_gtimeSet : (s.setEngine n v).gtimeSet = s.gtimeSet := rfl
@[simp] theorem State.setEngine_timeMaster : (s.setEngine n v).timeMaster = s.timeMaster := rfl
@[simp] theorem State.setEngine_rate : (s.setEngine n v).rate = s.rate := rfl
@[simp] theorem State.setEngine_goodMsgs : (s.setEngine n v).goodMsgs = s.goodMsgs := rfl
@[simp] theorem State.setEngine_locked : (s.setEngine n v).locked = s.locked := rfl
@[simp] theorem State.setEngine_pkgNum : (s.setEngine n v).pkgNum = s.pkgNum := rfl
@[simp] theorem State.setEngine_linksDown : (s.setEngine n v).linksDown = s.linksDown := rfl
@[simp] theorem State.setEngine_remotes : (s.setEngine n v).remotes = s.remotes := rfl
@[simp] theorem State.setEngine_remoteNext : (s.setEngine n v).remoteNext = s.remoteNext := rfl
@[simp] theorem State.setEngine_timeWord : (s.setEngine n v).timeWord = s.timeWord := rfl
@[simp] theorem State.setEngine_outbox : (s.setEngine n v).outbox = s.outbox := rfl
@[simp] theorem State.setEngine_misdirected : (s.setEngine n v).misdirected = s.misdirected := rfl
@[simp] theorem State.setEngine_power : (s.setEngine n v).power = s.power := rfl
@[simp] theorem State.setEngine_cap : (s.setEngine n v).cap = s.cap := rfl
@[simp] theorem State.setEngine_energy : (s.setEngine n v).energy = s.energy := rfl
@[simp] theorem State.setEngine_overUs : (s.setEngine n v).overUs = s.overUs := rfl
@[simp] theorem State.setEngine_tripped : (s.setEngine n v).tripped = s.tripped := rfl
@[simp] theorem State.setEngine_boot : (s.setEngine n v).boot = s.boot := rfl
@[simp] theorem State.setEngine_bootImage : (s.setEngine n v).bootImage = s.bootImage := rfl
@[simp] theorem State.setEngine_bootRequests : (s.setEngine n v).bootRequests = s.bootRequests := rfl
@[simp] theorem State.setEngine_conns : (s.setEngine n v).conns = s.conns := rfl
@[simp] theorem State.setEngine_ethIn : (s.setEngine n v).ethIn = s.ethIn := rfl
@[simp] theorem State.setEngine_ethDrops : (s.setEngine n v).ethDrops = s.ethDrops := rfl
@[simp] theorem State.setEngine_answers : (s.setEngine n v).answers = s.answers := rfl
@[simp] theorem State.setEngine_ctlIn : (s.setEngine n v).ctlIn = s.ctlIn := rfl
@[simp] theorem State.setEngine_ctlHeld : (s.setEngine n v).ctlHeld = s.ctlHeld := rfl
@[simp] theorem State.setEngine_thr (m : Nat) : (s.setEngine n v).thr m = s.thr m := rfl
@[simp] theorem State.setEngine_core (m : Nat) : (s.setEngine n v).core m = s.core m := rfl
@[simp] theorem State.setEngine_pillar (m : Nat) : (s.setEngine n v).pillar m = s.pillar m := rfl
@[simp] theorem State.setEngine_bank (m : Nat) : (s.setEngine n v).bank m = s.bank m := rfl
@[simp] theorem State.setEngine_block (m : Nat) : (s.setEngine n v).block m = s.block m := rfl
@[simp] theorem State.setEngine_owner (m : Nat) : (s.setEngine n v).owner m = s.owner m := rfl
@[simp] theorem State.setEngine_part (m : Nat) : (s.setEngine n v).part m = s.part m := rfl
@[simp] theorem State.setEngine_conn (m : Nat) : (s.setEngine n v).conn m = s.conn m := rfl
@[simp] theorem State.setEngine_words (m : Nat) : (s.setEngine n v).words m = s.words m := rfl
theorem State.engine_setEngine (m : Nat) : (s.setEngine n v).engine m = if m = n then v else s.engine m := tget_tput _ _ _ _ _
@[simp] theorem State.engine_setEngine_self : (s.setEngine n v).engine n = v := tget_tput_self _ _ _ _
theorem State.engine_setEngine_ne {m : Nat} (h : m ≠ n) : (s.setEngine n v).engine m = s.engine m := tget_tput_ne _ _ _ h
end setEngine

section setBlock
variable (s : State) (n : Nat) (v : PortBlock)
@[simp] theorem State.setBlock_agenda : (s.setBlock n v).agenda = s.agenda := rfl
@[simp] theorem State.setBlock_actor : (s.setBlock n v).actor = s.actor := rfl
@[simp] theorem State.setBlock_hart : (s.setBlock n v).hart = s.hart := rfl
@[simp] theorem State.setBlock_eng : (s.setBlock n v).eng = s.eng := rfl
@[simp] theorem State.setBlock_ir : (s.setBlock n v).ir = s.ir := rfl
@[simp] theorem State.setBlock_tick : (s.setBlock n v).tick = s.tick := rfl
@[simp] theorem State.setBlock_lockstep : (s.setBlock n v).lockstep = s.lockstep := rfl
@[simp] theorem State.setBlock_travel : (s.setBlock n v).travel = s.travel := rfl
@[simp] theorem State.setBlock_stalled : (s.setBlock n v).stalled = s.stalled := rfl
@[simp] theorem State.setBlock_mem : (s.setBlock n v).mem = s.mem := rfl
@[simp] theorem State.setBlock_keys : (s.setBlock n v).keys = s.keys := rfl
@[simp] theorem State.setBlock_badWords : (s.setBlock n v).badWords = s.badWords := rfl
@[simp] theorem State.setBlock_spad : (s.setBlock n v).spad = s.spad := rfl
@[simp] theorem State.setBlock_spadOwner : (s.setBlock n v).spadOwner = s.spadOwner := rfl
@[simp] theorem State.setBlock_spadFull : (s.setBlock n v).spadFull = s.spadFull := rfl
@[simp] theorem State.setBlock_spadLoose : (s.setBlock n v).spadLoose = s.spadLoose := rfl
@[simp] theorem State.setBlock_threads : (s.setBlock n v).threads = s.threads := rfl
@[simp] theorem State.setBlock_cores : (s.setBlock n v).cores = s.cores := rfl
@[simp] theorem State.setBlock_cutwork : (s.setBlock n v).cutwork = s.cutwork := rfl
@[simp] theorem State.setBlock_defects : (s.setBlock n v).defects = s.defects := rfl
@[simp] theorem State.setBlock_pillars : (s.setBlock n v).pillars = s.pillars := rfl
@[simp] theorem State.setBlock_banks : (s.setBlock n v).banks = s.banks := rfl
@[simp] theorem State.setBlock_l2Queue : (s.setBlock n v).l2Queue = s.l2Queue := rfl
@[simp] theorem State.setBlock_spadQueue : (s.setBlock n v).spadQueue = s.spadQueue := rfl
@[simp] theorem State.setBlock_schedTlb : (s.setBlock n v).schedTlb = s.schedTlb := rfl
@[simp] theorem State.setBlock_shoots : (s.setBlock n v).shoots = s.shoots := rfl
@[simp] theorem State.setBlock_shootNext : (s.setBlock n v).shootNext = s.shootNext := rfl
@[simp] theorem State.setBlock_buffers : (s.setBlock n v).buffers = s.buffers := rfl
@[simp] theorem State.setBlock_ports : (s.setBlock n v).ports = s.ports := rfl
@[simp] theorem State.setBlock_galarb : (s.setBlock n v).galarb = s.galarb := rfl
@[simp] theorem State.setBlock_egress : (s.setBlock n v).egress = s.egress := rfl
@[simp] theorem State.setBlock_engines : (s.setBlock n v).engines = s.engines := rfl
@[simp] theorem State.setBlock_owners : (s.setBlock n v).owners = s.owners := rfl
@[simp] theorem State.setBlock_parts : (s.setBlock n v).parts = s.parts := rfl
@[simp] theorem State.setBlock_slots : (s.setBlock n v).slots = s.slots := rfl
@[simp] theorem State.setBlock_wdHeld : (s.setBlock n v).wdHeld = s.wdHeld := rfl
@[simp] theorem State.setBlock_pending : (s.setBlock n v).pending = s.pending := rfl
@[simp] theorem State.setBlock_runs : (s.setBlock n v).runs = s.runs := rfl
@[simp] theorem State.setBlock_runNext : (s.setBlock n v).runNext = s.runNext := rfl
@[simp] theorem State.setBlock_saved : (s.setBlock n v).saved = s.saved := rfl
@[simp] theorem State.setBlock_tasks : (s.setBlock n v).tasks = s.tasks := rfl
@[simp] theorem State.setBlock_taskNext : (s.setBlock n v).taskNext = s.taskNext := rfl
@[simp] theorem State.setBlock_orderNext : (s.setBlock n v).orderNext = s.orderNext := rfl
@[simp] theorem State.setBlock_redLast : (s.setBlock n v).redLast = s.redLast := rfl
@[simp] theorem State.setBlock_portable : (s.setBlock n v).portable = s.portable := rfl
@[simp] theorem State.setBlock_queueBase : (s.setBlock n v).queueBase = s.queueBase := rfl
@[simp] theorem State.setBlock_faultRing : (s.setBlock n v).faultRing = s.faultRing := rfl
@[simp] theorem State.setBlock_faultWait : (s.setBlock n v).faultWait = s.faultWait := rfl
@[simp] theorem State.setBlock_traceRings : (s.setBlock n v).traceRings = s.traceRings := rfl
@[simp] theorem State.setBlock_traceSeq : (s.setBlock n v).traceSeq = s.traceSeq := rfl
@[simp] theorem State.setBlock_errorLog : (s.setBlock n v).errorLog = s.errorLog := rfl
@[simp] theorem State.setBlock_gtime : (s.setBlock n v).gtime = s.gtime := rfl
@[simp] theorem State.setBlock_gtimeSet : (s.setBlock n v).gtimeSet = s.gtimeSet := rfl
@[simp] theorem State.setBlock_timeMaster : (s.setBlock n v).timeMaster = s.timeMaster := rfl
@[simp] theorem State.setBlock_rate : (s.setBlock n v).rate = s.rate := rfl
@[simp] theorem State.setBlock_goodMsgs : (s.setBlock n v).goodMsgs = s.goodMsgs := rfl
@[simp] theorem State.setBlock_locked : (s.setBlock n v).locked = s.locked := rfl
@[simp] theorem State.setBlock_pkgNum : (s.setBlock n v).pkgNum = s.pkgNum := rfl
@[simp] theorem State.setBlock_linksDown : (s.setBlock n v).linksDown = s.linksDown := rfl
@[simp] theorem State.setBlock_remotes : (s.setBlock n v).remotes = s.remotes := rfl
@[simp] theorem State.setBlock_remoteNext : (s.setBlock n v).remoteNext = s.remoteNext := rfl
@[simp] theorem State.setBlock_timeWord : (s.setBlock n v).timeWord = s.timeWord := rfl
@[simp] theorem State.setBlock_outbox : (s.setBlock n v).outbox = s.outbox := rfl
@[simp] theorem State.setBlock_misdirected : (s.setBlock n v).misdirected = s.misdirected := rfl
@[simp] theorem State.setBlock_power : (s.setBlock n v).power = s.power := rfl
@[simp] theorem State.setBlock_cap : (s.setBlock n v).cap = s.cap := rfl
@[simp] theorem State.setBlock_energy : (s.setBlock n v).energy = s.energy := rfl
@[simp] theorem State.setBlock_overUs : (s.setBlock n v).overUs = s.overUs := rfl
@[simp] theorem State.setBlock_tripped : (s.setBlock n v).tripped = s.tripped := rfl
@[simp] theorem State.setBlock_boot : (s.setBlock n v).boot = s.boot := rfl
@[simp] theorem State.setBlock_bootImage : (s.setBlock n v).bootImage = s.bootImage := rfl
@[simp] theorem State.setBlock_bootRequests : (s.setBlock n v).bootRequests = s.bootRequests := rfl
@[simp] theorem State.setBlock_conns : (s.setBlock n v).conns = s.conns := rfl
@[simp] theorem State.setBlock_ethIn : (s.setBlock n v).ethIn = s.ethIn := rfl
@[simp] theorem State.setBlock_ethDrops : (s.setBlock n v).ethDrops = s.ethDrops := rfl
@[simp] theorem State.setBlock_answers : (s.setBlock n v).answers = s.answers := rfl
@[simp] theorem State.setBlock_ctlIn : (s.setBlock n v).ctlIn = s.ctlIn := rfl
@[simp] theorem State.setBlock_ctlHeld : (s.setBlock n v).ctlHeld = s.ctlHeld := rfl
@[simp] theorem State.setBlock_thr (m : Nat) : (s.setBlock n v).thr m = s.thr m := rfl
@[simp] theorem State.setBlock_core (m : Nat) : (s.setBlock n v).core m = s.core m := rfl
@[simp] theorem State.setBlock_pillar (m : Nat) : (s.setBlock n v).pillar m = s.pillar m := rfl
@[simp] theorem State.setBlock_bank (m : Nat) : (s.setBlock n v).bank m = s.bank m := rfl
@[simp] theorem State.setBlock_engine (m : Nat) : (s.setBlock n v).engine m = s.engine m := rfl
@[simp] theorem State.setBlock_owner (m : Nat) : (s.setBlock n v).owner m = s.owner m := rfl
@[simp] theorem State.setBlock_part (m : Nat) : (s.setBlock n v).part m = s.part m := rfl
@[simp] theorem State.setBlock_conn (m : Nat) : (s.setBlock n v).conn m = s.conn m := rfl
@[simp] theorem State.setBlock_words (m : Nat) : (s.setBlock n v).words m = s.words m := rfl
theorem State.block_setBlock (m : Nat) : (s.setBlock n v).block m = if m = n then v else s.block m := tget_tput _ _ _ _ _
@[simp] theorem State.block_setBlock_self : (s.setBlock n v).block n = v := tget_tput_self _ _ _ _
theorem State.block_setBlock_ne {m : Nat} (h : m ≠ n) : (s.setBlock n v).block m = s.block m := tget_tput_ne _ _ _ h
end setBlock

section setOwner
variable (s : State) (n : Nat) (v : Owner)
@[simp] theorem State.setOwner_agenda : (s.setOwner n v).agenda = s.agenda := rfl
@[simp] theorem State.setOwner_actor : (s.setOwner n v).actor = s.actor := rfl
@[simp] theorem State.setOwner_hart : (s.setOwner n v).hart = s.hart := rfl
@[simp] theorem State.setOwner_eng : (s.setOwner n v).eng = s.eng := rfl
@[simp] theorem State.setOwner_ir : (s.setOwner n v).ir = s.ir := rfl
@[simp] theorem State.setOwner_tick : (s.setOwner n v).tick = s.tick := rfl
@[simp] theorem State.setOwner_lockstep : (s.setOwner n v).lockstep = s.lockstep := rfl
@[simp] theorem State.setOwner_travel : (s.setOwner n v).travel = s.travel := rfl
@[simp] theorem State.setOwner_stalled : (s.setOwner n v).stalled = s.stalled := rfl
@[simp] theorem State.setOwner_mem : (s.setOwner n v).mem = s.mem := rfl
@[simp] theorem State.setOwner_keys : (s.setOwner n v).keys = s.keys := rfl
@[simp] theorem State.setOwner_badWords : (s.setOwner n v).badWords = s.badWords := rfl
@[simp] theorem State.setOwner_spad : (s.setOwner n v).spad = s.spad := rfl
@[simp] theorem State.setOwner_spadOwner : (s.setOwner n v).spadOwner = s.spadOwner := rfl
@[simp] theorem State.setOwner_spadFull : (s.setOwner n v).spadFull = s.spadFull := rfl
@[simp] theorem State.setOwner_spadLoose : (s.setOwner n v).spadLoose = s.spadLoose := rfl
@[simp] theorem State.setOwner_threads : (s.setOwner n v).threads = s.threads := rfl
@[simp] theorem State.setOwner_cores : (s.setOwner n v).cores = s.cores := rfl
@[simp] theorem State.setOwner_cutwork : (s.setOwner n v).cutwork = s.cutwork := rfl
@[simp] theorem State.setOwner_defects : (s.setOwner n v).defects = s.defects := rfl
@[simp] theorem State.setOwner_pillars : (s.setOwner n v).pillars = s.pillars := rfl
@[simp] theorem State.setOwner_banks : (s.setOwner n v).banks = s.banks := rfl
@[simp] theorem State.setOwner_l2Queue : (s.setOwner n v).l2Queue = s.l2Queue := rfl
@[simp] theorem State.setOwner_spadQueue : (s.setOwner n v).spadQueue = s.spadQueue := rfl
@[simp] theorem State.setOwner_schedTlb : (s.setOwner n v).schedTlb = s.schedTlb := rfl
@[simp] theorem State.setOwner_shoots : (s.setOwner n v).shoots = s.shoots := rfl
@[simp] theorem State.setOwner_shootNext : (s.setOwner n v).shootNext = s.shootNext := rfl
@[simp] theorem State.setOwner_buffers : (s.setOwner n v).buffers = s.buffers := rfl
@[simp] theorem State.setOwner_ports : (s.setOwner n v).ports = s.ports := rfl
@[simp] theorem State.setOwner_galarb : (s.setOwner n v).galarb = s.galarb := rfl
@[simp] theorem State.setOwner_egress : (s.setOwner n v).egress = s.egress := rfl
@[simp] theorem State.setOwner_engines : (s.setOwner n v).engines = s.engines := rfl
@[simp] theorem State.setOwner_blocks : (s.setOwner n v).blocks = s.blocks := rfl
@[simp] theorem State.setOwner_parts : (s.setOwner n v).parts = s.parts := rfl
@[simp] theorem State.setOwner_slots : (s.setOwner n v).slots = s.slots := rfl
@[simp] theorem State.setOwner_wdHeld : (s.setOwner n v).wdHeld = s.wdHeld := rfl
@[simp] theorem State.setOwner_pending : (s.setOwner n v).pending = s.pending := rfl
@[simp] theorem State.setOwner_runs : (s.setOwner n v).runs = s.runs := rfl
@[simp] theorem State.setOwner_runNext : (s.setOwner n v).runNext = s.runNext := rfl
@[simp] theorem State.setOwner_saved : (s.setOwner n v).saved = s.saved := rfl
@[simp] theorem State.setOwner_tasks : (s.setOwner n v).tasks = s.tasks := rfl
@[simp] theorem State.setOwner_taskNext : (s.setOwner n v).taskNext = s.taskNext := rfl
@[simp] theorem State.setOwner_orderNext : (s.setOwner n v).orderNext = s.orderNext := rfl
@[simp] theorem State.setOwner_redLast : (s.setOwner n v).redLast = s.redLast := rfl
@[simp] theorem State.setOwner_portable : (s.setOwner n v).portable = s.portable := rfl
@[simp] theorem State.setOwner_queueBase : (s.setOwner n v).queueBase = s.queueBase := rfl
@[simp] theorem State.setOwner_faultRing : (s.setOwner n v).faultRing = s.faultRing := rfl
@[simp] theorem State.setOwner_faultWait : (s.setOwner n v).faultWait = s.faultWait := rfl
@[simp] theorem State.setOwner_traceRings : (s.setOwner n v).traceRings = s.traceRings := rfl
@[simp] theorem State.setOwner_traceSeq : (s.setOwner n v).traceSeq = s.traceSeq := rfl
@[simp] theorem State.setOwner_errorLog : (s.setOwner n v).errorLog = s.errorLog := rfl
@[simp] theorem State.setOwner_gtime : (s.setOwner n v).gtime = s.gtime := rfl
@[simp] theorem State.setOwner_gtimeSet : (s.setOwner n v).gtimeSet = s.gtimeSet := rfl
@[simp] theorem State.setOwner_timeMaster : (s.setOwner n v).timeMaster = s.timeMaster := rfl
@[simp] theorem State.setOwner_rate : (s.setOwner n v).rate = s.rate := rfl
@[simp] theorem State.setOwner_goodMsgs : (s.setOwner n v).goodMsgs = s.goodMsgs := rfl
@[simp] theorem State.setOwner_locked : (s.setOwner n v).locked = s.locked := rfl
@[simp] theorem State.setOwner_pkgNum : (s.setOwner n v).pkgNum = s.pkgNum := rfl
@[simp] theorem State.setOwner_linksDown : (s.setOwner n v).linksDown = s.linksDown := rfl
@[simp] theorem State.setOwner_remotes : (s.setOwner n v).remotes = s.remotes := rfl
@[simp] theorem State.setOwner_remoteNext : (s.setOwner n v).remoteNext = s.remoteNext := rfl
@[simp] theorem State.setOwner_timeWord : (s.setOwner n v).timeWord = s.timeWord := rfl
@[simp] theorem State.setOwner_outbox : (s.setOwner n v).outbox = s.outbox := rfl
@[simp] theorem State.setOwner_misdirected : (s.setOwner n v).misdirected = s.misdirected := rfl
@[simp] theorem State.setOwner_power : (s.setOwner n v).power = s.power := rfl
@[simp] theorem State.setOwner_cap : (s.setOwner n v).cap = s.cap := rfl
@[simp] theorem State.setOwner_energy : (s.setOwner n v).energy = s.energy := rfl
@[simp] theorem State.setOwner_overUs : (s.setOwner n v).overUs = s.overUs := rfl
@[simp] theorem State.setOwner_tripped : (s.setOwner n v).tripped = s.tripped := rfl
@[simp] theorem State.setOwner_boot : (s.setOwner n v).boot = s.boot := rfl
@[simp] theorem State.setOwner_bootImage : (s.setOwner n v).bootImage = s.bootImage := rfl
@[simp] theorem State.setOwner_bootRequests : (s.setOwner n v).bootRequests = s.bootRequests := rfl
@[simp] theorem State.setOwner_conns : (s.setOwner n v).conns = s.conns := rfl
@[simp] theorem State.setOwner_ethIn : (s.setOwner n v).ethIn = s.ethIn := rfl
@[simp] theorem State.setOwner_ethDrops : (s.setOwner n v).ethDrops = s.ethDrops := rfl
@[simp] theorem State.setOwner_answers : (s.setOwner n v).answers = s.answers := rfl
@[simp] theorem State.setOwner_ctlIn : (s.setOwner n v).ctlIn = s.ctlIn := rfl
@[simp] theorem State.setOwner_ctlHeld : (s.setOwner n v).ctlHeld = s.ctlHeld := rfl
@[simp] theorem State.setOwner_thr (m : Nat) : (s.setOwner n v).thr m = s.thr m := rfl
@[simp] theorem State.setOwner_core (m : Nat) : (s.setOwner n v).core m = s.core m := rfl
@[simp] theorem State.setOwner_pillar (m : Nat) : (s.setOwner n v).pillar m = s.pillar m := rfl
@[simp] theorem State.setOwner_bank (m : Nat) : (s.setOwner n v).bank m = s.bank m := rfl
@[simp] theorem State.setOwner_engine (m : Nat) : (s.setOwner n v).engine m = s.engine m := rfl
@[simp] theorem State.setOwner_block (m : Nat) : (s.setOwner n v).block m = s.block m := rfl
@[simp] theorem State.setOwner_part (m : Nat) : (s.setOwner n v).part m = s.part m := rfl
@[simp] theorem State.setOwner_conn (m : Nat) : (s.setOwner n v).conn m = s.conn m := rfl
@[simp] theorem State.setOwner_words (m : Nat) : (s.setOwner n v).words m = s.words m := rfl
theorem State.owner_setOwner (m : Nat) : (s.setOwner n v).owner m = if m = n then v else s.owner m := tget_tput _ _ _ _ _
@[simp] theorem State.owner_setOwner_self : (s.setOwner n v).owner n = v := tget_tput_self _ _ _ _
theorem State.owner_setOwner_ne {m : Nat} (h : m ≠ n) : (s.setOwner n v).owner m = s.owner m := tget_tput_ne _ _ _ h
end setOwner

section setPart
variable (s : State) (n : Nat) (v : Partition)
@[simp] theorem State.setPart_agenda : (s.setPart n v).agenda = s.agenda := rfl
@[simp] theorem State.setPart_actor : (s.setPart n v).actor = s.actor := rfl
@[simp] theorem State.setPart_hart : (s.setPart n v).hart = s.hart := rfl
@[simp] theorem State.setPart_eng : (s.setPart n v).eng = s.eng := rfl
@[simp] theorem State.setPart_ir : (s.setPart n v).ir = s.ir := rfl
@[simp] theorem State.setPart_tick : (s.setPart n v).tick = s.tick := rfl
@[simp] theorem State.setPart_lockstep : (s.setPart n v).lockstep = s.lockstep := rfl
@[simp] theorem State.setPart_travel : (s.setPart n v).travel = s.travel := rfl
@[simp] theorem State.setPart_stalled : (s.setPart n v).stalled = s.stalled := rfl
@[simp] theorem State.setPart_mem : (s.setPart n v).mem = s.mem := rfl
@[simp] theorem State.setPart_keys : (s.setPart n v).keys = s.keys := rfl
@[simp] theorem State.setPart_badWords : (s.setPart n v).badWords = s.badWords := rfl
@[simp] theorem State.setPart_spad : (s.setPart n v).spad = s.spad := rfl
@[simp] theorem State.setPart_spadOwner : (s.setPart n v).spadOwner = s.spadOwner := rfl
@[simp] theorem State.setPart_spadFull : (s.setPart n v).spadFull = s.spadFull := rfl
@[simp] theorem State.setPart_spadLoose : (s.setPart n v).spadLoose = s.spadLoose := rfl
@[simp] theorem State.setPart_threads : (s.setPart n v).threads = s.threads := rfl
@[simp] theorem State.setPart_cores : (s.setPart n v).cores = s.cores := rfl
@[simp] theorem State.setPart_cutwork : (s.setPart n v).cutwork = s.cutwork := rfl
@[simp] theorem State.setPart_defects : (s.setPart n v).defects = s.defects := rfl
@[simp] theorem State.setPart_pillars : (s.setPart n v).pillars = s.pillars := rfl
@[simp] theorem State.setPart_banks : (s.setPart n v).banks = s.banks := rfl
@[simp] theorem State.setPart_l2Queue : (s.setPart n v).l2Queue = s.l2Queue := rfl
@[simp] theorem State.setPart_spadQueue : (s.setPart n v).spadQueue = s.spadQueue := rfl
@[simp] theorem State.setPart_schedTlb : (s.setPart n v).schedTlb = s.schedTlb := rfl
@[simp] theorem State.setPart_shoots : (s.setPart n v).shoots = s.shoots := rfl
@[simp] theorem State.setPart_shootNext : (s.setPart n v).shootNext = s.shootNext := rfl
@[simp] theorem State.setPart_buffers : (s.setPart n v).buffers = s.buffers := rfl
@[simp] theorem State.setPart_ports : (s.setPart n v).ports = s.ports := rfl
@[simp] theorem State.setPart_galarb : (s.setPart n v).galarb = s.galarb := rfl
@[simp] theorem State.setPart_egress : (s.setPart n v).egress = s.egress := rfl
@[simp] theorem State.setPart_engines : (s.setPart n v).engines = s.engines := rfl
@[simp] theorem State.setPart_blocks : (s.setPart n v).blocks = s.blocks := rfl
@[simp] theorem State.setPart_owners : (s.setPart n v).owners = s.owners := rfl
@[simp] theorem State.setPart_slots : (s.setPart n v).slots = s.slots := rfl
@[simp] theorem State.setPart_wdHeld : (s.setPart n v).wdHeld = s.wdHeld := rfl
@[simp] theorem State.setPart_pending : (s.setPart n v).pending = s.pending := rfl
@[simp] theorem State.setPart_runs : (s.setPart n v).runs = s.runs := rfl
@[simp] theorem State.setPart_runNext : (s.setPart n v).runNext = s.runNext := rfl
@[simp] theorem State.setPart_saved : (s.setPart n v).saved = s.saved := rfl
@[simp] theorem State.setPart_tasks : (s.setPart n v).tasks = s.tasks := rfl
@[simp] theorem State.setPart_taskNext : (s.setPart n v).taskNext = s.taskNext := rfl
@[simp] theorem State.setPart_orderNext : (s.setPart n v).orderNext = s.orderNext := rfl
@[simp] theorem State.setPart_redLast : (s.setPart n v).redLast = s.redLast := rfl
@[simp] theorem State.setPart_portable : (s.setPart n v).portable = s.portable := rfl
@[simp] theorem State.setPart_queueBase : (s.setPart n v).queueBase = s.queueBase := rfl
@[simp] theorem State.setPart_faultRing : (s.setPart n v).faultRing = s.faultRing := rfl
@[simp] theorem State.setPart_faultWait : (s.setPart n v).faultWait = s.faultWait := rfl
@[simp] theorem State.setPart_traceRings : (s.setPart n v).traceRings = s.traceRings := rfl
@[simp] theorem State.setPart_traceSeq : (s.setPart n v).traceSeq = s.traceSeq := rfl
@[simp] theorem State.setPart_errorLog : (s.setPart n v).errorLog = s.errorLog := rfl
@[simp] theorem State.setPart_gtime : (s.setPart n v).gtime = s.gtime := rfl
@[simp] theorem State.setPart_gtimeSet : (s.setPart n v).gtimeSet = s.gtimeSet := rfl
@[simp] theorem State.setPart_timeMaster : (s.setPart n v).timeMaster = s.timeMaster := rfl
@[simp] theorem State.setPart_rate : (s.setPart n v).rate = s.rate := rfl
@[simp] theorem State.setPart_goodMsgs : (s.setPart n v).goodMsgs = s.goodMsgs := rfl
@[simp] theorem State.setPart_locked : (s.setPart n v).locked = s.locked := rfl
@[simp] theorem State.setPart_pkgNum : (s.setPart n v).pkgNum = s.pkgNum := rfl
@[simp] theorem State.setPart_linksDown : (s.setPart n v).linksDown = s.linksDown := rfl
@[simp] theorem State.setPart_remotes : (s.setPart n v).remotes = s.remotes := rfl
@[simp] theorem State.setPart_remoteNext : (s.setPart n v).remoteNext = s.remoteNext := rfl
@[simp] theorem State.setPart_timeWord : (s.setPart n v).timeWord = s.timeWord := rfl
@[simp] theorem State.setPart_outbox : (s.setPart n v).outbox = s.outbox := rfl
@[simp] theorem State.setPart_misdirected : (s.setPart n v).misdirected = s.misdirected := rfl
@[simp] theorem State.setPart_power : (s.setPart n v).power = s.power := rfl
@[simp] theorem State.setPart_cap : (s.setPart n v).cap = s.cap := rfl
@[simp] theorem State.setPart_energy : (s.setPart n v).energy = s.energy := rfl
@[simp] theorem State.setPart_overUs : (s.setPart n v).overUs = s.overUs := rfl
@[simp] theorem State.setPart_tripped : (s.setPart n v).tripped = s.tripped := rfl
@[simp] theorem State.setPart_boot : (s.setPart n v).boot = s.boot := rfl
@[simp] theorem State.setPart_bootImage : (s.setPart n v).bootImage = s.bootImage := rfl
@[simp] theorem State.setPart_bootRequests : (s.setPart n v).bootRequests = s.bootRequests := rfl
@[simp] theorem State.setPart_conns : (s.setPart n v).conns = s.conns := rfl
@[simp] theorem State.setPart_ethIn : (s.setPart n v).ethIn = s.ethIn := rfl
@[simp] theorem State.setPart_ethDrops : (s.setPart n v).ethDrops = s.ethDrops := rfl
@[simp] theorem State.setPart_answers : (s.setPart n v).answers = s.answers := rfl
@[simp] theorem State.setPart_ctlIn : (s.setPart n v).ctlIn = s.ctlIn := rfl
@[simp] theorem State.setPart_ctlHeld : (s.setPart n v).ctlHeld = s.ctlHeld := rfl
@[simp] theorem State.setPart_thr (m : Nat) : (s.setPart n v).thr m = s.thr m := rfl
@[simp] theorem State.setPart_core (m : Nat) : (s.setPart n v).core m = s.core m := rfl
@[simp] theorem State.setPart_pillar (m : Nat) : (s.setPart n v).pillar m = s.pillar m := rfl
@[simp] theorem State.setPart_bank (m : Nat) : (s.setPart n v).bank m = s.bank m := rfl
@[simp] theorem State.setPart_engine (m : Nat) : (s.setPart n v).engine m = s.engine m := rfl
@[simp] theorem State.setPart_block (m : Nat) : (s.setPart n v).block m = s.block m := rfl
@[simp] theorem State.setPart_owner (m : Nat) : (s.setPart n v).owner m = s.owner m := rfl
@[simp] theorem State.setPart_conn (m : Nat) : (s.setPart n v).conn m = s.conn m := rfl
@[simp] theorem State.setPart_words (m : Nat) : (s.setPart n v).words m = s.words m := rfl
theorem State.part_setPart (m : Nat) : (s.setPart n v).part m = if m = n then v else s.part m := tget_tput _ _ _ _ _
@[simp] theorem State.part_setPart_self : (s.setPart n v).part n = v := tget_tput_self _ _ _ _
theorem State.part_setPart_ne {m : Nat} (h : m ≠ n) : (s.setPart n v).part m = s.part m := tget_tput_ne _ _ _ h
end setPart

section setConn
variable (s : State) (n : Nat) (v : Conn)
@[simp] theorem State.setConn_agenda : (s.setConn n v).agenda = s.agenda := rfl
@[simp] theorem State.setConn_actor : (s.setConn n v).actor = s.actor := rfl
@[simp] theorem State.setConn_hart : (s.setConn n v).hart = s.hart := rfl
@[simp] theorem State.setConn_eng : (s.setConn n v).eng = s.eng := rfl
@[simp] theorem State.setConn_ir : (s.setConn n v).ir = s.ir := rfl
@[simp] theorem State.setConn_tick : (s.setConn n v).tick = s.tick := rfl
@[simp] theorem State.setConn_lockstep : (s.setConn n v).lockstep = s.lockstep := rfl
@[simp] theorem State.setConn_travel : (s.setConn n v).travel = s.travel := rfl
@[simp] theorem State.setConn_stalled : (s.setConn n v).stalled = s.stalled := rfl
@[simp] theorem State.setConn_mem : (s.setConn n v).mem = s.mem := rfl
@[simp] theorem State.setConn_keys : (s.setConn n v).keys = s.keys := rfl
@[simp] theorem State.setConn_badWords : (s.setConn n v).badWords = s.badWords := rfl
@[simp] theorem State.setConn_spad : (s.setConn n v).spad = s.spad := rfl
@[simp] theorem State.setConn_spadOwner : (s.setConn n v).spadOwner = s.spadOwner := rfl
@[simp] theorem State.setConn_spadFull : (s.setConn n v).spadFull = s.spadFull := rfl
@[simp] theorem State.setConn_spadLoose : (s.setConn n v).spadLoose = s.spadLoose := rfl
@[simp] theorem State.setConn_threads : (s.setConn n v).threads = s.threads := rfl
@[simp] theorem State.setConn_cores : (s.setConn n v).cores = s.cores := rfl
@[simp] theorem State.setConn_cutwork : (s.setConn n v).cutwork = s.cutwork := rfl
@[simp] theorem State.setConn_defects : (s.setConn n v).defects = s.defects := rfl
@[simp] theorem State.setConn_pillars : (s.setConn n v).pillars = s.pillars := rfl
@[simp] theorem State.setConn_banks : (s.setConn n v).banks = s.banks := rfl
@[simp] theorem State.setConn_l2Queue : (s.setConn n v).l2Queue = s.l2Queue := rfl
@[simp] theorem State.setConn_spadQueue : (s.setConn n v).spadQueue = s.spadQueue := rfl
@[simp] theorem State.setConn_schedTlb : (s.setConn n v).schedTlb = s.schedTlb := rfl
@[simp] theorem State.setConn_shoots : (s.setConn n v).shoots = s.shoots := rfl
@[simp] theorem State.setConn_shootNext : (s.setConn n v).shootNext = s.shootNext := rfl
@[simp] theorem State.setConn_buffers : (s.setConn n v).buffers = s.buffers := rfl
@[simp] theorem State.setConn_ports : (s.setConn n v).ports = s.ports := rfl
@[simp] theorem State.setConn_galarb : (s.setConn n v).galarb = s.galarb := rfl
@[simp] theorem State.setConn_egress : (s.setConn n v).egress = s.egress := rfl
@[simp] theorem State.setConn_engines : (s.setConn n v).engines = s.engines := rfl
@[simp] theorem State.setConn_blocks : (s.setConn n v).blocks = s.blocks := rfl
@[simp] theorem State.setConn_owners : (s.setConn n v).owners = s.owners := rfl
@[simp] theorem State.setConn_parts : (s.setConn n v).parts = s.parts := rfl
@[simp] theorem State.setConn_slots : (s.setConn n v).slots = s.slots := rfl
@[simp] theorem State.setConn_wdHeld : (s.setConn n v).wdHeld = s.wdHeld := rfl
@[simp] theorem State.setConn_pending : (s.setConn n v).pending = s.pending := rfl
@[simp] theorem State.setConn_runs : (s.setConn n v).runs = s.runs := rfl
@[simp] theorem State.setConn_runNext : (s.setConn n v).runNext = s.runNext := rfl
@[simp] theorem State.setConn_saved : (s.setConn n v).saved = s.saved := rfl
@[simp] theorem State.setConn_tasks : (s.setConn n v).tasks = s.tasks := rfl
@[simp] theorem State.setConn_taskNext : (s.setConn n v).taskNext = s.taskNext := rfl
@[simp] theorem State.setConn_orderNext : (s.setConn n v).orderNext = s.orderNext := rfl
@[simp] theorem State.setConn_redLast : (s.setConn n v).redLast = s.redLast := rfl
@[simp] theorem State.setConn_portable : (s.setConn n v).portable = s.portable := rfl
@[simp] theorem State.setConn_queueBase : (s.setConn n v).queueBase = s.queueBase := rfl
@[simp] theorem State.setConn_faultRing : (s.setConn n v).faultRing = s.faultRing := rfl
@[simp] theorem State.setConn_faultWait : (s.setConn n v).faultWait = s.faultWait := rfl
@[simp] theorem State.setConn_traceRings : (s.setConn n v).traceRings = s.traceRings := rfl
@[simp] theorem State.setConn_traceSeq : (s.setConn n v).traceSeq = s.traceSeq := rfl
@[simp] theorem State.setConn_errorLog : (s.setConn n v).errorLog = s.errorLog := rfl
@[simp] theorem State.setConn_gtime : (s.setConn n v).gtime = s.gtime := rfl
@[simp] theorem State.setConn_gtimeSet : (s.setConn n v).gtimeSet = s.gtimeSet := rfl
@[simp] theorem State.setConn_timeMaster : (s.setConn n v).timeMaster = s.timeMaster := rfl
@[simp] theorem State.setConn_rate : (s.setConn n v).rate = s.rate := rfl
@[simp] theorem State.setConn_goodMsgs : (s.setConn n v).goodMsgs = s.goodMsgs := rfl
@[simp] theorem State.setConn_locked : (s.setConn n v).locked = s.locked := rfl
@[simp] theorem State.setConn_pkgNum : (s.setConn n v).pkgNum = s.pkgNum := rfl
@[simp] theorem State.setConn_linksDown : (s.setConn n v).linksDown = s.linksDown := rfl
@[simp] theorem State.setConn_remotes : (s.setConn n v).remotes = s.remotes := rfl
@[simp] theorem State.setConn_remoteNext : (s.setConn n v).remoteNext = s.remoteNext := rfl
@[simp] theorem State.setConn_timeWord : (s.setConn n v).timeWord = s.timeWord := rfl
@[simp] theorem State.setConn_outbox : (s.setConn n v).outbox = s.outbox := rfl
@[simp] theorem State.setConn_misdirected : (s.setConn n v).misdirected = s.misdirected := rfl
@[simp] theorem State.setConn_power : (s.setConn n v).power = s.power := rfl
@[simp] theorem State.setConn_cap : (s.setConn n v).cap = s.cap := rfl
@[simp] theorem State.setConn_energy : (s.setConn n v).energy = s.energy := rfl
@[simp] theorem State.setConn_overUs : (s.setConn n v).overUs = s.overUs := rfl
@[simp] theorem State.setConn_tripped : (s.setConn n v).tripped = s.tripped := rfl
@[simp] theorem State.setConn_boot : (s.setConn n v).boot = s.boot := rfl
@[simp] theorem State.setConn_bootImage : (s.setConn n v).bootImage = s.bootImage := rfl
@[simp] theorem State.setConn_bootRequests : (s.setConn n v).bootRequests = s.bootRequests := rfl
@[simp] theorem State.setConn_ethIn : (s.setConn n v).ethIn = s.ethIn := rfl
@[simp] theorem State.setConn_ethDrops : (s.setConn n v).ethDrops = s.ethDrops := rfl
@[simp] theorem State.setConn_answers : (s.setConn n v).answers = s.answers := rfl
@[simp] theorem State.setConn_ctlIn : (s.setConn n v).ctlIn = s.ctlIn := rfl
@[simp] theorem State.setConn_ctlHeld : (s.setConn n v).ctlHeld = s.ctlHeld := rfl
@[simp] theorem State.setConn_thr (m : Nat) : (s.setConn n v).thr m = s.thr m := rfl
@[simp] theorem State.setConn_core (m : Nat) : (s.setConn n v).core m = s.core m := rfl
@[simp] theorem State.setConn_pillar (m : Nat) : (s.setConn n v).pillar m = s.pillar m := rfl
@[simp] theorem State.setConn_bank (m : Nat) : (s.setConn n v).bank m = s.bank m := rfl
@[simp] theorem State.setConn_engine (m : Nat) : (s.setConn n v).engine m = s.engine m := rfl
@[simp] theorem State.setConn_block (m : Nat) : (s.setConn n v).block m = s.block m := rfl
@[simp] theorem State.setConn_owner (m : Nat) : (s.setConn n v).owner m = s.owner m := rfl
@[simp] theorem State.setConn_part (m : Nat) : (s.setConn n v).part m = s.part m := rfl
@[simp] theorem State.setConn_words (m : Nat) : (s.setConn n v).words m = s.words m := rfl
theorem State.conn_setConn (m : Nat) : (s.setConn n v).conn m = if m = n then v else s.conn m := tget_tput _ _ _ _ _
@[simp] theorem State.conn_setConn_self : (s.setConn n v).conn n = v := tget_tput_self _ _ _ _
theorem State.conn_setConn_ne {m : Nat} (h : m ≠ n) : (s.setConn n v).conn m = s.conn m := tget_tput_ne _ _ _ h
end setConn

section setWords
variable (s : State) (n : Nat) (v : TaskWords)
@[simp] theorem State.setWords_agenda : (s.setWords n v).agenda = s.agenda := rfl
@[simp] theorem State.setWords_actor : (s.setWords n v).actor = s.actor := rfl
@[simp] theorem State.setWords_hart : (s.setWords n v).hart = s.hart := rfl
@[simp] theorem State.setWords_eng : (s.setWords n v).eng = s.eng := rfl
@[simp] theorem State.setWords_ir : (s.setWords n v).ir = s.ir := rfl
@[simp] theorem State.setWords_tick : (s.setWords n v).tick = s.tick := rfl
@[simp] theorem State.setWords_lockstep : (s.setWords n v).lockstep = s.lockstep := rfl
@[simp] theorem State.setWords_travel : (s.setWords n v).travel = s.travel := rfl
@[simp] theorem State.setWords_stalled : (s.setWords n v).stalled = s.stalled := rfl
@[simp] theorem State.setWords_mem : (s.setWords n v).mem = s.mem := rfl
@[simp] theorem State.setWords_keys : (s.setWords n v).keys = s.keys := rfl
@[simp] theorem State.setWords_badWords : (s.setWords n v).badWords = s.badWords := rfl
@[simp] theorem State.setWords_spad : (s.setWords n v).spad = s.spad := rfl
@[simp] theorem State.setWords_spadOwner : (s.setWords n v).spadOwner = s.spadOwner := rfl
@[simp] theorem State.setWords_spadFull : (s.setWords n v).spadFull = s.spadFull := rfl
@[simp] theorem State.setWords_spadLoose : (s.setWords n v).spadLoose = s.spadLoose := rfl
@[simp] theorem State.setWords_threads : (s.setWords n v).threads = s.threads := rfl
@[simp] theorem State.setWords_cores : (s.setWords n v).cores = s.cores := rfl
@[simp] theorem State.setWords_cutwork : (s.setWords n v).cutwork = s.cutwork := rfl
@[simp] theorem State.setWords_defects : (s.setWords n v).defects = s.defects := rfl
@[simp] theorem State.setWords_pillars : (s.setWords n v).pillars = s.pillars := rfl
@[simp] theorem State.setWords_banks : (s.setWords n v).banks = s.banks := rfl
@[simp] theorem State.setWords_l2Queue : (s.setWords n v).l2Queue = s.l2Queue := rfl
@[simp] theorem State.setWords_spadQueue : (s.setWords n v).spadQueue = s.spadQueue := rfl
@[simp] theorem State.setWords_schedTlb : (s.setWords n v).schedTlb = s.schedTlb := rfl
@[simp] theorem State.setWords_shoots : (s.setWords n v).shoots = s.shoots := rfl
@[simp] theorem State.setWords_shootNext : (s.setWords n v).shootNext = s.shootNext := rfl
@[simp] theorem State.setWords_buffers : (s.setWords n v).buffers = s.buffers := rfl
@[simp] theorem State.setWords_ports : (s.setWords n v).ports = s.ports := rfl
@[simp] theorem State.setWords_galarb : (s.setWords n v).galarb = s.galarb := rfl
@[simp] theorem State.setWords_egress : (s.setWords n v).egress = s.egress := rfl
@[simp] theorem State.setWords_engines : (s.setWords n v).engines = s.engines := rfl
@[simp] theorem State.setWords_blocks : (s.setWords n v).blocks = s.blocks := rfl
@[simp] theorem State.setWords_owners : (s.setWords n v).owners = s.owners := rfl
@[simp] theorem State.setWords_parts : (s.setWords n v).parts = s.parts := rfl
@[simp] theorem State.setWords_slots : (s.setWords n v).slots = s.slots := rfl
@[simp] theorem State.setWords_wdHeld : (s.setWords n v).wdHeld = s.wdHeld := rfl
@[simp] theorem State.setWords_pending : (s.setWords n v).pending = s.pending := rfl
@[simp] theorem State.setWords_runs : (s.setWords n v).runs = s.runs := rfl
@[simp] theorem State.setWords_runNext : (s.setWords n v).runNext = s.runNext := rfl
@[simp] theorem State.setWords_saved : (s.setWords n v).saved = s.saved := rfl
@[simp] theorem State.setWords_taskNext : (s.setWords n v).taskNext = s.taskNext := rfl
@[simp] theorem State.setWords_orderNext : (s.setWords n v).orderNext = s.orderNext := rfl
@[simp] theorem State.setWords_redLast : (s.setWords n v).redLast = s.redLast := rfl
@[simp] theorem State.setWords_portable : (s.setWords n v).portable = s.portable := rfl
@[simp] theorem State.setWords_queueBase : (s.setWords n v).queueBase = s.queueBase := rfl
@[simp] theorem State.setWords_faultRing : (s.setWords n v).faultRing = s.faultRing := rfl
@[simp] theorem State.setWords_faultWait : (s.setWords n v).faultWait = s.faultWait := rfl
@[simp] theorem State.setWords_traceRings : (s.setWords n v).traceRings = s.traceRings := rfl
@[simp] theorem State.setWords_traceSeq : (s.setWords n v).traceSeq = s.traceSeq := rfl
@[simp] theorem State.setWords_errorLog : (s.setWords n v).errorLog = s.errorLog := rfl
@[simp] theorem State.setWords_gtime : (s.setWords n v).gtime = s.gtime := rfl
@[simp] theorem State.setWords_gtimeSet : (s.setWords n v).gtimeSet = s.gtimeSet := rfl
@[simp] theorem State.setWords_timeMaster : (s.setWords n v).timeMaster = s.timeMaster := rfl
@[simp] theorem State.setWords_rate : (s.setWords n v).rate = s.rate := rfl
@[simp] theorem State.setWords_goodMsgs : (s.setWords n v).goodMsgs = s.goodMsgs := rfl
@[simp] theorem State.setWords_locked : (s.setWords n v).locked = s.locked := rfl
@[simp] theorem State.setWords_pkgNum : (s.setWords n v).pkgNum = s.pkgNum := rfl
@[simp] theorem State.setWords_linksDown : (s.setWords n v).linksDown = s.linksDown := rfl
@[simp] theorem State.setWords_remotes : (s.setWords n v).remotes = s.remotes := rfl
@[simp] theorem State.setWords_remoteNext : (s.setWords n v).remoteNext = s.remoteNext := rfl
@[simp] theorem State.setWords_timeWord : (s.setWords n v).timeWord = s.timeWord := rfl
@[simp] theorem State.setWords_outbox : (s.setWords n v).outbox = s.outbox := rfl
@[simp] theorem State.setWords_misdirected : (s.setWords n v).misdirected = s.misdirected := rfl
@[simp] theorem State.setWords_power : (s.setWords n v).power = s.power := rfl
@[simp] theorem State.setWords_cap : (s.setWords n v).cap = s.cap := rfl
@[simp] theorem State.setWords_energy : (s.setWords n v).energy = s.energy := rfl
@[simp] theorem State.setWords_overUs : (s.setWords n v).overUs = s.overUs := rfl
@[simp] theorem State.setWords_tripped : (s.setWords n v).tripped = s.tripped := rfl
@[simp] theorem State.setWords_boot : (s.setWords n v).boot = s.boot := rfl
@[simp] theorem State.setWords_bootImage : (s.setWords n v).bootImage = s.bootImage := rfl
@[simp] theorem State.setWords_bootRequests : (s.setWords n v).bootRequests = s.bootRequests := rfl
@[simp] theorem State.setWords_conns : (s.setWords n v).conns = s.conns := rfl
@[simp] theorem State.setWords_ethIn : (s.setWords n v).ethIn = s.ethIn := rfl
@[simp] theorem State.setWords_ethDrops : (s.setWords n v).ethDrops = s.ethDrops := rfl
@[simp] theorem State.setWords_answers : (s.setWords n v).answers = s.answers := rfl
@[simp] theorem State.setWords_ctlIn : (s.setWords n v).ctlIn = s.ctlIn := rfl
@[simp] theorem State.setWords_ctlHeld : (s.setWords n v).ctlHeld = s.ctlHeld := rfl
@[simp] theorem State.setWords_thr (m : Nat) : (s.setWords n v).thr m = s.thr m := rfl
@[simp] theorem State.setWords_core (m : Nat) : (s.setWords n v).core m = s.core m := rfl
@[simp] theorem State.setWords_pillar (m : Nat) : (s.setWords n v).pillar m = s.pillar m := rfl
@[simp] theorem State.setWords_bank (m : Nat) : (s.setWords n v).bank m = s.bank m := rfl
@[simp] theorem State.setWords_engine (m : Nat) : (s.setWords n v).engine m = s.engine m := rfl
@[simp] theorem State.setWords_block (m : Nat) : (s.setWords n v).block m = s.block m := rfl
@[simp] theorem State.setWords_owner (m : Nat) : (s.setWords n v).owner m = s.owner m := rfl
@[simp] theorem State.setWords_part (m : Nat) : (s.setWords n v).part m = s.part m := rfl
@[simp] theorem State.setWords_conn (m : Nat) : (s.setWords n v).conn m = s.conn m := rfl
theorem State.words_setWords (m : Nat) : (s.setWords n v).words m = if m = n then v else s.words m := tget_tput _ _ _ _ _
@[simp] theorem State.words_setWords_self : (s.setWords n v).words n = v := tget_tput_self _ _ _ _
theorem State.words_setWords_ne {m : Nat} (h : m ≠ n) : (s.setWords n v).words m = s.words m := tget_tput_ne _ _ _ h
end setWords

/-! The executing thread and engine -/

@[simp] theorem State.cur_setCur (s : State) (t : Thread) : (s.setCur t).cur = t := State.thr_setThr_self _ _ _
@[simp] theorem State.hart_setCur (s : State) (t : Thread) : (s.setCur t).hart = s.hart := rfl
theorem State.thr_setCur_ne (s : State) (t : Thread) {h : Nat} (n : h ≠ s.hart) : (s.setCur t).thr h = s.thr h := State.thr_setThr_ne _ _ _ n
@[simp] theorem State.curEng_setCurEng (s : State) (k : Engine) : (s.setCurEng k).curEng = k := State.engine_setEngine_self _ _ _
@[simp] theorem State.eng_setCurEng (s : State) (k : Engine) : (s.setCurEng k).eng = s.eng := rfl
theorem State.engine_setCurEng_ne (s : State) (k : Engine) {e : Nat} (n : e ≠ s.eng) : (s.setCurEng k).engine e = s.engine e :=
  State.engine_setEngine_ne _ _ _ n

end Sys2Proof.Machine
end

