-- ==== Sys2Proof/Laws/Mem.lean ====
section
/-! SUPPORT. The physical stores: what a byte reads after a write, and that every memory operation keeps the canonical form. -/

namespace Sys2Proof.Machine

/-! DRAM -/

theorem dropGranule_wf {s : State} (g : Nat) (h : Memory.wf s.mem) : Memory.wf (s.dropGranule g).mem := rising_filter _ h

theorem dramPut_wf {s : State} (o pa : Nat) (b : Byte) (h : Memory.wf s.mem) : Memory.wf (s.dramPut o pa b).mem := by
  unfold State.dramPut
  dsimp only
  split
  · exact rising_tput _ _ h
  · exact rising_tput _ _ (dropGranule_wf _ h)

theorem l2Touch_mem (s : State) (pa o : Nat) (w : Bool) : (s.l2Touch pa o w).mem = s.mem := by
  unfold State.l2Touch; split <;> rfl

/-- Recording the residency of lines changes the pillars only. -/
theorem l2TouchAll_eq (s : State) (pa n o : Nat) (w : Bool) : ∃ p, s.l2TouchAll pa n o w = { s with pillars := p } := by
  unfold State.l2TouchAll
  generalize (pa + n - 1) / 64 + 1 - pa / 64 = k
  generalize pa / 64 = l
  induction k generalizing s l with
  | zero => exact ⟨s.pillars, rfl⟩
  | succ k ih =>
    have h : ∃ p, s.l2Touch (64 * l) o w = { s with pillars := p } := by
      unfold State.l2Touch State.setPillar
      split
      · exact ⟨_, rfl⟩
      · exact ⟨s.pillars, rfl⟩
    obtain ⟨p, h⟩ := h
    obtain ⟨q, hq⟩ := ih { s with pillars := p } (l + 1)
    exact ⟨q, by simp only [forUp, h]; exact hq⟩

@[simp] theorem l2TouchAll_mem (s : State) (pa n o : Nat) (w : Bool) : (s.l2TouchAll pa n o w).mem = s.mem := by
  obtain ⟨p, h⟩ := l2TouchAll_eq s pa n o w; rw [h]

theorem putBytes_wf {put : State → Nat → Byte → State} (hp : ∀ s a b, Memory.wf s.mem → Memory.wf (put s a b).mem) (bs : List Byte) :
    ∀ {s : State} (a : Nat), Memory.wf s.mem → Memory.wf (putBytes put s a bs).mem := by
  induction bs with
  | nil => intro s a h; exact h
  | cons b r ih => intro s a h; exact ih _ (hp _ _ _ h)

theorem dramWrite_wf {s : State} (o pa : Nat) (bs : List Byte) (h : Memory.wf s.mem) : Memory.wf (s.dramWrite o pa bs).mem :=
  putBytes_wf (fun _ _ _ => dramPut_wf o _ _) bs _ (by rw [l2TouchAll_mem]; exact h)

/-- Holding a turn marks it, and changes nothing else. -/
theorem holdAt_eq (s : State) (pa : Nat) : ∃ b, s.holdAt pa = { s with stalled := b } := by
  unfold State.holdAt; split <;> exact ⟨_, rfl⟩
theorem holdRange_eq (s : State) (pa n : Nat) : ∃ b, s.holdRange pa n = { s with stalled := b } := by
  unfold State.holdRange; split <;> exact ⟨_, rfl⟩

@[simp] theorem holdAt_mem (s : State) (pa : Nat) : (s.holdAt pa).mem = s.mem := by
  obtain ⟨b, h⟩ := holdAt_eq s pa; rw [h]
/-- An access to main memory is never held. -/
theorem holdAt_main (s : State) {pa off : Nat} (h : locOf pa = .main off) : s.holdAt pa = s := by
  have hc : s.closed pa = false := by simp [State.closed, State.shutAt, State.offlineAt, h]
  rw [State.holdAt, hc]; rfl

theorem sysWrite_wf {s : State} (pa : Nat) (bs : List Byte) (h : Memory.wf s.mem) : Memory.wf (s.sysWrite pa bs).mem :=
  dramWrite_wf 0 pa bs (by rw [holdAt_mem]; exact h)

theorem dramPut_keys (s : State) (o pa : Nat) (b : Byte) : tfind (s.dramPut o pa b).keys (pa / 16) = some (s.keyTag o) := by
  unfold State.dramPut
  dsimp only
  split
  · assumption
  · simp [tfind_tput]

theorem keyTag_dramPut (s : State) (o o' pa : Nat) (b : Byte) : (s.dramPut o pa b).keyTag o' = s.keyTag o' := by
  unfold State.dramPut
  dsimp only
  split <;> rfl

/-- A byte of DRAM after a write of one byte (R111): the writer reads the byte it wrote, and every granule but that one is as before. -/
theorem dramByte_dramPut_self (s : State) (o pa : Nat) (b : Byte) : (s.dramPut o pa b).dramByte o pa = b := by
  have h : tfind (s.dramPut o pa b).mem pa = some b := by
    unfold State.dramPut
    dsimp only
    split <;> simp [tfind_tput]
  rw [State.dramByte, h]
  simp [dramPut_keys, keyTag_dramPut]

theorem dramByte_congr {s t : State} {o a : Nat} (m : tfind t.mem a = tfind s.mem a) (k : tfind t.keys (a / 16) = tfind s.keys (a / 16))
    (v : t.owners = s.owners) (n : t.tick = s.tick) : t.dramByte o a = s.dramByte o a := by
  simp only [State.dramByte, State.keyTag, State.owner, m, k, v, n]; rfl

theorem dramByte_dramPut_granule (s : State) (o o' pa a : Nat) (b : Byte) (h : a / 16 ≠ pa / 16) :
    (s.dramPut o pa b).dramByte o' a = s.dramByte o' a := by
  have hne : a ≠ pa := by rintro rfl; exact h rfl
  have hf := tfind_filter s.mem (fun k => !decide (k / 16 = pa / 16)) a
  unfold State.dramPut
  dsimp only
  split
  · exact dramByte_congr (by rw [tfind_tput, if_neg hne]) rfl rfl rfl
  · refine dramByte_congr ?_ ?_ rfl rfl
    · dsimp only [State.dropGranule]; rw [tfind_tput, if_neg hne, hf]; simp [h]
    · dsimp only [State.dropGranule]; rw [tfind_tput, if_neg h]

/-! Scratchpads -/

theorem spadKey_inj {c c' a a' : Nat} (h : a < 2 ^ 24) (h' : a' < 2 ^ 24) : spadKey c a = spadKey c' a' ↔ c = c' ∧ a = a' := by
  simp only [spadKey]; omega

theorem spadKey_line {c c' a a' : Nat} (h : a < 2 ^ 24) (h' : a' < 2 ^ 24) :
    spadKey c a / 64 = spadKey c' a' / 64 ↔ c = c' ∧ a / 64 = a' / 64 := by
  simp only [spadKey]; omega

theorem spadTag_owner (s : State) (o line l : Nat) :
    tfind (s.spadTag o line).spadOwner l = if l = line then some o else tfind s.spadOwner l := by
  unfold State.spadTag
  split
  · split <;> simp_all
  · simp [tfind_tput]

@[simp] theorem spadTag_loose (s : State) (o line : Nat) : (s.spadTag o line).spadLoose = s.spadLoose := by
  unfold State.spadTag; split <;> rfl
@[simp] theorem spadTag_tick (s : State) (o line : Nat) : (s.spadTag o line).tick = s.tick := by
  unfold State.spadTag; split <;> rfl

theorem spadTag_byte (s : State) (o line k : Nat) :
    tget (s.spadTag o line).spad k 0 = if k / 64 = line ∧ tfind s.spadOwner line ≠ some o then 0 else tget s.spad k 0 := by
  unfold State.spadTag
  split
  · simp_all
  · have := tget_filter s.spad (fun k => !decide (k / 64 = line)) k 0
    simp only [this]
    grind

theorem spadByte_congr {s t : State} {o c a : Nat} (w : tfind t.spadOwner (spadKey c a / 64) = tfind s.spadOwner (spadKey c a / 64))
    (v : tget t.spad (spadKey c a) 0 = tget s.spad (spadKey c a) 0) (l : t.spadLoose = s.spadLoose) (n : t.tick = s.tick) :
    t.spadByte o c a = s.spadByte o c a := by
  simp only [State.spadByte, w, v, l, n]

theorem spadByte_owned {s : State} {o c a : Nat} (o' : Nat) (h : tfind s.spadOwner (spadKey c a / 64) = some o) :
    s.spadByte o' c a = if o = o' then tget s.spad (spadKey c a) 0 else 0 := by
  simp only [State.spadByte, h]

/-- A scratchpad byte after its line has been tagged (R110). -/
theorem spadByte_spadTag (s : State) (o line o' c a : Nat) :
    (s.spadTag o line).spadByte o' c a =
      if spadKey c a / 64 = line then
        (if o' ≠ o then 0 else if tfind s.spadOwner line = some o then s.spadByte o c a else 0)
      else s.spadByte o' c a := by
  by_cases h : spadKey c a / 64 = line
  · have ho : tfind (s.spadTag o line).spadOwner (spadKey c a / 64) = some o := by rw [spadTag_owner, if_pos h]
    rw [if_pos h, spadByte_owned o' ho, spadTag_byte]
    by_cases hs : tfind s.spadOwner line = some o
    · rw [spadByte_owned o (h ▸ hs)]; simp only [hs]; grind
    · simp only [h, hs, ne_eq, not_false_eq_true, and_self, if_true, if_false, ite_self]
  · rw [if_neg h]
    exact spadByte_congr (by rw [spadTag_owner, if_neg h]) (by rw [spadTag_byte]; simp [h]) (by simp) (by simp)

theorem spadPut_owner (s : State) (o c off l : Nat) (b : Byte) :
    tfind (s.spadPut o c off b).spadOwner l = if l = spadKey c off / 64 then some o else tfind s.spadOwner l :=
  spadTag_owner s o _ l

/-- A scratchpad byte after a store of one byte. -/
theorem spadByte_spadPut {s : State} {o o' c c' off a : Nat} {b : Byte} (h : off < 2 ^ 24) (h' : a < 2 ^ 24) :
    (s.spadPut o c off b).spadByte o' c' a =
      if c' = c ∧ a / 64 = off / 64 then
        (if o' ≠ o then 0 else if a = off then b else if tfind s.spadOwner (spadKey c off / 64) = some o then s.spadByte o c a else 0)
      else s.spadByte o' c' a := by
  have hk := spadByte_spadTag s o (spadKey c off / 64) o' c' a
  simp only [spadKey_line h' h] at hk
  by_cases hs : c' = c ∧ a = off
  · obtain ⟨rfl, rfl⟩ := hs
    have ho : tfind (s.spadPut o c' a b).spadOwner (spadKey c' a / 64) = some o := by rw [spadPut_owner, if_pos rfl]
    rw [spadByte_owned o' ho]
    simp only [State.spadPut, tget_tset, if_true, and_self]
    grind
  · have hne : spadKey c' a ≠ spadKey c off := by rw [Ne, spadKey_inj h' h]; exact hs
    have : (s.spadPut o c off b).spadByte o' c' a = (s.spadTag o (spadKey c off / 64)).spadByte o' c' a :=
      spadByte_congr rfl (by simp only [State.spadPut, tget_tset, hne, if_false]) rfl rfl
    rw [this, hk]
    grind

/-- The scratchpads after a store inside one line (R110). -/
theorem spadByte_spadWrite {o c : Nat} (bs : List Byte) : ∀ {s : State} {off : Nat}, bs ≠ [] → off + bs.length ≤ 2 ^ 24 →
    off % 64 + bs.length ≤ 64 → ∀ o' c' a, a < 2 ^ 24 → (s.spadWrite o c off bs).spadByte o' c' a =
      if c' = c ∧ a / 64 = off / 64 then
        (if o' ≠ o then 0 else if off ≤ a ∧ a < off + bs.length then bs.getD (a - off) 0
         else if tfind s.spadOwner (spadKey c off / 64) = some o then s.spadByte o c a else 0)
      else s.spadByte o' c' a := by
  induction bs with
  | nil => intro s off h; exact absurd rfl h
  | cons b r ih =>
    intro s off _ hlen hline o' c' a ha
    simp only [List.length_cons] at hlen hline
    have hput := @spadByte_spadPut s o o' c c' off a b (by omega) ha
    have hput' := @spadByte_spadPut s o o c c off a b (by omega) ha
    by_cases hr : r = []
    · subst hr
      simp only [State.spadWrite, putBytes, List.length_cons, List.length_nil]
      rw [hput]
      grind
    · have hone := ih (s := s.spadPut o c off b) (off := off + 1) hr (by omega)
        (by have := List.length_pos_iff.mpr hr; omega) o' c' a ha
      have hl : (off + 1) / 64 = off / 64 := by have := List.length_pos_iff.mpr hr; omega
      have hk : spadKey c (off + 1) / 64 = spadKey c off / 64 := by
        rw [spadKey_line (by have := List.length_pos_iff.mpr hr; omega) (by omega)]; exact ⟨rfl, hl⟩
      simp only [State.spadWrite, putBytes] at hone ⊢
      rw [hone, hk, spadPut_owner, hl, hput, hput']
      simp only [List.length_cons, if_true]
      by_cases hc : c' = c ∧ a / 64 = off / 64
      · simp only [hc, and_self, if_true]
        by_cases ho : o' ≠ o
        · simp [ho]
        · simp only [ho, if_false, ne_eq, not_true_eq_false]
          by_cases h1 : a = off
          · subst h1; simp
          · by_cases h2 : off + 1 ≤ a ∧ a < off + 1 + r.length
            · rw [if_pos h2, if_pos (by omega), show a - off = (a - (off + 1)) + 1 by omega]; rfl
            · rw [if_neg h2, if_neg h1, if_neg (show ¬(off ≤ a ∧ a < off + (r.length + 1)) by omega)]
      · simp [hc]

/-! Full/empty bits -/

theorem spadTag_full (s : State) (o line g : Nat) :
    shas (s.spadTag o line).spadFull g = (shas s.spadFull g && !(decide (g / 4 = line) && !decide (tfind s.spadOwner line = some o))) := by
  unfold State.spadTag
  split
  · simp_all
  · simp only [shas, List.any_filter]
    induction s.spadFull with
    | nil => rfl
    | cons x r ih => simp only [List.any_cons]; grind

theorem isFull_spadTag (s : State) (o line o' c a : Nat) :
    (s.spadTag o line).isFull o' c a =
      if spadKey c a / 64 = line then (decide (o' = o) && decide (tfind s.spadOwner line = some o) && s.isFull o c a)
      else s.isFull o' c a := by
  have hg : spadKey c a / 16 / 4 = spadKey c a / 64 := by omega
  simp only [State.isFull, spadTag_full, spadTag_owner, hg]
  by_cases h : spadKey c a / 64 = line
  · subst h; grind
  · simp [h]

theorem isFull_spadPut {s : State} {o o' c c' off a : Nat} {b : Byte} (h : off < 2 ^ 24) (h' : a < 2 ^ 24) :
    (s.spadPut o c off b).isFull o' c' a =
      if c' = c ∧ a / 64 = off / 64 then
        (decide (o' = o) && decide (tfind s.spadOwner (spadKey c off / 64) = some o) && s.isFull o c a)
      else s.isFull o' c' a := by
  have := isFull_spadTag s o (spadKey c off / 64) o' c' a
  simp only [spadKey_line h' h] at this
  rw [show (s.spadPut o c off b).isFull o' c' a = (s.spadTag o (spadKey c off / 64)).isFull o' c' a from rfl, this]
  grind

theorem isFull_spadWrite {o c : Nat} (bs : List Byte) : ∀ {s : State} {off : Nat}, bs ≠ [] → off + bs.length ≤ 2 ^ 24 →
    off % 64 + bs.length ≤ 64 → ∀ o' c' a, a < 2 ^ 24 → (s.spadWrite o c off bs).isFull o' c' a =
      if c' = c ∧ a / 64 = off / 64 then
        (decide (o' = o) && decide (tfind s.spadOwner (spadKey c off / 64) = some o) && s.isFull o c a)
      else s.isFull o' c' a := by
  induction bs with
  | nil => intro s off h; exact absurd rfl h
  | cons b r ih =>
    intro s off _ hlen hline o' c' a ha
    simp only [List.length_cons] at hlen hline
    have hput := @isFull_spadPut s o o' c c' off a b (by omega) ha
    have hput' := @isFull_spadPut s o o c c off a b (by omega) ha
    by_cases hr : r = []
    · subst hr; exact hput
    · have hl : (off + 1) / 64 = off / 64 := by have := List.length_pos_iff.mpr hr; omega
      have hk : spadKey c (off + 1) / 64 = spadKey c off / 64 := by
        rw [spadKey_line (by have := List.length_pos_iff.mpr hr; omega) (by omega)]; exact ⟨rfl, hl⟩
      have hone := ih (s := s.spadPut o c off b) (off := off + 1) hr (by omega)
        (by have := List.length_pos_iff.mpr hr; omega) o' c' a ha
      simp only [State.spadWrite, putBytes] at hone ⊢
      rw [hone, hk, spadPut_owner, hl, hput, hput']
      grind

/-- A store into a scratchpad changes nothing but the scratchpads. -/
theorem spadWrite_frame (o c : Nat) (bs : List Byte) : ∀ (s : State) (off : Nat), ∃ sp so sf,
    s.spadWrite o c off bs = { s with spad := sp, spadOwner := so, spadFull := sf } := by
  induction bs with
  | nil => intro s off; exact ⟨s.spad, s.spadOwner, s.spadFull, rfl⟩
  | cons b r ih =>
    intro s off
    have h : ∃ sp so sf, s.spadPut o c off b = { s with spad := sp, spadOwner := so, spadFull := sf } := by
      unfold State.spadPut State.spadTag; dsimp only
      split <;> exact ⟨_, _, _, rfl⟩
    obtain ⟨sp, so, sf, h⟩ := h
    obtain ⟨sp', so', sf', h'⟩ := ih (s.spadPut o c off b) (off + 1)
    exact ⟨sp', so', sf', by simp only [State.spadWrite, putBytes] at h' ⊢; rw [h', h]⟩

end Sys2Proof.Machine
end

