-- ==== Sys2Proof/Laws/Bits.lean ====
section
/-! SUPPORT. Sign extension, byte strings as numbers, and the integer operations in the terms of bit vectors. -/

namespace Sys2Proof.Machine

theorem sx_eq_toInt (w n : Nat) : sx w n = (BitVec.ofNat w n).toInt := by
  simp only [sx, BitVec.toInt_eq_toNat_cond, BitVec.toNat_ofNat]

theorem sx_toNat (x : Word) : sx 64 x.toNat = x.toInt := by simp [sx_eq_toInt]

theorem wInt_eq (x : Word) : wInt x = x.toInt := sx_toNat x

theorem toW_toNat (x : Word) : toW x.toNat = x := by simp [toW]

theorem toW_wrap (i : Int) : toW (wrap 64 i) = BitVec.ofInt 64 i := by
  apply BitVec.eq_of_toNat_eq
  simp only [toW, wrap, BitVec.toNat_ofNat, BitVec.toNat_ofInt]
  omega

theorem sextW_eq (w n : Nat) : sextW w n = (BitVec.ofNat w n).signExtend 64 := by
  rw [sextW, sx_eq_toInt]; exact toW_wrap _

@[simp] theorem imm6_eq (n : Nat) : imm6 n = (BitVec.ofNat 6 n).signExtend 64 := sextW_eq 6 n
@[simp] theorem imm12_eq (n : Nat) : imm12 n = (BitVec.ofNat 12 n).signExtend 64 := sextW_eq 12 n
@[simp] theorem imm15_eq (n : Nat) : imm15 n = (BitVec.ofNat 15 n).signExtend 64 := sextW_eq 15 n
@[simp] theorem imm20_eq (n : Nat) : imm20 n = (BitVec.ofNat 20 n).signExtend 64 := sextW_eq 20 n

/-! Byte strings -/

@[simp] theorem natLe_length (n v : Nat) : (natLe n v).length = n := by
  induction n generalizing v with
  | zero => rfl
  | succ m ih => simp [natLe, ih]

theorem leNat_natLe (n v : Nat) : leNat (natLe n v) = v % 256 ^ n := by
  induction n generalizing v with
  | zero => simp [natLe, leNat, Nat.mod_one]
  | succ m ih =>
    have h := ih (v / 256)
    simp only [leNat] at h
    simp only [natLe, leNat, List.foldr_cons, h, BitVec.toNat_ofNat]
    rw [show (256 : Nat) ^ (m + 1) = 256 * 256 ^ m by rw [Nat.pow_succ, Nat.mul_comm], Nat.mod_mul]

theorem natLe_leNat (bs : List Byte) : natLe bs.length (leNat bs) = bs := by
  induction bs with
  | nil => rfl
  | cons b r ih =>
    have hb := b.isLt
    simp only [List.length_cons, natLe, leNat, List.foldr_cons]
    simp only [leNat] at ih
    congr 1
    · apply BitVec.eq_of_toNat_eq; simp; omega
    · rw [show (b.toNat + 256 * List.foldr (fun b n => b.toNat + 256 * n) 0 r) / 256 =
        List.foldr (fun b n => b.toNat + 256 * n) 0 r by omega]; exact ih

theorem leNat_lt (bs : List Byte) : leNat bs < 256 ^ bs.length := by
  induction bs with
  | nil => simp [leNat]
  | cons b r ih =>
    have hb := b.isLt
    simp only [leNat] at ih
    simp only [leNat, List.foldr_cons, List.length_cons, Nat.pow_succ]
    omega

@[simp] theorem bytesAt_length (n : Nat) (f : Nat → Byte) (a : Nat) : (bytesAt n f a).length = n := by
  induction n generalizing a with
  | zero => rfl
  | succ m ih => simp [bytesAt, ih]

theorem bytesAt_congr {n : Nat} {f g : Nat → Byte} {a : Nat} (h : ∀ i < n, f (a + i) = g (a + i)) : bytesAt n f a = bytesAt n g a := by
  induction n generalizing a with
  | zero => rfl
  | succ m ih =>
    simp only [bytesAt]
    rw [show f a = g a from h 0 (by omega), ih (fun i hi => by have := h (i + 1) (by omega); rwa [show a + 1 + i = a + (i + 1) by omega])]

/-! Operations -/

theorem wOp_mulHigh_signed (x y : Word) : wOp (mulHigh 64 true true) x y = BitVec.ofInt 64 (x.toInt * y.toInt / 2 ^ 64) := by
  simp only [wOp, mulHigh, if_true, sx_toNat]; exact toW_wrap _

theorem wOp_mulHigh_mixed (x y : Word) : wOp (mulHigh 64 true false) x y = BitVec.ofInt 64 (x.toInt * y.toNat / 2 ^ 64) := by
  simp only [wOp, mulHigh, if_true, sx_toNat]; exact toW_wrap _

theorem wOp_mulHigh_unsigned (x y : Word) : wOp (mulHigh 64 false false) x y = BitVec.ofNat 64 (x.toNat * y.toNat / 2 ^ 64) := by
  simp only [wOp, mulHigh, Bool.false_eq_true, if_false]
  rw [toW_wrap]
  apply BitVec.eq_of_toNat_eq
  simp only [BitVec.toNat_ofInt, BitVec.toNat_ofNat]
  norm_cast

theorem wOp_sdiv (x y : Word) : wOp (sdiv 64) x y = if y = 0 then BitVec.allOnes 64 else x.sdiv y := by
  have hy := y.isLt
  simp only [wOp, sdiv, Nat.mod_eq_of_lt hy, sx_toNat]
  by_cases h : y = 0
  · subst h; rfl
  · rw [if_neg (fun e => h (BitVec.eq_of_toNat_eq (by simpa using e))), if_neg h, toW_wrap]
    apply BitVec.eq_of_toInt_eq
    rw [BitVec.toInt_sdiv, BitVec.toInt_ofInt]

theorem wOp_srem (x y : Word) : wOp (srem 64) x y = if y = 0 then x else x.srem y := by
  have hy := y.isLt
  simp only [wOp, srem, Nat.mod_eq_of_lt hy, sx_toNat]
  by_cases h : y = 0
  · subst h; simp [toW]
  · rw [if_neg (fun e => h (BitVec.eq_of_toNat_eq (by simpa using e))), if_neg h, toW_wrap]
    rw [show x.toInt.tmod y.toInt = (x.srem y).toInt from (BitVec.toInt_srem x y).symm]
    exact BitVec.ofInt_toInt

theorem wOp_udiv (x y : Word) : wOp (udiv 64) x y = if y = 0 then BitVec.allOnes 64 else x / y := by
  simp only [wOp, udiv]
  by_cases h : y = 0
  · subst h; rfl
  · rw [if_neg (fun e => h (BitVec.eq_of_toNat_eq (by simpa using e))), if_neg h]
    apply BitVec.eq_of_toNat_eq
    have := Nat.div_le_self x.toNat y.toNat
    have := x.isLt
    simp [toW, BitVec.toNat_udiv]; omega

theorem wOp_urem (x y : Word) : wOp urem x y = if y = 0 then x else x % y := by
  simp only [wOp, urem]
  by_cases h : y = 0
  · subst h; simp [toW]
  · rw [if_neg (fun e => h (BitVec.eq_of_toNat_eq (by simpa using e))), if_neg h]
    apply BitVec.eq_of_toNat_eq
    have := Nat.mod_le x.toNat y.toNat
    have := x.isLt
    simp [toW, BitVec.toNat_umod]; omega

end Sys2Proof.Machine
end

