-- ==== Sys2Proof/Laws/Thread.lean ====
section
/-! SUPPORT. What each field of a thread reads after a register write, and what each register reads. -/

namespace Sys2Proof.Machine

section wx
variable (t : Thread) (n : Nat) (v : Word)
@[simp] theorem Thread.wx_pc : (t.wx n v).pc = t.pc := by unfold Thread.wx; split <;> rfl
@[simp] theorem Thread.wx_f : (t.wx n v).f = t.f := by unfold Thread.wx; split <;> rfl
@[simp] theorem Thread.wx_v : (t.wx n v).v = t.v := by unfold Thread.wx; split <;> rfl
@[simp] theorem Thread.wx_vpoison : (t.wx n v).vpoison = t.vpoison := by unfold Thread.wx; split <;> rfl
@[simp] theorem Thread.wx_units : (t.wx n v).units = t.units := by unfold Thread.wx; split <;> rfl
@[simp] theorem Thread.wx_verr : (t.wx n v).verr = t.verr := by unfold Thread.wx; split <;> rfl
@[simp] theorem Thread.wx_k : (t.wx n v).k = t.k := by unfold Thread.wx; split <;> rfl
@[simp] theorem Thread.wx_q : (t.wx n v).q = t.q := by unfold Thread.wx; split <;> rfl
@[simp] theorem Thread.wx_qbad : (t.wx n v).qbad = t.qbad := by unfold Thread.wx; split <;> rfl
@[simp] theorem Thread.wx_tl : (t.wx n v).tl = t.tl := by unfold Thread.wx; split <;> rfl
@[simp] theorem Thread.wx_wm : (t.wx n v).wm = t.wm := by unfold Thread.wx; split <;> rfl
@[simp] theorem Thread.wx_vl : (t.wx n v).vl = t.vl := by unfold Thread.wx; split <;> rfl
@[simp] theorem Thread.wx_mvl : (t.wx n v).mvl = t.mvl := by unfold Thread.wx; split <;> rfl
@[simp] theorem Thread.wx_sew : (t.wx n v).sew = t.sew := by unfold Thread.wx; split <;> rfl
@[simp] theorem Thread.wx_nreg : (t.wx n v).nreg = t.nreg := by unfold Thread.wx; split <;> rfl
@[simp] theorem Thread.wx_cmvl : (t.wx n v).cmvl = t.cmvl := by unfold Thread.wx; split <;> rfl
@[simp] theorem Thread.wx_csew : (t.wx n v).csew = t.csew := by unfold Thread.wx; split <;> rfl
@[simp] theorem Thread.wx_cnreg : (t.wx n v).cnreg = t.cnreg := by unfold Thread.wx; split <;> rfl
@[simp] theorem Thread.wx_reqLen : (t.wx n v).reqLen = t.reqLen := by unfold Thread.wx; split <;> rfl
@[simp] theorem Thread.wx_vgrant : (t.wx n v).vgrant = t.vgrant := by unfold Thread.wx; split <;> rfl
@[simp] theorem Thread.wx_gang : (t.wx n v).gang = t.gang := by unfold Thread.wx; split <;> rfl
@[simp] theorem Thread.wx_tshape : (t.wx n v).tshape = t.tshape := by unfold Thread.wx; split <;> rfl
@[simp] theorem Thread.wx_mapb : (t.wx n v).mapb = t.mapb := by unfold Thread.wx; split <;> rfl
@[simp] theorem Thread.wx_skew : (t.wx n v).skew = t.skew := by unfold Thread.wx; split <;> rfl
@[simp] theorem Thread.wx_taskid : (t.wx n v).taskid = t.taskid := by unfold Thread.wx; split <;> rfl
@[simp] theorem Thread.wx_nodeid : (t.wx n v).nodeid = t.nodeid := by unfold Thread.wx; split <;> rfl
@[simp] theorem Thread.wx_repl : (t.wx n v).repl = t.repl := by unfold Thread.wx; split <;> rfl
@[simp] theorem Thread.wx_repln : (t.wx n v).repln = t.repln := by unfold Thread.wx; split <;> rfl
@[simp] theorem Thread.wx_owner : (t.wx n v).owner = t.owner := by unfold Thread.wx; split <;> rfl
@[simp] theorem Thread.wx_fstat : (t.wx n v).fstat = t.fstat := by unfold Thread.wx; split <;> rfl
@[simp] theorem Thread.wx_frm : (t.wx n v).frm = t.frm := by unfold Thread.wx; split <;> rfl
@[simp] theorem Thread.wx_hnd : (t.wx n v).hnd = t.hnd := by unfold Thread.wx; split <;> rfl
@[simp] theorem Thread.wx_tsrc : (t.wx n v).tsrc = t.tsrc := by unfold Thread.wx; split <;> rfl
@[simp] theorem Thread.wx_tcode : (t.wx n v).tcode = t.tcode := by unfold Thread.wx; split <;> rfl
@[simp] theorem Thread.wx_tepc : (t.wx n v).tepc = t.tepc := by unfold Thread.wx; split <;> rfl
@[simp] theorem Thread.wx_tvpc : (t.wx n v).tvpc = t.tvpc := by unfold Thread.wx; split <;> rfl
@[simp] theorem Thread.wx_tval : (t.wx n v).tval = t.tval := by unfold Thread.wx; split <;> rfl
@[simp] theorem Thread.wx_nkeep : (t.wx n v).nkeep = t.nkeep := by unfold Thread.wx; split <;> rfl
@[simp] theorem Thread.wx_tpos : (t.wx n v).tpos = t.tpos := by unfold Thread.wx; split <;> rfl
@[simp] theorem Thread.wx_tstart : (t.wx n v).tstart = t.tstart := by unfold Thread.wx; split <;> rfl
@[simp] theorem Thread.wx_tvec : (t.wx n v).tvec = t.tvec := by unfold Thread.wx; split <;> rfl
@[simp] theorem Thread.wx_qcfg : (t.wx n v).qcfg = t.qcfg := by unfold Thread.wx; split <;> rfl
@[simp] theorem Thread.wx_refgrp : (t.wx n v).refgrp = t.refgrp := by unfold Thread.wx; split <;> rfl
@[simp] theorem Thread.wx_event : (t.wx n v).event = t.event := by unfold Thread.wx; split <;> rfl
@[simp] theorem Thread.wx_wfeSince : (t.wx n v).wfeSince = t.wfeSince := by unfold Thread.wx; split <;> rfl
@[simp] theorem Thread.wx_viq : (t.wx n v).viq = t.viq := by unfold Thread.wx; split <;> rfl
@[simp] theorem Thread.wx_rbq : (t.wx n v).rbq = t.rbq := by unfold Thread.wx; split <;> rfl
@[simp] theorem Thread.wx_win : (t.wx n v).win = t.win := by unfold Thread.wx; split <;> rfl
@[simp] theorem Thread.wx_prick : (t.wx n v).prick = t.prick := by unfold Thread.wx; split <;> rfl
@[simp] theorem Thread.wx_bob : (t.wx n v).bob = t.bob := by unfold Thread.wx; split <;> rfl
@[simp] theorem Thread.wx_cmds : (t.wx n v).cmds = t.cmds := by unfold Thread.wx; split <;> rfl
@[simp] theorem Thread.wx_pend : (t.wx n v).pend = t.pend := by unfold Thread.wx; split <;> rfl
@[simp] theorem Thread.wx_slot : (t.wx n v).slot = t.slot := by unfold Thread.wx; split <;> rfl
@[simp] theorem Thread.wx_wait : (t.wx n v).wait = t.wait := by unfold Thread.wx; split <;> rfl
@[simp] theorem Thread.wx_remote : (t.wx n v).remote = t.remote := by unfold Thread.wx; split <;> rfl
@[simp] theorem Thread.wx_away : (t.wx n v).away = t.away := by unfold Thread.wx; split <;> rfl
@[simp] theorem Thread.wx_wrote : (t.wx n v).wrote = t.wrote := by unfold Thread.wx; split <;> rfl
@[simp] theorem Thread.wx_shoot : (t.wx n v).shoot = t.shoot := by unfold Thread.wx; split <;> rfl
@[simp] theorem Thread.wx_yielded : (t.wx n v).yielded = t.yielded := by unfold Thread.wx; split <;> rfl
@[simp] theorem Thread.wx_withCohort : (t.wx n v).withCohort = t.withCohort := by unfold Thread.wx; split <;> rfl
@[simp] theorem Thread.wx_freed : (t.wx n v).freed = t.freed := by unfold Thread.wx; split <;> rfl
@[simp] theorem Thread.wx_stopReq : (t.wx n v).stopReq = t.stopReq := by unfold Thread.wx; split <;> rfl
@[simp] theorem Thread.wx_info : (t.wx n v).info = t.info := by unfold Thread.wx; split <;> rfl
end wx

section wf
variable (t : Thread) (n : Nat) (v : Word)
@[simp] theorem Thread.wf_pc : (t.wf n v).pc = t.pc := rfl
@[simp] theorem Thread.wf_x : (t.wf n v).x = t.x := rfl
@[simp] theorem Thread.wf_v : (t.wf n v).v = t.v := rfl
@[simp] theorem Thread.wf_vpoison : (t.wf n v).vpoison = t.vpoison := rfl
@[simp] theorem Thread.wf_units : (t.wf n v).units = t.units := rfl
@[simp] theorem Thread.wf_verr : (t.wf n v).verr = t.verr := rfl
@[simp] theorem Thread.wf_k : (t.wf n v).k = t.k := rfl
@[simp] theorem Thread.wf_q : (t.wf n v).q = t.q := rfl
@[simp] theorem Thread.wf_qbad : (t.wf n v).qbad = t.qbad := rfl
@[simp] theorem Thread.wf_tl : (t.wf n v).tl = t.tl := rfl
@[simp] theorem Thread.wf_wm : (t.wf n v).wm = t.wm := rfl
@[simp] theorem Thread.wf_vl : (t.wf n v).vl = t.vl := rfl
@[simp] theorem Thread.wf_mvl : (t.wf n v).mvl = t.mvl := rfl
@[simp] theorem Thread.wf_sew : (t.wf n v).sew = t.sew := rfl
@[simp] theorem Thread.wf_nreg : (t.wf n v).nreg = t.nreg := rfl
@[simp] theorem Thread.wf_cmvl : (t.wf n v).cmvl = t.cmvl := rfl
@[simp] theorem Thread.wf_csew : (t.wf n v).csew = t.csew := rfl
@[simp] theorem Thread.wf_cnreg : (t.wf n v).cnreg = t.cnreg := rfl
@[simp] theorem Thread.wf_reqLen : (t.wf n v).reqLen = t.reqLen := rfl
@[simp] theorem Thread.wf_vgrant : (t.wf n v).vgrant = t.vgrant := rfl
@[simp] theorem Thread.wf_gang : (t.wf n v).gang = t.gang := rfl
@[simp] theorem Thread.wf_tshape : (t.wf n v).tshape = t.tshape := rfl
@[simp] theorem Thread.wf_mapb : (t.wf n v).mapb = t.mapb := rfl
@[simp] theorem Thread.wf_skew : (t.wf n v).skew = t.skew := rfl
@[simp] theorem Thread.wf_taskid : (t.wf n v).taskid = t.taskid := rfl
@[simp] theorem Thread.wf_nodeid : (t.wf n v).nodeid = t.nodeid := rfl
@[simp] theorem Thread.wf_repl : (t.wf n v).repl = t.repl := rfl
@[simp] theorem Thread.wf_repln : (t.wf n v).repln = t.repln := rfl
@[simp] theorem Thread.wf_owner : (t.wf n v).owner = t.owner := rfl
@[simp] theorem Thread.wf_fstat : (t.wf n v).fstat = t.fstat := rfl
@[simp] theorem Thread.wf_frm : (t.wf n v).frm = t.frm := rfl
@[simp] theorem Thread.wf_hnd : (t.wf n v).hnd = t.hnd := rfl
@[simp] theorem Thread.wf_tsrc : (t.wf n v).tsrc = t.tsrc := rfl
@[simp] theorem Thread.wf_tcode : (t.wf n v).tcode = t.tcode := rfl
@[simp] theorem Thread.wf_tepc : (t.wf n v).tepc = t.tepc := rfl
@[simp] theorem Thread.wf_tvpc : (t.wf n v).tvpc = t.tvpc := rfl
@[simp] theorem Thread.wf_tval : (t.wf n v).tval = t.tval := rfl
@[simp] theorem Thread.wf_nkeep : (t.wf n v).nkeep = t.nkeep := rfl
@[simp] theorem Thread.wf_tpos : (t.wf n v).tpos = t.tpos := rfl
@[simp] theorem Thread.wf_tstart : (t.wf n v).tstart = t.tstart := rfl
@[simp] theorem Thread.wf_tvec : (t.wf n v).tvec = t.tvec := rfl
@[simp] theorem Thread.wf_qcfg : (t.wf n v).qcfg = t.qcfg := rfl
@[simp] theorem Thread.wf_refgrp : (t.wf n v).refgrp = t.refgrp := rfl
@[simp] theorem Thread.wf_event : (t.wf n v).event = t.event := rfl
@[simp] theorem Thread.wf_wfeSince : (t.wf n v).wfeSince = t.wfeSince := rfl
@[simp] theorem Thread.wf_viq : (t.wf n v).viq = t.viq := rfl
@[simp] theorem Thread.wf_rbq : (t.wf n v).rbq = t.rbq := rfl
@[simp] theorem Thread.wf_win : (t.wf n v).win = t.win := rfl
@[simp] theorem Thread.wf_prick : (t.wf n v).prick = t.prick := rfl
@[simp] theorem Thread.wf_bob : (t.wf n v).bob = t.bob := rfl
@[simp] theorem Thread.wf_cmds : (t.wf n v).cmds = t.cmds := rfl
@[simp] theorem Thread.wf_pend : (t.wf n v).pend = t.pend := rfl
@[simp] theorem Thread.wf_slot : (t.wf n v).slot = t.slot := rfl
@[simp] theorem Thread.wf_wait : (t.wf n v).wait = t.wait := rfl
@[simp] theorem Thread.wf_remote : (t.wf n v).remote = t.remote := rfl
@[simp] theorem Thread.wf_away : (t.wf n v).away = t.away := rfl
@[simp] theorem Thread.wf_wrote : (t.wf n v).wrote = t.wrote := rfl
@[simp] theorem Thread.wf_shoot : (t.wf n v).shoot = t.shoot := rfl
@[simp] theorem Thread.wf_yielded : (t.wf n v).yielded = t.yielded := rfl
@[simp] theorem Thread.wf_withCohort : (t.wf n v).withCohort = t.withCohort := rfl
@[simp] theorem Thread.wf_freed : (t.wf n v).freed = t.freed := rfl
@[simp] theorem Thread.wf_stopReq : (t.wf n v).stopReq = t.stopReq := rfl
@[simp] theorem Thread.wf_info : (t.wf n v).info = t.info := rfl
end wf

section wwm
variable (t : Thread) (n : Nat) (v : Word)
@[simp] theorem Thread.wwm_pc : (t.wwm n v).pc = t.pc := rfl
@[simp] theorem Thread.wwm_x : (t.wwm n v).x = t.x := rfl
@[simp] theorem Thread.wwm_f : (t.wwm n v).f = t.f := rfl
@[simp] theorem Thread.wwm_v : (t.wwm n v).v = t.v := rfl
@[simp] theorem Thread.wwm_vpoison : (t.wwm n v).vpoison = t.vpoison := rfl
@[simp] theorem Thread.wwm_units : (t.wwm n v).units = t.units := rfl
@[simp] theorem Thread.wwm_verr : (t.wwm n v).verr = t.verr := rfl
@[simp] theorem Thread.wwm_k : (t.wwm n v).k = t.k := rfl
@[simp] theorem Thread.wwm_q : (t.wwm n v).q = t.q := rfl
@[simp] theorem Thread.wwm_qbad : (t.wwm n v).qbad = t.qbad := rfl
@[simp] theorem Thread.wwm_tl : (t.wwm n v).tl = t.tl := rfl
@[simp] theorem Thread.wwm_vl : (t.wwm n v).vl = t.vl := rfl
@[simp] theorem Thread.wwm_mvl : (t.wwm n v).mvl = t.mvl := rfl
@[simp] theorem Thread.wwm_sew : (t.wwm n v).sew = t.sew := rfl
@[simp] theorem Thread.wwm_nreg : (t.wwm n v).nreg = t.nreg := rfl
@[simp] theorem Thread.wwm_cmvl : (t.wwm n v).cmvl = t.cmvl := rfl
@[simp] theorem Thread.wwm_csew : (t.wwm n v).csew = t.csew := rfl
@[simp] theorem Thread.wwm_cnreg : (t.wwm n v).cnreg = t.cnreg := rfl
@[simp] theorem Thread.wwm_reqLen : (t.wwm n v).reqLen = t.reqLen := rfl
@[simp] theorem Thread.wwm_vgrant : (t.wwm n v).vgrant = t.vgrant := rfl
@[simp] theorem Thread.wwm_gang : (t.wwm n v).gang = t.gang := rfl
@[simp] theorem Thread.wwm_tshape : (t.wwm n v).tshape = t.tshape := rfl
@[simp] theorem Thread.wwm_mapb : (t.wwm n v).mapb = t.mapb := rfl
@[simp] theorem Thread.wwm_skew : (t.wwm n v).skew = t.skew := rfl
@[simp] theorem Thread.wwm_taskid : (t.wwm n v).taskid = t.taskid := rfl
@[simp] theorem Thread.wwm_nodeid : (t.wwm n v).nodeid = t.nodeid := rfl
@[simp] theorem Thread.wwm_repl : (t.wwm n v).repl = t.repl := rfl
@[simp] theorem Thread.wwm_repln : (t.wwm n v).repln = t.repln := rfl
@[simp] theorem Thread.wwm_owner : (t.wwm n v).owner = t.owner := rfl
@[simp] theorem Thread.wwm_fstat : (t.wwm n v).fstat = t.fstat := rfl
@[simp] theorem Thread.wwm_frm : (t.wwm n v).frm = t.frm := rfl
@[simp] theorem Thread.wwm_hnd : (t.wwm n v).hnd = t.hnd := rfl
@[simp] theorem Thread.wwm_tsrc : (t.wwm n v).tsrc = t.tsrc := rfl
@[simp] theorem Thread.wwm_tcode : (t.wwm n v).tcode = t.tcode := rfl
@[simp] theorem Thread.wwm_tepc : (t.wwm n v).tepc = t.tepc := rfl
@[simp] theorem Thread.wwm_tvpc : (t.wwm n v).tvpc = t.tvpc := rfl
@[simp] theorem Thread.wwm_tval : (t.wwm n v).tval = t.tval := rfl
@[simp] theorem Thread.wwm_nkeep : (t.wwm n v).nkeep = t.nkeep := rfl
@[simp] theorem Thread.wwm_tpos : (t.wwm n v).tpos = t.tpos := rfl
@[simp] theorem Thread.wwm_tstart : (t.wwm n v).tstart = t.tstart := rfl
@[simp] theorem Thread.wwm_tvec : (t.wwm n v).tvec = t.tvec := rfl
@[simp] theorem Thread.wwm_qcfg : (t.wwm n v).qcfg = t.qcfg := rfl
@[simp] theorem Thread.wwm_refgrp : (t.wwm n v).refgrp = t.refgrp := rfl
@[simp] theorem Thread.wwm_event : (t.wwm n v).event = t.event := rfl
@[simp] theorem Thread.wwm_wfeSince : (t.wwm n v).wfeSince = t.wfeSince := rfl
@[simp] theorem Thread.wwm_viq : (t.wwm n v).viq = t.viq := rfl
@[simp] theorem Thread.wwm_rbq : (t.wwm n v).rbq = t.rbq := rfl
@[simp] theorem Thread.wwm_win : (t.wwm n v).win = t.win := rfl
@[simp] theorem Thread.wwm_prick : (t.wwm n v).prick = t.prick := rfl
@[simp] theorem Thread.wwm_bob : (t.wwm n v).bob = t.bob := rfl
@[simp] theorem Thread.wwm_cmds : (t.wwm n v).cmds = t.cmds := rfl
@[simp] theorem Thread.wwm_pend : (t.wwm n v).pend = t.pend := rfl
@[simp] theorem Thread.wwm_slot : (t.wwm n v).slot = t.slot := rfl
@[simp] theorem Thread.wwm_wait : (t.wwm n v).wait = t.wait := rfl
@[simp] theorem Thread.wwm_remote : (t.wwm n v).remote = t.remote := rfl
@[simp] theorem Thread.wwm_away : (t.wwm n v).away = t.away := rfl
@[simp] theorem Thread.wwm_wrote : (t.wwm n v).wrote = t.wrote := rfl
@[simp] theorem Thread.wwm_shoot : (t.wwm n v).shoot = t.shoot := rfl
@[simp] theorem Thread.wwm_yielded : (t.wwm n v).yielded = t.yielded := rfl
@[simp] theorem Thread.wwm_withCohort : (t.wwm n v).withCohort = t.withCohort := rfl
@[simp] theorem Thread.wwm_freed : (t.wwm n v).freed = t.freed := rfl
@[simp] theorem Thread.wwm_stopReq : (t.wwm n v).stopReq = t.stopReq := rfl
@[simp] theorem Thread.wwm_info : (t.wwm n v).info = t.info := rfl
end wwm

section wq
variable (t : Thread) (n : Nat) (v : List Word)
@[simp] theorem Thread.wq_pc : (t.wq n v).pc = t.pc := rfl
@[simp] theorem Thread.wq_x : (t.wq n v).x = t.x := rfl
@[simp] theorem Thread.wq_f : (t.wq n v).f = t.f := rfl
@[simp] theorem Thread.wq_v : (t.wq n v).v = t.v := rfl
@[simp] theorem Thread.wq_vpoison : (t.wq n v).vpoison = t.vpoison := rfl
@[simp] theorem Thread.wq_units : (t.wq n v).units = t.units := rfl
@[simp] theorem Thread.wq_verr : (t.wq n v).verr = t.verr := rfl
@[simp] theorem Thread.wq_k : (t.wq n v).k = t.k := rfl
@[simp] theorem Thread.wq_qbad : (t.wq n v).qbad = t.qbad := rfl
@[simp] theorem Thread.wq_tl : (t.wq n v).tl = t.tl := rfl
@[simp] theorem Thread.wq_wm : (t.wq n v).wm = t.wm := rfl
@[simp] theorem Thread.wq_vl : (t.wq n v).vl = t.vl := rfl
@[simp] theorem Thread.wq_mvl : (t.wq n v).mvl = t.mvl := rfl
@[simp] theorem Thread.wq_sew : (t.wq n v).sew = t.sew := rfl
@[simp] theorem Thread.wq_nreg : (t.wq n v).nreg = t.nreg := rfl
@[simp] theorem Thread.wq_cmvl : (t.wq n v).cmvl = t.cmvl := rfl
@[simp] theorem Thread.wq_csew : (t.wq n v).csew = t.csew := rfl
@[simp] theorem Thread.wq_cnreg : (t.wq n v).cnreg = t.cnreg := rfl
@[simp] theorem Thread.wq_reqLen : (t.wq n v).reqLen = t.reqLen := rfl
@[simp] theorem Thread.wq_vgrant : (t.wq n v).vgrant = t.vgrant := rfl
@[simp] theorem Thread.wq_gang : (t.wq n v).gang = t.gang := rfl
@[simp] theorem Thread.wq_tshape : (t.wq n v).tshape = t.tshape := rfl
@[simp] theorem Thread.wq_mapb : (t.wq n v).mapb = t.mapb := rfl
@[simp] theorem Thread.wq_skew : (t.wq n v).skew = t.skew := rfl
@[simp] theorem Thread.wq_taskid : (t.wq n v).taskid = t.taskid := rfl
@[simp] theorem Thread.wq_nodeid : (t.wq n v).nodeid = t.nodeid := rfl
@[simp] theorem Thread.wq_repl : (t.wq n v).repl = t.repl := rfl
@[simp] theorem Thread.wq_repln : (t.wq n v).repln = t.repln := rfl
@[simp] theorem Thread.wq_owner : (t.wq n v).owner = t.owner := rfl
@[simp] theorem Thread.wq_fstat : (t.wq n v).fstat = t.fstat := rfl
@[simp] theorem Thread.wq_frm : (t.wq n v).frm = t.frm := rfl
@[simp] theorem Thread.wq_hnd : (t.wq n v).hnd = t.hnd := rfl
@[simp] theorem Thread.wq_tsrc : (t.wq n v).tsrc = t.tsrc := rfl
@[simp] theorem Thread.wq_tcode : (t.wq n v).tcode = t.tcode := rfl
@[simp] theorem Thread.wq_tepc : (t.wq n v).tepc = t.tepc := rfl
@[simp] theorem Thread.wq_tvpc : (t.wq n v).tvpc = t.tvpc := rfl
@[simp] theorem Thread.wq_tval : (t.wq n v).tval = t.tval := rfl
@[simp] theorem Thread.wq_nkeep : (t.wq n v).nkeep = t.nkeep := rfl
@[simp] theorem Thread.wq_tpos : (t.wq n v).tpos = t.tpos := rfl
@[simp] theorem Thread.wq_tstart : (t.wq n v).tstart = t.tstart := rfl
@[simp] theorem Thread.wq_tvec : (t.wq n v).tvec = t.tvec := rfl
@[simp] theorem Thread.wq_qcfg : (t.wq n v).qcfg = t.qcfg := rfl
@[simp] theorem Thread.wq_refgrp : (t.wq n v).refgrp = t.refgrp := rfl
@[simp] theorem Thread.wq_event : (t.wq n v).event = t.event := rfl
@[simp] theorem Thread.wq_wfeSince : (t.wq n v).wfeSince = t.wfeSince := rfl
@[simp] theorem Thread.wq_viq : (t.wq n v).viq = t.viq := rfl
@[simp] theorem Thread.wq_rbq : (t.wq n v).rbq = t.rbq := rfl
@[simp] theorem Thread.wq_win : (t.wq n v).win = t.win := rfl
@[simp] theorem Thread.wq_prick : (t.wq n v).prick = t.prick := rfl
@[simp] theorem Thread.wq_bob : (t.wq n v).bob = t.bob := rfl
@[simp] theorem Thread.wq_cmds : (t.wq n v).cmds = t.cmds := rfl
@[simp] theorem Thread.wq_pend : (t.wq n v).pend = t.pend := rfl
@[simp] theorem Thread.wq_slot : (t.wq n v).slot = t.slot := rfl
@[simp] theorem Thread.wq_wait : (t.wq n v).wait = t.wait := rfl
@[simp] theorem Thread.wq_remote : (t.wq n v).remote = t.remote := rfl
@[simp] theorem Thread.wq_away : (t.wq n v).away = t.away := rfl
@[simp] theorem Thread.wq_wrote : (t.wq n v).wrote = t.wrote := rfl
@[simp] theorem Thread.wq_shoot : (t.wq n v).shoot = t.shoot := rfl
@[simp] theorem Thread.wq_yielded : (t.wq n v).yielded = t.yielded := rfl
@[simp] theorem Thread.wq_withCohort : (t.wq n v).withCohort = t.withCohort := rfl
@[simp] theorem Thread.wq_freed : (t.wq n v).freed = t.freed := rfl
@[simp] theorem Thread.wq_stopReq : (t.wq n v).stopReq = t.stopReq := rfl
@[simp] theorem Thread.wq_info : (t.wq n v).info = t.info := rfl
end wq

section flag
variable (t : Thread) (v : BitVec 6)
@[simp] theorem Thread.flag_pc : (t.flag v).pc = t.pc := rfl
@[simp] theorem Thread.flag_x : (t.flag v).x = t.x := rfl
@[simp] theorem Thread.flag_f : (t.flag v).f = t.f := rfl
@[simp] theorem Thread.flag_v : (t.flag v).v = t.v := rfl
@[simp] theorem Thread.flag_vpoison : (t.flag v).vpoison = t.vpoison := rfl
@[simp] theorem Thread.flag_units : (t.flag v).units = t.units := rfl
@[simp] theorem Thread.flag_verr : (t.flag v).verr = t.verr := rfl
@[simp] theorem Thread.flag_k : (t.flag v).k = t.k := rfl
@[simp] theorem Thread.flag_q : (t.flag v).q = t.q := rfl
@[simp] theorem Thread.flag_qbad : (t.flag v).qbad = t.qbad := rfl
@[simp] theorem Thread.flag_tl : (t.flag v).tl = t.tl := rfl
@[simp] theorem Thread.flag_wm : (t.flag v).wm = t.wm := rfl
@[simp] theorem Thread.flag_vl : (t.flag v).vl = t.vl := rfl
@[simp] theorem Thread.flag_mvl : (t.flag v).mvl = t.mvl := rfl
@[simp] theorem Thread.flag_sew : (t.flag v).sew = t.sew := rfl
@[simp] theorem Thread.flag_nreg : (t.flag v).nreg = t.nreg := rfl
@[simp] theorem Thread.flag_cmvl : (t.flag v).cmvl = t.cmvl := rfl
@[simp] theorem Thread.flag_csew : (t.flag v).csew = t.csew := rfl
@[simp] theorem Thread.flag_cnreg : (t.flag v).cnreg = t.cnreg := rfl
@[simp] theorem Thread.flag_reqLen : (t.flag v).reqLen = t.reqLen := rfl
@[simp] theorem Thread.flag_vgrant : (t.flag v).vgrant = t.vgrant := rfl
@[simp] theorem Thread.flag_gang : (t.flag v).gang = t.gang := rfl
@[simp] theorem Thread.flag_tshape : (t.flag v).tshape = t.tshape := rfl
@[simp] theorem Thread.flag_mapb : (t.flag v).mapb = t.mapb := rfl
@[simp] theorem Thread.flag_skew : (t.flag v).skew = t.skew := rfl
@[simp] theorem Thread.flag_taskid : (t.flag v).taskid = t.taskid := rfl
@[simp] theorem Thread.flag_nodeid : (t.flag v).nodeid = t.nodeid := rfl
@[simp] theorem Thread.flag_repl : (t.flag v).repl = t.repl := rfl
@[simp] theorem Thread.flag_repln : (t.flag v).repln = t.repln := rfl
@[simp] theorem Thread.flag_owner : (t.flag v).owner = t.owner := rfl
@[simp] theorem Thread.flag_frm : (t.flag v).frm = t.frm := rfl
@[simp] theorem Thread.flag_hnd : (t.flag v).hnd = t.hnd := rfl
@[simp] theorem Thread.flag_tsrc : (t.flag v).tsrc = t.tsrc := rfl
@[simp] theorem Thread.flag_tcode : (t.flag v).tcode = t.tcode := rfl
@[simp] theorem Thread.flag_tepc : (t.flag v).tepc = t.tepc := rfl
@[simp] theorem Thread.flag_tvpc : (t.flag v).tvpc = t.tvpc := rfl
@[simp] theorem Thread.flag_tval : (t.flag v).tval = t.tval := rfl
@[simp] theorem Thread.flag_nkeep : (t.flag v).nkeep = t.nkeep := rfl
@[simp] theorem Thread.flag_tpos : (t.flag v).tpos = t.tpos := rfl
@[simp] theorem Thread.flag_tstart : (t.flag v).tstart = t.tstart := rfl
@[simp] theorem Thread.flag_tvec : (t.flag v).tvec = t.tvec := rfl
@[simp] theorem Thread.flag_qcfg : (t.flag v).qcfg = t.qcfg := rfl
@[simp] theorem Thread.flag_refgrp : (t.flag v).refgrp = t.refgrp := rfl
@[simp] theorem Thread.flag_event : (t.flag v).event = t.event := rfl
@[simp] theorem Thread.flag_wfeSince : (t.flag v).wfeSince = t.wfeSince := rfl
@[simp] theorem Thread.flag_viq : (t.flag v).viq = t.viq := rfl
@[simp] theorem Thread.flag_rbq : (t.flag v).rbq = t.rbq := rfl
@[simp] theorem Thread.flag_win : (t.flag v).win = t.win := rfl
@[simp] theorem Thread.flag_prick : (t.flag v).prick = t.prick := rfl
@[simp] theorem Thread.flag_bob : (t.flag v).bob = t.bob := rfl
@[simp] theorem Thread.flag_cmds : (t.flag v).cmds = t.cmds := rfl
@[simp] theorem Thread.flag_pend : (t.flag v).pend = t.pend := rfl
@[simp] theorem Thread.flag_slot : (t.flag v).slot = t.slot := rfl
@[simp] theorem Thread.flag_wait : (t.flag v).wait = t.wait := rfl
@[simp] theorem Thread.flag_remote : (t.flag v).remote = t.remote := rfl
@[simp] theorem Thread.flag_away : (t.flag v).away = t.away := rfl
@[simp] theorem Thread.flag_wrote : (t.flag v).wrote = t.wrote := rfl
@[simp] theorem Thread.flag_shoot : (t.flag v).shoot = t.shoot := rfl
@[simp] theorem Thread.flag_yielded : (t.flag v).yielded = t.yielded := rfl
@[simp] theorem Thread.flag_withCohort : (t.flag v).withCohort = t.withCohort := rfl
@[simp] theorem Thread.flag_freed : (t.flag v).freed = t.freed := rfl
@[simp] theorem Thread.flag_stopReq : (t.flag v).stopReq = t.stopReq := rfl
@[simp] theorem Thread.flag_info : (t.flag v).info = t.info := rfl
end flag

theorem Thread.rx_wx (t : Thread) (d n : Nat) (v : Word) : (t.wx d v).rx n = if n = d ∧ n ≠ 0 then v else t.rx n := by
  by_cases h : d = 0
  · subst h; simp only [Thread.wx, if_true]; grind
  · simp only [Thread.wx, h, if_false, Thread.rx, tget_tset]; grind

theorem Thread.rf_wf (t : Thread) (d n : Nat) (v : Word) : (t.wf d v).rf n = if n = d then v else t.rf n := by
  simp only [Thread.wf, Thread.rf, tget_tset]

@[simp] theorem Thread.rf_wx (t : Thread) (d n : Nat) (v : Word) : (t.wx d v).rf n = t.rf n := by simp [Thread.rf]
@[simp] theorem Thread.rx_wf (t : Thread) (d n : Nat) (v : Word) : (t.wf d v).rx n = t.rx n := rfl
@[simp] theorem Thread.rx_flag (t : Thread) (n : Nat) (v : BitVec 6) : (t.flag v).rx n = t.rx n := rfl
@[simp] theorem Thread.rf_flag (t : Thread) (n : Nat) (v : BitVec 6) : (t.flag v).rf n = t.rf n := rfl
@[simp] theorem Thread.rx_zero (t : Thread) : t.rx 0 = 0 := rfl
theorem Thread.rwm_wwm (t : Thread) (d n : Nat) (v : Word) : (t.wwm d v).rwm n = if n = d then v else t.rwm n := by
  simp only [Thread.wwm, Thread.rwm, tget_tset]
theorem Thread.rq_wq (t : Thread) (d n : Nat) (v : List Word) : (t.wq d v).rq n = if n = d then v else t.rq n := by
  simp only [Thread.wq, Thread.rq, tget_tset]

end Sys2Proof.Machine
end

