-- ==== Sys2Proof/Laws/Ops.lean ====
section
/-! SUPPORT. What the shared operations of the scalar instructions can do: one lemma per operation, which says everything it changes. -/

namespace Sys2Proof.Machine

/-! Counters -/

theorem State.counter_count (s : State) (k i n k' i' : Nat) :
    (s.count k i n).counter k' i' = s.counter k' i' + (if k' = k ∧ i' = i then n else 0) := by
  simp only [State.counter, State.count, State.words_setWords]
  by_cases h : k' = k
  · subst h; simp only [if_true, true_and, tget_tput]; split <;> simp_all
  · simp [h]

theorem State.count_owner (s : State) (k i n k' : Nat) : ((s.count k i n).words k').owner = (s.words k').owner := by
  simp only [State.count, State.words_setWords]; split <;> simp_all

theorem State.count_timelines (s : State) (k i n k' : Nat) : ((s.count k i n).words k').tl = (s.words k').tl := by
  simp only [State.count, State.words_setWords]; split <;> simp_all

@[simp] theorem State.count_thr (s : State) (k i n h : Nat) : (s.count k i n).thr h = s.thr h := rfl
@[simp] theorem State.count_hart (s : State) (k i n : Nat) : (s.count k i n).hart = s.hart := rfl
@[simp] theorem State.count_cur (s : State) (k i n : Nat) : (s.count k i n).cur = s.cur := rfl

theorem countedOne_count {s : State} {k : Nat} (h : k = s.cur.taskid) (t : State) (ht : t.tasks = s.tasks) :
    CountedOne s (t.count k 1 1) := by
  have hw : ∀ j, t.words j = s.words j := fun j => by simp [State.words, ht]
  subst h
  exact ⟨fun k n => by rw [State.counter_count, State.counter, State.counter, hw],
    fun k => by rw [State.count_owner, hw], fun k => by rw [State.count_timelines, hw]⟩

/-! Retiring -/

/-- A thread as `retireTo` leaves it. -/
def Thread.ended (t : Thread) (pc : Word) : Thread :=
  { t with pc := pc, wait := .none, freed := false, remote := none, away := none, shoot := none, wfeSince := none }

@[simp] theorem Thread.rx_ended (t : Thread) (pc : Word) (n : Nat) : (t.ended pc).rx n = t.rx n := rfl
@[simp] theorem Thread.rf_ended (t : Thread) (pc : Word) (n : Nat) : (t.ended pc).rf n = t.rf n := rfl

theorem retireTo_cur (s : State) (pc : Word) : (s.retireTo pc).cur = s.cur.ended pc := by
  simp [State.retireTo, Thread.ended]

@[simp] theorem retireTo_hart (s : State) (pc : Word) : (s.retireTo pc).hart = s.hart := rfl

theorem Thread.Like.taskid {t u : Thread} (h : u.Like t) : u.taskid = t.taskid := by
  unfold Thread.Like at h; have := congrArg Thread.taskid h; exact this

theorem Thread.ended_retired {t u : Thread} (h : u.Like t) (pc : Word) : t.Retired (u.ended pc) pc u.rx u.rf u.fstat :=
  ⟨rfl, fun _ => rfl, fun _ => rfl, rfl, rfl, h⟩

/-- An instruction that changes the general registers and FSTAT of its thread and goes to `pc` has completed. -/
theorem retireTo_retired {s : State} {u : Thread} (h : u.Like s.cur) (pc : Word) :
    Retired s ((s.setCur u).retireTo pc) pc u.rx u.rf u.fstat where
  thread := by rw [retireTo_cur, State.cur_setCur]; exact Thread.ended_retired h pc
  hart := rfl
  elsewhere := rfl
  others := by
    intro j hj
    simp only [State.retireTo, State.count_thr, State.cur_setCur]
    rw [State.thr_setCur_ne _ _ (by simpa using hj), State.thr_setCur_ne _ _ hj]
  counted := by
    rw [State.retireTo, State.cur_setCur]
    exact countedOne_count h.taskid _ rfl

theorem retire_retired {s : State} {u : Thread} (h : u.Like s.cur) (pc : u.pc = s.cur.pc) (len : Nat) :
    Retired s ((s.setCur u).retire len) (s.cur.pc + toW len) u.rx u.rf u.fstat := by
  rw [State.retire, State.cur_setCur, pc]; exact retireTo_retired h _

/-! Register operations -/

theorem Thread.like_refl (t : Thread) : t.Like t := rfl
theorem Thread.like_wx (t : Thread) (d : Nat) (v : Word) : (t.wx d v).Like t := by unfold Thread.wx Thread.Like; split <;> rfl
theorem Thread.like_wf (t : Thread) (d : Nat) (v : Word) : (t.wf d v).Like t := rfl
theorem Thread.like_wf_flag (t : Thread) (d : Nat) (v : Word) (f : BitVec 6) : ((t.wf d v).flag f).Like t := rfl
theorem Thread.like_wx_flag (t : Thread) (d : Nat) (v : Word) (f : BitVec 6) : ((t.wx d v).flag f).Like t := by
  unfold Thread.wx Thread.Like; split <;> rfl

theorem xAfter_eq (t : Thread) (d : Nat) (v : Word) : (t.wx d v).rx = xAfter t d v := by
  funext n; rw [Thread.rx_wx, xAfter]; by_cases h : n = 0
  · simp [h]
  · grind

theorem fAfter_eq (t : Thread) (d : Nat) (v : Word) : (t.wf d v).rf = fAfter t d v := by
  funext n; rw [Thread.rf_wf, fAfter]

/-- X[d] := v. -/
theorem regOp_wx (s : State) (len d : Nat) (v : Word) {f : Thread → Thread} (hf : f s.cur = s.cur.wx d v) :
    ∃ t, regOp len s f = .next t ∧ Retired s t (s.cur.pc + toW len) (xAfter s.cur d v) s.cur.rf s.cur.fstat := by
  refine ⟨_, rfl, ?_⟩
  rw [hf, ← xAfter_eq]
  have := retire_retired (s.cur.like_wx d v) (by simp) len
  simpa [funext (Thread.rf_wx s.cur d · v)] using this

/-- F[d] := v, with flags. -/
theorem regOp_wf (s : State) (len d : Nat) (v : Word) (fl : BitVec 6) {f : Thread → Thread} (hf : f s.cur = (s.cur.wf d v).flag fl) :
    ∃ t, regOp len s f = .next t ∧ Retired s t (s.cur.pc + toW len) s.cur.rx (fAfter s.cur d v) (s.cur.fstat ||| fl) := by
  refine ⟨_, rfl, ?_⟩
  rw [hf, ← fAfter_eq]
  exact retire_retired (s.cur.like_wf_flag d v fl) rfl len

/-- X[d] := v, with flags. -/
theorem regOp_wx_flag (s : State) (len d : Nat) (v : Word) (fl : BitVec 6) {f : Thread → Thread} (hf : f s.cur = (s.cur.wx d v).flag fl) :
    ∃ t, regOp len s f = .next t ∧ Retired s t (s.cur.pc + toW len) (xAfter s.cur d v) s.cur.rf (s.cur.fstat ||| fl) := by
  refine ⟨_, rfl, ?_⟩
  have h := retire_retired (s.cur.like_wx_flag d v fl) (Thread.wx_pc s.cur d v) len
  rwa [hf, ← xAfter_eq, ← Thread.wx_fstat s.cur d v, ← funext (Thread.rf_wx s.cur d · v)]

/-- An instruction that writes no register. -/
theorem regOp_id (s : State) (len : Nat) :
    ∃ t, regOp len s id = .next t ∧ Retired s t (s.cur.pc + toW len) s.cur.rx s.cur.rf s.cur.fstat :=
  ⟨_, rfl, retire_retired (Thread.like_refl _) rfl len⟩

/-- A jump with its link. -/
theorem jump_retired (s : State) (len d : Nat) (pc : Word) :
    ∃ t, jump len d pc s = .next t ∧ Retired s t pc (xAfter s.cur d (s.cur.pc + toW len)) s.cur.rf s.cur.fstat := by
  refine ⟨_, rfl, ?_⟩
  rw [← xAfter_eq]
  have h := retireTo_retired (s.cur.like_wx d (s.cur.pc + toW len)) pc
  rwa [Thread.wx_fstat, show (s.cur.wx d (s.cur.pc + toW len)).rf = s.cur.rf from funext (Thread.rf_wx s.cur d · _)] at h

end Sys2Proof.Machine
end

