-- ==== Sys2Proof/Laws/Access.lean ====
section
/-! SUPPORT. Scalar accesses: what a translation changes, and what an access that nothing holds answers. -/

namespace Sys2Proof.Machine

theorem gwWidth_le (n : Nat) : gwWidth n ≤ 4 := by unfold gwWidth; split <;> [decide; split <;> decide]

theorem width_le (s : State) (c : Nat) : s.width c ≤ 4 := gwWidth_le _

/-! Translation -/

/-- What a translation that ends may change: the entries of the TLBs that it looks at, and the L2 lines that its walk reads. -/
structure TlbOnly (s u : State) : Prop where
  rest : ∃ cs ps st, u = { s with cores := cs, pillars := ps, schedTlb := st }
  cores : ∀ c, ∃ tlb, u.core c = { s.core c with tlb := tlb }
  pillars : ∀ p, ∃ tlb l2, u.pillar p = { s.pillar p with tlb := tlb, l2 := l2 }

theorem TlbOnly.refl (s : State) : TlbOnly s s := ⟨⟨_, _, _, rfl⟩, fun _ => ⟨_, rfl⟩, fun _ => ⟨_, _, rfl⟩⟩

theorem tlbOnly_setFirstTlb {s u : State} (h : TlbOnly s u) (c : Option Nat) (t : Tlb) : TlbOnly s (u.setFirstTlb c t) := by
  obtain ⟨⟨cs, ps, st, rfl⟩, hc, hp⟩ := h
  cases c with
  | none => exact ⟨⟨_, _, _, rfl⟩, hc, hp⟩
  | some c =>
    refine ⟨⟨_, _, _, rfl⟩, fun d => ?_, hp⟩
    simp only [State.setFirstTlb, State.core_setCore]
    split
    · rename_i e; subst e
      obtain ⟨tlb, ht⟩ := hc d
      exact ⟨t, by rw [ht]⟩
    · exact hc d

theorem tlbOnly_setPillar {s u : State} (h : TlbOnly s u) (p : Nat) (t : Tlb) (l : Table L2Line) :
    TlbOnly s (u.setPillar p { u.pillar p with tlb := t, l2 := l }) := by
  obtain ⟨⟨cs, ps, st, rfl⟩, hc, hp⟩ := h
  refine ⟨⟨_, _, _, rfl⟩, hc, fun q => ?_⟩
  rw [State.pillar_setPillar]
  split
  · rename_i e; subst e
    obtain ⟨a, b, hq⟩ := hp q
    exact ⟨t, l, by rw [hq]⟩
  · exact hp q

theorem tlbOnly_l2Touch {s u : State} (h : TlbOnly s u) (pa o : Nat) : TlbOnly s (u.l2Touch pa o false) := by
  unfold State.l2Touch
  split
  · exact tlbOnly_setPillar h _ _ _
  · exact h

theorem tlbOnly_walkTouch (o : Nat) (l : List Nat) : ∀ {s u : State}, TlbOnly s u → TlbOnly s (u.walkTouch o l) := by
  induction l with
  | nil => exact fun h => h
  | cons a r ih => exact fun h => ih (tlbOnly_l2Touch h a o)

/-- A walk that a core begins, joins or waits for answers nothing yet, or a fault. -/
theorem missWalk_ok {s u : State} {c o va lvl leaf : Nat} : s.missWalk c o va ≠ .ok u lvl leaf := by
  intro h
  unfold State.missWalk at h
  dsimp only at h
  repeat' split at h
  all_goals exact LeafRes.noConfusion h

theorem walkNow_tlbOnly {s u : State} {c : Option Nat} {o va lvl leaf : Nat} (h : s.walkNow c o va = .ok u lvl leaf) : TlbOnly s u := by
  unfold State.walkNow at h
  dsimp only at h
  split at h
  · exact LeafRes.noConfusion h
  · split at h
    · exact LeafRes.noConfusion h
    · cases h; exact tlbOnly_setFirstTlb (tlbOnly_setPillar (tlbOnly_walkTouch _ _ (.refl s)) _ _ _) _ _

theorem leafOf_tlbOnly {s u : State} {c : Option Nat} {o va lvl leaf : Nat} (h : s.leafOf c o va = .ok u lvl leaf) : TlbOnly s u := by
  unfold State.leafOf at h
  dsimp only at h
  split at h
  · cases h; exact tlbOnly_setFirstTlb (.refl s) _ _
  · split at h
    · split at h
      · exact LeafRes.noConfusion h
      · cases h; exact tlbOnly_setFirstTlb (tlbOnly_setPillar (.refl s) _ _ _) _ _
    · split at h
      · exact (missWalk_ok h).elim
      · exact walkNow_tlbOnly h

theorem translate_tlbOnly {s u : State} {c : Option Nat} {o va n : Nat} {k : Acc} {p : Place} (h : s.translate c o k va n = .ok u p) :
    TlbOnly s u := by
  unfold State.translate at h
  dsimp only at h
  repeat' split at h
  all_goals first
    | (cases h; done)
    | (cases h; exact .refl s)
    | (cases h; exact leafOf_tlbOnly (by assumption))

theorem TlbOnly.thr {s u : State} (h : TlbOnly s u) (j : Nat) : u.thr j = s.thr j := by obtain ⟨⟨_, _, _, rfl⟩, _, _⟩ := h; rfl
theorem TlbOnly.cur {s u : State} (h : TlbOnly s u) : u.cur = s.cur := by obtain ⟨⟨_, _, _, rfl⟩, _, _⟩ := h; rfl
theorem TlbOnly.hart {s u : State} (h : TlbOnly s u) : u.hart = s.hart := by obtain ⟨⟨_, _, _, rfl⟩, _, _⟩ := h; rfl
theorem TlbOnly.tasks {s u : State} (h : TlbOnly s u) : u.tasks = s.tasks := by obtain ⟨⟨_, _, _, rfl⟩, _, _⟩ := h; rfl
theorem TlbOnly.stores {s u : State} (h : TlbOnly s u) : SameStores s u := by
  obtain ⟨⟨_, _, _, rfl⟩, _, _⟩ := h; exact ⟨rfl, rfl, rfl, rfl, rfl, rfl, rfl, rfl⟩

theorem TlbOnly.l1d {s u : State} (h : TlbOnly s u) (c : Nat) : (u.core c).l1d = (s.core c).l1d := by
  obtain ⟨t, ht⟩ := h.cores c; rw [ht]

theorem TlbOnly.closed {s u : State} (h : TlbOnly s u) (pa : Nat) : u.closed pa = s.closed pa := by
  have hp : ∀ p, (u.pillar p).shut = (s.pillar p).shut := fun p => by obtain ⟨t, l, ht⟩ := h.pillars p; rw [ht]
  have hb : ∀ b, u.bank b = s.bank b := fun b => by obtain ⟨⟨_, _, _, rfl⟩, _, _⟩ := h; rfl
  have hk : u.bankOf pa = s.bankOf pa := by obtain ⟨⟨_, _, _, rfl⟩, _, _⟩ := h; rfl
  simp only [State.closed, State.shutAt, State.offlineAt, hp, hb, hk]

theorem TlbOnly.badAt {s u : State} (h : TlbOnly s u) (pa n : Nat) : u.badAt pa n = s.badAt pa n := by
  obtain ⟨⟨_, _, _, rfl⟩, _, _⟩ := h; rfl

/-! Accesses -/

theorem SpadAccess.off_lt {s : State} {va : Word} {n off : Nat} (h : SpadAccess s va n off) : off + n ≤ 2 ^ 24 := by
  have := h.inside; have := width_le s (coreOf s.hart); omega

theorem SpadAccess.access {s : State} {va : Word} {n off : Nat} (h : SpadAccess s va n off) (hn : 0 < n) (k : Acc)
    (hk : k ≠ .fetch ∧ k ≠ .shaftLoad ∧ k ≠ .shaftStore) (w : Bool) : s.access k va n w = .ok s (.spad off) := by
  have hl := h.off_lt
  have hin : inWindow va.toNat = true := by simp only [inWindow, spadBase, h.base]; simp; omega
  have hb : spadBase = 0x00FFFF0000000000 := rfl
  unfold State.access
  rw [if_neg (by simp [h.away]), if_neg (by simp [h.aligned])]
  have hp : s.translate (some (coreOf s.hart)) s.cur.owner k va.toNat n = .ok s (.spad off) := by
    unfold State.translate
    rw [if_pos hin]
    dsimp only
    have ho : va.toNat - spadBase = off := by rw [h.base, hb]; omega
    rw [ho, if_pos ⟨h.inside, hk⟩]
  simp only [State.place, h.away, ite_self, hp, Out.windowFirst, Out.bind]
  rw [if_neg (by simp), if_neg (by rw [h.span]; simp), if_neg (by rw [h.guard]; simp)]

theorem DramAccess.access {s u : State} {k : Acc} {va : Word} {n pa : Nat} (h : DramAccess s u k va n pa) :
    ∃ mtype pac, s.access k va n false = .ok (u.l1Renew (coreOf s.hart) s.hart va.toNat pa n) (.phys pa mtype pac) := by
  obtain ⟨m, c, hp⟩ := h.place
  have ht := translate_tlbOnly hp
  refine ⟨m, c, ?_⟩
  unfold State.access
  rw [if_neg (by simp [h.away]), if_neg (by simp [h.aligned])]
  simp only [State.place, h.away, ite_self, hp, Out.windowFirst, Out.bind]
  have h1 : u.cur.inSpan va.toNat n = false := by rw [ht.cur]; exact h.span
  have h2 : u.guarded (coreOf s.hart) none va.toNat n = false := by
    obtain ⟨⟨_, _, _, rfl⟩, _, _⟩ := ht; exact h.guard
  rw [if_neg (by simp), if_neg (by rw [h1]; simp), if_neg (by rw [ht.hart, h2]; simp), ht.hart]

theorem access_misaligned {s : State} {k : Acc} {va : Word} {n : Nat} {w : Bool} (ha : s.cur.away = none) (h : va.toNat % n ≠ 0) :
    s.access k va n w = .trap s (Pend.addr 4 va (kindOf k) 0 0) := by
  unfold State.access; rw [if_neg (by simp [ha]), if_pos h]

/-- A translation that fails traps with its cause: code 5 before a sealed page where the access must lie in the scratchpad window (R230). -/
theorem access_err {s u : State} {k : Acc} {va : Word} {n : Nat} {w : Bool} {e : XErr} (ha : s.cur.away = none) (h : va.toNat % n = 0)
    (he : s.translate (some (coreOf s.hart)) s.cur.owner k va.toNat n = .err u e) :
    s.access k va n w = .trap u (Pend.addr (if w = true ∧ e.code = 9 then 5 else e.code) va (kindOf k) e.level e.entry) := by
  unfold State.access; rw [if_neg (by simp [ha]), if_neg (by simp [h])]
  simp only [State.place, ha, ite_self, he, Out.windowFirst]
  cases w <;> by_cases hc : e.code = 9 <;> simp [Out.bind, Pend.addr, Pend.plain, hc]

end Sys2Proof.Machine
end

