-- ==== Sys2Proof/Laws/Dispatch.lean ====
section
/-! SUPPORT. `exec` at each constructor, so that no proof unfolds the dispatch. -/

namespace Sys2Proof.Machine

variable (s : State)

@[simp] theorem exec_ldI8 (o) : exec (.ldI8 o) s = execLdI8 o s := rfl
@[simp] theorem exec_ldI16 (o) : exec (.ldI16 o) s = execLdI16 o s := rfl
@[simp] theorem exec_ldI32 (o) : exec (.ldI32 o) s = execLdI32 o s := rfl
@[simp] theorem exec_ldI64 (o) : exec (.ldI64 o) s = execLdI64 o s := rfl
@[simp] theorem exec_ldN8 (o) : exec (.ldN8 o) s = execLdN8 o s := rfl
@[simp] theorem exec_ldN16 (o) : exec (.ldN16 o) s = execLdN16 o s := rfl
@[simp] theorem exec_ldN32 (o) : exec (.ldN32 o) s = execLdN32 o s := rfl
@[simp] theorem exec_ldF16 (o) : exec (.ldF16 o) s = execLdF16 o s := rfl
@[simp] theorem exec_ldF32 (o) : exec (.ldF32 o) s = execLdF32 o s := rfl
@[simp] theorem exec_ldF64 (o) : exec (.ldF64 o) s = execLdF64 o s := rfl
@[simp] theorem exec_stN8 (o) : exec (.stN8 o) s = execStN8 o s := rfl
@[simp] theorem exec_stN16 (o) : exec (.stN16 o) s = execStN16 o s := rfl
@[simp] theorem exec_stN32 (o) : exec (.stN32 o) s = execStN32 o s := rfl
@[simp] theorem exec_stN64 (o) : exec (.stN64 o) s = execStN64 o s := rfl
@[simp] theorem exec_stF16 (o) : exec (.stF16 o) s = execStF16 o s := rfl
@[simp] theorem exec_stF32 (o) : exec (.stF32 o) s = execStF32 o s := rfl
@[simp] theorem exec_stF64 (o) : exec (.stF64 o) s = execStF64 o s := rfl
@[simp] theorem exec_ldFe (o) : exec (.ldFe o) s = execLdFe o s := rfl
@[simp] theorem exec_ldTake (o) : exec (.ldTake o) s = execLdTake o s := rfl
@[simp] theorem exec_stFill (o) : exec (.stFill o) s = execStFill o s := rfl
@[simp] theorem exec_addi (o) : exec (.addi o) s = execAddi o s := rfl
@[simp] theorem exec_lui (o) : exec (.lui o) s = execLui o s := rfl
@[simp] theorem exec_addpc (o) : exec (.addpc o) s = execAddpc o s := rfl
@[simp] theorem exec_slli (o) : exec (.slli o) s = execSlli o s := rfl
@[simp] theorem exec_srli (o) : exec (.srli o) s = execSrli o s := rfl
@[simp] theorem exec_srai (o) : exec (.srai o) s = execSrai o s := rfl
@[simp] theorem exec_andi (o) : exec (.andi o) s = execAndi o s := rfl
@[simp] theorem exec_ori (o) : exec (.ori o) s = execOri o s := rfl
@[simp] theorem exec_xori (o) : exec (.xori o) s = execXori o s := rfl
@[simp] theorem exec_setlti (o) : exec (.setlti o) s = execSetlti o s := rfl
@[simp] theorem exec_setltiu (o) : exec (.setltiu o) s = execSetltiu o s := rfl
@[simp] theorem exec_add (o) : exec (.add o) s = execAdd o s := rfl
@[simp] theorem exec_sub (o) : exec (.sub o) s = execSub o s := rfl
@[simp] theorem exec_andR (o) : exec (.andR o) s = execAndR o s := rfl
@[simp] theorem exec_orR (o) : exec (.orR o) s = execOrR o s := rfl
@[simp] theorem exec_xorR (o) : exec (.xorR o) s = execXorR o s := rfl
@[simp] theorem exec_sll (o) : exec (.sll o) s = execSll o s := rfl
@[simp] theorem exec_srl (o) : exec (.srl o) s = execSrl o s := rfl
@[simp] theorem exec_sra (o) : exec (.sra o) s = execSra o s := rfl
@[simp] theorem exec_setlt (o) : exec (.setlt o) s = execSetlt o s := rfl
@[simp] theorem exec_setltu (o) : exec (.setltu o) s = execSetltu o s := rfl
@[simp] theorem exec_minR (o) : exec (.minR o) s = execMinR o s := rfl
@[simp] theorem exec_maxR (o) : exec (.maxR o) s = execMaxR o s := rfl
@[simp] theorem exec_minu (o) : exec (.minu o) s = execMinu o s := rfl
@[simp] theorem exec_maxu (o) : exec (.maxu o) s = execMaxu o s := rfl
@[simp] theorem exec_andinv (o) : exec (.andinv o) s = execAndinv o s := rfl
@[simp] theorem exec_orinv (o) : exec (.orinv o) s = execOrinv o s := rfl
@[simp] theorem exec_mul (o) : exec (.mul o) s = execMul o s := rfl
@[simp] theorem exec_mulhi (o) : exec (.mulhi o) s = execMulhi o s := rfl
@[simp] theorem exec_mulhiu (o) : exec (.mulhiu o) s = execMulhiu o s := rfl
@[simp] theorem exec_mulhmix (o) : exec (.mulhmix o) s = execMulhmix o s := rfl
@[simp] theorem exec_div (o) : exec (.div o) s = execDiv o s := rfl
@[simp] theorem exec_divu (o) : exec (.divu o) s = execDivu o s := rfl
@[simp] theorem exec_rem (o) : exec (.rem o) s = execRem o s := rfl
@[simp] theorem exec_remu (o) : exec (.remu o) s = execRemu o s := rfl
@[simp] theorem exec_ixadd1 (o) : exec (.ixadd1 o) s = execIxadd1 o s := rfl
@[simp] theorem exec_ixadd2 (o) : exec (.ixadd2 o) s = execIxadd2 o s := rfl
@[simp] theorem exec_ixadd3 (o) : exec (.ixadd3 o) s = execIxadd3 o s := rfl
@[simp] theorem exec_ixadd4 (o) : exec (.ixadd4 o) s = execIxadd4 o s := rfl
@[simp] theorem exec_zlead (o) : exec (.zlead o) s = execZlead o s := rfl
@[simp] theorem exec_ztrail (o) : exec (.ztrail o) s = execZtrail o s := rfl
@[simp] theorem exec_ones (o) : exec (.ones o) s = execOnes o s := rfl
@[simp] theorem exec_jal (o) : exec (.jal o) s = execJal o s := rfl
@[simp] theorem exec_jalr (o) : exec (.jalr o) s = execJalr o s := rfl
@[simp] theorem exec_beq (o) : exec (.beq o) s = execBeq o s := rfl
@[simp] theorem exec_bne (o) : exec (.bne o) s = execBne o s := rfl
@[simp] theorem exec_blt (o) : exec (.blt o) s = execBlt o s := rfl
@[simp] theorem exec_bge (o) : exec (.bge o) s = execBge o s := rfl
@[simp] theorem exec_bltu (o) : exec (.bltu o) s = execBltu o s := rfl
@[simp] theorem exec_bgeu (o) : exec (.bgeu o) s = execBgeu o s := rfl
@[simp] theorem exec_fadd (o) : exec (.fadd o) s = execFadd o s := rfl
@[simp] theorem exec_fsub (o) : exec (.fsub o) s = execFsub o s := rfl
@[simp] theorem exec_fmul (o) : exec (.fmul o) s = execFmul o s := rfl
@[simp] theorem exec_fdiv (o) : exec (.fdiv o) s = execFdiv o s := rfl
@[simp] theorem exec_fsqrt (o) : exec (.fsqrt o) s = execFsqrt o s := rfl
@[simp] theorem exec_fmin (o) : exec (.fmin o) s = execFmin o s := rfl
@[simp] theorem exec_fmax (o) : exec (.fmax o) s = execFmax o s := rfl
@[simp] theorem exec_fsgcpy (o) : exec (.fsgcpy o) s = execFsgcpy o s := rfl
@[simp] theorem exec_fsginv (o) : exec (.fsginv o) s = execFsginv o s := rfl
@[simp] theorem exec_fsgxor (o) : exec (.fsgxor o) s = execFsgxor o s := rfl
@[simp] theorem exec_fcmpeq (o) : exec (.fcmpeq o) s = execFcmpeq o s := rfl
@[simp] theorem exec_fcmplt (o) : exec (.fcmplt o) s = execFcmplt o s := rfl
@[simp] theorem exec_fcmple (o) : exec (.fcmple o) s = execFcmple o s := rfl
@[simp] theorem exec_fkind (o) : exec (.fkind o) s = execFkind o s := rfl
@[simp] theorem exec_ftoi (o) : exec (.ftoi o) s = execFtoi o s := rfl
@[simp] theorem exec_itof (o) : exec (.itof o) s = execItof o s := rfl
@[simp] theorem exec_ftof (o) : exec (.ftof o) s = execFtof o s := rfl
@[simp] theorem exec_fbitsx (o) : exec (.fbitsx o) s = execFbitsx o s := rfl
@[simp] theorem exec_xbitsf (o) : exec (.xbitsf o) s = execXbitsf o s := rfl
@[simp] theorem exec_fmadd (o) : exec (.fmadd o) s = execFmadd o s := rfl
@[simp] theorem exec_amoSwap (o) : exec (.amoSwap o) s = execAmoSwap o s := rfl
@[simp] theorem exec_amoAdd (o) : exec (.amoAdd o) s = execAmoAdd o s := rfl
@[simp] theorem exec_amoAnd (o) : exec (.amoAnd o) s = execAmoAnd o s := rfl
@[simp] theorem exec_amoOr (o) : exec (.amoOr o) s = execAmoOr o s := rfl
@[simp] theorem exec_amoXor (o) : exec (.amoXor o) s = execAmoXor o s := rfl
@[simp] theorem exec_amoMin (o) : exec (.amoMin o) s = execAmoMin o s := rfl
@[simp] theorem exec_amoMax (o) : exec (.amoMax o) s = execAmoMax o s := rfl
@[simp] theorem exec_amoMinu (o) : exec (.amoMinu o) s = execAmoMinu o s := rfl
@[simp] theorem exec_amoMaxu (o) : exec (.amoMaxu o) s = execAmoMaxu o s := rfl
@[simp] theorem exec_amoFadd (o) : exec (.amoFadd o) s = execAmoFadd o s := rfl
@[simp] theorem exec_amoFmax (o) : exec (.amoFmax o) s = execAmoFmax o s := rfl
@[simp] theorem exec_amoCas (o) : exec (.amoCas o) s = execAmoCas o s := rfl
@[simp] theorem exec_cas2 (o) : exec (.cas2 o) s = execCas2 o s := rfl
@[simp] theorem exec_mfs (o) : exec (.mfs o) s = execMfs o s := rfl
@[simp] theorem exec_mts (o) : exec (.mts o) s = execMts o s := rfl
@[simp] theorem exec_fenceSv : exec .fenceSv s = execFenceSv s := rfl
@[simp] theorem exec_fenceVs : exec .fenceVs s = execFenceVs s := rfl
@[simp] theorem exec_fenceVv : exec .fenceVv s = execFenceVv s := rfl
@[simp] theorem exec_fenceAll : exec .fenceAll s = execFenceAll s := rfl
@[simp] theorem exec_syscall (o) : exec (.syscall o) s = execSyscall o s := rfl
@[simp] theorem exec_breakTrap (o) : exec (.breakTrap o) s = execBreakTrap o s := rfl
@[simp] theorem exec_eret : exec .eret s = execEret s := rfl
@[simp] theorem exec_wfe : exec .wfe s = execWfe s := rfl
@[simp] theorem exec_exitTask : exec .exitTask s = execExitTask s := rfl
@[simp] theorem exec_yieldTask : exec .yieldTask s = execYieldTask s := rfl
@[simp] theorem exec_tlbiPg (o) : exec (.tlbiPg o) s = execTlbiPg o s := rfl
@[simp] theorem exec_tlbiAll (o) : exec (.tlbiAll o) s = execTlbiAll o s := rfl
@[simp] theorem exec_cwb (o) : exec (.cwb o) s = execCwb o s := rfl
@[simp] theorem exec_cinv (o) : exec (.cinv o) s = execCinv o s := rfl
@[simp] theorem exec_icinv (o) : exec (.icinv o) s = execIcinv o s := rfl
@[simp] theorem exec_icinvall : exec .icinvall s = execIcinvall s := rfl
@[simp] theorem exec_qput (o) : exec (.qput o) s = execQput o s := rfl
@[simp] theorem exec_qget (o) : exec (.qget o) s = execQget o s := rfl
@[simp] theorem exec_qpeek (o) : exec (.qpeek o) s = execQpeek o s := rfl
@[simp] theorem exec_spawn (o) : exec (.spawn o) s = execSpawn o s := rfl
@[simp] theorem exec_nop : exec .nop s = execNop s := rfl
@[simp] theorem exec_hint (o) : exec (.hint o) s = execHint o s := rfl
@[simp] theorem exec_cLdI64 (o) : exec (.cLdI64 o) s = execCLdI64 o s := rfl
@[simp] theorem exec_cLdI32 (o) : exec (.cLdI32 o) s = execCLdI32 o s := rfl
@[simp] theorem exec_cStN64 (o) : exec (.cStN64 o) s = execCStN64 o s := rfl
@[simp] theorem exec_cStN32 (o) : exec (.cStN32 o) s = execCStN32 o s := rfl
@[simp] theorem exec_cLdF64 (o) : exec (.cLdF64 o) s = execCLdF64 o s := rfl
@[simp] theorem exec_cStF64 (o) : exec (.cStF64 o) s = execCStF64 o s := rfl
@[simp] theorem exec_cNop : exec .cNop s = execCNop s := rfl
@[simp] theorem exec_cAddi (o) : exec (.cAddi o) s = execCAddi o s := rfl
@[simp] theorem exec_cLi (o) : exec (.cLi o) s = execCLi o s := rfl
@[simp] theorem exec_cLui (o) : exec (.cLui o) s = execCLui o s := rfl
@[simp] theorem exec_cSlli (o) : exec (.cSlli o) s = execCSlli o s := rfl
@[simp] theorem exec_cAndi (o) : exec (.cAndi o) s = execCAndi o s := rfl
@[simp] theorem exec_cJ (o) : exec (.cJ o) s = execCJ o s := rfl
@[simp] theorem exec_cBeqz (o) : exec (.cBeqz o) s = execCBeqz o s := rfl
@[simp] theorem exec_cBnez (o) : exec (.cBnez o) s = execCBnez o s := rfl
@[simp] theorem exec_cMv (o) : exec (.cMv o) s = execCMv o s := rfl
@[simp] theorem exec_cAdd (o) : exec (.cAdd o) s = execCAdd o s := rfl
@[simp] theorem exec_cJr (o) : exec (.cJr o) s = execCJr o s := rfl
@[simp] theorem exec_cJalr (o) : exec (.cJalr o) s = execCJalr o s := rfl
@[simp] theorem exec_cSub (o) : exec (.cSub o) s = execCSub o s := rfl
@[simp] theorem exec_cAnd (o) : exec (.cAnd o) s = execCAnd o s := rfl
@[simp] theorem exec_cOr (o) : exec (.cOr o) s = execCOr o s := rfl
@[simp] theorem exec_cXor (o) : exec (.cXor o) s = execCXor o s := rfl
@[simp] theorem exec_vsetl (o) : exec (.vsetl o) s = execVsetl o s := rfl
@[simp] theorem exec_vcfg (o) : exec (.vcfg o) s = execVcfg o s := rfl
@[simp] theorem exec_vadd (o) : exec (.vadd o) s = execVadd o s := rfl
@[simp] theorem exec_vsub (o) : exec (.vsub o) s = execVsub o s := rfl
@[simp] theorem exec_vsubr (o) : exec (.vsubr o) s = execVsubr o s := rfl
@[simp] theorem exec_vmul (o) : exec (.vmul o) s = execVmul o s := rfl
@[simp] theorem exec_vmulhi (o) : exec (.vmulhi o) s = execVmulhi o s := rfl
@[simp] theorem exec_vmulhiu (o) : exec (.vmulhiu o) s = execVmulhiu o s := rfl
@[simp] theorem exec_vdiv (o) : exec (.vdiv o) s = execVdiv o s := rfl
@[simp] theorem exec_vdivu (o) : exec (.vdivu o) s = execVdivu o s := rfl
@[simp] theorem exec_vrem (o) : exec (.vrem o) s = execVrem o s := rfl
@[simp] theorem exec_vremu (o) : exec (.vremu o) s = execVremu o s := rfl
@[simp] theorem exec_vand (o) : exec (.vand o) s = execVand o s := rfl
@[simp] theorem exec_vor (o) : exec (.vor o) s = execVor o s := rfl
@[simp] theorem exec_vxor (o) : exec (.vxor o) s = execVxor o s := rfl
@[simp] theorem exec_vsll (o) : exec (.vsll o) s = execVsll o s := rfl
@[simp] theorem exec_vsrl (o) : exec (.vsrl o) s = execVsrl o s := rfl
@[simp] theorem exec_vsra (o) : exec (.vsra o) s = execVsra o s := rfl
@[simp] theorem exec_vmin (o) : exec (.vmin o) s = execVmin o s := rfl
@[simp] theorem exec_vmax (o) : exec (.vmax o) s = execVmax o s := rfl
@[simp] theorem exec_vminu (o) : exec (.vminu o) s = execVminu o s := rfl
@[simp] theorem exec_vmaxu (o) : exec (.vmaxu o) s = execVmaxu o s := rfl
@[simp] theorem exec_vaddsat (o) : exec (.vaddsat o) s = execVaddsat o s := rfl
@[simp] theorem exec_vaddsatu (o) : exec (.vaddsatu o) s = execVaddsatu o s := rfl
@[simp] theorem exec_vsubsat (o) : exec (.vsubsat o) s = execVsubsat o s := rfl
@[simp] theorem exec_vsubsatu (o) : exec (.vsubsatu o) s = execVsubsatu o s := rfl
@[simp] theorem exec_vmulq (o) : exec (.vmulq o) s = execVmulq o s := rfl
@[simp] theorem exec_vmulw (o) : exec (.vmulw o) s = execVmulw o s := rfl
@[simp] theorem exec_vmulwu (o) : exec (.vmulwu o) s = execVmulwu o s := rfl
@[simp] theorem exec_vmacw (o) : exec (.vmacw o) s = execVmacw o s := rfl
@[simp] theorem exec_vnarrows (o) : exec (.vnarrows o) s = execVnarrows o s := rfl
@[simp] theorem exec_vnarrowu (o) : exec (.vnarrowu o) s = execVnarrowu o s := rfl
@[simp] theorem exec_vfadd (o) : exec (.vfadd o) s = execVfadd o s := rfl
@[simp] theorem exec_vfsub (o) : exec (.vfsub o) s = execVfsub o s := rfl
@[simp] theorem exec_vfrsub (o) : exec (.vfrsub o) s = execVfrsub o s := rfl
@[simp] theorem exec_vfmul (o) : exec (.vfmul o) s = execVfmul o s := rfl
@[simp] theorem exec_vfdiv (o) : exec (.vfdiv o) s = execVfdiv o s := rfl
@[simp] theorem exec_vfmin (o) : exec (.vfmin o) s = execVfmin o s := rfl
@[simp] theorem exec_vfmax (o) : exec (.vfmax o) s = execVfmax o s := rfl
@[simp] theorem exec_vfma (o) : exec (.vfma o) s = execVfma o s := rfl
@[simp] theorem exec_vfnma (o) : exec (.vfnma o) s = execVfnma o s := rfl
@[simp] theorem exec_vfsgcpy (o) : exec (.vfsgcpy o) s = execVfsgcpy o s := rfl
@[simp] theorem exec_vfsginv (o) : exec (.vfsginv o) s = execVfsginv o s := rfl
@[simp] theorem exec_vfsgxor (o) : exec (.vfsgxor o) s = execVfsgxor o s := rfl
@[simp] theorem exec_vfsqrt (o) : exec (.vfsqrt o) s = execVfsqrt o s := rfl
@[simp] theorem exec_vfexp2 (o) : exec (.vfexp2 o) s = execVfexp2 o s := rfl
@[simp] theorem exec_vflog2 (o) : exec (.vflog2 o) s = execVflog2 o s := rfl
@[simp] theorem exec_vfrcp (o) : exec (.vfrcp o) s = execVfrcp o s := rfl
@[simp] theorem exec_vfrsqrt (o) : exec (.vfrsqrt o) s = execVfrsqrt o s := rfl
@[simp] theorem exec_vfcvt (o) : exec (.vfcvt o) s = execVfcvt o s := rfl
@[simp] theorem exec_vfcvtRs (o) : exec (.vfcvtRs o) s = execVfcvtRs o s := rfl
@[simp] theorem exec_vcmpeq (o) : exec (.vcmpeq o) s = execVcmpeq o s := rfl
@[simp] theorem exec_vcmpne (o) : exec (.vcmpne o) s = execVcmpne o s := rfl
@[simp] theorem exec_vcmplt (o) : exec (.vcmplt o) s = execVcmplt o s := rfl
@[simp] theorem exec_vcmple (o) : exec (.vcmple o) s = execVcmple o s := rfl
@[simp] theorem exec_vcmpltu (o) : exec (.vcmpltu o) s = execVcmpltu o s := rfl
@[simp] theorem exec_vcmpleu (o) : exec (.vcmpleu o) s = execVcmpleu o s := rfl
@[simp] theorem exec_vqget (o) : exec (.vqget o) s = execVqget o s := rfl
@[simp] theorem exec_vqput (o) : exec (.vqput o) s = execVqput o s := rfl
@[simp] theorem exec_vfcmpeq (o) : exec (.vfcmpeq o) s = execVfcmpeq o s := rfl
@[simp] theorem exec_vfcmpne (o) : exec (.vfcmpne o) s = execVfcmpne o s := rfl
@[simp] theorem exec_vfcmplt (o) : exec (.vfcmplt o) s = execVfcmplt o s := rfl
@[simp] theorem exec_vfcmple (o) : exec (.vfcmple o) s = execVfcmple o s := rfl
@[simp] theorem exec_kand (o) : exec (.kand o) s = execKand o s := rfl
@[simp] theorem exec_kor (o) : exec (.kor o) s = execKor o s := rfl
@[simp] theorem exec_kxor (o) : exec (.kxor o) s = execKxor o s := rfl
@[simp] theorem exec_kandinv (o) : exec (.kandinv o) s = execKandinv o s := rfl
@[simp] theorem exec_kcount (o) : exec (.kcount o) s = execKcount o s := rfl
@[simp] theorem exec_kffs (o) : exec (.kffs o) s = execKffs o s := rfl
@[simp] theorem exec_vshup (o) : exec (.vshup o) s = execVshup o s := rfl
@[simp] theorem exec_vshdn (o) : exec (.vshdn o) s = execVshdn o s := rfl
@[simp] theorem exec_vpick (o) : exec (.vpick o) s = execVpick o s := rfl
@[simp] theorem exec_vcompact (o) : exec (.vcompact o) s = execVcompact o s := rfl
@[simp] theorem exec_vassign (o) : exec (.vassign o) s = execVassign o s := rfl
@[simp] theorem exec_vramp (o) : exec (.vramp o) s = execVramp o s := rfl
@[simp] theorem exec_vfoldadd (o) : exec (.vfoldadd o) s = execVfoldadd o s := rfl
@[simp] theorem exec_vfoldmin (o) : exec (.vfoldmin o) s = execVfoldmin o s := rfl
@[simp] theorem exec_vfoldmax (o) : exec (.vfoldmax o) s = execVfoldmax o s := rfl
@[simp] theorem exec_vredmaxi (o) : exec (.vredmaxi o) s = execVredmaxi o s := rfl
@[simp] theorem exec_vgetx (o) : exec (.vgetx o) s = execVgetx o s := rfl
@[simp] theorem exec_vgetf (o) : exec (.vgetf o) s = execVgetf o s := rfl
@[simp] theorem exec_vscan (o) : exec (.vscan o) s = execVscan o s := rfl
@[simp] theorem exec_vrand (o) : exec (.vrand o) s = execVrand o s := rfl
@[simp] theorem exec_vld (o) : exec (.vld o) s = execVld o s := rfl
@[simp] theorem exec_vldx (o) : exec (.vldx o) s = execVldx o s := rfl
@[simp] theorem exec_vldff (o) : exec (.vldff o) s = execVldff o s := rfl
@[simp] theorem exec_vldsh (o) : exec (.vldsh o) s = execVldsh o s := rfl
@[simp] theorem exec_vlda (o) : exec (.vlda o) s = execVlda o s := rfl
@[simp] theorem exec_vst (o) : exec (.vst o) s = execVst o s := rfl
@[simp] theorem exec_vstx (o) : exec (.vstx o) s = execVstx o s := rfl
@[simp] theorem exec_vstsh (o) : exec (.vstsh o) s = execVstsh o s := rfl
@[simp] theorem exec_vldFe (o) : exec (.vldFe o) s = execVldFe o s := rfl
@[simp] theorem exec_vldTake (o) : exec (.vldTake o) s = execVldTake o s := rfl
@[simp] theorem exec_vstFill (o) : exec (.vstFill o) s = execVstFill o s := rfl
@[simp] theorem exec_barArr (o) : exec (.barArr o) s = execBarArr o s := rfl
@[simp] theorem exec_barWait (o) : exec (.barWait o) s = execBarWait o s := rfl
@[simp] theorem exec_vamoSwap (o) : exec (.vamoSwap o) s = execVamoSwap o s := rfl
@[simp] theorem exec_vamoAdd (o) : exec (.vamoAdd o) s = execVamoAdd o s := rfl
@[simp] theorem exec_vamoAnd (o) : exec (.vamoAnd o) s = execVamoAnd o s := rfl
@[simp] theorem exec_vamoOr (o) : exec (.vamoOr o) s = execVamoOr o s := rfl
@[simp] theorem exec_vamoXor (o) : exec (.vamoXor o) s = execVamoXor o s := rfl
@[simp] theorem exec_vamoMin (o) : exec (.vamoMin o) s = execVamoMin o s := rfl
@[simp] theorem exec_vamoMax (o) : exec (.vamoMax o) s = execVamoMax o s := rfl
@[simp] theorem exec_vamoMinu (o) : exec (.vamoMinu o) s = execVamoMinu o s := rfl
@[simp] theorem exec_vamoMaxu (o) : exec (.vamoMaxu o) s = execVamoMaxu o s := rfl
@[simp] theorem exec_vamoFadd (o) : exec (.vamoFadd o) s = execVamoFadd o s := rfl
@[simp] theorem exec_vamoFmax (o) : exec (.vamoFmax o) s = execVamoFmax o s := rfl
@[simp] theorem exec_vamoCas (o) : exec (.vamoCas o) s = execVamoCas o s := rfl
@[simp] theorem exec_tlwaitReg (o) : exec (.tlwaitReg o) s = execTlwaitReg o s := rfl
@[simp] theorem exec_tlwaitMem (o) : exec (.tlwaitMem o) s = execTlwaitMem o s := rfl
@[simp] theorem exec_tlread (o) : exec (.tlread o) s = execTlread o s := rfl
@[simp] theorem exec_tladv (o) : exec (.tladv o) s = execTladv o s := rfl
@[simp] theorem exec_feclr (o) : exec (.feclr o) s = execFeclr o s := rfl
@[simp] theorem exec_cpyabort (o) : exec (.cpyabort o) s = execCpyabort o s := rfl
@[simp] theorem exec_cpystat (o) : exec (.cpystat o) s = execCpystat o s := rfl
@[simp] theorem exec_mcfg (o) : exec (.mcfg o) s = execMcfg o s := rfl
@[simp] theorem exec_mld (o) : exec (.mld o) s = execMld o s := rfl
@[simp] theorem exec_mst (o) : exec (.mst o) s = execMst o s := rfl
@[simp] theorem exec_mzero (o) : exec (.mzero o) s = execMzero o s := rfl
@[simp] theorem exec_mma (o) : exec (.mma o) s = execMma o s := rfl
@[simp] theorem exec_mmag (o) : exec (.mmag o) s = execMmag o s := rfl
@[simp] theorem exec_mtov (o) : exec (.mtov o) s = execMtov o s := rfl
@[simp] theorem exec_vtom (o) : exec (.vtom o) s = execVtom o s := rfl
@[simp] theorem exec_mtrans (o) : exec (.mtrans o) s = execMtrans o s := rfl
@[simp] theorem exec_mcvt (o) : exec (.mcvt o) s = execMcvt o s := rfl
@[simp] theorem exec_mpref (o) : exec (.mpref o) s = execMpref o s := rfl
@[simp] theorem exec_mdrop (o) : exec (.mdrop o) s = execMdrop o s := rfl
@[simp] theorem exec_msend (o) : exec (.msend o) s = execMsend o s := rfl
@[simp] theorem exec_mopen (o) : exec (.mopen o) s = execMopen o s := rfl
@[simp] theorem exec_mscale (o) : exec (.mscale o) s = execMscale o s := rfl
@[simp] theorem exec_madd (o) : exec (.madd o) s = execMadd o s := rfl
@[simp] theorem exec_cpy (o) : exec (.cpy o) s = execCpy o s := rfl
@[simp] theorem exec_cpyrows (o) : exec (.cpyrows o) s = execCpyrows o s := rfl
@[simp] theorem exec_cpyv (o) : exec (.cpyv o) s = execCpyv o s := rfl
@[simp] theorem exec_cpyred (o) : exec (.cpyred o) s = execCpyred o s := rfl
@[simp] theorem exec_golpinAdd (o) : exec (.golpinAdd o) s = execGolpinAdd o s := rfl
@[simp] theorem exec_golpinSub (o) : exec (.golpinSub o) s = execGolpinSub o s := rfl
@[simp] theorem exec_golpinAnd (o) : exec (.golpinAnd o) s = execGolpinAnd o s := rfl
@[simp] theorem exec_golpinOr (o) : exec (.golpinOr o) s = execGolpinOr o s := rfl
@[simp] theorem exec_golpinXor (o) : exec (.golpinXor o) s = execGolpinXor o s := rfl
@[simp] theorem exec_golpinSll (o) : exec (.golpinSll o) s = execGolpinSll o s := rfl
@[simp] theorem exec_golpinSrl (o) : exec (.golpinSrl o) s = execGolpinSrl o s := rfl
@[simp] theorem exec_golpinSra (o) : exec (.golpinSra o) s = execGolpinSra o s := rfl
@[simp] theorem exec_golpinMin (o) : exec (.golpinMin o) s = execGolpinMin o s := rfl
@[simp] theorem exec_golpinMax (o) : exec (.golpinMax o) s = execGolpinMax o s := rfl
@[simp] theorem exec_golpinMinu (o) : exec (.golpinMinu o) s = execGolpinMinu o s := rfl
@[simp] theorem exec_golpinMaxu (o) : exec (.golpinMaxu o) s = execGolpinMaxu o s := rfl
@[simp] theorem exec_golpinMul (o) : exec (.golpinMul o) s = execGolpinMul o s := rfl
@[simp] theorem exec_golpinSetlt (o) : exec (.golpinSetlt o) s = execGolpinSetlt o s := rfl
@[simp] theorem exec_golpinSetltu (o) : exec (.golpinSetltu o) s = execGolpinSetltu o s := rfl
@[simp] theorem exec_golpinAddi (o) : exec (.golpinAddi o) s = execGolpinAddi o s := rfl
@[simp] theorem exec_golpinAndi (o) : exec (.golpinAndi o) s = execGolpinAndi o s := rfl
@[simp] theorem exec_golpinOri (o) : exec (.golpinOri o) s = execGolpinOri o s := rfl
@[simp] theorem exec_golpinXori (o) : exec (.golpinXori o) s = execGolpinXori o s := rfl
@[simp] theorem exec_golpinSlli (o) : exec (.golpinSlli o) s = execGolpinSlli o s := rfl
@[simp] theorem exec_golpinSrli (o) : exec (.golpinSrli o) s = execGolpinSrli o s := rfl
@[simp] theorem exec_golpinSrai (o) : exec (.golpinSrai o) s = execGolpinSrai o s := rfl
@[simp] theorem exec_golpinLui (o) : exec (.golpinLui o) s = execGolpinLui o s := rfl
@[simp] theorem exec_golpinBeq (o) : exec (.golpinBeq o) s = execGolpinBeq o s := rfl
@[simp] theorem exec_golpinBne (o) : exec (.golpinBne o) s = execGolpinBne o s := rfl
@[simp] theorem exec_golpinBlt (o) : exec (.golpinBlt o) s = execGolpinBlt o s := rfl
@[simp] theorem exec_golpinBge (o) : exec (.golpinBge o) s = execGolpinBge o s := rfl
@[simp] theorem exec_golpinBltu (o) : exec (.golpinBltu o) s = execGolpinBltu o s := rfl
@[simp] theorem exec_golpinBgeu (o) : exec (.golpinBgeu o) s = execGolpinBgeu o s := rfl
@[simp] theorem exec_laddVv (o) : exec (.laddVv o) s = execLaddVv o s := rfl
@[simp] theorem exec_lsubVv (o) : exec (.lsubVv o) s = execLsubVv o s := rfl
@[simp] theorem exec_landVv (o) : exec (.landVv o) s = execLandVv o s := rfl
@[simp] theorem exec_lorVv (o) : exec (.lorVv o) s = execLorVv o s := rfl
@[simp] theorem exec_lxorVv (o) : exec (.lxorVv o) s = execLxorVv o s := rfl
@[simp] theorem exec_lminVv (o) : exec (.lminVv o) s = execLminVv o s := rfl
@[simp] theorem exec_lmaxVv (o) : exec (.lmaxVv o) s = execLmaxVv o s := rfl
@[simp] theorem exec_lminuVv (o) : exec (.lminuVv o) s = execLminuVv o s := rfl
@[simp] theorem exec_lmaxuVv (o) : exec (.lmaxuVv o) s = execLmaxuVv o s := rfl
@[simp] theorem exec_lmulVv (o) : exec (.lmulVv o) s = execLmulVv o s := rfl
@[simp] theorem exec_lfaddVv (o) : exec (.lfaddVv o) s = execLfaddVv o s := rfl
@[simp] theorem exec_lfmaxVv (o) : exec (.lfmaxVv o) s = execLfmaxVv o s := rfl
@[simp] theorem exec_lfminVv (o) : exec (.lfminVv o) s = execLfminVv o s := rfl
@[simp] theorem exec_lbfaddVv (o) : exec (.lbfaddVv o) s = execLbfaddVv o s := rfl
@[simp] theorem exec_laddVs (o) : exec (.laddVs o) s = execLaddVs o s := rfl
@[simp] theorem exec_lsubVs (o) : exec (.lsubVs o) s = execLsubVs o s := rfl
@[simp] theorem exec_landVs (o) : exec (.landVs o) s = execLandVs o s := rfl
@[simp] theorem exec_lorVs (o) : exec (.lorVs o) s = execLorVs o s := rfl
@[simp] theorem exec_lxorVs (o) : exec (.lxorVs o) s = execLxorVs o s := rfl
@[simp] theorem exec_lminVs (o) : exec (.lminVs o) s = execLminVs o s := rfl
@[simp] theorem exec_lmaxVs (o) : exec (.lmaxVs o) s = execLmaxVs o s := rfl
@[simp] theorem exec_lminuVs (o) : exec (.lminuVs o) s = execLminuVs o s := rfl
@[simp] theorem exec_lmaxuVs (o) : exec (.lmaxuVs o) s = execLmaxuVs o s := rfl
@[simp] theorem exec_lmulVs (o) : exec (.lmulVs o) s = execLmulVs o s := rfl
@[simp] theorem exec_lfaddVs (o) : exec (.lfaddVs o) s = execLfaddVs o s := rfl
@[simp] theorem exec_lfmaxVs (o) : exec (.lfmaxVs o) s = execLfmaxVs o s := rfl
@[simp] theorem exec_lfminVs (o) : exec (.lfminVs o) s = execLfminVs o s := rfl
@[simp] theorem exec_lbfaddVs (o) : exec (.lbfaddVs o) s = execLbfaddVs o s := rfl
@[simp] theorem exec_lcmpeq (o) : exec (.lcmpeq o) s = execLcmpeq o s := rfl
@[simp] theorem exec_lcmpne (o) : exec (.lcmpne o) s = execLcmpne o s := rfl
@[simp] theorem exec_lcmplt (o) : exec (.lcmplt o) s = execLcmplt o s := rfl
@[simp] theorem exec_lcmpltu (o) : exec (.lcmpltu o) s = execLcmpltu o s := rfl
@[simp] theorem exec_lcmpfeq (o) : exec (.lcmpfeq o) s = execLcmpfeq o s := rfl
@[simp] theorem exec_lcmpflt (o) : exec (.lcmpflt o) s = execLcmpflt o s := rfl
@[simp] theorem exec_lcmpfle (o) : exec (.lcmpfle o) s = execLcmpfle o s := rfl
@[simp] theorem exec_jand (o) : exec (.jand o) s = execJand o s := rfl
@[simp] theorem exec_jor (o) : exec (.jor o) s = execJor o s := rfl
@[simp] theorem exec_jxor (o) : exec (.jxor o) s = execJxor o s := rfl
@[simp] theorem exec_jandinv (o) : exec (.jandinv o) s = execJandinv o s := rfl
@[simp] theorem exec_jtoh (o) : exec (.jtoh o) s = execJtoh o s := rfl
@[simp] theorem exec_htoj (o) : exec (.htoj o) s = execHtoj o s := rfl
@[simp] theorem exec_jcount (o) : exec (.jcount o) s = execJcount o s := rfl
@[simp] theorem exec_lbcst (o) : exec (.lbcst o) s = execLbcst o s := rfl
@[simp] theorem exec_lext (o) : exec (.lext o) s = execLext o s := rfl
@[simp] theorem exec_lins (o) : exec (.lins o) s = execLins o s := rfl
@[simp] theorem exec_lredadd (o) : exec (.lredadd o) s = execLredadd o s := rfl
@[simp] theorem exec_lredfadd (o) : exec (.lredfadd o) s = execLredfadd o s := rfl
@[simp] theorem exec_lredmax (o) : exec (.lredmax o) s = execLredmax o s := rfl
@[simp] theorem exec_lredmaxu (o) : exec (.lredmaxu o) s = execLredmaxu o s := rfl
@[simp] theorem exec_lredfmax (o) : exec (.lredfmax o) s = execLredfmax o s := rfl
@[simp] theorem exec_lredfmin (o) : exec (.lredfmin o) s = execLredfmin o s := rfl
@[simp] theorem exec_pld (o) : exec (.pld o) s = execPld o s := rfl
@[simp] theorem exec_pst (o) : exec (.pst o) s = execPst o s := rfl
@[simp] theorem exec_pldl (o) : exec (.pldl o) s = execPldl o s := rfl
@[simp] theorem exec_pstl (o) : exec (.pstl o) s = execPstl o s := rfl
@[simp] theorem exec_sld (o) : exec (.sld o) s = execSld o s := rfl
@[simp] theorem exec_sst (o) : exec (.sst o) s = execSst o s := rfl
@[simp] theorem exec_sldl (o) : exec (.sldl o) s = execSldl o s := rfl
@[simp] theorem exec_sstl (o) : exec (.sstl o) s = execSstl o s := rfl
@[simp] theorem exec_pfresh (o) : exec (.pfresh o) s = execPfresh o s := rfl
@[simp] theorem exec_golpinLoop (o) : exec (.golpinLoop o) s = execGolpinLoop o s := rfl
@[simp] theorem exec_emitSt (o) : exec (.emitSt o) s = execEmitSt o s := rfl
@[simp] theorem exec_emitWin (o) : exec (.emitWin o) s = execEmitWin o s := rfl
@[simp] theorem exec_fwd : exec .fwd s = execFwd s := rfl
@[simp] theorem exec_golpinDrop : exec .golpinDrop s = execGolpinDrop s := rfl
@[simp] theorem exec_reply : exec .reply s = execReply s := rfl
@[simp] theorem exec_ktrap (o) : exec (.ktrap o) s = execKtrap o s := rfl
@[simp] theorem exec_golpinBudgetExpiry (o) : exec (.golpinBudgetExpiry o) s = execGolpinBudgetExpiry o s := rfl
@[simp] theorem exec_golpinPacketStart (o) : exec (.golpinPacketStart o) s = execGolpinPacketStart o s := rfl
@[simp] theorem exec_emitDelivery (o) : exec (.emitDelivery o) s = execEmitDelivery o s := rfl
@[simp] theorem exec_ualinkPacketIngress (o) : exec (.ualinkPacketIngress o) s = execUalinkPacketIngress o s := rfl
@[simp] theorem exec_reducingWriteAnswer (o) : exec (.reducingWriteAnswer o) s = execReducingWriteAnswer o s := rfl
@[simp] theorem exec_reducingWriteResend (o) : exec (.reducingWriteResend o) s = execReducingWriteResend o s := rfl
@[simp] theorem exec_remoteRequestPacket (o) : exec (.remoteRequestPacket o) s = execRemoteRequestPacket o s := rfl
@[simp] theorem exec_remoteAnswer (o) : exec (.remoteAnswer o) s = execRemoteAnswer o s := rfl
@[simp] theorem exec_msendLanding (o) : exec (.msendLanding o) s = execMsendLanding o s := rfl
@[simp] theorem exec_msendAnswer (o) : exec (.msendAnswer o) s = execMsendAnswer o s := rfl
@[simp] theorem exec_msendRetry (o) : exec (.msendRetry o) s = execMsendRetry o s := rfl
@[simp] theorem exec_schedulingStep : exec .schedulingStep s = execSchedulingStep s := rfl
@[simp] theorem exec_contextSaveComplete (o) : exec (.contextSaveComplete o) s = execContextSaveComplete o s := rfl
@[simp] theorem exec_taskRetirement (o) : exec (.taskRetirement o) s = execTaskRetirement o s := rfl
@[simp] theorem exec_barrierPoll (o) : exec (.barrierPoll o) s = execBarrierPoll o s := rfl
@[simp] theorem exec_tlwaitPoll (o) : exec (.tlwaitPoll o) s = execTlwaitPoll o s := rfl
@[simp] theorem exec_wfeTimeout (o) : exec (.wfeTimeout o) s = execWfeTimeout o s := rfl
@[simp] theorem exec_deferredTrapEntry (o) : exec (.deferredTrapEntry o) s = execDeferredTrapEntry o s := rfl
@[simp] theorem exec_pagerFaultRecord : exec .pagerFaultRecord s = execPagerFaultRecord s := rfl
@[simp] theorem exec_vectorInstructionComplete (o) : exec (.vectorInstructionComplete o) s = execVectorInstructionComplete o s := rfl
@[simp] theorem exec_laneArbitration (o) : exec (.laneArbitration o) s = execLaneArbitration o s := rfl
@[simp] theorem exec_tileUnitIssue (o) : exec (.tileUnitIssue o) s = execTileUnitIssue o s := rfl
@[simp] theorem exec_tileInstructionComplete (o) : exec (.tileInstructionComplete o) s = execTileInstructionComplete o s := rfl
@[simp] theorem exec_tileFillComplete (o) : exec (.tileFillComplete o) s = execTileFillComplete o s := rfl
@[simp] theorem exec_bobbinCommandStart (o) : exec (.bobbinCommandStart o) s = execBobbinCommandStart o s := rfl
@[simp] theorem exec_bobbinElementLanding (o) : exec (.bobbinElementLanding o) s = execBobbinElementLanding o s := rfl
@[simp] theorem exec_bobbinCommandComplete (o) : exec (.bobbinCommandComplete o) s = execBobbinCommandComplete o s := rfl
@[simp] theorem exec_bobbinFault (o) : exec (.bobbinFault o) s = execBobbinFault o s := rfl
@[simp] theorem exec_bankArbiterGrant (o) : exec (.bankArbiterGrant o) s = execBankArbiterGrant o s := rfl
@[simp] theorem exec_scratchpadBankGrant (o) : exec (.scratchpadBankGrant o) s = execScratchpadBankGrant o s := rfl
@[simp] theorem exec_refreshWindowOpen (o) : exec (.refreshWindowOpen o) s = execRefreshWindowOpen o s := rfl
@[simp] theorem exec_refreshWindowClose (o) : exec (.refreshWindowClose o) s = execRefreshWindowClose o s := rfl
@[simp] theorem exec_refreshCalendarChange (o) : exec (.refreshCalendarChange o) s = execRefreshCalendarChange o s := rfl
@[simp] theorem exec_dramTemperatureCrossing (o) : exec (.dramTemperatureCrossing o) s = execDramTemperatureCrossing o s := rfl
@[simp] theorem exec_l1Eviction (o) : exec (.l1Eviction o) s = execL1Eviction o s := rfl
@[simp] theorem exec_l2Eviction (o) : exec (.l2Eviction o) s = execL2Eviction o s := rfl
@[simp] theorem exec_walkComplete (o) : exec (.walkComplete o) s = execWalkComplete o s := rfl
@[simp] theorem exec_tlbInvalidationReceipt (o) : exec (.tlbInvalidationReceipt o) s = execTlbInvalidationReceipt o s := rfl
@[simp] theorem exec_tlbInvalidationAck (o) : exec (.tlbInvalidationAck o) s = execTlbInvalidationAck o s := rfl
@[simp] theorem exec_shootdownComplete (o) : exec (.shootdownComplete o) s = execShootdownComplete o s := rfl
@[simp] theorem exec_bankOffline (o) : exec (.bankOffline o) s = execBankOffline o s := rfl
@[simp] theorem exec_offlineAccessRetry (o) : exec (.offlineAccessRetry o) s = execOfflineAccessRetry o s := rfl
@[simp] theorem exec_coreQuiescePoint (o) : exec (.coreQuiescePoint o) s = execCoreQuiescePoint o s := rfl
@[simp] theorem exec_notifyScan (o) : exec (.notifyScan o) s = execNotifyScan o s := rfl
@[simp] theorem exec_notifyNotice (o) : exec (.notifyNotice o) s = execNotifyNotice o s := rfl
@[simp] theorem exec_queueMap : exec .queueMap s = execQueueMap s := rfl
@[simp] theorem exec_queueUnmap (o) : exec (.queueUnmap o) s = execQueueUnmap o s := rfl
@[simp] theorem exec_watchdogExpiry (o) : exec (.watchdogExpiry o) s = execWatchdogExpiry o s := rfl
@[simp] theorem exec_galleryArbitration (o) : exec (.galleryArbitration o) s = execGalleryArbitration o s := rfl
@[simp] theorem exec_galarbApply (o) : exec (.galarbApply o) s = execGalarbApply o s := rfl
@[simp] theorem exec_powerSample (o) : exec (.powerSample o) s = execPowerSample o s := rfl
@[simp] theorem exec_thermalTrip : exec .thermalTrip s = execThermalTrip s := rfl
@[simp] theorem exec_timeMessageSend : exec .timeMessageSend s = execTimeMessageSend s := rfl
@[simp] theorem exec_timeMessageReceipt (o) : exec (.timeMessageReceipt o) s = execTimeMessageReceipt o s := rfl
@[simp] theorem exec_timeMasterLoss : exec .timeMasterLoss s = execTimeMasterLoss s := rfl
@[simp] theorem exec_linkFailure (o) : exec (.linkFailure o) s = execLinkFailure o s := rfl
@[simp] theorem exec_ehrezPacketReceipt (o) : exec (.ehrezPacketReceipt o) s = execEhrezPacketReceipt o s := rfl
@[simp] theorem exec_ehrezWrite (o) : exec (.ehrezWrite o) s = execEhrezWrite o s := rfl
@[simp] theorem exec_ehrezReadRequest (o) : exec (.ehrezReadRequest o) s = execEhrezReadRequest o s := rfl
@[simp] theorem exec_ehrezReadResponse (o) : exec (.ehrezReadResponse o) s = execEhrezReadResponse o s := rfl
@[simp] theorem exec_ehrezAcknowledgement (o) : exec (.ehrezAcknowledgement o) s = execEhrezAcknowledgement o s := rfl
@[simp] theorem exec_ehrezRetransmit (o) : exec (.ehrezRetransmit o) s = execEhrezRetransmit o s := rfl
@[simp] theorem exec_powerOn : exec .powerOn s = execPowerOn s := rfl
@[simp] theorem exec_bootRequest : exec .bootRequest s = execBootRequest s := rfl
@[simp] theorem exec_bootPacket (o) : exec (.bootPacket o) s = execBootPacket o s := rfl
@[simp] theorem exec_identity : exec .identity s = execIdentity s := rfl
@[simp] theorem exec_attestation (o) : exec (.attestation o) s = execAttestation o s := rfl
@[simp] theorem exec_setPackageNumber (o) : exec (.setPackageNumber o) s = execSetPackageNumber o s := rfl
@[simp] theorem exec_setPillarPhase (o) : exec (.setPillarPhase o) s = execSetPillarPhase o s := rfl
@[simp] theorem exec_setGtime (o) : exec (.setGtime o) s = execSetGtime o s := rfl
@[simp] theorem exec_setTimeMaster (o) : exec (.setTimeMaster o) s = execSetTimeMaster o s := rfl
@[simp] theorem exec_setQueueTableBase (o) : exec (.setQueueTableBase o) s = execSetQueueTableBase o s := rfl
@[simp] theorem exec_configureFaultRing (o) : exec (.configureFaultRing o) s = execConfigureFaultRing o s := rfl
@[simp] theorem exec_configureTraceRing (o) : exec (.configureTraceRing o) s = execConfigureTraceRing o s := rfl
@[simp] theorem exec_configureErrorLog (o) : exec (.configureErrorLog o) s = execConfigureErrorLog o s := rfl
@[simp] theorem exec_writeGalarb (o) : exec (.writeGalarb o) s = execWriteGalarb o s := rfl
@[simp] theorem exec_readWdt (o) : exec (.readWdt o) s = execReadWdt o s := rfl
@[simp] theorem exec_readGestat (o) : exec (.readGestat o) s = execReadGestat o s := rfl
@[simp] theorem exec_readEnergyCounter : exec .readEnergyCounter s = execReadEnergyCounter s := rfl
@[simp] theorem exec_readCutwork (o) : exec (.readCutwork o) s = execReadCutwork o s := rfl
@[simp] theorem exec_gangChange (o) : exec (.gangChange o) s = execGangChange o s := rfl
@[simp] theorem exec_golpinLoadKernel (o) : exec (.golpinLoadKernel o) s = execGolpinLoadKernel o s := rfl
@[simp] theorem exec_golpinUnloadKernel (o) : exec (.golpinUnloadKernel o) s = execGolpinUnloadKernel o s := rfl
@[simp] theorem exec_golpinWriteFlowEntry (o) : exec (.golpinWriteFlowEntry o) s = execGolpinWriteFlowEntry o s := rfl
@[simp] theorem exec_golpinSetEmitRange (o) : exec (.golpinSetEmitRange o) s = execGolpinSetEmitRange o s := rfl
@[simp] theorem exec_golpinSetEventArea (o) : exec (.golpinSetEventArea o) s = execGolpinSetEventArea o s := rfl
@[simp] theorem exec_closeReductionRecord (o) : exec (.closeReductionRecord o) s = execCloseReductionRecord o s := rfl
@[simp] theorem exec_openConnection (o) : exec (.openConnection o) s = execOpenConnection o s := rfl
@[simp] theorem exec_closeConnection (o) : exec (.closeConnection o) s = execCloseConnection o s := rfl
@[simp] theorem exec_partitionControl (o) : exec (.partitionControl o) s = execPartitionControl o s := rfl
@[simp] theorem exec_queueEnable (o) : exec (.queueEnable o) s = execQueueEnable o s := rfl
@[simp] theorem exec_queueDisable (o) : exec (.queueDisable o) s = execQueueDisable o s := rfl
@[simp] theorem exec_setRoot (o) : exec (.setRoot o) s = execSetRoot o s := rfl
@[simp] theorem exec_setTrapRouting (o) : exec (.setTrapRouting o) s = execSetTrapRouting o s := rfl
@[simp] theorem exec_installOwnerKeys (o) : exec (.installOwnerKeys o) s = execInstallOwnerKeys o s := rfl
@[simp] theorem exec_setPowerGrant (o) : exec (.setPowerGrant o) s = execSetPowerGrant o s := rfl
@[simp] theorem exec_gateCore (o) : exec (.gateCore o) s = execGateCore o s := rfl
@[simp] theorem exec_ungateCore (o) : exec (.ungateCore o) s = execUngateCore o s := rfl
@[simp] theorem exec_partitionDrainSave (o) : exec (.partitionDrainSave o) s = execPartitionDrainSave o s := rfl
@[simp] theorem exec_partitionDrainEnd (o) : exec (.partitionDrainEnd o) s = execPartitionDrainEnd o s := rfl
@[simp] theorem exec_partitionReset (o) : exec (.partitionReset o) s = execPartitionReset o s := rfl
@[simp] theorem exec_contextRepair (o) : exec (.contextRepair o) s = execContextRepair o s := rfl
@[simp] theorem exec_contextExport (o) : exec (.contextExport o) s = execContextExport o s := rfl
@[simp] theorem exec_contextImport (o) : exec (.contextImport o) s = execContextImport o s := rfl
@[simp] theorem exec_taskResume (o) : exec (.taskResume o) s = execTaskResume o s := rfl
@[simp] theorem exec_taskEnd (o) : exec (.taskEnd o) s = execTaskEnd o s := rfl
@[simp] theorem exec_timeClockEdge : exec .timeClockEdge s = execTimeClockEdge s := rfl
@[simp] theorem exec_homeL2Grant (o) : exec (.homeL2Grant o) s = execHomeL2Grant o s := rfl

end Sys2Proof.Machine
end

