-- ==== Sys2Proof/Laws/PerInstr.lean ====
section
/-! SUPPORT. Statements made for every instruction, one lemma per constructor. `Fits`: the bits of a well-formed instruction lie within
its length, so that an encoding never runs into the next instruction (R253, R405). -/

namespace Sys2Proof

theorem OpLoad.enc_le (o : OpLoad) (h : o.inRange = true) (c : Nat) : o.enc c ≤ c + 4265607040 := by
  simp only [OpLoad.inRange, Bool.and_eq_true, decide_eq_true_eq] at h
  simp only [OpLoad.enc]
  omega

theorem OpStore.enc_le (o : OpStore) (h : o.inRange = true) (c : Nat) : o.enc c ≤ c + 4265607040 := by
  simp only [OpStore.inRange, Bool.and_eq_true, decide_eq_true_eq] at h
  simp only [OpStore.enc]
  omega

theorem OpI.enc_le (o : OpI) (h : o.inRange = true) (c : Nat) : o.enc c ≤ c + 4294967168 := by
  simp only [OpI.inRange, Bool.and_eq_true, decide_eq_true_eq] at h
  simp only [OpI.enc]
  omega

theorem OpJ.enc_le (o : OpJ) (h : o.inRange = true) (c : Nat) : o.enc c ≤ c + 4294967168 := by
  simp only [OpJ.inRange, Bool.and_eq_true, decide_eq_true_eq] at h
  simp only [OpJ.enc]
  omega

theorem OpShift.enc_le (o : OpShift) (h : o.inRange = true) (c : Nat) : o.enc c ≤ c + 37748608 := by
  simp only [OpShift.inRange, Bool.and_eq_true, decide_eq_true_eq] at h
  simp only [OpShift.enc]
  omega

theorem OpImm12.enc_le (o : OpImm12) (h : o.inRange = true) (c : Nat) : o.enc c ≤ c + 4265607040 := by
  simp only [OpImm12.inRange, Bool.and_eq_true, decide_eq_true_eq] at h
  simp only [OpImm12.enc]
  omega

theorem OpRRR.enc_le (o : OpRRR) (h : o.inRange = true) (c : Nat) : o.enc c ≤ c + 4194176 := by
  simp only [OpRRR.inRange, Bool.and_eq_true, decide_eq_true_eq] at h
  simp only [OpRRR.enc]
  omega

theorem OpRR.enc_le (o : OpRR) (h : o.inRange = true) (c : Nat) : o.enc c ≤ c + 130944 := by
  simp only [OpRR.inRange, Bool.and_eq_true, decide_eq_true_eq] at h
  simp only [OpRR.enc]
  omega

theorem OpBranch.enc_le (o : OpBranch) (h : o.inRange = true) (c : Nat) : o.enc c ≤ c + 4294967168 := by
  simp only [OpBranch.inRange, Bool.and_eq_true, decide_eq_true_eq] at h
  simp only [OpBranch.enc]
  omega

theorem OpFloat3.enc_le (o : OpFloat3) (h : o.inRange = true) (c : Nat) : o.enc c ≤ c + 134217600 := by
  simp only [OpFloat3.inRange, Bool.and_eq_true, decide_eq_true_eq] at h
  simp only [OpFloat3.enc]
  omega

theorem OpFloat2.enc_le (o : OpFloat2) (h : o.inRange = true) (c : Nat) : o.enc c ≤ c + 130154368 := by
  simp only [OpFloat2.inRange, Bool.and_eq_true, decide_eq_true_eq] at h
  simp only [OpFloat2.enc]
  omega

theorem OpFloat3n.enc_le (o : OpFloat3n) (h : o.inRange = true) (c : Nat) : o.enc c ≤ c + 104857472 := by
  simp only [OpFloat3n.inRange, Bool.and_eq_true, decide_eq_true_eq] at h
  simp only [OpFloat3n.enc]
  omega

theorem OpFloat2n.enc_le (o : OpFloat2n) (h : o.inRange = true) (c : Nat) : o.enc c ≤ c + 100794240 := by
  simp only [OpFloat2n.inRange, Bool.and_eq_true, decide_eq_true_eq] at h
  simp only [OpFloat2n.enc]
  omega

theorem OpFloatCvt.enc_le (o : OpFloatCvt) (h : o.inRange = true) (c : Nat) : o.enc c ≤ c + 130547584 := by
  simp only [OpFloatCvt.inRange, Bool.and_eq_true, decide_eq_true_eq] at h
  simp only [OpFloatCvt.enc]
  omega

theorem OpFmadd.enc_le (o : OpFmadd) (h : o.inRange = true) (c : Nat) : o.enc c ≤ c + 4294967168 := by
  simp only [OpFmadd.inRange, Bool.and_eq_true, decide_eq_true_eq] at h
  simp only [OpFmadd.enc]
  omega

theorem OpAmo.enc_le (o : OpAmo) (h : o.inRange = true) (c : Nat) : o.enc c ≤ c + 3791650688 := by
  simp only [OpAmo.inRange, Bool.and_eq_true, decide_eq_true_eq] at h
  simp only [OpAmo.enc]
  omega

theorem OpCas2.enc_le (o : OpCas2) (h : o.inRange = true) (c : Nat) : o.enc c ≤ c + 3254779776 := by
  simp only [OpCas2.inRange, Bool.and_eq_true, decide_eq_true_eq] at h
  simp only [OpCas2.enc]
  omega

theorem OpMfs.enc_le (o : OpMfs) (h : o.inRange = true) (c : Nat) : o.enc c ≤ c + 536743808 := by
  simp only [OpMfs.inRange, Bool.and_eq_true, decide_eq_true_eq] at h
  simp only [OpMfs.enc]
  omega

theorem OpMts.enc_le (o : OpMts) (h : o.inRange = true) (c : Nat) : o.enc c ≤ c + 536866816 := by
  simp only [OpMts.inRange, Bool.and_eq_true, decide_eq_true_eq] at h
  simp only [OpMts.enc]
  omega

theorem OpImm10.enc_le (o : OpImm10) (h : o.inRange = true) (c : Nat) : o.enc c ≤ c + 4190208 := by
  simp only [OpImm10.inRange, decide_eq_true_eq] at h
  simp only [OpImm10.enc]
  omega

theorem OpAB.enc_le (o : OpAB) (h : o.inRange = true) (c : Nat) : o.enc c ≤ c + 4190208 := by
  simp only [OpAB.inRange, Bool.and_eq_true, decide_eq_true_eq] at h
  simp only [OpAB.enc]
  omega

theorem OpB.enc_le (o : OpB) (h : o.inRange = true) (c : Nat) : o.enc c ≤ c + 4063232 := by
  simp only [OpB.inRange, decide_eq_true_eq] at h
  simp only [OpB.enc]
  omega

theorem OpA.enc_le (o : OpA) (h : o.inRange = true) (c : Nat) : o.enc c ≤ c + 126976 := by
  simp only [OpA.inRange, decide_eq_true_eq] at h
  simp only [OpA.enc]
  omega

theorem OpQput.enc_le (o : OpQput) (h : o.inRange = true) (c : Nat) : o.enc c ≤ c + 127872 := by
  simp only [OpQput.inRange, Bool.and_eq_true, decide_eq_true_eq] at h
  simp only [OpQput.enc]
  omega

theorem OpQget.enc_le (o : OpQget) (h : o.inRange = true) (c : Nat) : o.enc c ≤ c + 32640 := by
  simp only [OpQget.inRange, Bool.and_eq_true, decide_eq_true_eq] at h
  simp only [OpQget.enc]
  omega

theorem OpHint.enc_le (o : OpHint) (h : o.inRange = true) (c : Nat) : o.enc c ≤ c + 4294967168 := by
  simp only [OpHint.inRange, decide_eq_true_eq] at h
  simp only [OpHint.enc]
  omega

theorem OpCM.enc_le (o : OpCM) (h : o.inRange = true) (c : Nat) : o.enc c ≤ c + 8188 := by
  simp only [OpCM.inRange, Bool.and_eq_true, decide_eq_true_eq] at h
  simp only [OpCM.enc]
  omega

theorem OpCI.enc_le (o : OpCI) (h : o.inRange = true) (c : Nat) : o.enc c ≤ c + 8188 := by
  simp only [OpCI.inRange, Bool.and_eq_true, decide_eq_true_eq] at h
  simp only [OpCI.enc]
  omega

theorem OpCJ.enc_le (o : OpCJ) (h : o.inRange = true) (c : Nat) : o.enc c ≤ c + 8188 := by
  simp only [OpCJ.inRange, decide_eq_true_eq] at h
  simp only [OpCJ.enc]
  omega

theorem OpCB.enc_le (o : OpCB) (h : o.inRange = true) (c : Nat) : o.enc c ≤ c + 8188 := by
  simp only [OpCB.inRange, Bool.and_eq_true, decide_eq_true_eq] at h
  simp only [OpCB.enc]
  omega

theorem OpCR.enc_le (o : OpCR) (h : o.inRange = true) (c : Nat) : o.enc c ≤ c + 4092 := by
  simp only [OpCR.inRange, Bool.and_eq_true, decide_eq_true_eq] at h
  simp only [OpCR.enc]
  omega

theorem OpC1.enc_le (o : OpC1) (h : o.inRange = true) (c : Nat) : o.enc c ≤ c + 3968 := by
  simp only [OpC1.inRange, decide_eq_true_eq] at h
  simp only [OpC1.enc]
  omega

theorem OpVsetl.enc_le (o : OpVsetl) (h : o.inRange = true) (c : Nat) : o.enc c ≤ c + 524160 := by
  simp only [OpVsetl.inRange, Bool.and_eq_true, decide_eq_true_eq] at h
  simp only [OpVsetl.enc]
  omega

theorem OpVcfg.enc_le (o : OpVcfg) (h : o.inRange = true) (c : Nat) : o.enc c ≤ c + 6688640 := by
  simp only [OpVcfg.inRange, Bool.and_eq_true, decide_eq_true_eq] at h
  simp only [OpVcfg.enc]
  omega

theorem OpV.enc_le (o : OpV) (h : o.inRange = true) (c : Nat) : o.enc c ≤ c + 3254779776 := by
  simp only [OpV.inRange, Bool.and_eq_true, decide_eq_true_eq] at h
  simp only [OpV.enc]
  omega

theorem OpVun.enc_le (o : OpVun) (h : o.inRange = true) (c : Nat) : o.enc c ≤ c + 29491072 := by
  simp only [OpVun.inRange, Bool.and_eq_true, decide_eq_true_eq] at h
  simp only [OpVun.enc]
  omega

theorem OpVcvt.enc_le (o : OpVcvt) (h : o.inRange = true) (c : Nat) : o.enc c ≤ c + 534773632 := by
  simp only [OpVcvt.inRange, Bool.and_eq_true, decide_eq_true_eq] at h
  simp only [OpVcvt.enc]
  omega

theorem OpVcvtRs.enc_le (o : OpVcvtRs) (h : o.inRange = true) (c : Nat) : o.enc c ≤ c + 3758096256 := by
  simp only [OpVcvtRs.inRange, Bool.and_eq_true, decide_eq_true_eq] at h
  simp only [OpVcvtRs.enc]
  omega

theorem OpVcmp.enc_le (o : OpVcmp) (h : o.inRange = true) (c : Nat) : o.enc c ≤ c + 3254776704 := by
  simp only [OpVcmp.inRange, Bool.and_eq_true, decide_eq_true_eq] at h
  simp only [OpVcmp.enc]
  omega

theorem OpVqget.enc_le (o : OpVqget) (h : o.inRange = true) (c : Nat) : o.enc c ≤ c + 29392768 := by
  simp only [OpVqget.inRange, Bool.and_eq_true, decide_eq_true_eq] at h
  simp only [OpVqget.enc]
  omega

theorem OpVqput.enc_le (o : OpVqput) (h : o.inRange = true) (c : Nat) : o.enc c ≤ c + 3225416576 := by
  simp only [OpVqput.inRange, Bool.and_eq_true, decide_eq_true_eq] at h
  simp only [OpVqput.enc]
  omega

theorem OpKlogic.enc_le (o : OpKlogic) (h : o.inRange = true) (c : Nat) : o.enc c ≤ c + 31389568 := by
  simp only [OpKlogic.inRange, Bool.and_eq_true, decide_eq_true_eq] at h
  simp only [OpKlogic.enc]
  omega

theorem OpKcount.enc_le (o : OpKcount) (h : o.inRange = true) (c : Nat) : o.enc c ≤ c + 29425536 := by
  simp only [OpKcount.inRange, Bool.and_eq_true, decide_eq_true_eq] at h
  simp only [OpKcount.enc]
  omega

theorem OpVcompact.enc_le (o : OpVcompact) (h : o.inRange = true) (c : Nat) : o.enc c ≤ c + 1048448 := by
  simp only [OpVcompact.inRange, Bool.and_eq_true, decide_eq_true_eq] at h
  simp only [OpVcompact.enc]
  omega

theorem OpVbd.enc_le (o : OpVbd) (h : o.inRange = true) (c : Nat) : o.enc c ≤ c + 3254652800 := by
  simp only [OpVbd.inRange, Bool.and_eq_true, decide_eq_true_eq] at h
  simp only [OpVbd.enc]
  omega

theorem OpVad.enc_le (o : OpVad) (h : o.inRange = true) (c : Nat) : o.enc c ≤ c + 3250716544 := by
  simp only [OpVad.inRange, Bool.and_eq_true, decide_eq_true_eq] at h
  simp only [OpVad.enc]
  omega

theorem OpVget.enc_le (o : OpVget) (h : o.inRange = true) (c : Nat) : o.enc c ≤ c + 3225419648 := by
  simp only [OpVget.inRange, Bool.and_eq_true, decide_eq_true_eq] at h
  simp only [OpVget.enc]
  omega

theorem OpVrand.enc_le (o : OpVrand) (h : o.inRange = true) (c : Nat) : o.enc c ≤ c + 33554304 := by
  simp only [OpVrand.inRange, Bool.and_eq_true, decide_eq_true_eq] at h
  simp only [OpVrand.enc]
  omega

theorem OpVmem.enc_le (o : OpVmem) (h : o.inRange = true) (c : Nat) : o.enc c ≤ c + 33554304 := by
  simp only [OpVmem.inRange, Bool.and_eq_true, decide_eq_true_eq] at h
  simp only [OpVmem.enc]
  omega

theorem OpVmemX.enc_le (o : OpVmemX) (h : o.inRange = true) (c : Nat) : o.enc c ≤ c + 134217600 := by
  simp only [OpVmemX.inRange, Bool.and_eq_true, decide_eq_true_eq] at h
  simp only [OpVmemX.enc]
  omega

theorem OpVmem1.enc_le (o : OpVmem1) (h : o.inRange = true) (c : Nat) : o.enc c ≤ c + 29491072 := by
  simp only [OpVmem1.inRange, Bool.and_eq_true, decide_eq_true_eq] at h
  simp only [OpVmem1.enc]
  omega

theorem OpBarArr.enc_le (o : OpBarArr) (h : o.inRange = true) (c : Nat) : o.enc c ≤ c + 921472 := by
  simp only [OpBarArr.inRange, Bool.and_eq_true, decide_eq_true_eq] at h
  simp only [OpBarArr.enc]
  omega

theorem OpBarWait.enc_le (o : OpBarWait) (h : o.inRange = true) (c : Nat) : o.enc c ≤ c + 1044480 := by
  simp only [OpBarWait.inRange, Bool.and_eq_true, decide_eq_true_eq] at h
  simp only [OpBarWait.enc]
  omega

theorem OpTlwait.enc_le (o : OpTlwait) (h : o.inRange = true) (c : Nat) : o.enc c ≤ c + 4128640 := by
  simp only [OpTlwait.inRange, Bool.and_eq_true, decide_eq_true_eq] at h
  simp only [OpTlwait.enc]
  omega

theorem OpTlread.enc_le (o : OpTlread) (h : o.inRange = true) (c : Nat) : o.enc c ≤ c + 65408 := by
  simp only [OpTlread.inRange, Bool.and_eq_true, decide_eq_true_eq] at h
  simp only [OpTlread.enc]
  omega

theorem OpTladv.enc_le (o : OpTladv) (h : o.inRange = true) (c : Nat) : o.enc c ≤ c + 4124672 := by
  simp only [OpTladv.inRange, Bool.and_eq_true, decide_eq_true_eq] at h
  simp only [OpTladv.enc]
  omega

theorem OpBob.enc_le (o : OpBob) (h : o.inRange = true) (c : Nat) : o.enc c ≤ c + 28672 := by
  simp only [OpBob.inRange, decide_eq_true_eq] at h
  simp only [OpBob.enc]
  omega

theorem OpCpystat.enc_le (o : OpCpystat) (h : o.inRange = true) (c : Nat) : o.enc c ≤ c + 32640 := by
  simp only [OpCpystat.inRange, Bool.and_eq_true, decide_eq_true_eq] at h
  simp only [OpCpystat.enc]
  omega

theorem OpXa.enc_le (o : OpXa) (h : o.inRange = true) (c : Nat) : o.enc c ≤ c + 545357767376896 := by
  simp only [OpXa.inRange, decide_eq_true_eq] at h
  simp only [OpXa.enc]
  omega

theorem OpMld.enc_le (o : OpMld) (h : o.inRange = true) (c : Nat) : o.enc c ≤ c + 17996806390415360 := by
  simp only [OpMld.inRange, Bool.and_eq_true, decide_eq_true_eq] at h
  simp only [OpMld.enc]
  omega

theorem OpMst.enc_le (o : OpMst) (h : o.inRange = true) (c : Nat) : o.enc c ≤ c + 17996840616083456 := by
  simp only [OpMst.inRange, Bool.and_eq_true, decide_eq_true_eq] at h
  simp only [OpMst.enc]
  cases o.la <;> simp only [cond_true, cond_false] <;> omega

theorem OpTd.enc_le (o : OpTd) (h : o.inRange = true) (c : Nat) : o.enc c ≤ c + 66977792 := by
  simp only [OpTd.inRange, decide_eq_true_eq] at h
  simp only [OpTd.enc]
  omega

theorem OpTa.enc_le (o : OpTa) (h : o.inRange = true) (c : Nat) : o.enc c ≤ c + 34292629504 := by
  simp only [OpTa.inRange, decide_eq_true_eq] at h
  simp only [OpTa.enc]
  omega

theorem OpMma.enc_le (o : OpMma) (h : o.inRange = true) (c : Nat) : o.enc c ≤ c + 17592185962496 := by
  simp only [OpMma.inRange, Bool.and_eq_true, decide_eq_true_eq] at h
  simp only [OpMma.enc]
  cases o.la <;> cases o.lb <;> simp only [cond_true, cond_false] <;> omega

theorem OpMmag.enc_le (o : OpMmag) (h : o.inRange = true) (c : Nat) : o.enc c ≤ c + 562919888551936 := by
  simp only [OpMmag.inRange, Bool.and_eq_true, decide_eq_true_eq] at h
  simp only [OpMmag.enc]
  cases o.lb <;> simp only [cond_true, cond_false] <;> omega

theorem OpMtov.enc_le (o : OpMtov) (h : o.inRange = true) (c : Nat) : o.enc c ≤ c + 545392068263936 := by
  simp only [OpMtov.inRange, Bool.and_eq_true, decide_eq_true_eq] at h
  simp only [OpMtov.enc]
  omega

theorem OpVtom.enc_le (o : OpVtom) (h : o.inRange = true) (c : Nat) : o.enc c ≤ c + 545362062213120 := by
  simp only [OpVtom.inRange, Bool.and_eq_true, decide_eq_true_eq] at h
  simp only [OpVtom.enc]
  omega

theorem OpMtrans.enc_le (o : OpMtrans) (h : o.inRange = true) (c : Nat) : o.enc c ≤ c + 545392127000576 := by
  simp only [OpMtrans.inRange, Bool.and_eq_true, decide_eq_true_eq] at h
  simp only [OpMtrans.enc]
  cases o.la <;> simp only [cond_true, cond_false] <;> omega

theorem OpMcvt.enc_le (o : OpMcvt) (h : o.inRange = true) (c : Nat) : o.enc c ≤ c + 562949953339392 := by
  simp only [OpMcvt.inRange, Bool.and_eq_true, decide_eq_true_eq] at h
  simp only [OpMcvt.enc]
  cases o.la <;> cases o.lb <;> simp only [cond_true, cond_false] <;> omega

theorem OpMsend.enc_le (o : OpMsend) (h : o.inRange = true) (c : Nat) : o.enc c ≤ c + 545392060022784 := by
  simp only [OpMsend.inRange, Bool.and_eq_true, decide_eq_true_eq] at h
  simp only [OpMsend.enc]
  cases o.la <;> simp only [cond_true, cond_false] <;> omega

theorem OpCpy.enc_le (o : OpCpy) (h : o.inRange = true) (c : Nat) : o.enc c ≤ c + 4611668426241343488 := by
  simp only [OpCpy.inRange, Bool.and_eq_true, decide_eq_true_eq] at h
  simp only [OpCpy.enc]
  omega

theorem OpCpyrows.enc_le (o : OpCpyrows) (h : o.inRange = true) (c : Nat) : o.enc c ≤ c + 4611668670987370496 := by
  simp only [OpCpyrows.inRange, Bool.and_eq_true, decide_eq_true_eq] at h
  simp only [OpCpyrows.enc]
  omega

theorem OpCpyv.enc_le (o : OpCpyv) (h : o.inRange = true) (c : Nat) : o.enc c ≤ c + 4053222072455659520 := by
  simp only [OpCpyv.inRange, Bool.and_eq_true, decide_eq_true_eq] at h
  simp only [OpCpyv.enc]
  omega

theorem OpG3.enc_le (o : OpG3) (h : o.inRange = true) (c : Nat) : o.enc c ≤ c + 67092480 := by
  simp only [OpG3.inRange, Bool.and_eq_true, decide_eq_true_eq] at h
  simp only [OpG3.enc]
  omega

theorem OpGi.enc_le (o : OpGi) (h : o.inRange = true) (c : Nat) : o.enc c ≤ c + 67108863 := by
  simp only [OpGi.inRange, Bool.and_eq_true, decide_eq_true_eq] at h
  simp only [OpGi.enc]
  omega

theorem OpGsh.enc_le (o : OpGsh) (h : o.inRange = true) (c : Nat) : o.enc c ≤ c + 66846751 := by
  simp only [OpGsh.inRange, Bool.and_eq_true, decide_eq_true_eq] at h
  simp only [OpGsh.enc]
  omega

theorem OpGlui.enc_le (o : OpGlui) (h : o.inRange = true) (c : Nat) : o.enc c ≤ c + 63176703 := by
  simp only [OpGlui.inRange, Bool.and_eq_true, decide_eq_true_eq] at h
  simp only [OpGlui.enc]
  omega

theorem OpGb.enc_le (o : OpGb) (h : o.inRange = true) (c : Nat) : o.enc c ≤ c + 66847743 := by
  simp only [OpGb.inRange, Bool.and_eq_true, decide_eq_true_eq] at h
  simp only [OpGb.enc]
  omega

theorem OpGl.enc_le (o : OpGl) (h : o.inRange = true) (c : Nat) : o.enc c ≤ c + 67093248 := by
  simp only [OpGl.inRange, Bool.and_eq_true, decide_eq_true_eq] at h
  simp only [OpGl.enc]
  omega

theorem OpGcmp.enc_le (o : OpGcmp) (h : o.inRange = true) (c : Nat) : o.enc c ≤ c + 16761600 := by
  simp only [OpGcmp.inRange, Bool.and_eq_true, decide_eq_true_eq] at h
  simp only [OpGcmp.enc]
  omega

theorem OpJ3.enc_le (o : OpJ3) (h : o.inRange = true) (c : Nat) : o.enc c ≤ c + 13418496 := by
  simp only [OpJ3.inRange, Bool.and_eq_true, decide_eq_true_eq] at h
  simp only [OpJ3.enc]
  omega

theorem OpJtoh.enc_le (o : OpJtoh) (h : o.inRange = true) (c : Nat) : o.enc c ≤ c + 63700992 := by
  simp only [OpJtoh.inRange, Bool.and_eq_true, decide_eq_true_eq] at h
  simp only [OpJtoh.enc]
  omega

theorem OpHtoj.enc_le (o : OpHtoj) (h : o.inRange = true) (c : Nat) : o.enc c ≤ c + 16515072 := by
  simp only [OpHtoj.inRange, Bool.and_eq_true, decide_eq_true_eq] at h
  simp only [OpHtoj.enc]
  omega

theorem OpGbcst.enc_le (o : OpGbcst) (h : o.inRange = true) (c : Nat) : o.enc c ≤ c + 66847488 := by
  simp only [OpGbcst.inRange, Bool.and_eq_true, decide_eq_true_eq] at h
  simp only [OpGbcst.enc]
  omega

theorem OpGlane.enc_le (o : OpGlane) (h : o.inRange = true) (c : Nat) : o.enc c ≤ c + 66846727 := by
  simp only [OpGlane.inRange, Bool.and_eq_true, decide_eq_true_eq] at h
  simp only [OpGlane.enc]
  omega

theorem OpPfresh.enc_le (o : OpPfresh) (h : o.inRange = true) (c : Nat) : o.enc c ≤ c + 16777215 := by
  simp only [OpPfresh.inRange, Bool.and_eq_true, decide_eq_true_eq] at h
  simp only [OpPfresh.enc]
  omega

theorem OpLoop.enc_le (o : OpLoop) (h : o.inRange = true) (c : Nat) : o.enc c ≤ c + 67093503 := by
  simp only [OpLoop.inRange, Bool.and_eq_true, decide_eq_true_eq] at h
  simp only [OpLoop.enc]
  omega

theorem OpEmit.enc_le (o : OpEmit) (h : o.inRange = true) (c : Nat) : o.enc c ≤ c + 4185088 := by
  simp only [OpEmit.inRange, Bool.and_eq_true, decide_eq_true_eq] at h
  simp only [OpEmit.enc]
  omega

theorem OpKtrap.enc_le (o : OpKtrap) (h : o.inRange = true) (c : Nat) : o.enc c ≤ c + 255 := by
  simp only [OpKtrap.inRange, decide_eq_true_eq] at h
  simp only [OpKtrap.enc]
  omega

theorem Modifier.enc_lt {m : Modifier} (h : m.inRange = true) : m.enc < 4294967296 := by
  simp only [Modifier.inRange, Bool.and_eq_true, decide_eq_true_eq] at h
  simp only [Modifier.enc]
  omega

theorem Modifier.inRange_of_fits {m : Modifier} {fe : Nat} {ad : Admit} (h : m.fits fe ad = true) : m.inRange = true := by
  simp only [Modifier.fits, Bool.and_eq_true] at h
  exact h.1.1.1.1.1.1.1.1.1.1

theorem loadBase_le {kind : Nat} (h : kind < 10) : loadBase kind ≤ 25165827 := by
  unfold loadBase
  split <;> omega

namespace Laws.Fits

/-- The bits of a well-formed instruction lie within its length. -/
def Statement (i : Instr) : Prop := i.wf = true → (encode i).word < 2 ^ (8 * (encode i).bytes)

theorem left {a b : Bool} (h : (a && b) = true) : a = true := (Bool.and_eq_true_iff.mp h).1
theorem right {a b : Bool} (h : (a && b) = true) : b = true := (Bool.and_eq_true_iff.mp h).2

theorem plain (n : Nat) {w c k : Nat} (h : w ≤ c + k) (hk : c + k < 2 ^ (8 * n)) : (Code.mk n w).word < 2 ^ (8 * (Code.mk n w).bytes) :=
  Nat.lt_of_le_of_lt h hk

theorem withMod_fits (p : Option Modifier) {w c k : Nat} (hm : ∀ m, p = some m → m.inRange = true) (h : w ≤ c + k)
    (hk : c + k < 4294967296) : (withMod p w).word < 2 ^ (8 * (withMod p w).bytes) := by
  cases p with
  | none => simp only [withMod]; omega
  | some m =>
    have := Modifier.enc_lt (hm m rfl)
    simp only [withMod]
    omega

theorem prefixed {p : Option Modifier} {ad : Admit} {w c k : Nat} (hm : modOk p ad = true) (h : w ≤ c + k) (hk : c + k < 4294967296) :
    (withMod p w).word < 2 ^ (8 * (withMod p w).bytes) :=
  withMod_fits p (fun m e => by subst e; exact Modifier.inRange_of_fits hm) h hk

theorem long {l : Bool} {w c k : Nat} (h : w ≤ c + k) (hk : c + k < 4294967296) :
    (withLong l w).word < 2 ^ (8 * (withLong l w).bytes) := by
  cases l
  · exact withMod_fits none (fun m e => nomatch e) h hk
  · exact withMod_fits (some Modifier.default) (fun m e => by cases e; rfl) h hk

theorem loadFe (o : OpLoadFe) (h : (o.inRange && decide (o.kind < 10)) = true) (fe : Nat) (hf : fe < 4) :
    (o.enc fe).word < 2 ^ (8 * (o.enc fe).bytes) := by
  have h1 := left h
  have h2 := of_decide_eq_true (right h)
  simp only [OpLoadFe.inRange, Bool.and_eq_true, decide_eq_true_eq] at h1
  have h3 := OpLoad.enc_le ⟨true, o.d, o.a, o.imm⟩ (by simp [OpLoad.inRange]; omega) (loadBase o.kind)
  exact withMod_fits _ (fun m e => by cases e; simp [Modifier.inRange, Modifier.default]; omega)
    (Nat.le_trans h3 (Nat.add_le_add_right (loadBase_le h2) _)) (by decide)

theorem storeFill (o : OpStoreFill) (h : o.inRange = true) : o.enc.word < 2 ^ (8 * o.enc.bytes) := by
  simp only [OpStoreFill.inRange, Bool.and_eq_true, decide_eq_true_eq] at h
  have h3 := OpStore.enc_le ⟨true, o.b, o.a, o.imm⟩ (by simp [OpStore.inRange]; omega) (11 + o.kind * 4194304)
  refine withMod_fits (c := 11 + 7 * 4194304) _ (fun m e => by cases e; decide) (Nat.le_trans h3 (Nat.add_le_add_right ?_ _)) (by decide)
  omega

theorem vmemFe (o : OpVmemFe) (h : o.inRange = true) {fe : Nat} {ad : Admit} (hm : o.p.fits fe ad = true) (st : Nat) (hs : st ≤ 8) :
    (o.enc st).word < 2 ^ (8 * (o.enc st).bytes) := by
  simp only [OpVmemFe.inRange, Bool.and_eq_true, decide_eq_true_eq] at h
  have h3 := OpVmemX.enc_le ⟨none, o.iw, o.k, o.b, o.a, o.d⟩ (by simp [OpVmemX.inRange]; omega)
    (107 + (st + cond o.indexed 1 0) * 134217728)
  refine withMod_fits (c := 107 + 9 * 134217728) _ (fun m e => by cases e; exact Modifier.inRange_of_fits hm)
    (Nat.le_trans h3 (Nat.add_le_add_right ?_ _)) (by decide)
  cases o.indexed <;> simp only [cond_true, cond_false] <;> omega

theorem rsMod {m : Modifier} {ad : Admit} (h : Modifier.fits { m with rm := 7 } 0 ad = true) (hr : decide (m.rm = 4) = true) :
    ∀ x, some m = some x → x.inRange = true := by
  intro x e
  cases e
  have := Modifier.inRange_of_fits h
  have := of_decide_eq_true hr
  simp_all [Modifier.inRange]

theorem ldI8 (o : OpLoad) : Statement (.ldI8 o) := fun h => long (o.enc_le h _) (by decide)
theorem ldI16 (o : OpLoad) : Statement (.ldI16 o) := fun h => long (o.enc_le h _) (by decide)
theorem ldI32 (o : OpLoad) : Statement (.ldI32 o) := fun h => long (o.enc_le h _) (by decide)
theorem ldI64 (o : OpLoad) : Statement (.ldI64 o) := fun h => long (o.enc_le h _) (by decide)
theorem ldN8 (o : OpLoad) : Statement (.ldN8 o) := fun h => long (o.enc_le h _) (by decide)
theorem ldN16 (o : OpLoad) : Statement (.ldN16 o) := fun h => long (o.enc_le h _) (by decide)
theorem ldN32 (o : OpLoad) : Statement (.ldN32 o) := fun h => long (o.enc_le h _) (by decide)
theorem ldF16 (o : OpLoad) : Statement (.ldF16 o) := fun h => long (o.enc_le h _) (by decide)
theorem ldF32 (o : OpLoad) : Statement (.ldF32 o) := fun h => long (o.enc_le h _) (by decide)
theorem ldF64 (o : OpLoad) : Statement (.ldF64 o) := fun h => long (o.enc_le h _) (by decide)
theorem stN8 (o : OpStore) : Statement (.stN8 o) := fun h => long (o.enc_le h _) (by decide)
theorem stN16 (o : OpStore) : Statement (.stN16 o) := fun h => long (o.enc_le h _) (by decide)
theorem stN32 (o : OpStore) : Statement (.stN32 o) := fun h => long (o.enc_le h _) (by decide)
theorem stN64 (o : OpStore) : Statement (.stN64 o) := fun h => long (o.enc_le h _) (by decide)
theorem stF16 (o : OpStore) : Statement (.stF16 o) := fun h => long (o.enc_le h _) (by decide)
theorem stF32 (o : OpStore) : Statement (.stF32 o) := fun h => long (o.enc_le h _) (by decide)
theorem stF64 (o : OpStore) : Statement (.stF64 o) := fun h => long (o.enc_le h _) (by decide)
theorem ldFe (o : OpLoadFe) : Statement (.ldFe o) := fun h => loadFe o h 1 (by decide)
theorem ldTake (o : OpLoadFe) : Statement (.ldTake o) := fun h => loadFe o h 2 (by decide)
theorem stFill (o : OpStoreFill) : Statement (.stFill o) := fun h => storeFill o (left h)
theorem addi (o : OpI) : Statement (.addi o) := fun h => plain 4 (o.enc_le h _) (by decide)
theorem lui (o : OpJ) : Statement (.lui o) := fun h => plain 4 (o.enc_le h _) (by decide)
theorem addpc (o : OpJ) : Statement (.addpc o) := fun h => plain 4 (o.enc_le h _) (by decide)
theorem slli (o : OpShift) : Statement (.slli o) := fun h => plain 4 (o.enc_le h _) (by decide)
theorem srli (o : OpShift) : Statement (.srli o) := fun h => plain 4 (o.enc_le h _) (by decide)
theorem srai (o : OpShift) : Statement (.srai o) := fun h => plain 4 (o.enc_le h _) (by decide)
theorem andi (o : OpImm12) : Statement (.andi o) := fun h => plain 4 (o.enc_le h _) (by decide)
theorem ori (o : OpImm12) : Statement (.ori o) := fun h => plain 4 (o.enc_le h _) (by decide)
theorem xori (o : OpImm12) : Statement (.xori o) := fun h => plain 4 (o.enc_le h _) (by decide)
theorem setlti (o : OpImm12) : Statement (.setlti o) := fun h => plain 4 (o.enc_le h _) (by decide)
theorem setltiu (o : OpImm12) : Statement (.setltiu o) := fun h => plain 4 (o.enc_le h _) (by decide)
theorem add (o : OpRRR) : Statement (.add o) := fun h => plain 4 (o.enc_le h _) (by decide)
theorem sub (o : OpRRR) : Statement (.sub o) := fun h => plain 4 (o.enc_le h _) (by decide)
theorem andR (o : OpRRR) : Statement (.andR o) := fun h => plain 4 (o.enc_le h _) (by decide)
theorem orR (o : OpRRR) : Statement (.orR o) := fun h => plain 4 (o.enc_le h _) (by decide)
theorem xorR (o : OpRRR) : Statement (.xorR o) := fun h => plain 4 (o.enc_le h _) (by decide)
theorem sll (o : OpRRR) : Statement (.sll o) := fun h => plain 4 (o.enc_le h _) (by decide)
theorem srl (o : OpRRR) : Statement (.srl o) := fun h => plain 4 (o.enc_le h _) (by decide)
theorem sra (o : OpRRR) : Statement (.sra o) := fun h => plain 4 (o.enc_le h _) (by decide)
theorem setlt (o : OpRRR) : Statement (.setlt o) := fun h => plain 4 (o.enc_le h _) (by decide)
theorem setltu (o : OpRRR) : Statement (.setltu o) := fun h => plain 4 (o.enc_le h _) (by decide)
theorem minR (o : OpRRR) : Statement (.minR o) := fun h => plain 4 (o.enc_le h _) (by decide)
theorem maxR (o : OpRRR) : Statement (.maxR o) := fun h => plain 4 (o.enc_le h _) (by decide)
theorem minu (o : OpRRR) : Statement (.minu o) := fun h => plain 4 (o.enc_le h _) (by decide)
theorem maxu (o : OpRRR) : Statement (.maxu o) := fun h => plain 4 (o.enc_le h _) (by decide)
theorem andinv (o : OpRRR) : Statement (.andinv o) := fun h => plain 4 (o.enc_le h _) (by decide)
theorem orinv (o : OpRRR) : Statement (.orinv o) := fun h => plain 4 (o.enc_le h _) (by decide)
theorem mul (o : OpRRR) : Statement (.mul o) := fun h => plain 4 (o.enc_le h _) (by decide)
theorem mulhi (o : OpRRR) : Statement (.mulhi o) := fun h => plain 4 (o.enc_le h _) (by decide)
theorem mulhiu (o : OpRRR) : Statement (.mulhiu o) := fun h => plain 4 (o.enc_le h _) (by decide)
theorem mulhmix (o : OpRRR) : Statement (.mulhmix o) := fun h => plain 4 (o.enc_le h _) (by decide)
theorem div (o : OpRRR) : Statement (.div o) := fun h => plain 4 (o.enc_le h _) (by decide)
theorem divu (o : OpRRR) : Statement (.divu o) := fun h => plain 4 (o.enc_le h _) (by decide)
theorem rem (o : OpRRR) : Statement (.rem o) := fun h => plain 4 (o.enc_le h _) (by decide)
theorem remu (o : OpRRR) : Statement (.remu o) := fun h => plain 4 (o.enc_le h _) (by decide)
theorem ixadd1 (o : OpRRR) : Statement (.ixadd1 o) := fun h => plain 4 (o.enc_le h _) (by decide)
theorem ixadd2 (o : OpRRR) : Statement (.ixadd2 o) := fun h => plain 4 (o.enc_le h _) (by decide)
theorem ixadd3 (o : OpRRR) : Statement (.ixadd3 o) := fun h => plain 4 (o.enc_le h _) (by decide)
theorem ixadd4 (o : OpRRR) : Statement (.ixadd4 o) := fun h => plain 4 (o.enc_le h _) (by decide)
theorem zlead (o : OpRR) : Statement (.zlead o) := fun h => plain 4 (o.enc_le h _) (by decide)
theorem ztrail (o : OpRR) : Statement (.ztrail o) := fun h => plain 4 (o.enc_le h _) (by decide)
theorem ones (o : OpRR) : Statement (.ones o) := fun h => plain 4 (o.enc_le h _) (by decide)
theorem jal (o : OpJ) : Statement (.jal o) := fun h => plain 4 (o.enc_le h _) (by decide)
theorem jalr (o : OpI) : Statement (.jalr o) := fun h => plain 4 (o.enc_le h _) (by decide)
theorem beq (o : OpBranch) : Statement (.beq o) := fun h => plain 4 (o.enc_le h _) (by decide)
theorem bne (o : OpBranch) : Statement (.bne o) := fun h => plain 4 (o.enc_le h _) (by decide)
theorem blt (o : OpBranch) : Statement (.blt o) := fun h => plain 4 (o.enc_le h _) (by decide)
theorem bge (o : OpBranch) : Statement (.bge o) := fun h => plain 4 (o.enc_le h _) (by decide)
theorem bltu (o : OpBranch) : Statement (.bltu o) := fun h => plain 4 (o.enc_le h _) (by decide)
theorem bgeu (o : OpBranch) : Statement (.bgeu o) := fun h => plain 4 (o.enc_le h _) (by decide)
theorem fadd (o : OpFloat3) : Statement (.fadd o) := fun h => plain 4 (o.enc_le (left (left h)) _) (by decide)
theorem fsub (o : OpFloat3) : Statement (.fsub o) := fun h => plain 4 (o.enc_le (left (left h)) _) (by decide)
theorem fmul (o : OpFloat3) : Statement (.fmul o) := fun h => plain 4 (o.enc_le (left (left h)) _) (by decide)
theorem fdiv (o : OpFloat3) : Statement (.fdiv o) := fun h => plain 4 (o.enc_le (left (left h)) _) (by decide)
theorem fsqrt (o : OpFloat2) : Statement (.fsqrt o) := fun h => plain 4 (o.enc_le (left (left h)) _) (by decide)
theorem fmin (o : OpFloat3n) : Statement (.fmin o) := fun h => plain 4 (o.enc_le (left h) _) (by decide)
theorem fmax (o : OpFloat3n) : Statement (.fmax o) := fun h => plain 4 (o.enc_le (left h) _) (by decide)
theorem fsgcpy (o : OpFloat3n) : Statement (.fsgcpy o) := fun h => plain 4 (o.enc_le (left h) _) (by decide)
theorem fsginv (o : OpFloat3n) : Statement (.fsginv o) := fun h => plain 4 (o.enc_le (left h) _) (by decide)
theorem fsgxor (o : OpFloat3n) : Statement (.fsgxor o) := fun h => plain 4 (o.enc_le (left h) _) (by decide)
theorem fcmpeq (o : OpFloat3n) : Statement (.fcmpeq o) := fun h => plain 4 (o.enc_le (left h) _) (by decide)
theorem fcmplt (o : OpFloat3n) : Statement (.fcmplt o) := fun h => plain 4 (o.enc_le (left h) _) (by decide)
theorem fcmple (o : OpFloat3n) : Statement (.fcmple o) := fun h => plain 4 (o.enc_le (left h) _) (by decide)
theorem fkind (o : OpFloat2n) : Statement (.fkind o) := fun h => plain 4 (o.enc_le (left h) _) (by decide)
theorem ftoi (o : OpFloatCvt) : Statement (.ftoi o) := fun h => plain 4 (o.enc_le (left (left h)) _) (by decide)
theorem itof (o : OpFloatCvt) : Statement (.itof o) := fun h => plain 4 (o.enc_le (left (left h)) _) (by decide)
theorem ftof (o : OpFloatCvt) : Statement (.ftof o) := fun h => plain 4 (o.enc_le (left (left h)) _) (by decide)
theorem fbitsx (o : OpRR) : Statement (.fbitsx o) := fun h => plain 4 (o.enc_le h _) (by decide)
theorem xbitsf (o : OpRR) : Statement (.xbitsf o) := fun h => plain 4 (o.enc_le h _) (by decide)
theorem fmadd (o : OpFmadd) : Statement (.fmadd o) := fun h => plain 4 (o.enc_le (left (left h)) _) (by decide)
theorem amoSwap (o : OpAmo) : Statement (.amoSwap o) := fun h => plain 4 (o.enc_le h _) (by decide)
theorem amoAdd (o : OpAmo) : Statement (.amoAdd o) := fun h => plain 4 (o.enc_le h _) (by decide)
theorem amoAnd (o : OpAmo) : Statement (.amoAnd o) := fun h => plain 4 (o.enc_le h _) (by decide)
theorem amoOr (o : OpAmo) : Statement (.amoOr o) := fun h => plain 4 (o.enc_le h _) (by decide)
theorem amoXor (o : OpAmo) : Statement (.amoXor o) := fun h => plain 4 (o.enc_le h _) (by decide)
theorem amoMin (o : OpAmo) : Statement (.amoMin o) := fun h => plain 4 (o.enc_le h _) (by decide)
theorem amoMax (o : OpAmo) : Statement (.amoMax o) := fun h => plain 4 (o.enc_le h _) (by decide)
theorem amoMinu (o : OpAmo) : Statement (.amoMinu o) := fun h => plain 4 (o.enc_le h _) (by decide)
theorem amoMaxu (o : OpAmo) : Statement (.amoMaxu o) := fun h => plain 4 (o.enc_le h _) (by decide)
theorem amoFadd (o : OpAmo) : Statement (.amoFadd o) := fun h => plain 4 (o.enc_le h _) (by decide)
theorem amoFmax (o : OpAmo) : Statement (.amoFmax o) := fun h => plain 4 (o.enc_le h _) (by decide)
theorem amoCas (o : OpAmo) : Statement (.amoCas o) := fun h => plain 4 (o.enc_le h _) (by decide)
theorem cas2 (o : OpCas2) : Statement (.cas2 o) := fun h => plain 4 (o.enc_le (left (left (left h))) _) (by decide)
theorem mfs (o : OpMfs) : Statement (.mfs o) := fun h => plain 4 (o.enc_le h _) (by decide)
theorem mts (o : OpMts) : Statement (.mts o) := fun h => plain 4 (o.enc_le h _) (by decide)
theorem fenceSv : Statement .fenceSv := fun _ => by decide
theorem fenceVs : Statement .fenceVs := fun _ => by decide
theorem fenceVv : Statement .fenceVv := fun _ => by decide
theorem fenceAll : Statement .fenceAll := fun _ => by decide
theorem syscall (o : OpImm10) : Statement (.syscall o) := fun h => plain 4 (o.enc_le h _) (by decide)
theorem breakTrap (o : OpImm10) : Statement (.breakTrap o) := fun h => plain 4 (o.enc_le h _) (by decide)
theorem eret : Statement .eret := fun _ => by decide
theorem wfe : Statement .wfe := fun _ => by decide
theorem exitTask : Statement .exitTask := fun _ => by decide
theorem yieldTask : Statement .yieldTask := fun _ => by decide
theorem tlbiPg (o : OpAB) : Statement (.tlbiPg o) := fun h => plain 4 (o.enc_le h _) (by decide)
theorem tlbiAll (o : OpB) : Statement (.tlbiAll o) := fun h => plain 4 (o.enc_le h _) (by decide)
theorem cwb (o : OpA) : Statement (.cwb o) := fun h => plain 4 (o.enc_le h _) (by decide)
theorem cinv (o : OpA) : Statement (.cinv o) := fun h => plain 4 (o.enc_le h _) (by decide)
theorem icinv (o : OpA) : Statement (.icinv o) := fun h => plain 4 (o.enc_le h _) (by decide)
theorem icinvall : Statement .icinvall := fun _ => by decide
theorem qput (o : OpQput) : Statement (.qput o) := fun h => plain 4 (o.enc_le h _) (by decide)
theorem qget (o : OpQget) : Statement (.qget o) := fun h => plain 4 (o.enc_le h _) (by decide)
theorem qpeek (o : OpQget) : Statement (.qpeek o) := fun h => plain 4 (o.enc_le h _) (by decide)
theorem spawn (o : OpRRR) : Statement (.spawn o) := fun h => plain 4 (o.enc_le h _) (by decide)
theorem nop : Statement .nop := fun _ => by decide
theorem hint (o : OpHint) : Statement (.hint o) := fun h => plain 4 (o.enc_le (left h) _) (by decide)
theorem cLdI64 (o : OpCM) : Statement (.cLdI64 o) := fun h => plain 2 (o.enc_le (left h) _) (by decide)
theorem cLdI32 (o : OpCM) : Statement (.cLdI32 o) := fun h => plain 2 (o.enc_le h _) (by decide)
theorem cStN64 (o : OpCM) : Statement (.cStN64 o) := fun h => plain 2 (o.enc_le h _) (by decide)
theorem cStN32 (o : OpCM) : Statement (.cStN32 o) := fun h => plain 2 (o.enc_le h _) (by decide)
theorem cLdF64 (o : OpCM) : Statement (.cLdF64 o) := fun h => plain 2 (o.enc_le h _) (by decide)
theorem cStF64 (o : OpCM) : Statement (.cStF64 o) := fun h => plain 2 (o.enc_le h _) (by decide)
theorem cNop : Statement .cNop := fun _ => by decide
theorem cAddi (o : OpCI) : Statement (.cAddi o) := fun h => plain 2 (o.enc_le (left h) _) (by decide)
theorem cLi (o : OpCI) : Statement (.cLi o) := fun h => plain 2 (o.enc_le (left h) _) (by decide)
theorem cLui (o : OpCI) : Statement (.cLui o) := fun h => plain 2 (o.enc_le (left (left h)) _) (by decide)
theorem cSlli (o : OpCI) : Statement (.cSlli o) := fun h => plain 2 (o.enc_le (left h) _) (by decide)
theorem cAndi (o : OpCI) : Statement (.cAndi o) := fun h => plain 2 (o.enc_le (left h) _) (by decide)
theorem cJ (o : OpCJ) : Statement (.cJ o) := fun h => plain 2 (o.enc_le h _) (by decide)
theorem cBeqz (o : OpCB) : Statement (.cBeqz o) := fun h => plain 2 (o.enc_le h _) (by decide)
theorem cBnez (o : OpCB) : Statement (.cBnez o) := fun h => plain 2 (o.enc_le h _) (by decide)
theorem cMv (o : OpCR) : Statement (.cMv o) := fun h => plain 2 (o.enc_le (left (left h)) _) (by decide)
theorem cAdd (o : OpCR) : Statement (.cAdd o) := fun h => plain 2 (o.enc_le (left (left h)) _) (by decide)
theorem cJr (o : OpC1) : Statement (.cJr o) := fun h => plain 2 (o.enc_le (left h) _) (by decide)
theorem cJalr (o : OpC1) : Statement (.cJalr o) := fun h => plain 2 (o.enc_le (left h) _) (by decide)
theorem cSub (o : OpCR) : Statement (.cSub o) := fun h => plain 2 (o.enc_le (left h) _) (by decide)
theorem cAnd (o : OpCR) : Statement (.cAnd o) := fun h => plain 2 (o.enc_le (left h) _) (by decide)
theorem cOr (o : OpCR) : Statement (.cOr o) := fun h => plain 2 (o.enc_le (left h) _) (by decide)
theorem cXor (o : OpCR) : Statement (.cXor o) := fun h => plain 2 (o.enc_le (left h) _) (by decide)
theorem vsetl (o : OpVsetl) : Statement (.vsetl o) := fun h => plain 4 (o.enc_le h _) (by decide)
theorem vcfg (o : OpVcfg) : Statement (.vcfg o) := fun h => plain 4 (o.enc_le h _) (by decide)
theorem vadd (o : OpV) : Statement (.vadd o) := fun h => prefixed (right h) (o.enc_le (left (left h)) _) (by decide)
theorem vsub (o : OpV) : Statement (.vsub o) := fun h => prefixed (right h) (o.enc_le (left (left h)) _) (by decide)
theorem vsubr (o : OpV) : Statement (.vsubr o) := fun h => prefixed (right h) (o.enc_le (left (left h)) _) (by decide)
theorem vmul (o : OpV) : Statement (.vmul o) := fun h => prefixed (right h) (o.enc_le (left (left h)) _) (by decide)
theorem vmulhi (o : OpV) : Statement (.vmulhi o) := fun h => prefixed (right h) (o.enc_le (left (left h)) _) (by decide)
theorem vmulhiu (o : OpV) : Statement (.vmulhiu o) := fun h => prefixed (right h) (o.enc_le (left (left h)) _) (by decide)
theorem vdiv (o : OpV) : Statement (.vdiv o) := fun h => prefixed (right h) (o.enc_le (left (left h)) _) (by decide)
theorem vdivu (o : OpV) : Statement (.vdivu o) := fun h => prefixed (right h) (o.enc_le (left (left h)) _) (by decide)
theorem vrem (o : OpV) : Statement (.vrem o) := fun h => prefixed (right h) (o.enc_le (left (left h)) _) (by decide)
theorem vremu (o : OpV) : Statement (.vremu o) := fun h => prefixed (right h) (o.enc_le (left (left h)) _) (by decide)
theorem vand (o : OpV) : Statement (.vand o) := fun h => prefixed (right h) (o.enc_le (left (left h)) _) (by decide)
theorem vor (o : OpV) : Statement (.vor o) := fun h => prefixed (right h) (o.enc_le (left (left h)) _) (by decide)
theorem vxor (o : OpV) : Statement (.vxor o) := fun h => prefixed (right h) (o.enc_le (left (left h)) _) (by decide)
theorem vsll (o : OpV) : Statement (.vsll o) := fun h => prefixed (right h) (o.enc_le (left (left h)) _) (by decide)
theorem vsrl (o : OpV) : Statement (.vsrl o) := fun h => prefixed (right h) (o.enc_le (left (left h)) _) (by decide)
theorem vsra (o : OpV) : Statement (.vsra o) := fun h => prefixed (right h) (o.enc_le (left (left h)) _) (by decide)
theorem vmin (o : OpV) : Statement (.vmin o) := fun h => prefixed (right h) (o.enc_le (left (left h)) _) (by decide)
theorem vmax (o : OpV) : Statement (.vmax o) := fun h => prefixed (right h) (o.enc_le (left (left h)) _) (by decide)
theorem vminu (o : OpV) : Statement (.vminu o) := fun h => prefixed (right h) (o.enc_le (left (left h)) _) (by decide)
theorem vmaxu (o : OpV) : Statement (.vmaxu o) := fun h => prefixed (right h) (o.enc_le (left (left h)) _) (by decide)
theorem vaddsat (o : OpV) : Statement (.vaddsat o) := fun h => prefixed (right h) (o.enc_le (left (left h)) _) (by decide)
theorem vaddsatu (o : OpV) : Statement (.vaddsatu o) := fun h => prefixed (right h) (o.enc_le (left (left h)) _) (by decide)
theorem vsubsat (o : OpV) : Statement (.vsubsat o) := fun h => prefixed (right h) (o.enc_le (left (left h)) _) (by decide)
theorem vsubsatu (o : OpV) : Statement (.vsubsatu o) := fun h => prefixed (right h) (o.enc_le (left (left h)) _) (by decide)
theorem vmulq (o : OpV) : Statement (.vmulq o) := fun h => prefixed (right h) (o.enc_le (left (left h)) _) (by decide)
theorem vmulw (o : OpV) : Statement (.vmulw o) := fun h => prefixed (right h) (o.enc_le (left (left h)) _) (by decide)
theorem vmulwu (o : OpV) : Statement (.vmulwu o) := fun h => prefixed (right h) (o.enc_le (left (left h)) _) (by decide)
theorem vmacw (o : OpV) : Statement (.vmacw o) := fun h => prefixed (right h) (o.enc_le (left (left h)) _) (by decide)
theorem vnarrows (o : OpV) : Statement (.vnarrows o) := fun h => prefixed (right h) (o.enc_le (left (left h)) _) (by decide)
theorem vnarrowu (o : OpV) : Statement (.vnarrowu o) := fun h => prefixed (right h) (o.enc_le (left (left h)) _) (by decide)
theorem vfadd (o : OpV) : Statement (.vfadd o) := fun h => prefixed (right h) (o.enc_le (left (left h)) _) (by decide)
theorem vfsub (o : OpV) : Statement (.vfsub o) := fun h => prefixed (right h) (o.enc_le (left (left h)) _) (by decide)
theorem vfrsub (o : OpV) : Statement (.vfrsub o) := fun h => prefixed (right h) (o.enc_le (left (left h)) _) (by decide)
theorem vfmul (o : OpV) : Statement (.vfmul o) := fun h => prefixed (right h) (o.enc_le (left (left h)) _) (by decide)
theorem vfdiv (o : OpV) : Statement (.vfdiv o) := fun h => prefixed (right h) (o.enc_le (left (left h)) _) (by decide)
theorem vfmin (o : OpV) : Statement (.vfmin o) := fun h => prefixed (right h) (o.enc_le (left (left h)) _) (by decide)
theorem vfmax (o : OpV) : Statement (.vfmax o) := fun h => prefixed (right h) (o.enc_le (left (left h)) _) (by decide)
theorem vfma (o : OpV) : Statement (.vfma o) := fun h => prefixed (right h) (o.enc_le (left (left h)) _) (by decide)
theorem vfnma (o : OpV) : Statement (.vfnma o) := fun h => prefixed (right h) (o.enc_le (left (left h)) _) (by decide)
theorem vfsgcpy (o : OpV) : Statement (.vfsgcpy o) := fun h => prefixed (right h) (o.enc_le (left (left h)) _) (by decide)
theorem vfsginv (o : OpV) : Statement (.vfsginv o) := fun h => prefixed (right h) (o.enc_le (left (left h)) _) (by decide)
theorem vfsgxor (o : OpV) : Statement (.vfsgxor o) := fun h => prefixed (right h) (o.enc_le (left (left h)) _) (by decide)
theorem vfsqrt (o : OpVun) : Statement (.vfsqrt o) := fun h => prefixed (right h) (o.enc_le (left h) _) (by decide)
theorem vfexp2 (o : OpVun) : Statement (.vfexp2 o) := fun h => prefixed (right h) (o.enc_le (left h) _) (by decide)
theorem vflog2 (o : OpVun) : Statement (.vflog2 o) := fun h => prefixed (right h) (o.enc_le (left h) _) (by decide)
theorem vfrcp (o : OpVun) : Statement (.vfrcp o) := fun h => prefixed (right h) (o.enc_le (left h) _) (by decide)
theorem vfrsqrt (o : OpVun) : Statement (.vfrsqrt o) := fun h => prefixed (right h) (o.enc_le (left h) _) (by decide)
theorem vfcvt (o : OpVcvt) : Statement (.vfcvt o) := fun h => prefixed (right h) (o.enc_le (left (left h)) _) (by decide)
theorem vfcvtRs (o : OpVcvtRs) : Statement (.vfcvtRs o) := fun h => withMod_fits (some o.p) (rsMod (right h) (right (left h))) (o.enc_le (left (left (left (left h)))) _) (by decide)
theorem vcmpeq (o : OpVcmp) : Statement (.vcmpeq o) := fun h => prefixed (right h) (o.enc_le (left (left h)) _) (by decide)
theorem vcmpne (o : OpVcmp) : Statement (.vcmpne o) := fun h => prefixed (right h) (o.enc_le (left (left h)) _) (by decide)
theorem vcmplt (o : OpVcmp) : Statement (.vcmplt o) := fun h => prefixed (right h) (o.enc_le (left (left h)) _) (by decide)
theorem vcmple (o : OpVcmp) : Statement (.vcmple o) := fun h => prefixed (right h) (o.enc_le (left (left h)) _) (by decide)
theorem vcmpltu (o : OpVcmp) : Statement (.vcmpltu o) := fun h => prefixed (right h) (o.enc_le (left (left h)) _) (by decide)
theorem vcmpleu (o : OpVcmp) : Statement (.vcmpleu o) := fun h => prefixed (right h) (o.enc_le (left (left h)) _) (by decide)
theorem vqget (o : OpVqget) : Statement (.vqget o) := fun h => prefixed (right h) (o.enc_le (left h) _) (by decide)
theorem vqput (o : OpVqput) : Statement (.vqput o) := fun h => prefixed (right h) (o.enc_le (left (left h)) _) (by decide)
theorem vfcmpeq (o : OpVcmp) : Statement (.vfcmpeq o) := fun h => prefixed (right h) (o.enc_le (left (left h)) _) (by decide)
theorem vfcmpne (o : OpVcmp) : Statement (.vfcmpne o) := fun h => prefixed (right h) (o.enc_le (left (left h)) _) (by decide)
theorem vfcmplt (o : OpVcmp) : Statement (.vfcmplt o) := fun h => prefixed (right h) (o.enc_le (left (left h)) _) (by decide)
theorem vfcmple (o : OpVcmp) : Statement (.vfcmple o) := fun h => prefixed (right h) (o.enc_le (left (left h)) _) (by decide)
theorem kand (o : OpKlogic) : Statement (.kand o) := fun h => prefixed (right h) (o.enc_le (left (left (left (left h)))) _) (by decide)
theorem kor (o : OpKlogic) : Statement (.kor o) := fun h => prefixed (right h) (o.enc_le (left (left (left (left h)))) _) (by decide)
theorem kxor (o : OpKlogic) : Statement (.kxor o) := fun h => prefixed (right h) (o.enc_le (left (left (left (left h)))) _) (by decide)
theorem kandinv (o : OpKlogic) : Statement (.kandinv o) := fun h => prefixed (right h) (o.enc_le (left (left (left (left h)))) _) (by decide)
theorem kcount (o : OpKcount) : Statement (.kcount o) := fun h => prefixed (right h) (o.enc_le (left (left h)) _) (by decide)
theorem kffs (o : OpKcount) : Statement (.kffs o) := fun h => prefixed (right h) (o.enc_le (left (left h)) _) (by decide)
theorem vshup (o : OpV) : Statement (.vshup o) := fun h => prefixed (right h) (o.enc_le (left (left h)) _) (by decide)
theorem vshdn (o : OpV) : Statement (.vshdn o) := fun h => prefixed (right h) (o.enc_le (left (left h)) _) (by decide)
theorem vpick (o : OpV) : Statement (.vpick o) := fun h => prefixed (right h) (o.enc_le (left (left h)) _) (by decide)
theorem vcompact (o : OpVcompact) : Statement (.vcompact o) := fun h => prefixed (right h) (o.enc_le (left h) _) (by decide)
theorem vassign (o : OpVbd) : Statement (.vassign o) := fun h => prefixed (right h) (o.enc_le (left (left h)) _) (by decide)
theorem vramp (o : OpVbd) : Statement (.vramp o) := fun h => prefixed (right h) (o.enc_le (left (left h)) _) (by decide)
theorem vfoldadd (o : OpV) : Statement (.vfoldadd o) := fun h => prefixed (right h) (o.enc_le (left (left h)) _) (by decide)
theorem vfoldmin (o : OpV) : Statement (.vfoldmin o) := fun h => prefixed (right h) (o.enc_le (left (left h)) _) (by decide)
theorem vfoldmax (o : OpV) : Statement (.vfoldmax o) := fun h => prefixed (right h) (o.enc_le (left (left h)) _) (by decide)
theorem vredmaxi (o : OpVad) : Statement (.vredmaxi o) := fun h => prefixed (right h) (o.enc_le (left (left h)) _) (by decide)
theorem vgetx (o : OpVget) : Statement (.vgetx o) := fun h => prefixed (right h) (o.enc_le (left (left h)) _) (by decide)
theorem vgetf (o : OpVget) : Statement (.vgetf o) := fun h => prefixed (right h) (o.enc_le (left (left h)) _) (by decide)
theorem vscan (o : OpV) : Statement (.vscan o) := fun h => prefixed (right h) (o.enc_le (left (left h)) _) (by decide)
theorem vrand (o : OpVrand) : Statement (.vrand o) := fun h => prefixed (right h) (o.enc_le (left (left h)) _) (by decide)
theorem vld (o : OpVmem) : Statement (.vld o) := fun h => prefixed (right h) (o.enc_le (left h) _) (by decide)
theorem vldx (o : OpVmemX) : Statement (.vldx o) := fun h => prefixed (right h) (o.enc_le (left h) _) (by decide)
theorem vldff (o : OpVmem1) : Statement (.vldff o) := fun h => prefixed (right h) (o.enc_le (left h) _) (by decide)
theorem vldsh (o : OpVmem1) : Statement (.vldsh o) := fun h => prefixed (right h) (o.enc_le (left h) _) (by decide)
theorem vlda (o : OpVmemX) : Statement (.vlda o) := fun h => prefixed (right h) (o.enc_le (left h) _) (by decide)
theorem vst (o : OpVmem) : Statement (.vst o) := fun h => prefixed (right h) (o.enc_le (left h) _) (by decide)
theorem vstx (o : OpVmemX) : Statement (.vstx o) := fun h => prefixed (right h) (o.enc_le (left h) _) (by decide)
theorem vstsh (o : OpVmem1) : Statement (.vstsh o) := fun h => prefixed (right h) (o.enc_le (left h) _) (by decide)
theorem vldFe (o : OpVmemFe) : Statement (.vldFe o) := fun h => vmemFe o (left (left h)) (right h) 0 (by decide)
theorem vldTake (o : OpVmemFe) : Statement (.vldTake o) := fun h => vmemFe o (left (left h)) (right h) 0 (by decide)
theorem vstFill (o : OpVmemFe) : Statement (.vstFill o) := fun h => vmemFe o (left (left h)) (right h) 8 (by decide)
theorem barArr (o : OpBarArr) : Statement (.barArr o) := fun h => prefixed (right h) (o.enc_le (left h) _) (by decide)
theorem barWait (o : OpBarWait) : Statement (.barWait o) := fun h => prefixed (right h) (o.enc_le (left h) _) (by decide)
theorem vamoSwap (o : OpVmemX) : Statement (.vamoSwap o) := fun h => prefixed (right h) (o.enc_le (left h) _) (by decide)
theorem vamoAdd (o : OpVmemX) : Statement (.vamoAdd o) := fun h => prefixed (right h) (o.enc_le (left h) _) (by decide)
theorem vamoAnd (o : OpVmemX) : Statement (.vamoAnd o) := fun h => prefixed (right h) (o.enc_le (left h) _) (by decide)
theorem vamoOr (o : OpVmemX) : Statement (.vamoOr o) := fun h => prefixed (right h) (o.enc_le (left h) _) (by decide)
theorem vamoXor (o : OpVmemX) : Statement (.vamoXor o) := fun h => prefixed (right h) (o.enc_le (left h) _) (by decide)
theorem vamoMin (o : OpVmemX) : Statement (.vamoMin o) := fun h => prefixed (right h) (o.enc_le (left h) _) (by decide)
theorem vamoMax (o : OpVmemX) : Statement (.vamoMax o) := fun h => prefixed (right h) (o.enc_le (left h) _) (by decide)
theorem vamoMinu (o : OpVmemX) : Statement (.vamoMinu o) := fun h => prefixed (right h) (o.enc_le (left h) _) (by decide)
theorem vamoMaxu (o : OpVmemX) : Statement (.vamoMaxu o) := fun h => prefixed (right h) (o.enc_le (left h) _) (by decide)
theorem vamoFadd (o : OpVmemX) : Statement (.vamoFadd o) := fun h => prefixed (right h) (o.enc_le (left h) _) (by decide)
theorem vamoFmax (o : OpVmemX) : Statement (.vamoFmax o) := fun h => prefixed (right h) (o.enc_le (left h) _) (by decide)
theorem vamoCas (o : OpVmemX) : Statement (.vamoCas o) := fun h => prefixed (right h) (o.enc_le (left h) _) (by decide)
theorem tlwaitReg (o : OpTlwait) : Statement (.tlwaitReg o) := fun h => plain 4 (o.enc_le h _) (by decide)
theorem tlwaitMem (o : OpRRR) : Statement (.tlwaitMem o) := fun h => plain 4 (o.enc_le h _) (by decide)
theorem tlread (o : OpTlread) : Statement (.tlread o) := fun h => plain 4 (o.enc_le h _) (by decide)
theorem tladv (o : OpTladv) : Statement (.tladv o) := fun h => plain 4 (o.enc_le h _) (by decide)
theorem feclr (o : OpAB) : Statement (.feclr o) := fun h => plain 4 (o.enc_le h _) (by decide)
theorem cpyabort (o : OpBob) : Statement (.cpyabort o) := fun h => plain 4 (o.enc_le h _) (by decide)
theorem cpystat (o : OpCpystat) : Statement (.cpystat o) := fun h => plain 4 (o.enc_le h _) (by decide)
theorem mcfg (o : OpXa) : Statement (.mcfg o) := fun h => plain 8 (o.enc_le h _) (by decide)
theorem mld (o : OpMld) : Statement (.mld o) := fun h => plain 8 (o.enc_le h _) (by decide)
theorem mst (o : OpMst) : Statement (.mst o) := fun h => plain 8 (o.enc_le h _) (by decide)
theorem mzero (o : OpTd) : Statement (.mzero o) := fun h => plain 8 (o.enc_le h _) (by decide)
theorem mma (o : OpMma) : Statement (.mma o) := fun h => plain 8 (o.enc_le h _) (by decide)
theorem mmag (o : OpMmag) : Statement (.mmag o) := fun h => plain 8 (o.enc_le h _) (by decide)
theorem mtov (o : OpMtov) : Statement (.mtov o) := fun h => plain 8 (o.enc_le h _) (by decide)
theorem vtom (o : OpVtom) : Statement (.vtom o) := fun h => plain 8 (o.enc_le h _) (by decide)
theorem mtrans (o : OpMtrans) : Statement (.mtrans o) := fun h => plain 8 (o.enc_le h _) (by decide)
theorem mcvt (o : OpMcvt) : Statement (.mcvt o) := fun h => plain 8 (o.enc_le h _) (by decide)
theorem mpref (o : OpTa) : Statement (.mpref o) := fun h => plain 8 (o.enc_le h _) (by decide)
theorem mdrop (o : OpTd) : Statement (.mdrop o) := fun h => plain 8 (o.enc_le h _) (by decide)
theorem msend (o : OpMsend) : Statement (.msend o) := fun h => plain 8 (o.enc_le h _) (by decide)
theorem mopen (o : OpTd) : Statement (.mopen o) := fun h => plain 8 (o.enc_le h _) (by decide)
theorem mscale (o : OpMcvt) : Statement (.mscale o) := fun h => plain 8 (o.enc_le h _) (by decide)
theorem madd (o : OpMcvt) : Statement (.madd o) := fun h => plain 8 (o.enc_le h _) (by decide)
theorem cpy (o : OpCpy) : Statement (.cpy o) := fun h => plain 8 (o.enc_le (left (left h)) _) (by decide)
theorem cpyrows (o : OpCpyrows) : Statement (.cpyrows o) := fun h => plain 8 (o.enc_le h _) (by decide)
theorem cpyv (o : OpCpyv) : Statement (.cpyv o) := fun h => plain 8 (o.enc_le h _) (by decide)
theorem cpyred (o : OpCpy) : Statement (.cpyred o) := fun h => plain 8 (o.enc_le h _) (by decide)
theorem golpinAdd (o : OpG3) : Statement (.golpinAdd o) := fun h => plain 4 (o.enc_le h _) (by decide)
theorem golpinSub (o : OpG3) : Statement (.golpinSub o) := fun h => plain 4 (o.enc_le h _) (by decide)
theorem golpinAnd (o : OpG3) : Statement (.golpinAnd o) := fun h => plain 4 (o.enc_le h _) (by decide)
theorem golpinOr (o : OpG3) : Statement (.golpinOr o) := fun h => plain 4 (o.enc_le h _) (by decide)
theorem golpinXor (o : OpG3) : Statement (.golpinXor o) := fun h => plain 4 (o.enc_le h _) (by decide)
theorem golpinSll (o : OpG3) : Statement (.golpinSll o) := fun h => plain 4 (o.enc_le h _) (by decide)
theorem golpinSrl (o : OpG3) : Statement (.golpinSrl o) := fun h => plain 4 (o.enc_le h _) (by decide)
theorem golpinSra (o : OpG3) : Statement (.golpinSra o) := fun h => plain 4 (o.enc_le h _) (by decide)
theorem golpinMin (o : OpG3) : Statement (.golpinMin o) := fun h => plain 4 (o.enc_le h _) (by decide)
theorem golpinMax (o : OpG3) : Statement (.golpinMax o) := fun h => plain 4 (o.enc_le h _) (by decide)
theorem golpinMinu (o : OpG3) : Statement (.golpinMinu o) := fun h => plain 4 (o.enc_le h _) (by decide)
theorem golpinMaxu (o : OpG3) : Statement (.golpinMaxu o) := fun h => plain 4 (o.enc_le h _) (by decide)
theorem golpinMul (o : OpG3) : Statement (.golpinMul o) := fun h => plain 4 (o.enc_le h _) (by decide)
theorem golpinSetlt (o : OpG3) : Statement (.golpinSetlt o) := fun h => plain 4 (o.enc_le h _) (by decide)
theorem golpinSetltu (o : OpG3) : Statement (.golpinSetltu o) := fun h => plain 4 (o.enc_le h _) (by decide)
theorem golpinAddi (o : OpGi) : Statement (.golpinAddi o) := fun h => plain 4 (o.enc_le h _) (by decide)
theorem golpinAndi (o : OpGi) : Statement (.golpinAndi o) := fun h => plain 4 (o.enc_le h _) (by decide)
theorem golpinOri (o : OpGi) : Statement (.golpinOri o) := fun h => plain 4 (o.enc_le h _) (by decide)
theorem golpinXori (o : OpGi) : Statement (.golpinXori o) := fun h => plain 4 (o.enc_le h _) (by decide)
theorem golpinSlli (o : OpGsh) : Statement (.golpinSlli o) := fun h => plain 4 (o.enc_le h _) (by decide)
theorem golpinSrli (o : OpGsh) : Statement (.golpinSrli o) := fun h => plain 4 (o.enc_le h _) (by decide)
theorem golpinSrai (o : OpGsh) : Statement (.golpinSrai o) := fun h => plain 4 (o.enc_le h _) (by decide)
theorem golpinLui (o : OpGlui) : Statement (.golpinLui o) := fun h => plain 4 (o.enc_le h _) (by decide)
theorem golpinBeq (o : OpGb) : Statement (.golpinBeq o) := fun h => plain 4 (o.enc_le h _) (by decide)
theorem golpinBne (o : OpGb) : Statement (.golpinBne o) := fun h => plain 4 (o.enc_le h _) (by decide)
theorem golpinBlt (o : OpGb) : Statement (.golpinBlt o) := fun h => plain 4 (o.enc_le h _) (by decide)
theorem golpinBge (o : OpGb) : Statement (.golpinBge o) := fun h => plain 4 (o.enc_le h _) (by decide)
theorem golpinBltu (o : OpGb) : Statement (.golpinBltu o) := fun h => plain 4 (o.enc_le h _) (by decide)
theorem golpinBgeu (o : OpGb) : Statement (.golpinBgeu o) := fun h => plain 4 (o.enc_le h _) (by decide)
theorem laddVv (o : OpGl) : Statement (.laddVv o) := fun h => plain 4 (o.enc_le h _) (by decide)
theorem lsubVv (o : OpGl) : Statement (.lsubVv o) := fun h => plain 4 (o.enc_le h _) (by decide)
theorem landVv (o : OpGl) : Statement (.landVv o) := fun h => plain 4 (o.enc_le h _) (by decide)
theorem lorVv (o : OpGl) : Statement (.lorVv o) := fun h => plain 4 (o.enc_le h _) (by decide)
theorem lxorVv (o : OpGl) : Statement (.lxorVv o) := fun h => plain 4 (o.enc_le h _) (by decide)
theorem lminVv (o : OpGl) : Statement (.lminVv o) := fun h => plain 4 (o.enc_le h _) (by decide)
theorem lmaxVv (o : OpGl) : Statement (.lmaxVv o) := fun h => plain 4 (o.enc_le h _) (by decide)
theorem lminuVv (o : OpGl) : Statement (.lminuVv o) := fun h => plain 4 (o.enc_le h _) (by decide)
theorem lmaxuVv (o : OpGl) : Statement (.lmaxuVv o) := fun h => plain 4 (o.enc_le h _) (by decide)
theorem lmulVv (o : OpGl) : Statement (.lmulVv o) := fun h => plain 4 (o.enc_le h _) (by decide)
theorem lfaddVv (o : OpGl) : Statement (.lfaddVv o) := fun h => plain 4 (o.enc_le h _) (by decide)
theorem lfmaxVv (o : OpGl) : Statement (.lfmaxVv o) := fun h => plain 4 (o.enc_le h _) (by decide)
theorem lfminVv (o : OpGl) : Statement (.lfminVv o) := fun h => plain 4 (o.enc_le h _) (by decide)
theorem lbfaddVv (o : OpGl) : Statement (.lbfaddVv o) := fun h => plain 4 (o.enc_le h _) (by decide)
theorem laddVs (o : OpGl) : Statement (.laddVs o) := fun h => plain 4 (o.enc_le h _) (by decide)
theorem lsubVs (o : OpGl) : Statement (.lsubVs o) := fun h => plain 4 (o.enc_le h _) (by decide)
theorem landVs (o : OpGl) : Statement (.landVs o) := fun h => plain 4 (o.enc_le h _) (by decide)
theorem lorVs (o : OpGl) : Statement (.lorVs o) := fun h => plain 4 (o.enc_le h _) (by decide)
theorem lxorVs (o : OpGl) : Statement (.lxorVs o) := fun h => plain 4 (o.enc_le h _) (by decide)
theorem lminVs (o : OpGl) : Statement (.lminVs o) := fun h => plain 4 (o.enc_le h _) (by decide)
theorem lmaxVs (o : OpGl) : Statement (.lmaxVs o) := fun h => plain 4 (o.enc_le h _) (by decide)
theorem lminuVs (o : OpGl) : Statement (.lminuVs o) := fun h => plain 4 (o.enc_le h _) (by decide)
theorem lmaxuVs (o : OpGl) : Statement (.lmaxuVs o) := fun h => plain 4 (o.enc_le h _) (by decide)
theorem lmulVs (o : OpGl) : Statement (.lmulVs o) := fun h => plain 4 (o.enc_le h _) (by decide)
theorem lfaddVs (o : OpGl) : Statement (.lfaddVs o) := fun h => plain 4 (o.enc_le h _) (by decide)
theorem lfmaxVs (o : OpGl) : Statement (.lfmaxVs o) := fun h => plain 4 (o.enc_le h _) (by decide)
theorem lfminVs (o : OpGl) : Statement (.lfminVs o) := fun h => plain 4 (o.enc_le h _) (by decide)
theorem lbfaddVs (o : OpGl) : Statement (.lbfaddVs o) := fun h => plain 4 (o.enc_le h _) (by decide)
theorem lcmpeq (o : OpGcmp) : Statement (.lcmpeq o) := fun h => plain 4 (o.enc_le h _) (by decide)
theorem lcmpne (o : OpGcmp) : Statement (.lcmpne o) := fun h => plain 4 (o.enc_le h _) (by decide)
theorem lcmplt (o : OpGcmp) : Statement (.lcmplt o) := fun h => plain 4 (o.enc_le h _) (by decide)
theorem lcmpltu (o : OpGcmp) : Statement (.lcmpltu o) := fun h => plain 4 (o.enc_le h _) (by decide)
theorem lcmpfeq (o : OpGcmp) : Statement (.lcmpfeq o) := fun h => plain 4 (o.enc_le h _) (by decide)
theorem lcmpflt (o : OpGcmp) : Statement (.lcmpflt o) := fun h => plain 4 (o.enc_le h _) (by decide)
theorem lcmpfle (o : OpGcmp) : Statement (.lcmpfle o) := fun h => plain 4 (o.enc_le h _) (by decide)
theorem jand (o : OpJ3) : Statement (.jand o) := fun h => plain 4 (o.enc_le h _) (by decide)
theorem jor (o : OpJ3) : Statement (.jor o) := fun h => plain 4 (o.enc_le h _) (by decide)
theorem jxor (o : OpJ3) : Statement (.jxor o) := fun h => plain 4 (o.enc_le h _) (by decide)
theorem jandinv (o : OpJ3) : Statement (.jandinv o) := fun h => plain 4 (o.enc_le h _) (by decide)
theorem jtoh (o : OpJtoh) : Statement (.jtoh o) := fun h => plain 4 (o.enc_le h _) (by decide)
theorem htoj (o : OpHtoj) : Statement (.htoj o) := fun h => plain 4 (o.enc_le h _) (by decide)
theorem jcount (o : OpJtoh) : Statement (.jcount o) := fun h => plain 4 (o.enc_le h _) (by decide)
theorem lbcst (o : OpGbcst) : Statement (.lbcst o) := fun h => plain 4 (o.enc_le h _) (by decide)
theorem lext (o : OpGlane) : Statement (.lext o) := fun h => plain 4 (o.enc_le h _) (by decide)
theorem lins (o : OpGlane) : Statement (.lins o) := fun h => plain 4 (o.enc_le h _) (by decide)
theorem lredadd (o : OpGl) : Statement (.lredadd o) := fun h => plain 4 (o.enc_le h _) (by decide)
theorem lredfadd (o : OpGl) : Statement (.lredfadd o) := fun h => plain 4 (o.enc_le h _) (by decide)
theorem lredmax (o : OpGl) : Statement (.lredmax o) := fun h => plain 4 (o.enc_le h _) (by decide)
theorem lredmaxu (o : OpGl) : Statement (.lredmaxu o) := fun h => plain 4 (o.enc_le h _) (by decide)
theorem lredfmax (o : OpGl) : Statement (.lredfmax o) := fun h => plain 4 (o.enc_le h _) (by decide)
theorem lredfmin (o : OpGl) : Statement (.lredfmin o) := fun h => plain 4 (o.enc_le h _) (by decide)
theorem pld (o : OpGi) : Statement (.pld o) := fun h => plain 4 (o.enc_le h _) (by decide)
theorem pst (o : OpGi) : Statement (.pst o) := fun h => plain 4 (o.enc_le h _) (by decide)
theorem pldl (o : OpGi) : Statement (.pldl o) := fun h => plain 4 (o.enc_le h _) (by decide)
theorem pstl (o : OpGi) : Statement (.pstl o) := fun h => plain 4 (o.enc_le h _) (by decide)
theorem sld (o : OpGi) : Statement (.sld o) := fun h => plain 4 (o.enc_le h _) (by decide)
theorem sst (o : OpGi) : Statement (.sst o) := fun h => plain 4 (o.enc_le h _) (by decide)
theorem sldl (o : OpGi) : Statement (.sldl o) := fun h => plain 4 (o.enc_le h _) (by decide)
theorem sstl (o : OpGi) : Statement (.sstl o) := fun h => plain 4 (o.enc_le h _) (by decide)
theorem pfresh (o : OpPfresh) : Statement (.pfresh o) := fun h => plain 4 (o.enc_le h _) (by decide)
theorem golpinLoop (o : OpLoop) : Statement (.golpinLoop o) := fun h => plain 4 (o.enc_le h _) (by decide)
theorem emitSt (o : OpEmit) : Statement (.emitSt o) := fun h => plain 4 (o.enc_le h _) (by decide)
theorem emitWin (o : OpEmit) : Statement (.emitWin o) := fun h => plain 4 (o.enc_le h _) (by decide)
theorem fwd : Statement .fwd := fun _ => by decide
theorem golpinDrop : Statement .golpinDrop := fun _ => by decide
theorem reply : Statement .reply := fun _ => by decide
theorem ktrap (o : OpKtrap) : Statement (.ktrap o) := fun h => plain 4 (o.enc_le h _) (by decide)
theorem golpinBudgetExpiry (o : OpEngine) : Statement (.golpinBudgetExpiry o) := fun _ => Nat.one_pos
theorem golpinPacketStart (o : OpEngine) : Statement (.golpinPacketStart o) := fun _ => Nat.one_pos
theorem emitDelivery (o : OpEngine) : Statement (.emitDelivery o) := fun _ => Nat.one_pos
theorem ualinkPacketIngress (o : OpUalink) : Statement (.ualinkPacketIngress o) := fun _ => Nat.one_pos
theorem reducingWriteAnswer (o : OpReducing) : Statement (.reducingWriteAnswer o) := fun _ => Nat.one_pos
theorem reducingWriteResend (o : OpReducing) : Statement (.reducingWriteResend o) := fun _ => Nat.one_pos
theorem remoteRequestPacket (o : OpRequest) : Statement (.remoteRequestPacket o) := fun _ => Nat.one_pos
theorem remoteAnswer (o : OpAnswer) : Statement (.remoteAnswer o) := fun _ => Nat.one_pos
theorem msendLanding (o : OpSend) : Statement (.msendLanding o) := fun _ => Nat.one_pos
theorem msendAnswer (o : OpSendAnswer) : Statement (.msendAnswer o) := fun _ => Nat.one_pos
theorem msendRetry (o : OpThreadCmd) : Statement (.msendRetry o) := fun _ => Nat.one_pos
theorem schedulingStep : Statement .schedulingStep := fun _ => Nat.one_pos
theorem contextSaveComplete (o : OpTask) : Statement (.contextSaveComplete o) := fun _ => Nat.one_pos
theorem taskRetirement (o : OpThread) : Statement (.taskRetirement o) := fun _ => Nat.one_pos
theorem barrierPoll (o : OpThread) : Statement (.barrierPoll o) := fun _ => Nat.one_pos
theorem tlwaitPoll (o : OpThread) : Statement (.tlwaitPoll o) := fun _ => Nat.one_pos
theorem wfeTimeout (o : OpThread) : Statement (.wfeTimeout o) := fun _ => Nat.one_pos
theorem deferredTrapEntry (o : OpThread) : Statement (.deferredTrapEntry o) := fun _ => Nat.one_pos
theorem pagerFaultRecord : Statement .pagerFaultRecord := fun _ => Nat.one_pos
theorem vectorInstructionComplete (o : OpThread) : Statement (.vectorInstructionComplete o) := fun _ => Nat.one_pos
theorem laneArbitration (o : OpCore) : Statement (.laneArbitration o) := fun _ => Nat.one_pos
theorem tileUnitIssue (o : OpCoreUnit) : Statement (.tileUnitIssue o) := fun _ => Nat.one_pos
theorem tileInstructionComplete (o : OpThreadCmd) : Statement (.tileInstructionComplete o) := fun _ => Nat.one_pos
theorem tileFillComplete (o : OpCoreTile) : Statement (.tileFillComplete o) := fun _ => Nat.one_pos
theorem bobbinCommandStart (o : OpBobbin) : Statement (.bobbinCommandStart o) := fun _ => Nat.one_pos
theorem bobbinElementLanding (o : OpBobbin) : Statement (.bobbinElementLanding o) := fun _ => Nat.one_pos
theorem bobbinCommandComplete (o : OpBobbin) : Statement (.bobbinCommandComplete o) := fun _ => Nat.one_pos
theorem bobbinFault (o : OpBobbinFault) : Statement (.bobbinFault o) := fun _ => Nat.one_pos
theorem bankArbiterGrant (o : OpBank) : Statement (.bankArbiterGrant o) := fun _ => Nat.one_pos
theorem scratchpadBankGrant (o : OpCoreBank) : Statement (.scratchpadBankGrant o) := fun _ => Nat.one_pos
theorem refreshWindowOpen (o : OpGroup) : Statement (.refreshWindowOpen o) := fun _ => Nat.one_pos
theorem refreshWindowClose (o : OpGroup) : Statement (.refreshWindowClose o) := fun _ => Nat.one_pos
theorem refreshCalendarChange (o : OpPillar) : Statement (.refreshCalendarChange o) := fun _ => Nat.one_pos
theorem dramTemperatureCrossing (o : OpHot) : Statement (.dramTemperatureCrossing o) := fun _ => Nat.one_pos
theorem l1Eviction (o : OpCoreLine) : Statement (.l1Eviction o) := fun _ => Nat.one_pos
theorem l2Eviction (o : OpPillarLine) : Statement (.l2Eviction o) := fun _ => Nat.one_pos
theorem walkComplete (o : OpWalk) : Statement (.walkComplete o) := fun _ => Nat.one_pos
theorem tlbInvalidationReceipt (o : OpTlbShoot) : Statement (.tlbInvalidationReceipt o) := fun _ => Nat.one_pos
theorem tlbInvalidationAck (o : OpTlbShoot) : Statement (.tlbInvalidationAck o) := fun _ => Nat.one_pos
theorem shootdownComplete (o : OpShoot) : Statement (.shootdownComplete o) := fun _ => Nat.one_pos
theorem bankOffline (o : OpBank) : Statement (.bankOffline o) := fun _ => Nat.one_pos
theorem offlineAccessRetry (o : OpBank) : Statement (.offlineAccessRetry o) := fun _ => Nat.one_pos
theorem coreQuiescePoint (o : OpCore) : Statement (.coreQuiescePoint o) := fun _ => Nat.one_pos
theorem notifyScan (o : OpQueueNo) : Statement (.notifyScan o) := fun _ => Nat.one_pos
theorem notifyNotice (o : OpSlot) : Statement (.notifyNotice o) := fun _ => Nat.one_pos
theorem queueMap : Statement .queueMap := fun _ => Nat.one_pos
theorem queueUnmap (o : OpSlot) : Statement (.queueUnmap o) := fun _ => Nat.one_pos
theorem watchdogExpiry (o : OpSlot) : Statement (.watchdogExpiry o) := fun _ => Nat.one_pos
theorem galleryArbitration (o : OpPort) : Statement (.galleryArbitration o) := fun _ => Nat.one_pos
theorem galarbApply (o : OpPort) : Statement (.galarbApply o) := fun _ => Nat.one_pos
theorem powerSample (o : OpPowerSample) : Statement (.powerSample o) := fun _ => Nat.one_pos
theorem thermalTrip : Statement .thermalTrip := fun _ => Nat.one_pos
theorem timeMessageSend : Statement .timeMessageSend := fun _ => Nat.one_pos
theorem timeMessageReceipt (o : OpNs) : Statement (.timeMessageReceipt o) := fun _ => Nat.one_pos
theorem timeMasterLoss : Statement .timeMasterLoss := fun _ => Nat.one_pos
theorem linkFailure (o : OpLink) : Statement (.linkFailure o) := fun _ => Nat.one_pos
theorem ehrezPacketReceipt (o : OpEhrez) : Statement (.ehrezPacketReceipt o) := fun _ => Nat.one_pos
theorem ehrezWrite (o : OpConn) : Statement (.ehrezWrite o) := fun _ => Nat.one_pos
theorem ehrezReadRequest (o : OpConn) : Statement (.ehrezReadRequest o) := fun _ => Nat.one_pos
theorem ehrezReadResponse (o : OpConn) : Statement (.ehrezReadResponse o) := fun _ => Nat.one_pos
theorem ehrezAcknowledgement (o : OpConn) : Statement (.ehrezAcknowledgement o) := fun _ => Nat.one_pos
theorem ehrezRetransmit (o : OpConn) : Statement (.ehrezRetransmit o) := fun _ => Nat.one_pos
theorem powerOn : Statement .powerOn := fun _ => Nat.one_pos
theorem bootRequest : Statement .bootRequest := fun _ => Nat.one_pos
theorem bootPacket (o : OpBoot) : Statement (.bootPacket o) := fun _ => Nat.one_pos
theorem identity : Statement .identity := fun _ => Nat.one_pos
theorem attestation (o : OpNonce) : Statement (.attestation o) := fun _ => Nat.one_pos
theorem setPackageNumber (o : OpNumber) : Statement (.setPackageNumber o) := fun _ => Nat.one_pos
theorem setPillarPhase (o : OpPhase) : Statement (.setPillarPhase o) := fun _ => Nat.one_pos
theorem setGtime (o : OpNs) : Statement (.setGtime o) := fun _ => Nat.one_pos
theorem setTimeMaster (o : OpNumber) : Statement (.setTimeMaster o) := fun _ => Nat.one_pos
theorem setQueueTableBase (o : OpBase) : Statement (.setQueueTableBase o) := fun _ => Nat.one_pos
theorem configureFaultRing (o : OpRing) : Statement (.configureFaultRing o) := fun _ => Nat.one_pos
theorem configureTraceRing (o : OpTraceRing) : Statement (.configureTraceRing o) := fun _ => Nat.one_pos
theorem configureErrorLog (o : OpRing) : Statement (.configureErrorLog o) := fun _ => Nat.one_pos
theorem writeGalarb (o : OpNumber) : Statement (.writeGalarb o) := fun _ => Nat.one_pos
theorem readWdt (o : OpSlot) : Statement (.readWdt o) := fun _ => Nat.one_pos
theorem readGestat (o : OpEngine) : Statement (.readGestat o) := fun _ => Nat.one_pos
theorem readEnergyCounter : Statement .readEnergyCounter := fun _ => Nat.one_pos
theorem readCutwork (o : OpPillar) : Statement (.readCutwork o) := fun _ => Nat.one_pos
theorem gangChange (o : OpGang) : Statement (.gangChange o) := fun _ => Nat.one_pos
theorem golpinLoadKernel (o : OpKernel) : Statement (.golpinLoadKernel o) := fun _ => Nat.one_pos
theorem golpinUnloadKernel (o : OpKernelSlot) : Statement (.golpinUnloadKernel o) := fun _ => Nat.one_pos
theorem golpinWriteFlowEntry (o : OpFlow) : Statement (.golpinWriteFlowEntry o) := fun _ => Nat.one_pos
theorem golpinSetEmitRange (o : OpEmitRange) : Statement (.golpinSetEmitRange o) := fun _ => Nat.one_pos
theorem golpinSetEventArea (o : OpEventArea) : Statement (.golpinSetEventArea o) := fun _ => Nat.one_pos
theorem closeReductionRecord (o : OpRecord) : Statement (.closeReductionRecord o) := fun _ => Nat.one_pos
theorem openConnection (o : OpOpen) : Statement (.openConnection o) := fun _ => Nat.one_pos
theorem closeConnection (o : OpConn) : Statement (.closeConnection o) := fun _ => Nat.one_pos
theorem partitionControl (o : OpPartition) : Statement (.partitionControl o) := fun _ => Nat.one_pos
theorem queueEnable (o : OpQueueNo) : Statement (.queueEnable o) := fun _ => Nat.one_pos
theorem queueDisable (o : OpQueueNo) : Statement (.queueDisable o) := fun _ => Nat.one_pos
theorem setRoot (o : OpRoot) : Statement (.setRoot o) := fun _ => Nat.one_pos
theorem setTrapRouting (o : OpRouting) : Statement (.setTrapRouting o) := fun _ => Nat.one_pos
theorem installOwnerKeys (o : OpKeys) : Statement (.installOwnerKeys o) := fun _ => Nat.one_pos
theorem setPowerGrant (o : OpGrant) : Statement (.setPowerGrant o) := fun _ => Nat.one_pos
theorem gateCore (o : OpCore) : Statement (.gateCore o) := fun _ => Nat.one_pos
theorem ungateCore (o : OpCore) : Statement (.ungateCore o) := fun _ => Nat.one_pos
theorem partitionDrainSave (o : OpPart) : Statement (.partitionDrainSave o) := fun _ => Nat.one_pos
theorem partitionDrainEnd (o : OpPart) : Statement (.partitionDrainEnd o) := fun _ => Nat.one_pos
theorem partitionReset (o : OpPart) : Statement (.partitionReset o) := fun _ => Nat.one_pos
theorem contextRepair (o : OpRepair) : Statement (.contextRepair o) := fun _ => Nat.one_pos
theorem contextExport (o : OpTask) : Statement (.contextExport o) := fun _ => Nat.one_pos
theorem contextImport (o : OpImport) : Statement (.contextImport o) := fun _ => Nat.one_pos
theorem taskResume (o : OpTask) : Statement (.taskResume o) := fun _ => Nat.one_pos
theorem taskEnd (o : OpTask) : Statement (.taskEnd o) := fun _ => Nat.one_pos
theorem timeClockEdge : Statement .timeClockEdge := fun _ => Nat.one_pos
theorem homeL2Grant (o : OpPillar) : Statement (.homeL2Grant o) := fun _ => Nat.one_pos

end Laws.Fits

end Sys2Proof
end

