-- ==== Sys2Proof/Tests/Slice0.lean ====
section
/-! SUPPORT. Tests: well-formedness refuses what an encoding does not admit; the manual's worked words decode; one step of some
instructions gives what the manual's rules give by hand; and, for every statement with hypotheses, a state and operands that meet them. -/

open Sys2Proof Sys2Proof.Machine

namespace Sys2Proof.Tests

set_option maxRecDepth 100000
-- One test at a time: each waits for the kernel, and many waiting at once take a thread and its stack each.
set_option Elab.async false

/-! Well-formedness -/

/-- The check admits `top`, every field at its largest value, and refuses each of `bad`, one field of which is one beyond it. -/
def admits {α : Type} (check : α → Bool) (top : α) (bad : List α) : Bool := check top && bad.all (fun o => !check o)

theorem test_ranges_scalar : (
    admits OpLoad.inRange ⟨false, 31, 31, 4095⟩ [⟨false, 32, 0, 0⟩, ⟨false, 0, 32, 0⟩, ⟨false, 0, 0, 4096⟩] &&
    admits OpStore.inRange ⟨false, 31, 31, 4095⟩ [⟨false, 32, 0, 0⟩, ⟨false, 0, 32, 0⟩, ⟨false, 0, 0, 4096⟩] &&
    admits OpLoadFe.inRange ⟨15, 31, 31, 4095⟩ [⟨16, 0, 0, 0⟩, ⟨0, 32, 0, 0⟩, ⟨0, 0, 32, 0⟩, ⟨0, 0, 0, 4096⟩] &&
    admits OpStoreFill.inRange ⟨7, 31, 31, 4095⟩ [⟨8, 0, 0, 0⟩, ⟨0, 32, 0, 0⟩, ⟨0, 0, 32, 0⟩, ⟨0, 0, 0, 4096⟩] &&
    admits OpI.inRange ⟨31, 31, 32767⟩ [⟨32, 0, 0⟩, ⟨0, 32, 0⟩, ⟨0, 0, 32768⟩] &&
    admits OpJ.inRange ⟨31, 1048575⟩ [⟨32, 0⟩, ⟨0, 1048576⟩] &&
    admits OpShift.inRange ⟨31, 31, 63⟩ [⟨32, 0, 0⟩, ⟨0, 32, 0⟩, ⟨0, 0, 64⟩] &&
    admits OpImm12.inRange ⟨31, 31, 4095⟩ [⟨32, 0, 0⟩, ⟨0, 32, 0⟩, ⟨0, 0, 4096⟩] &&
    admits OpRRR.inRange ⟨31, 31, 31⟩ [⟨32, 0, 0⟩, ⟨0, 32, 0⟩, ⟨0, 0, 32⟩] &&
    admits OpRR.inRange ⟨31, 31⟩ [⟨32, 0⟩, ⟨0, 32⟩] &&
    admits OpBranch.inRange ⟨31, 31, 32767⟩ [⟨32, 0, 0⟩, ⟨0, 32, 0⟩, ⟨0, 0, 32768⟩] &&
    admits OpFloat3.inRange ⟨31, 31, 31, 3, 7⟩ [⟨32, 0, 0, 0, 0⟩, ⟨0, 32, 0, 0, 0⟩, ⟨0, 0, 32, 0, 0⟩, ⟨0, 0, 0, 4, 0⟩, ⟨0, 0, 0, 0, 8⟩] &&
    admits OpFloat2.inRange ⟨31, 31, 3, 7⟩ [⟨32, 0, 0, 0⟩, ⟨0, 32, 0, 0⟩, ⟨0, 0, 4, 0⟩, ⟨0, 0, 0, 8⟩] &&
    admits OpFloat3n.inRange ⟨31, 31, 31, 3⟩ [⟨32, 0, 0, 0⟩, ⟨0, 32, 0, 0⟩, ⟨0, 0, 32, 0⟩, ⟨0, 0, 0, 4⟩] &&
    admits OpFloat2n.inRange ⟨31, 31, 3⟩ [⟨32, 0, 0⟩, ⟨0, 32, 0⟩, ⟨0, 0, 4⟩] &&
    admits OpFloatCvt.inRange ⟨31, 31, 3, 3, 7⟩ [⟨32, 0, 0, 0, 0⟩, ⟨0, 32, 0, 0, 0⟩, ⟨0, 0, 4, 0, 0⟩, ⟨0, 0, 0, 4, 0⟩, ⟨0, 0, 0, 0, 8⟩] &&
    admits OpFmadd.inRange ⟨31, 31, 31, 31, 3, 7⟩ [⟨32, 0, 0, 0, 0, 0⟩, ⟨0, 32, 0, 0, 0, 0⟩, ⟨0, 0, 32, 0, 0, 0⟩, ⟨0, 0, 0, 32, 0, 0⟩, ⟨0, 0, 0, 0, 4, 0⟩, ⟨0, 0, 0, 0, 0, 8⟩] &&
    admits OpAmo.inRange ⟨31, 31, 31, 3, 1, 7⟩ [⟨32, 0, 0, 0, 0, 0⟩, ⟨0, 32, 0, 0, 0, 0⟩, ⟨0, 0, 32, 0, 0, 0⟩, ⟨0, 0, 0, 4, 0, 0⟩, ⟨0, 0, 0, 0, 2, 0⟩, ⟨0, 0, 0, 0, 0, 8⟩] &&
    admits OpCas2.inRange ⟨31, 31, 31, 3, 7⟩ [⟨32, 0, 0, 0, 0⟩, ⟨0, 32, 0, 0, 0⟩, ⟨0, 0, 32, 0, 0⟩, ⟨0, 0, 0, 4, 0⟩, ⟨0, 0, 0, 0, 8⟩] &&
    admits OpMfs.inRange ⟨31, 4095⟩ [⟨32, 0⟩, ⟨0, 4096⟩] &&
    admits OpMts.inRange ⟨31, 4095⟩ [⟨32, 0⟩, ⟨0, 4096⟩] &&
    admits OpImm10.inRange ⟨1023⟩ [⟨1024⟩] &&
    admits OpAB.inRange ⟨31, 31⟩ [⟨32, 0⟩, ⟨0, 32⟩] &&
    admits OpB.inRange ⟨31⟩ [⟨32⟩] &&
    admits OpA.inRange ⟨31⟩ [⟨32⟩] &&
    admits OpQput.inRange ⟨7, 31⟩ [⟨8, 0⟩, ⟨0, 32⟩] &&
    admits OpQget.inRange ⟨31, 7⟩ [⟨32, 0⟩, ⟨0, 8⟩] &&
    admits OpHint.inRange ⟨33554431⟩ [⟨33554432⟩]) = true := by decide

theorem test_ranges_compressed : (
    admits OpCM.inRange ⟨7, 7, 31⟩ [⟨8, 0, 0⟩, ⟨0, 8, 0⟩, ⟨0, 0, 32⟩] &&
    admits OpCI.inRange ⟨31, 63⟩ [⟨32, 0⟩, ⟨0, 64⟩] &&
    admits OpCJ.inRange ⟨2047⟩ [⟨2048⟩] &&
    admits OpCB.inRange ⟨7, 255⟩ [⟨8, 0⟩, ⟨0, 256⟩] &&
    admits OpCR.inRange ⟨31, 31⟩ [⟨32, 0⟩, ⟨0, 32⟩] &&
    admits OpC1.inRange ⟨31⟩ [⟨32⟩]) = true := by decide

theorem test_ranges_vector : (
    admits OpVsetl.inRange ⟨31, 31, 3⟩ [⟨32, 0, 0⟩, ⟨0, 32, 0⟩, ⟨0, 0, 4⟩] &&
    admits OpVcfg.inRange ⟨31, 3, 3⟩ [⟨32, 0, 0⟩, ⟨0, 4, 0⟩, ⟨0, 0, 4⟩] &&
    admits OpV.inRange ⟨none, 3, 7, 31, 31, 31⟩ [⟨none, 4, 0, 0, 0, 0⟩, ⟨none, 0, 8, 0, 0, 0⟩, ⟨none, 0, 0, 32, 0, 0⟩, ⟨none, 0, 0, 0, 32, 0⟩, ⟨none, 0, 0, 0, 0, 32⟩] &&
    admits OpVun.inRange ⟨none, 7, 31, 31⟩ [⟨none, 8, 0, 0⟩, ⟨none, 0, 32, 0⟩, ⟨none, 0, 0, 32⟩] &&
    admits OpVcvt.inRange ⟨none, 15, 7, 15, 31, 31⟩ [⟨none, 16, 0, 0, 0, 0⟩, ⟨none, 0, 8, 0, 0, 0⟩, ⟨none, 0, 0, 16, 0, 0⟩, ⟨none, 0, 0, 0, 32, 0⟩, ⟨none, 0, 0, 0, 0, 32⟩] &&
    admits OpVcvtRs.inRange ⟨.default, 15, 3, 7, 31, 31, 31⟩ [⟨.default, 16, 0, 0, 0, 0, 0⟩, ⟨.default, 0, 4, 0, 0, 0, 0⟩, ⟨.default, 0, 0, 8, 0, 0, 0⟩, ⟨.default, 0, 0, 0, 32, 0, 0⟩, ⟨.default, 0, 0, 0, 0, 32, 0⟩, ⟨.default, 0, 0, 0, 0, 0, 32⟩] &&
    admits OpVcmp.inRange ⟨none, 3, 7, 31, 31, 7⟩ [⟨none, 4, 0, 0, 0, 0⟩, ⟨none, 0, 8, 0, 0, 0⟩, ⟨none, 0, 0, 32, 0, 0⟩, ⟨none, 0, 0, 0, 32, 0⟩, ⟨none, 0, 0, 0, 0, 8⟩] &&
    admits OpVqget.inRange ⟨none, 7, 7, 31⟩ [⟨none, 8, 0, 0⟩, ⟨none, 0, 8, 0⟩, ⟨none, 0, 0, 32⟩] &&
    admits OpVqput.inRange ⟨none, 3, 31, 31, 7⟩ [⟨none, 4, 0, 0, 0⟩, ⟨none, 0, 32, 0, 0⟩, ⟨none, 0, 0, 32, 0⟩, ⟨none, 0, 0, 0, 8⟩] &&
    admits OpKlogic.inRange ⟨none, 7, 15, 15, 15⟩ [⟨none, 8, 0, 0, 0⟩, ⟨none, 0, 16, 0, 0⟩, ⟨none, 0, 0, 16, 0⟩, ⟨none, 0, 0, 0, 16⟩] &&
    admits OpKcount.inRange ⟨none, 7, 15, 31⟩ [⟨none, 8, 0, 0⟩, ⟨none, 0, 16, 0⟩, ⟨none, 0, 0, 32⟩] &&
    admits OpVcompact.inRange ⟨none, 7, 31, 31⟩ [⟨none, 8, 0, 0⟩, ⟨none, 0, 32, 0⟩, ⟨none, 0, 0, 32⟩] &&
    admits OpVbd.inRange ⟨none, 3, 7, 31, 31⟩ [⟨none, 4, 0, 0, 0⟩, ⟨none, 0, 8, 0, 0⟩, ⟨none, 0, 0, 32, 0⟩, ⟨none, 0, 0, 0, 32⟩] &&
    admits OpVad.inRange ⟨none, 3, 7, 31, 31⟩ [⟨none, 4, 0, 0, 0⟩, ⟨none, 0, 8, 0, 0⟩, ⟨none, 0, 0, 32, 0⟩, ⟨none, 0, 0, 0, 32⟩] &&
    admits OpVget.inRange ⟨none, 3, 31, 31, 31⟩ [⟨none, 4, 0, 0, 0⟩, ⟨none, 0, 32, 0, 0⟩, ⟨none, 0, 0, 32, 0⟩, ⟨none, 0, 0, 0, 32⟩] &&
    admits OpVrand.inRange ⟨none, 7, 31, 31, 31⟩ [⟨none, 8, 0, 0, 0⟩, ⟨none, 0, 32, 0, 0⟩, ⟨none, 0, 0, 32, 0⟩, ⟨none, 0, 0, 0, 32⟩] &&
    admits OpVmem.inRange ⟨none, 7, 31, 31, 31⟩ [⟨none, 8, 0, 0, 0⟩, ⟨none, 0, 32, 0, 0⟩, ⟨none, 0, 0, 32, 0⟩, ⟨none, 0, 0, 0, 32⟩] &&
    admits OpVmemX.inRange ⟨none, 3, 7, 31, 31, 31⟩ [⟨none, 4, 0, 0, 0, 0⟩, ⟨none, 0, 8, 0, 0, 0⟩, ⟨none, 0, 0, 32, 0, 0⟩, ⟨none, 0, 0, 0, 32, 0⟩, ⟨none, 0, 0, 0, 0, 32⟩] &&
    admits OpVmem1.inRange ⟨none, 7, 31, 31⟩ [⟨none, 8, 0, 0⟩, ⟨none, 0, 32, 0⟩, ⟨none, 0, 0, 32⟩] &&
    admits OpVmemFe.inRange ⟨.default, false, 3, 7, 31, 31, 31⟩ [⟨.default, false, 4, 0, 0, 0, 0⟩, ⟨.default, false, 0, 8, 0, 0, 0⟩, ⟨.default, false, 0, 0, 32, 0, 0⟩, ⟨.default, false, 0, 0, 0, 32, 0⟩, ⟨.default, false, 0, 0, 0, 0, 32⟩] &&
    admits OpBarArr.inRange ⟨none, 31, 7⟩ [⟨none, 32, 0⟩, ⟨none, 0, 8⟩] &&
    admits OpBarWait.inRange ⟨none, 31, 7⟩ [⟨none, 32, 0⟩, ⟨none, 0, 8⟩]) = true := by decide

theorem test_ranges_streams : (
    admits OpTlwait.inRange ⟨31, 15, 31⟩ [⟨32, 0, 0⟩, ⟨0, 16, 0⟩, ⟨0, 0, 32⟩] &&
    admits OpTlread.inRange ⟨31, 15⟩ [⟨32, 0⟩, ⟨0, 16⟩] &&
    admits OpTladv.inRange ⟨15, 31⟩ [⟨16, 0⟩, ⟨0, 32⟩] &&
    admits OpBob.inRange ⟨7⟩ [⟨8⟩] &&
    admits OpCpystat.inRange ⟨31, 7⟩ [⟨32, 0⟩, ⟨0, 8⟩] &&
    admits OpXa.inRange ⟨31⟩ [⟨32⟩] &&
    admits OpMld.inRange ⟨511, 31, 31⟩ [⟨512, 0, 0⟩, ⟨0, 32, 0⟩, ⟨0, 0, 32⟩] &&
    admits OpMst.inRange ⟨511, false, 31, 31⟩ [⟨512, false, 0, 0⟩, ⟨0, false, 32, 0⟩, ⟨0, false, 0, 32⟩] &&
    admits OpTd.inRange ⟨511⟩ [⟨512⟩] &&
    admits OpTa.inRange ⟨511⟩ [⟨512⟩] &&
    admits OpMma.inRange ⟨511, 511, 511, false, false⟩ [⟨512, 0, 0, false, false⟩, ⟨0, 512, 0, false, false⟩, ⟨0, 0, 512, false, false⟩] &&
    admits OpMmag.inRange ⟨511, 63, 511, false, 31⟩ [⟨512, 0, 0, false, 0⟩, ⟨0, 64, 0, false, 0⟩, ⟨0, 0, 512, false, 0⟩, ⟨0, 0, 0, false, 32⟩] &&
    admits OpMtov.inRange ⟨63, 511, 31⟩ [⟨64, 0, 0⟩, ⟨0, 512, 0⟩, ⟨0, 0, 32⟩] &&
    admits OpVtom.inRange ⟨511, 63, 31⟩ [⟨512, 0, 0⟩, ⟨0, 64, 0⟩, ⟨0, 0, 32⟩] &&
    admits OpMtrans.inRange ⟨511, 511, false, 31⟩ [⟨512, 0, false, 0⟩, ⟨0, 512, false, 0⟩, ⟨0, 0, false, 32⟩] &&
    admits OpMcvt.inRange ⟨511, 511, 511, false, false, 31⟩ [⟨512, 0, 0, false, false, 0⟩, ⟨0, 512, 0, false, false, 0⟩, ⟨0, 0, 512, false, false, 0⟩, ⟨0, 0, 0, false, false, 32⟩] &&
    admits OpMsend.inRange ⟨511, false, 31⟩ [⟨512, false, 0⟩, ⟨0, false, 32⟩] &&
    admits OpCpy.inRange ⟨7, 31, 31, 31⟩ [⟨8, 0, 0, 0⟩, ⟨0, 32, 0, 0⟩, ⟨0, 0, 32, 0⟩, ⟨0, 0, 0, 32⟩] &&
    admits OpCpyrows.inRange ⟨7, 63, 7, 31, 31, 31⟩ [⟨8, 0, 0, 0, 0, 0⟩, ⟨0, 64, 0, 0, 0, 0⟩, ⟨0, 0, 8, 0, 0, 0⟩, ⟨0, 0, 0, 32, 0, 0⟩, ⟨0, 0, 0, 0, 32, 0⟩, ⟨0, 0, 0, 0, 0, 32⟩] &&
    admits OpCpyv.inRange ⟨7, 63, 31, 31⟩ [⟨8, 0, 0, 0⟩, ⟨0, 64, 0, 0⟩, ⟨0, 0, 32, 0⟩, ⟨0, 0, 0, 32⟩]) = true := by decide

theorem test_ranges_golpin : (
    admits OpG3.inRange ⟨15, 15, 15⟩ [⟨16, 0, 0⟩, ⟨0, 16, 0⟩, ⟨0, 0, 16⟩] &&
    admits OpGi.inRange ⟨15, 15, 262143⟩ [⟨16, 0, 0⟩, ⟨0, 16, 0⟩, ⟨0, 0, 262144⟩] &&
    admits OpGsh.inRange ⟨15, 15, 31⟩ [⟨16, 0, 0⟩, ⟨0, 16, 0⟩, ⟨0, 0, 32⟩] &&
    admits OpGlui.inRange ⟨15, 262143⟩ [⟨16, 0⟩, ⟨0, 262144⟩] &&
    admits OpGb.inRange ⟨15, 15, 1023⟩ [⟨16, 0, 0⟩, ⟨0, 16, 0⟩, ⟨0, 0, 1024⟩] &&
    admits OpGl.inRange ⟨15, 15, 15, 3⟩ [⟨16, 0, 0, 0⟩, ⟨0, 16, 0, 0⟩, ⟨0, 0, 16, 0⟩, ⟨0, 0, 0, 4⟩] &&
    admits OpGcmp.inRange ⟨3, 15, 15, 3⟩ [⟨4, 0, 0, 0⟩, ⟨0, 16, 0, 0⟩, ⟨0, 0, 16, 0⟩, ⟨0, 0, 0, 4⟩] &&
    admits OpJ3.inRange ⟨3, 3, 3⟩ [⟨4, 0, 0⟩, ⟨0, 4, 0⟩, ⟨0, 0, 4⟩] &&
    admits OpJtoh.inRange ⟨15, 3⟩ [⟨16, 0⟩, ⟨0, 4⟩] &&
    admits OpHtoj.inRange ⟨3, 15⟩ [⟨4, 0⟩, ⟨0, 16⟩] &&
    admits OpGbcst.inRange ⟨15, 15, 3⟩ [⟨16, 0, 0⟩, ⟨0, 16, 0⟩, ⟨0, 0, 4⟩] &&
    admits OpGlane.inRange ⟨15, 15, 7⟩ [⟨16, 0, 0⟩, ⟨0, 16, 0⟩, ⟨0, 0, 8⟩] &&
    admits OpPfresh.inRange ⟨3, 15, 262143⟩ [⟨4, 0, 0⟩, ⟨0, 16, 0⟩, ⟨0, 0, 262144⟩] &&
    admits OpLoop.inRange ⟨15, 255, 1023⟩ [⟨16, 0, 0⟩, ⟨0, 256, 0⟩, ⟨0, 0, 1024⟩] &&
    admits OpEmit.inRange ⟨14, 15, 7⟩ [⟨16, 0, 0⟩, ⟨15, 0, 0⟩, ⟨0, 16, 0⟩, ⟨0, 0, 8⟩] &&
    admits OpKtrap.inRange ⟨255⟩ [⟨256⟩]) = true := by decide

/-- R300: rounding fields 100 to 110 and format code 3 are reserved. -/
theorem test_wf_scalar_float : (Instr.fadd ⟨1, 2, 3, 2, 7⟩).wf = true ∧ (Instr.fadd ⟨1, 2, 3, 2, 4⟩).wf = false ∧
    (Instr.fadd ⟨1, 2, 3, 3, 0⟩).wf = false ∧ (Instr.fmadd ⟨1, 2, 3, 4, 3, 0⟩).wf = false ∧ (Instr.fkind ⟨1, 2, 3⟩).wf = false ∧
    (Instr.ftof { d := 1, a := 2, code := 1, fmt := 1, rm := 0 }).wf = false ∧
    (Instr.ftof { d := 1, a := 2, code := 1, fmt := 0, rm := 6 }).wf = false := by decide

/-- R304: the register pairs of CAS2 are even, and its destination is not x0. -/
theorem test_wf_cas2 : (Instr.cas2 { d := 4, a := 1, b := 6, ord := 3, scope := 3 }).wf = true ∧
    (Instr.cas2 { d := 5, a := 1, b := 6, ord := 3, scope := 3 }).wf = false ∧
    (Instr.cas2 { d := 4, a := 1, b := 7, ord := 3, scope := 3 }).wf = false ∧
    (Instr.cas2 { d := 0, a := 1, b := 6, ord := 3, scope := 3 }).wf = false := by decide

/-- R262: HINT 0 is NOP, whose word is its own; R298: kinds above 9 and store minor 4 are unassigned under a .fe prefix. -/
theorem test_wf_scalar_memory : (Instr.hint ⟨0⟩).wf = false ∧ (Instr.hint ⟨1⟩).wf = true ∧
    (Instr.ldFe { kind := 9, d := 1, a := 2, imm := 0 }).wf = true ∧ (Instr.ldFe { kind := 10, d := 1, a := 2, imm := 0 }).wf = false ∧
    (Instr.ldTake { kind := 15, d := 1, a := 2, imm := 0 }).wf = false ∧
    (Instr.stFill { kind := 4, b := 1, a := 2, imm := 0 }).wf = false := by decide

/-- R268: the compressed forms whose destination x0, source x0 or immediate 0 is reserved. -/
theorem test_wf_compressed : (∀ i ∈ [Instr.cLdI64 ⟨0, 0, 0⟩, .cAddi ⟨0, 5⟩, .cLi ⟨0, 5⟩, .cLui ⟨0, 5⟩, .cLui ⟨5, 0⟩, .cSlli ⟨0, 5⟩,
      .cAndi ⟨0, 5⟩, .cMv ⟨0, 5⟩, .cMv ⟨5, 0⟩, .cAdd ⟨0, 5⟩, .cAdd ⟨5, 0⟩, .cJr ⟨0⟩, .cJalr ⟨0⟩, .cSub ⟨0, 5⟩, .cAnd ⟨0, 5⟩,
      .cOr ⟨0, 5⟩, .cXor ⟨0, 5⟩], i.wf = false) ∧
    (∀ i ∈ [Instr.cLdI64 ⟨0, 0, 1⟩, .cAddi ⟨1, 0⟩, .cMv ⟨1, 1⟩, .cSub ⟨1, 0⟩], i.wf = true) := by decide

/-- R265, R319: a prefix field that the instruction does not admit holds its default. -/
theorem test_wf_prefix : (Instr.vadd { p := some { Modifier.default with dh := 1, ah := 1, bh := 1 }, ok := 0, k := 7, b := 1, a := 2, d := 3 }).wf = true ∧
    (∀ m ∈ [{ Modifier.default with rm := 0 }, { Modifier.default with sat := 1 }, { Modifier.default with scope := 1 },
        { Modifier.default with ord := 1 }, { Modifier.default with o := 1 }, { Modifier.default with p := 1 },
        { Modifier.default with fe := 1 }],
      (Instr.vadd { p := some m, ok := 0, k := 0, b := 1, a := 2, d := 3 }).wf = false) ∧
    (Instr.vadd { p := some { Modifier.default with bh := 1 }, ok := 1, k := 0, b := 1, a := 2, d := 3 }).wf = false ∧
    (Instr.vfadd { p := some { Modifier.default with rm := 4 }, ok := 0, k := 0, b := 1, a := 2, d := 3 }).wf = false ∧
    (Instr.vfadd { p := some { Modifier.default with rm := 3 }, ok := 0, k := 0, b := 1, a := 2, d := 3 }).wf = true := by decide

/-- R319: the operand kinds that each vector instruction admits. -/
theorem test_wf_kinds : (∀ i ∈ [Instr.vadd ⟨none, 3, 0, 1, 2, 3⟩, .vfadd ⟨none, 2, 0, 1, 2, 3⟩, .vcmpeq ⟨none, 3, 0, 1, 2, 3⟩,
      .vfcmpeq ⟨none, 1, 0, 1, 2, 3⟩, .vshup ⟨none, 0, 0, 1, 2, 3⟩, .vpick ⟨none, 2, 0, 1, 2, 3⟩, .vfoldadd ⟨none, 0, 0, 1, 2, 3⟩,
      .vscan ⟨none, 2, 0, 1, 2, 3⟩, .vramp ⟨none, 0, 0, 1, 2⟩, .vredmaxi ⟨none, 0, 0, 1, 2⟩, .vgetx ⟨none, 3, 1, 2, 3⟩,
      .vqput ⟨none, 0, 1, 2, 3⟩], i.wf = false) ∧
    (∀ i ∈ [Instr.vadd ⟨none, 2, 0, 1, 2, 3⟩, .vfadd ⟨none, 3, 0, 1, 2, 3⟩, .vcmpeq ⟨none, 2, 0, 1, 2, 3⟩, .vfoldadd ⟨none, 3, 0, 1, 2, 3⟩,
      .vassign ⟨none, 3, 0, 1, 2⟩, .vgetx ⟨none, 2, 1, 2, 3⟩], i.wf = true) := by decide

/-- R328 to R331: the pairs of formats of the conversions, and the destinations of stochastic rounding; R345: the register pair of
VRAND; R333: mask code 8 is ksel, and 9 to 15 are unassigned. -/
theorem test_wf_vector : (Instr.vfcvt ⟨none, 11, 0, 12, 2, 3⟩).wf = true ∧
    (∀ i ∈ [Instr.vfcvt ⟨none, 15, 0, 12, 2, 3⟩, .vfcvt ⟨none, 12, 0, 15, 2, 3⟩, .vfcvt ⟨none, 12, 0, 12, 2, 3⟩, .vfcvt ⟨none, 1, 0, 2, 2, 3⟩,
      .vfcvt ⟨none, 14, 0, 10, 2, 3⟩, .vfcvt ⟨none, 10, 0, 14, 2, 3⟩,
      .vfcvt ⟨some { Modifier.default with sat := 1 }, 12, 0, 13, 2, 3⟩,
      .vfcvtRs ⟨{ Modifier.default with rm := 4 }, 10, 2, 0, 1, 2, 3⟩, .vfcvtRs ⟨{ Modifier.default with rm := 4 }, 8, 1, 0, 1, 2, 3⟩,
      .vfcvtRs ⟨{ Modifier.default with rm := 3 }, 8, 2, 0, 1, 2, 3⟩, .vfcvtRs ⟨{ Modifier.default with rm := 4, scope := 1 }, 8, 2, 0, 1, 2, 3⟩,
      .vrand ⟨none, 0, 3, 1, 2⟩, .kand ⟨none, 0, 9, 1, 2⟩, .kand ⟨none, 0, 1, 9, 2⟩, .kand ⟨none, 0, 1, 2, 9⟩, .kcount ⟨none, 0, 9, 2⟩],
      i.wf = false) ∧
    (Instr.vfcvtRs ⟨{ Modifier.default with rm := 4, sat := 1 }, 9, 3, 0, 1, 2, 3⟩).wf = true ∧ (Instr.kand ⟨none, 0, 8, 8, 8⟩).wf = true := by
  decide

/-- R349, R360: the qualifiers of vector memory accesses; R386: the third operand of CPY names four registers from a multiple of 4. -/
theorem test_wf_memory : (Instr.vld ⟨some { Modifier.default with o := 1, p := 1, dh := 1 }, 0, 1, 2, 3⟩).wf = true ∧
    (∀ i ∈ [Instr.vld ⟨some { Modifier.default with bh := 1 }, 0, 1, 2, 3⟩, .vlda ⟨some { Modifier.default with p := 1 }, 0, 0, 1, 2, 3⟩,
      .vld ⟨some { Modifier.default with scope := 1 }, 0, 1, 2, 3⟩, .vamoAdd ⟨some { Modifier.default with p := 1 }, 0, 0, 1, 2, 3⟩,
      .vldFe ⟨{ Modifier.default with fe := 2 }, false, 0, 0, 1, 2, 3⟩, .vldTake ⟨{ Modifier.default with fe := 1 }, false, 0, 0, 1, 2, 3⟩,
      .vstFill ⟨{ Modifier.default with fe := 0 }, false, 0, 0, 1, 2, 3⟩, .vstFill ⟨{ Modifier.default with fe := 3 }, false, 1, 0, 1, 2, 3⟩,
      .barArr ⟨some { Modifier.default with ord := 1 }, 1, 2⟩, .cpy ⟨1, 2, 3, 6⟩, .cpy ⟨1, 2, 3, 0⟩], i.wf = false) ∧
    (Instr.cpy ⟨1, 2, 3, 4⟩).wf = true := by decide

/-! Decoding: the words that the manual works out by hand (R254 to R276 and the encoding tables) -/

theorem test_decode_integer : decodeYeles 0x00C80297 = .ok (.addi { d := 5, a := 0, imm := 100 }) := by rfl
theorem test_decode_muldiv : decodeYeles 0x0518B52B = .ok (.div { d := 10, a := 11, b := 12 }) := by rfl
theorem test_decode_compressed : decodeYeles 0x3E99 = .ok (.cLi { d := 6, imm := 61 }) := by rfl
theorem test_decode_store : decodeYeles 0x00CA140B = .ok (.stN64 { long := false, b := 5, a := 1, imm := 8 }) := by rfl
theorem test_decode_branch : decodeYeles 0xFFCC5AAF = .ok (.beq { a := 5, b := 6, off := 0x7FF5 }) := by rfl
theorem test_decode_float : decodeYeles 0x200620CB = .ok (.fmadd { d := 1, a := 2, b := 3, c := 4, fmt := 0, rm := 0 }) := by rfl
theorem test_decode_atomic : decodeYeles 0xE2CE62CF = .ok (.amoAdd { d := 5, a := 6, b := 7, ord := 3, w := 1, scope := 3 }) := by rfl
theorem test_decode_status : decodeYeles 0x004002D3 = .ok (.mfs { d := 5, n := 0x20 }) := by rfl
theorem test_decode_fence : decodeYeles 0x00C00057 = .ok .fenceAll := by rfl
theorem test_decode_vector : decodeYeles 0xCE444463 = .ok (.vfma { p := none, ok := 3, k := 1, b := 2, a := 4, d := 8 }) := by rfl
theorem test_decode_mask : decodeYeles 0x22C02367 = .ok (.kffs { p := none, k := 3, a := 2, d := 6 }) := by rfl
theorem test_decode_vector_memory : decodeYeles 0x0C5051EB =
    .ok (.vldx { p := none, iw := 2, k := 1, b := 8, a := 5, d := 3 }) := by rfl
theorem test_decode_config : decodeYeles 0x0004A2DB = .ok (.vsetl { d := 5, a := 10, sew := 2 }) := by rfl
theorem test_decode_tile : decodeYeles 0x00000010040648FF =
    .ok (.mma { td := 3, ta := 1, tb := 2, la := true, lb := false }) := by rfl
theorem test_decode_bobbin : decodeYeles 0x1B16A000000020FF = .ok (.cpy { bb := 3, xa := 10, xb := 11, xc := 12 }) := by rfl
theorem test_decode_timeline : decodeYeles 0x004C92F3 = .ok (.tlwaitMem { d := 5, a := 9, b := 6 }) := by rfl
theorem test_decode_golpin_memory : decodeGolpin 0x60400020 = .ok (.pld { d := 1, a := 0, imm := 0x20 }) := by rfl
theorem test_decode_golpin_lanes : decodeGolpin 0x40886900 = .ok (.lfaddVv { d := 2, a := 2, b := 1, jm := 1 }) := by rfl
theorem test_decode_golpin_control : decodeGolpin 0x84C20008 = .ok (.golpinLoop { a := 3, max := 8, len := 8 }) := by rfl

/-- R259, R261: a bit that the instruction does not use, and an unassigned selector, are refused. -/
theorem test_decode_refuses : (decodeYeles 0x80C00057).toBool = false ∧ (decodeYeles 0x0000).toBool = false ∧
    (decodeGolpin 0x90000001).toBool = false := by decide

/-- R276: `addi x5, x0, 100` as the first instruction of the machine. -/
theorem test_step_addi : (match step (State.reset.withFetchWord 32 0x00C80297) with
    | .next t => some (t.cur.rx 5, t.cur.pc)
    | _ => none) = some (100, 0x1004) := by decide

/-- A Golpin word as the first instruction: engine 0 runs it. -/
theorem test_step_golpin : (match step (State.reset.withFetchWord 32 0x08800040) with
    | .next t => some ((t.engine 0).rh 2, (t.engine 0).pc)
    | _ => none) = some (0x40, 1) := by decide

/-! One step of some instructions -/

/-- Thread 0 of core 0 holds a task of owner 0, with a handler; x5 is the scratchpad window's base, and x9 its last 8 bytes. -/
def task : Thread := { Thread.reset with
  slot := .placed, pc := 0x1000, tvec := 0x2000
  x := [(1, 0x8000000000000000), (2, 0xFFFFFFFFFFFFFFFF), (5, 0x00FFFF0000000000), (6, 7), (7, 0x1008), (8, 3), (9, 0x00FFFF00003FFFF8)]
  f := [(1, 0x3F800000), (2, 0x40000000), (3, 0x7FC00000)] }

/-- Every code is routed to the handler; the first 64 bytes of the scratchpad hold 0x80 to 0x83 in four bytes, and its first granule
is full. Accesses perform in place. -/
def demo : State := { State.reset with
  travel := false, threads := [(0, task)], owners := [(0, { Owner.reset with routing := 0 })]
  spad := [(0, 0x80), (1, 0x81), (2, 0x82), (3, 0x83)], spadOwner := [(0, 0)], spadFull := [0] }

/-- What `f` reads of the next state, where there is one. -/
def after {α : Type} (i : Instr) (s : State) (f : State → α) : Option α :=
  match exec i s with
  | .next t => some (f t)
  | _ => none

/-- X[n] after `i`. -/
def x (n : Nat) (i : Instr) : Option Word := after i demo (fun t => t.cur.rx n)

/-- F[n] after `i`. -/
def f (n : Nat) (i : Instr) : Option Word := after i demo (fun t => t.cur.rf n)

theorem test_add_wraps : x 3 (.add ⟨3, 2, 6⟩) = some 6 := by decide
theorem test_sub_source_is_destination : x 6 (.sub ⟨6, 6, 2⟩) = some 8 := by decide
theorem test_x0_is_zero : x 0 (.addi ⟨0, 6, 1⟩) = some 0 := by decide
theorem test_lui_extends : x 3 (.lui ⟨3, 0x80000⟩) = some 0xFFFFFFFF80000000 := by decide
theorem test_addpc : x 3 (.addpc ⟨3, 2⟩) = some 0x3000 := by decide
theorem test_andi_extends : x 3 (.andi ⟨3, 2, 0xFFF⟩) = some 0xFFFFFFFFFFFFFFFF := by decide
theorem test_setltiu_extends : x 3 (.setltiu ⟨3, 6, 0xFFF⟩) = some 1 := by decide
theorem test_setlti_signed : x 3 (.setlti ⟨3, 6, 0xFFF⟩) = some 0 := by decide
theorem test_sll_modulo : x 3 (.sll ⟨3, 8, 7⟩) = some 0x300 := by decide
theorem test_sra_sign : x 3 (.srai ⟨3, 1, 63⟩) = some 0xFFFFFFFFFFFFFFFF := by decide
theorem test_ixadd3 : x 3 (.ixadd3 ⟨3, 6, 8⟩) = some 59 := by decide
theorem test_mulhi_signed : x 3 (.mulhi ⟨3, 2, 2⟩) = some 0 := by decide
theorem test_mulhiu : x 3 (.mulhiu ⟨3, 2, 2⟩) = some 0xFFFFFFFFFFFFFFFE := by decide
theorem test_mulhmix : x 3 (.mulhmix ⟨3, 2, 6⟩) = some 0xFFFFFFFFFFFFFFFF := by decide
theorem test_div_by_zero : x 3 (.div ⟨3, 6, 0⟩) = some 0xFFFFFFFFFFFFFFFF := by decide
theorem test_div_overflow : x 3 (.div ⟨3, 1, 2⟩) = some 0x8000000000000000 := by decide
theorem test_rem_by_zero : x 3 (.remu ⟨3, 6, 0⟩) = some 7 := by decide
theorem test_rem_overflow : x 3 (.rem ⟨3, 1, 2⟩) = some 0 := by decide
theorem test_zlead_zero : x 3 (.zlead ⟨3, 0⟩) = some 64 := by decide
theorem test_ztrail : x 3 (.ztrail ⟨3, 1⟩) = some 63 := by decide
theorem test_ones : x 3 (.ones ⟨3, 6⟩) = some 3 := by decide
theorem test_caddi_negative : x 6 (.cAddi ⟨6, 0x3F⟩) = some 6 := by decide
theorem test_cjalr_link : after (.cJalr ⟨7⟩) demo (fun t => (t.cur.pc, t.cur.rx 31)) = some (0x1008, 0x1002) := by decide
theorem test_jalr_own_link : after (.jalr ⟨7, 7, 8⟩) demo (fun t => (t.cur.pc, t.cur.rx 7)) = some (0x1010, 0x1004) := by decide
/-- R295: an odd target traps with TVAL the target and writes no link. -/
theorem test_jalr_odd : after (.jalr ⟨3, 6, 0⟩) demo (fun t => (t.cur.pc, t.cur.tcode, t.cur.tval, t.cur.tepc, t.cur.rx 3)) =
    some (0x2000, 4, 7, 0x1000, 0) := by decide
theorem test_jal_back : after (.jal ⟨0, 0xFFFFE⟩) demo (fun t => t.cur.pc) = some 0xFFC := by decide
theorem test_blt_signed : after (.blt ⟨2, 6, 0x10⟩) demo (fun t => t.cur.pc) = some 0x1020 := by decide
theorem test_bltu_unsigned : after (.bltu ⟨2, 6, 0x10⟩) demo (fun t => t.cur.pc) = some 0x1004 := by decide

/-- 1 + 2 = 3 in f32 (0x3F800000 + 0x40000000 = 0x40400000). -/
theorem test_fadd : f 4 (.fadd ⟨4, 1, 2, 0, 7⟩) = some 0x40400000 := by decide
/-- 1 ÷ 0 is infinity, with DZ. -/
theorem test_fdiv_zero : after (.fdiv ⟨4, 1, 0, 0, 0⟩) demo (fun t => (t.cur.rf 4, t.cur.fstat)) = some (0x7F800000, flDZ) := by decide
theorem test_fmadd : f 4 (.fmadd ⟨4, 2, 2, 1, 0, 0⟩) = some 0x40A00000 := by decide
/-- R299: 1.0 is a positive normal number, class bit 6. -/
theorem test_fkind_one : x 3 (.fkind ⟨3, 1, 0⟩) = some 64 := by decide
theorem test_fcmplt : x 3 (.fcmplt ⟨3, 1, 2, 0⟩) = some 1 := by decide
theorem test_itof : f 4 (.itof { d := 4, a := 8, code := 0, fmt := 0, rm := 0 }) = some 0x40400000 := by decide

theorem test_load_signed : x 3 (.ldI16 ⟨false, 3, 5, 0⟩) = some 0xFFFFFFFFFFFF8180 := by decide
theorem test_load_unsigned : x 3 (.ldN32 ⟨true, 3, 5, 0⟩) = some 0x83828180 := by decide
theorem test_load_length : after (.ldN8 ⟨true, 3, 5, 3⟩) demo (fun t => (t.cur.rx 3, t.cur.pc)) = some (0x83, 0x1008) := by decide
theorem test_store_bytes : after (.stN16 ⟨false, 7, 5, 2⟩) demo (fun t => t.spadValue 0 4) = some 0x10088180 := by decide
/-- R110: another owner reads zeros. -/
theorem test_store_owner : after (.stN64 ⟨false, 2, 5, 64⟩) demo (fun t => (t.spadByte 0 0 71, t.spadByte 1 0 71)) = some (0xFF, 0) := by decide
theorem test_misaligned : after (.ldI32 ⟨false, 3, 5, 2⟩) demo (fun t => (t.cur.tcode, t.cur.tval)) = some (4, 0x00FFFF0000000002) := by decide
theorem test_past_window : after (.ldI64 ⟨false, 3, 9, 8⟩) demo (fun t => t.cur.tcode) = some 5 := by decide
theorem test_amo_add : after (.amoAdd { d := 3, a := 5, b := 8, ord := 0, w := 0, scope := 0 }) demo
    (fun t => (t.cur.rx 3, t.spadValue 0 4)) = some (0xFFFFFFFF83828180, 0x83828183) := by decide
theorem test_amo_cas_fails : after (.amoCas { d := 6, a := 5, b := 8, ord := 0, w := 0, scope := 0 }) demo
    (fun t => (t.cur.rx 6, t.spadValue 0 4)) = some (0xFFFFFFFF83828180, 0x83828180) := by decide
theorem test_cas2 : after (.cas2 { d := 10, a := 5, b := 6, ord := 0, scope := 0 })
      { demo with threads := [(0, { task with x := task.x ++ [(10, 0x83828180)] })] }
    (fun t => (t.cur.rx 10, t.spadValue 0 8, t.spadValue 8 8)) = some (0x83828180, 7, 0x1008) := by decide
theorem test_take_clears : after (.ldTake { kind := 2, d := 3, a := 5, imm := 0 }) demo
    (fun t => (t.cur.rx 3, t.isFull 0 0 0)) = some (0xFFFFFFFF83828180, false) := by decide
theorem test_fe_waits : after (.ldFe { kind := 2, d := 3, a := 5, imm := 16 }) demo (fun t => (t.cur.pc, t.cur.wait)) =
    some (0x1000, .granule) := by decide
theorem test_fill : after (.stFill { kind := 2, b := 8, a := 5, imm := 16 }) demo (fun t => (t.isFull 0 0 16, t.cur.event)) =
    some (true, true) := by decide

theorem test_mfs_identity : x 3 (.mfs ⟨3, 0x024⟩) = some 1 := by decide
theorem test_mfs_unassigned : after (.mfs ⟨3, 0x026⟩) demo (fun t => t.cur.tcode) = some 1 := by decide
theorem test_mts_tvec : after (.mts { n := 0x046, a := 6 }) demo (fun t => t.cur.tvec) = some 6 := by decide
theorem test_syscall : after (.syscall ⟨5⟩) demo (fun t => (t.cur.pc, t.cur.hnd, t.cur.tcode, t.cur.tval, t.cur.tepc)) =
    some (0x2000, true, 2, 5, 0x1004) := by decide
theorem test_eret_outside : after .eret demo (fun t => t.cur.tcode) = some 1 := by decide
theorem test_exit_drains : after .exitTask demo (fun t => t.cur.slot) = some .draining := by decide
theorem test_wfe_waits : after .wfe demo (fun t => (t.cur.wait, t.cur.pc)) = some (.event, 0x1000) := by decide
theorem test_tladv_reserved : after (.tladv ⟨9, 8⟩) demo (fun t => t.cur.tcode) = some 1 := by decide
theorem test_tladv : after (.tladv ⟨10, 8⟩) demo (fun t => (t.cur.rtl 10, t.cur.event)) = some (3, true) := by decide

/-- Four elements of 32 bits: v1 is 1, 2, 3, 4 and v2 is 5, 6, 7, 8. -/
def lanes : State := { demo with threads := [(0, { task with
  vl := 4, v := ([1, 2, 3, 4].zipIdx.map (fun p => (2 ^ 20 + 4 * p.2, p.1))) ++ ([5, 6, 7, 8].zipIdx.map (fun p => (2 ^ 21 + 4 * p.2, p.1)))
  k := [(1, 5)] })] }

/-- The elements of 32 bits of a register after `i`. -/
def elems (r : Nat) (i : Instr) : Option (List Nat) := after i lanes (fun t => (List.range 5).map (t.cur.vGet 2 r 4))

theorem test_vadd_masked : elems 3 (.vadd ⟨none, 0, 1, 2, 1, 3⟩) = some [6, 0, 10, 0, 0] := by decide
theorem test_vsub_immediate : elems 3 (.vsub ⟨none, 2, 0, 1, 2, 3⟩) = some [4, 5, 6, 7, 0] := by decide
theorem test_vfold : after (.vfoldadd ⟨none, 1, 0, 8, 2, 3⟩) lanes (fun t => t.cur.rx 3) = some 29 := by decide
theorem test_vcmplt : after (.vcmplt ⟨none, 2, 0, 3, 1, 2⟩) lanes (fun t => t.cur.k) = some [(1, 5), (2, 3)] := by decide
theorem test_vscan : elems 3 (.vscan ⟨none, 1, 0, 0, 1, 3⟩) = some [1, 3, 6, 10, 0] := by decide
theorem test_vpick : elems 3 (.vpick ⟨none, 0, 0, 1, 2, 3⟩) = some [6, 7, 8, 0, 0] := by decide
theorem test_vcompact : elems 3 (.vcompact ⟨none, 1, 2, 3⟩) = some [5, 7, 0, 0, 0] := by decide
theorem test_vsetl : after (.vsetl ⟨3, 6, 2⟩) lanes (fun t => (t.cur.rx 3, t.cur.vl)) = some (7, 7) := by decide

theorem test_golpin_sub : after (.golpinSub ⟨3, 1, 2⟩) { demo with engines := [(0, { Engine.reset with h := [(1, 3), (2, 5)] })] }
    (fun t => (t.curEng.rh 3, t.curEng.cyc)) = some (0xFFFFFFFE, 1) := by decide
theorem test_ktrap : after (.ktrap ⟨7⟩) { demo with engines := [(0, { Engine.reset with busy := true })] }
    (fun t => (t.curEng.busy, t.curEng.traps)) = some (false, 1) := by decide
theorem test_clock_edge : after .timeClockEdge demo (fun t => t.gtime) = some 1 := by decide
/-- R194: half-slab 7 is defective, and clusters from the fourth on take half-slabs one further on. -/
theorem test_defective_half_slab : ([0, 3, 4, 11].map (fun j => let k := Cut.made [7] j; (k.hsa, k.hsb, k.good))) =
    [(0, 1, true), (6, 8, true), (9, 10, true), (23, 24, true)] := by decide
/-- R430: a second package number is refused with status 6. -/
theorem test_package_number : after (.setPackageNumber ⟨3⟩) { demo with pkgNum := some 2, conns := [(0, { Conn.reset with opened := true })] }
    (fun t => (t.pkgNum, t.answers.map (·.status))) = some (some 2, [6]) := by decide

/-! For every statement with hypotheses: a state and operands that meet them -/

/-- The task, with a page for virtual addresses 0 to 2^30 − 1; x10 is an address of it. -/
def paged : State := { demo.firstPage with threads := [(0, { task with x := task.x ++ [(10, 0x1040)] })] }

/-- The same, with the line of that address in the L1. -/
def resident : State := { paged with cores := [(0, { Core.reset with
  l1d := [(0x1000041, { bytes := [], valid := List.range 64, dirty := [], threads := [], owner := 0, spans := [] })] })] }

/-- The task with another thread record. -/
def with' (t : Thread) : State := { demo with threads := [(0, t)] }

/-- The same while accesses travel; and with the answer to the access of `place` at hand. -/
def sending : State := { demo with travel := true }
def answered (s : State) (place : Place) : State := { s with
  travel := true, threads := [(0, { s.cur with away := some (s.ir, place), wait := .remote, remote := some (true, 5) })] }

/-- What a translation finds, fails with, or waits for. -/
theorem phys_of {r : XRes} {P : State → Nat → Bool} (h : (match r with
      | .ok u (.phys pa _ _) => P u pa
      | _ => false) = true) : ∃ u pa m x, r = .ok u (.phys pa m x) ∧ P u pa = true := by
  split at h
  · exact ⟨_, _, _, _, rfl, h⟩
  · cases h

theorem spad_of {r : XRes} {P : State → Nat → Bool} (h : (match r with
      | .ok u (.spad off) => P u off
      | _ => false) = true) : ∃ u off, r = .ok u (.spad off) ∧ P u off = true := by
  split at h
  · exact ⟨_, _, rfl, h⟩
  · cases h

theorem err_of {r : XRes} {P : State → XErr → Bool} (h : (match r with
      | .err u e => P u e
      | _ => false) = true) : ∃ u e, r = .err u e ∧ P u e = true := by
  split at h
  · exact ⟨_, _, rfl, h⟩
  · cases h

theorem witness_JumpsAndBranches :
    (task.rx 7 + (BitVec.ofNat 15 8).signExtend 64).toNat % 2 = 0 ∧ (task.rx 6 + (BitVec.ofNat 15 0).signExtend 64).toNat % 2 = 1 ∧
    (demo.cur.rx 7).toNat % 2 = 0 ∧ (demo.cur.rx 6).toNat % 2 = 1 := by decide

/-- The first and the last access of 8 bytes in the window: performed, sent, and answered. -/
theorem witness_LoadsFromScratchpad : SpadAccess demo (demo.cur.rx 5) 8 0 ∧ SpadAccess demo (demo.cur.rx 9) 8 (2 ^ 22 - 8) ∧
    demo.travel = false ∧ SpadAccess sending (sending.cur.rx 9) 8 (2 ^ 22 - 8) ∧ sending.travel = true ∧ sending.cur.remote = none ∧
    Answered (answered demo (.spad 0)) (.spad 0) 5 :=
  ⟨by constructor <;> decide, by constructor <;> decide, rfl, by constructor <;> decide, rfl, rfl, by constructor <;> decide⟩

theorem witness_StoresToScratchpad : SpadAccess demo (demo.cur.rx 5 + 63) 1 63 ∧ SpadAccess demo (demo.cur.rx 9) 8 (2 ^ 22 - 8) ∧
    SpadAccess sending (sending.cur.rx 5 + 63) 1 63 ∧ Answered (answered demo (.spad 63)) (.spad 63) 5 :=
  ⟨by constructor <;> decide, by constructor <;> decide, by constructor <;> decide, by constructor <;> decide⟩

/-- A miss, and a hit; a miss that can be sent, and its answer. -/
theorem witness_LoadsFromDram :
    ((∃ u, DramAccess paged u .sload (paged.cur.rx 10) 8 0x40001040) ∧ (paged.l1Renew 0 0 0x1040 0x40001040 8).noForeignLine 0x40001040 ∧
      paged.cur.freed = false ∧ paged.lineShut (0x40001040 / 64) = false ∧ paged.badAt 0x40001040 8 = none) ∧
    ((∃ u, DramAccess resident u .sload (resident.cur.rx 10) 8 0x40001040) ∧
      (resident.l1Renew 0 0 0x1040 0x40001040 8).noForeignLine 0x40001040 ∧ resident.cur.freed = false ∧
      (resident.l1Renew 0 0 0x1040 0x40001040 8).l1Has 0x40001040 8 = true) ∧
    ((∃ u, DramAccess { paged with travel := true } u .sload (paged.cur.rx 10) 8 0x40001040) ∧
      ({ paged with travel := true }.l1Renew 0 0 0x1040 0x40001040 8).l1Has 0x40001040 8 = false ∧
      ({ paged with travel := true }.post 0 0 0 35 false (.phys 0x40001040 0 0) (.read 64) (.line 0 0x1040 8)).isSome = true) ∧
    (isDram 0x40001040 = true ∧ Answered (answered paged (.phys 0x40001040 0 0)) (.phys 0x40001040 0 0) 5) :=
  ⟨⟨⟨_, by decide, by decide, ⟨_, _, rfl⟩, by decide, by decide, by decide, by decide⟩, fun l h => (nomatch h), by decide, by decide, by decide⟩,
    ⟨⟨_, by decide, by decide, ⟨_, _, rfl⟩, by decide, by decide, by decide, by decide⟩, fun l h => by cases h; rfl, by decide, by decide⟩,
    ⟨⟨_, by decide, by decide, ⟨_, _, rfl⟩, by decide, by decide, by decide, by decide⟩, by decide, by decide⟩,
    by decide, by constructor <;> decide⟩

theorem witness_StoresToDram : (∃ u, DramAccess paged u .sstore (paged.cur.rx 10) 8 0x40001040) ∧
    (paged.l1Renew 0 0 0x1040 0x40001040 8).noForeignLine 0x40001040 :=
  ⟨⟨_, by decide, by decide, ⟨_, _, rfl⟩, by decide, by decide, by decide, by decide⟩, fun l h => (nomatch h)⟩

/-- Addresses that are no multiple of the width; an aligned address that is not canonical; a page outside the window. -/
theorem witness_FailingAccessesTrap : (demo.cur.rx 6).toNat % 2 ≠ 0 ∧ (demo.cur.rx 8).toNat % 4 ≠ 0 ∧ (demo.cur.rx 8).toNat % 16 ≠ 0 ∧
    (3 : Nat) < 5 ∧ (demo.cur.rx 1).toNat % 16 = 0 ∧ demo.cur.away = none ∧
    (∃ u e, demo.translate (some 0) 0 .sload (demo.cur.rx 1).toNat 8 = .err u e ∧ decide (e.code = 5) = true) ∧
    (∃ u e, demo.translate (some 0) 0 .sstore (demo.cur.rx 1).toNat 8 = .err u e ∧ decide (e.code = 5) = true) ∧
    (∃ u e, demo.translate (some 0) 0 .satomic (demo.cur.rx 1).toNat 16 = .err u e ∧ decide (e.code = 5) = true) ∧
    (∃ u pa m x, paged.translate (some 0) 0 .sstore (paged.cur.rx 10).toNat 8 = .ok u (.phys pa m x) ∧
      decide ((u.leafErr (some 0) 0 (paged.cur.rx 10).toNat 5).code = 5) = true) :=
  ⟨by decide, by decide, by decide, by decide, by decide, by decide, err_of (P := fun _ e => decide (e.code = 5)) (by decide),
    err_of (P := fun _ e => decide (e.code = 5)) (by decide), err_of (P := fun _ e => decide (e.code = 5)) (by decide),
    phys_of (P := fun u _ => decide ((u.leafErr (some 0) 0 (paged.cur.rx 10).toNat 5).code = 5)) (by decide)⟩

/-- A full granule, read by a signed integer, and by the widest float; an empty one. -/
theorem witness_FullLoads : (SpadAccess demo (demo.cur.rx 5 + (BitVec.ofNat 12 0).signExtend 64) (feWidth 2) 0 ∧ demo.isFull 0 0 0 = true) ∧
    (SpadAccess demo (demo.cur.rx 5 + (BitVec.ofNat 12 8).signExtend 64) (feWidth 9) 8 ∧ demo.isFull 0 0 8 = true) ∧
    (SpadAccess demo (demo.cur.rx 5 + (BitVec.ofNat 12 16).signExtend 64) (feWidth 0) 16 ∧ demo.isFull 0 0 16 = false) ∧
    (SpadAccess sending (sending.cur.rx 5 + (BitVec.ofNat 12 0).signExtend 64) (feWidth 2) 0 ∧ sending.isFull 0 0 0 = true ∧
      Answered (answered demo (.spad 0)) (.spad 0) 5) :=
  ⟨⟨by constructor <;> decide, by decide⟩, ⟨by constructor <;> decide, by decide⟩, ⟨by constructor <;> decide, by decide⟩,
    by constructor <;> decide, by decide, by constructor <;> decide⟩

/-- A dirty line of the near tier, whose bank group has its refresh window open. -/
def shutLine : State := { resident with
  cores := [(0, { Core.reset with
    l1d := [(0x1000041, { bytes := [], valid := List.range 64, dirty := [0], threads := [0], owner := 0, spans := [] })] })]
  pillars := [(0, { Pillar.reset with shut := [129] })] }

theorem witness_FillStores : SpadAccess demo (demo.cur.rx 5 + (BitVec.ofNat 12 16).signExtend 64) 8 16 ∧
    SpadAccess demo (demo.cur.rx 9 + (BitVec.ofNat 12 7).signExtend 64) 1 (2 ^ 22 - 1) ∧ demo.dirtyClosed = false ∧
    SpadAccess sending (sending.cur.rx 5 + (BitVec.ofNat 12 16).signExtend 64) 8 16 ∧
    SpadAccess shutLine (shutLine.cur.rx 5 + (BitVec.ofNat 12 16).signExtend 64) 8 16 ∧ shutLine.dirtyClosed = true :=
  ⟨by constructor <;> decide, by constructor <;> decide, by decide, by constructor <;> decide, by constructor <;> decide, by decide⟩

/-- The page with a PAC that carries every class of atomics. -/
def atomic : State := paged.dramWrite 0 0x400000 (natLe 8 (1 + 4 + 8 + 16 + 7 * 2048 + 0x4000 * 2 ^ 26))

/-- Acquire and release at the widest scope. An atomic on a page whose PAC carries its class, and one whose PAC lacks it; a closed bank, that of
the atomic and that of a line to be written back; an atomic whose answer has come. -/
theorem witness_AtomicsInScratchpad : SpadAccess demo (demo.cur.rx 5) 4 0 ∧ SpadAccess demo (demo.cur.rx 9) 8 (2 ^ 22 - 8) ∧
    releases 3 4 = true ∧ demo.dirtyClosed = false ∧ Answered (answered demo (.spad 0)) (.spad 0) 5 ∧
    ((∃ u, DramAccess atomic u .satomic (atomic.cur.rx 10) 8 0x40001040) ∧
      (match atomic.translate (some 0) 0 .satomic (atomic.cur.rx 10).toNat 8 with
        | .ok _ (.phys _ _ pac) => pacHas pac 11 && pacHas pac 13
        | _ => false) = true ∧ atomic.travel = false ∧ atomic.closed 0x40001040 = false ∧ atomic.badAt 0x40001040 8 = none ∧
      atomic.dirtyClosed = false) ∧
    ((∃ u, DramAccess paged u .satomic (paged.cur.rx 10) 8 0x40001040) ∧
      (match paged.translate (some 0) 0 .satomic (paged.cur.rx 10).toNat 8 with
        | .ok _ (.phys _ _ pac) => pacHas pac 11 || pacHas pac 13
        | _ => true) = false) ∧
    ((∃ u, DramAccess shutLine u .satomic (shutLine.cur.rx 10) 8 0x40001040) ∧ shutLine.closed 0x40001040 = true ∧ shutLine.dirtyClosed = true) :=
  ⟨by constructor <;> decide, by constructor <;> decide, by decide, by decide, by constructor <;> decide,
    ⟨⟨_, by decide, by decide, ⟨_, _, rfl⟩, by decide, by decide, by decide, by decide⟩, by decide, by decide, by decide, by decide, by decide⟩,
    ⟨⟨_, by decide, by decide, ⟨_, _, rfl⟩, by decide, by decide, by decide, by decide⟩, by decide⟩,
    ⟨_, by decide, by decide, ⟨_, _, rfl⟩, by decide, by decide, by decide, by decide⟩, by decide, by decide⟩

theorem witness_PairAtomics : SpadAccess demo (demo.cur.rx 9 - 8) 16 (2 ^ 22 - 16) ∧ demo.dirtyClosed = false ∧
    demo.spadValue (2 ^ 22 - 16) 16 = (demo.cur.rx 10).toNat + 2 ^ 64 * (demo.cur.rx 11).toNat ∧
    Answered (answered demo (.spad 16)) (.spad 16) 5 ∧ (∃ u, DramAccess atomic u .satomic (atomic.cur.rx 10) 16 0x40001040) :=
  ⟨by constructor <;> decide, by decide, by decide, by constructor <;> decide,
    ⟨_, by decide, by decide, ⟨_, _, rfl⟩, by decide, by decide, by decide, by decide⟩⟩

theorem witness_StatusReads : (0x046, (0x2000 : Word)) ∈ srValues demo ∧ (0x057, (0 : Word)) ∈ srValues demo ∧ demo.cur.viq = [] ∧
    demo.cur.win = [] ∧ 0x026 ∉ (srValues demo).map (·.1) ∧ 0x058 ∉ (srValues demo).map (·.1) := by decide

/-- A legal and an illegal rounding mode, the last group of a core and the next number, and a register that software may not write. -/
theorem witness_StatusWrites : (demo.cur.rx 8).toNat % 8 < 4 ∧ 4 ≤ (demo.cur.rx 6).toNat % 8 ∧ demo.cur.viq = [] ∧ demo.cur.win = [] ∧
    15 < 16 * demo.cur.gang ∧ 16 * demo.cur.gang ≤ (demo.cur.rx 2).toNat % 64 ∧ 0x040 ∉ [0x011, 0x030, 0x031, 0x041, 0x046, 0x061] := by
  decide

/-- A vector instruction that has committed and not performed. -/
def entry : VEntry := { demo.newEntry (.fenceVv) 0 0 with cmd := 1 }

theorem witness_Fences : demo.dirtyClosed = false ∧ demo.cur.viq = [] ∧ demo.cur.quiet = true ∧
    (with' { task with viq := [entry] }).cur.viq ≠ [] ∧ (with' { task with viq := [entry] }).cur.quiet = false ∧
    shutLine.dirtyClosed = true ∧ shutLine.cur.quiet = true := by decide

/-- A line open, and one that waits for its bank; a translation that waits for a walk; an address that does not translate; the window. -/
theorem witness_CacheMaintenance :
    (∃ u pa m x, paged.translate (some 0) 0 .maint (paged.cur.rx 10).toNat 1 = .ok u (.phys pa m x) ∧ (!paged.lineClosed (pa / 64)) = true) ∧
    (∃ u pa m x, shutLine.translate (some 0) 0 .maint (shutLine.cur.rx 10).toNat 1 = .ok u (.phys pa m x) ∧ shutLine.lineClosed (pa / 64) = true) ∧
    (∃ u, { paged with lockstep := false }.translate (some 0) 0 .maint (paged.cur.rx 10).toNat 1 = .miss u) ∧
    (∃ u e, paged.translate (some 0) 0 .maint (paged.cur.rx 1).toNat 1 = .err u e ∧ decide (e.code = 5) = true) ∧
    (∃ u off, paged.translate (some 0) 0 .maint (paged.cur.rx 5).toNat 1 = .ok u (.spad off) ∧ decide (off = 0) = true) :=
  ⟨phys_of (P := fun _ pa => !paged.lineClosed (pa / 64)) (by decide), phys_of (P := fun _ pa => shutLine.lineClosed (pa / 64)) (by decide),
    ⟨_, rfl⟩, err_of (P := fun _ e => decide (e.code = 5)) (by decide), spad_of (P := fun _ off => decide (off = 0)) (by decide)⟩

/-- The last immediate of the hint space, and the reserved scopes at both ends. -/
theorem witness_HintSpace_ReservedScopesTrap : 2 ^ 25 - 1 < 2 ^ 25 ∧ 5 ≤ ({ d := 1, a := 2, b := 3, ord := 0, w := 0, scope := 5 } : OpAmo).scope ∧
    5 ≤ ({ d := 2, a := 2, b := 4, ord := 0, scope := 7 } : OpCas2).scope := by decide

/-- A translation that a vector memory instruction pins. -/
def pinned : TlbEntry := { owner := 0, size := 30, page := 0, level := 0, leaf := 0, pins := [(0, 1)], doomed := false, used := 0 }

theorem witness_TlbInvalidation : demo.lockstep = true ∧ demo.cur.shoot = none ∧ demo.dirtyClosed = false ∧
    canonical (demo.cur.rx 5).toNat = true ∧ canonical (demo.cur.rx 0).toNat = true ∧
    (∀ n, n ≤ 208 → ∀ e ∈ (demo.tlbAt n).entries, e.pins = []) ∧
    (∃ n, n ≤ 208 ∧ ∃ e ∈ (({ demo with schedTlb := { seq := 0, entries := [pinned] } }.shootAll 0 none).tlbAt n).entries,
      e.doomed = true ∧ e.hit 0 none = true) :=
  ⟨by decide, by decide, by decide, by decide, by decide, by decide +kernel, 208, by decide, by decide +kernel⟩

theorem witness_TrapEntry : demo.cur.tvec ≠ 0 ∧ demo.cur.hnd = false ∧ demo.route demo.cur.owner 2 = 0 ∧ demo.route demo.cur.owner 3 = 0 ∧
    (Pend.plain 0 4 7).src = 0 ∧ demo.route demo.cur.owner 63 = 0 ∧ demo.drops = false ∧
    ({ (with' { task with stopReq := some (false, false) }) with parts := [(0, { Partition.reset with drained := true })] } : State).drops = true := by
  decide

theorem witness_TrapReturn : (with' { task with hnd := true }).cur.hnd = true ∧ demo.cur.hnd = false ∧ demo.traceRings = [] := by decide

/-- The event flag; the tenth microsecond, and the nanosecond before it. -/
theorem witness_WaitsAndEnds : (with' { task with event := true }).cur.event = true ∧ demo.cur.event = false ∧ demo.cur.wfeSince = none ∧
    (∃ since, (with' { task with wfeSince := some 0 }).cur.wfeSince = some since ∧
      since + 10000 ≤ { with' { task with wfeSince := some 0 } with gtime := 10000 }.gtime) ∧
    (9999 : Nat) < 0 + 10000 ∧ (with' { task with hnd := true }).cur.hnd = true ∧ demo.replicaWaits demo.cur.info.part = false :=
  ⟨by decide, by decide, by decide, ⟨0, by decide, by decide⟩, by decide, by decide, by decide⟩

/-- The scalar stream is the producer of queue 0 and the consumer of queue 1; queue 2 has neither. -/
def queues (l : List Word) : Thread := { task with qcfg := 0xFFFFFF41, q := [(0, l), (1, l)] }

theorem witness_QueueRegisters : (∀ q : Nat, ((queues []).qcfg.toNat / 2 ^ (4 * 0 + 2) % 4 = 0 ∧ (queues []).qcfg.toNat / 2 ^ (4 * 0) % 4 = 1 ∧
      (queues []).qcfg.toNat / 2 ^ (4 * 1 + 2) % 4 = 1 ∧ (queues []).qcfg.toNat / 2 ^ (4 * 1) % 4 = 0)) ∧
    ((queues (List.replicate 15 7)).rq 0).length < 16 ∧ 16 ≤ ((queues (List.replicate 16 7)).rq 0).length ∧
    (queues [3, 4]).rq 1 = [3, 4] ∧ 0 ∉ tget (queues [3, 4]).qbad 1 [] ∧ 0 ∈ tget { queues [3, 4] with qbad := [(1, [0])] }.qbad 1 [] ∧
    (queues []).rq 1 = [] ∧ (queues []).qcfg.toNat / 2 ^ (4 * 2) % 4 = 3 :=
  ⟨fun _ => by decide, by decide, by decide, by decide, by decide, by decide, by decide, by decide⟩

theorem witness_TimelineWaits : (with' { task with tl := [(2, 3)] }).cur.rtl 2 = 3 ∧ (demo.cur.rx 8).toNat ≤ 3 % 2 ^ 63 ∧
    (demo.cur.rx 6).toNat < 2 ^ 63 ∧ 3 % 2 ^ 63 < (demo.cur.rx 6).toNat ∧ 2 ^ 63 ≤ (demo.cur.rx 1).toNat ∧
    (demo.cur.rx 8).toNat % 8 ≠ 0 ∧ SpadAccess demo (demo.cur.rx 5) 8 0 ∧ (demo.cur.rx 6).toNat ≤ demo.spadValue 0 8 % 2 ^ 63 ∧
    SpadAccess demo (demo.cur.rx 9) 8 (2 ^ 22 - 8) ∧ demo.spadValue (2 ^ 22 - 8) 8 % 2 ^ 63 < (demo.cur.rx 6).toNat :=
  ⟨by decide, by decide, by decide, by decide, by decide, by decide, by constructor <;> decide, by decide, by constructor <;> decide,
    by decide⟩

theorem witness_TimelineAdvance : 10 ≤ 15 ∧ demo.cur.viq = [] ∧ (∀ e ∈ demo.cur.win, e.complete = true) ∧ demo.dirtyClosed = false ∧
    demo.traceRings = [] ∧ (with' { task with viq := [entry] }).cur.viq ≠ [] := by decide

/-- A VST of 4 elements at the window's base, in the VIQ; and a bobbin that copies 16 bytes there. -/
def storing : Thread := { task with vl := 4, viq := [{ entry with op := .mem {
  kind := .store, d := 1, base := 0x00FFFF0000000000, stride := 4, idx := none, shaft := false, first := false, acquire := false
  o := false, p := false, fe := 0, ord := 0, scope := 0 } }] }
def landing : Thread := { task with bob := [(3, { Bobbin.reset with
  stat := { Bobbin.reset.stat with state := 1 }
  queue := [{ num := 1, op := .cpy 16 1 1 1 16 16 16 16 16 16, dst := 0x00FFFF0000000000, src := 0, order := 0, started := true, rowSrc := []
              seq := 1, sent := [], ahead := [], got := [], io := none }] })] }

/-- The last granule of the window, performed, sent and answered; one in the span of a vector store, and one that a bobbin guards; no bytes; an
address and a length that are no multiples of 16; a range that leaves the window. -/
theorem witness_GranuleClears :
    ((demo.cur.rx 9 - 8).toNat = 0x00FFFF0000000000 + (2 ^ 22 - 16) ∧ (2 ^ 22 - 16) + 16 ≤ demo.cur.gang * 2 ^ 22 ∧ demo.cur.gang ≤ 4 ∧
      demo.cur.away = none ∧ demo.cur.inSpan (demo.cur.rx 9 - 8).toNat 16 = false ∧ demo.travel = false ∧
      demo.guarded 0 none (demo.cur.rx 9 - 8).toNat 16 = false) ∧
    (sending.travel = true ∧ sending.cur.remote = none ∧ sending.cur.inSpan (demo.cur.rx 5).toNat 16 = false) ∧
    (storing.inSpan (task.rx 5).toNat 16 = true ∧ landing.inSpan (task.rx 5).toNat 16 = false ∧
      (with' landing).guarded 0 none (task.rx 5).toNat 16 = true) ∧
    ((answered demo (.spad 0)).cur.away = some ((answered demo (.spad 0)).ir, .spad 0)) ∧
    ((demo.cur.rx 0).toNat = 0 ∧ (demo.cur.rx 5).toNat % 16 = 0 ∧ demo.guarded 0 none (demo.cur.rx 5).toNat 0 = false) ∧
    (demo.cur.rx 9).toNat % 16 ≠ 0 ∧ (demo.cur.rx 6).toNat % 16 ≠ 0 ∧
    demo.cur.gang * 2 ^ 22 < (demo.cur.rx 5).toNat - 0x00FFFF0000000000 + (2 ^ 22 + 16) := by decide +kernel

/-- Owner 0 with a second page, of the main tier, at virtual address 2^30: the notify word of queue 0 at its start, and the ring of 16
entries 4 KiB further on; the queue table lies at 256 MiB of the near tier. -/
def spawning (notify : Nat) : State :=
  let s := (paged.dramWrite 0 0x400008 (natLe 8 (1 + 4 + 8 + 0x100 + 0x200000 * 2 ^ 26))).dramWrite 0 0x2000000000 (natLe 8 notify)
  { s.dramWrite 0 0x10000000 (natLe 8 0x40001000 ++ natLe 8 0x40000000 ++ natLe 8 0 ++ natLe 8 0 ++ natLe 8 0 ++ natLe 8 (1 + 4 * 256 + 4 * 8192)) with
    queueBase := some 0x10000000, parts := [(0, Partition.reset)] }

/-- A translation finds `pa`, and changes nothing. -/
def finds (r : XRes) (s : State) (pa : Nat) : Bool :=
  match r with
  | .ok u (.phys p _ _) => decide (u = s) && decide (p = pa)
  | _ => false

/-- The two words of a SPAWN translate as its last clause asks. -/
def spawns (s : State) : Bool :=
  let r := (s.l1WriteBackThread 0 0).qTouch 0
  !r.stalled &&
  (match r.translate none 0 .satomic 0x40000000 8 with
  | .ok w (.phys p _ _) =>
    decide (p = 0x2000000000) && finds (w.translate none 0 .sload 0x40000000 8) w p &&
    (match (w.l2Touch p 0 false).translate none 0 .sstore 0x40001000 8 with
      | .ok wS (.phys q _ _) =>
        let z := wS.dramWrite 0 q (natLe 8 7)
        decide (q = 0x2000001000) && finds (wS.translate none 0 .sstore 0x40001000 8) wS q &&
        finds (z.translate none 0 .sstore 0x40000000 8) z p
      | _ => false)
  | _ => false)

/-- No queue table, and a number that names no queue; an empty ring, and a full one. -/
theorem witness_Spawn : demo.dirtyClosed = false ∧ demo.queueBase = none ∧ 4096 ≤ (demo.cur.rx 7).toNat ∧
    ((spawning 0).qCtl 0 % 2 = 1 ∧ ((spawning 0).part ((spawning 0).qCtl 0 / 2 ^ 18 % 64)).owner = (spawning 0).cur.owner ∧
      (spawning 0).dirtyClosed = false ∧
      leNat ((spawning 0).dramRead 0 0x2000000000 8) = 0 ∧ (spawning 0).qRead 0 0x18 8 = 0 ∧ spawns (spawning 0) = true) ∧
    leNat ((spawning 16).dramRead 0 0x2000000000 8) = 2 ^ ((spawning 16).qCtl 0 / 256 % 32) := by decide +kernel

/-! Vector, tile and bobbin instructions -/

theorem idle : Idle lanes := by constructor <;> decide

/-- The same thread at elements of 8 bits, and with its register groups at registers 62 and 63. -/
def bytes8 : Thread := { task with vl := 4, csew := 0, sew := 0, cmvl := 512, mvl := 512, k := [(1, 5)] }

theorem idle8 : Idle (with' bytes8) := by constructor <;> decide

/-- Full streams. -/
def full : Thread := { task with
  viq := List.replicate 32 entry, rbq := List.replicate 8 { cmd := 1, isF := false, reg := 3 } }

/-- Legal operands with room, without room in the VIQ, without room for a result; a register beyond the configuration, a running
handler. -/
theorem witness_VectorCommits :
    ((VOp.int .add 31 2 (.reg 1)).groupsOk (2 ^ task.csew) (8 * 2 ^ task.cnreg) = true ∧ task.hnd = false ∧ task.cmdsOut 0 = false ∧
      task.viq.length < 32 ∧ task.rbq.length < 8) ∧
    ¬ full.viq.length < 32 ∧ full.hnd = false ∧ full.cmdsOut 0 = false ∧ ¬ full.rbq.length < 8 ∧
    ¬ (VOp.int .add 32 2 (.reg 1)).groupsOk (2 ^ task.csew) (8 * 2 ^ task.cnreg) = true ∧
    (VOp.int .mulw 30 2 (.reg 1)).groupsOk (2 ^ task.csew) (8 * 2 ^ task.cnreg) = true ∧ task.csew < 3 ∧ task.csew ≠ 0 ∧
    8 * 2 ^ task.csew = min (cvtWidth 12) (cvtWidth 6) ∧
    ({ queues [] with qcfg := 0xFFFFFFF4 }.qMayGet 0 1 = false ∧ (queues []).qMayGet 0 1 = true ∧ (queues []).qMayPut 1 1 = true) ∧
    { task with hnd := true }.hnd = true := by decide

/-- A load of one register, an atomic at 32 bits, and the reserved scope. -/
theorem witness_VectorMemoryCommits :
    let m : VMem := { kind := .load, d := 31, base := 0, stride := 4, idx := none, shaft := false, first := false, acquire := false
                      o := false, p := false, fe := 0, ord := 0, scope := 4 }
    m.scope < 5 ∧ m.groupsOk (2 ^ task.csew) (8 * 2 ^ task.cnreg) = true ∧ 2 ≤ task.csew ∧ task.hnd = false ∧ task.cmdsOut 0 = false ∧
    ¬ { m with scope := 5 }.scope < 5 ∧ ¬ { m with d := 32 }.groupsOk (2 ^ task.csew) (8 * 2 ^ task.cnreg) = true ∧
    { m with idx := some (31, 4) }.groupsOk (2 ^ task.csew) (8 * 2 ^ task.cnreg) = true := by decide

/-- Cohort entry 0 with 8 barriers. -/
def cohort : Thread := { task with info := { task.info with cohort := true, nbar := 8 } }

/-- Elements of 4 bytes from the window's base; the same with the owner's tag on their line, and, at the window's end, those of a VLDFF of which
the third fails; one element of the near tier. -/
theorem witness_VectorMemoryCommits_pad :
    let ea := fun (j : Nat) => 0x00FFFF0000000000 + 4 * j
    let past' := fun (j : Nat) => 0x00FFFF0000000000 + 2 ^ 22 - 8 + 4 * j
    PadElements lanes 1 4 4 ea ∧ PadElements lanes 0 4 2 past' ∧ lanes.travel = false ∧
    (∀ j, j < 4 → lanes.isFull 0 0 (ea j - 0x00FFFF0000000000) = true) ∧
    (∀ j, j < 4 → tfind lanes.spadOwner (spadKey 0 (ea j - 0x00FFFF0000000000) / 64) = some 0) ∧
    (lanes.cur.writes 0 1 = true ∧ lanes.cur.writes 0 2 = true ∧ 0x00FFFF0000000000 + lanes.width 0 * 2 ^ 22 ≤ past' 2 ∧
      past' 2 < 0x00FFFF0000000000 + 2 ^ 24) ∧
    (let s := { atomic with threads := [(0, { lanes.cur with vl := 1 })] }
     s.cur.writes 0 0 = true ∧ s.cur.vl = 1 ∧ isDram 0x40001040 = true ∧ s.guarded 0 none 0x1040 4 = false ∧
     (match s.translate (some 0) 0 .vload 0x1040 4, s.translate (some 0) 0 .vstore 0x1040 4 with
       | .ok u (.phys pa _ _), .ok u' (.phys pa' _ pac) => decide (pa = 0x40001040) && decide (pa' = pa) && !u.closed pa && !u'.closed pa &&
           (u.badAt pa 4).isNone && pacHas pac 11
       | _, _ => false) = true) := by
  refine ⟨⟨by decide, by decide, by decide, by decide⟩, ⟨by decide, by decide, by decide, by decide⟩, by decide, by decide, by decide, by decide, ?_⟩
  decide +kernel

theorem witness_BarrierAndRowCommits : cohort.info.cohort = true ∧ 7 < cohort.info.nbar ∧ cohort.viq = [] ∧ cohort.hnd = false ∧
    cohort.cmdsOut 0 = false ∧ ¬ (task.info.cohort = true) ∧ (task.rx 6).toNat < 64 ∧ ¬ (task.rx 7).toNat < 64 ∧
    (VOp.mtov 31 0 7 none).groupsOk (2 ^ task.csew) (8 * 2 ^ task.cnreg) = true ∧ task.mtovFull 0 = false ∧
    ({ task with prick := [(24, { state := .live, res := true, dirty := false, ptile := 24 })]
                 viq := (List.range 24).map (fun n => { entry with op := .mtov 1 n 0 (some (.phys n)) }) }.mtovFull 24 = true) := by decide

/-- Groups of one and of two registers at the end of the register file; each place of the second source; the last element width at which
results double. -/
theorem witness_VectorIntegers :
    groupAt lanes.cur 31 1 ∧ groupAt lanes.cur 30 2 ∧ groupsApart 30 2 29 1 ∧ groupsApart 30 2 28 1 ∧ lanes.cur.csew < 3 ∧
    groupAt (with' bytes8).cur 31 1 := by
  simp only [groupAt, groupsApart]; decide

/-- A conversion between widths, up and down, and one with random bits. -/
theorem witness_VectorFloats :
    lanes.cur.csew ≠ 0 ∧ groupAt lanes.cur 31 1 ∧ 8 * 2 ^ lanes.cur.csew = min (cvtWidth 13) (cvtWidth 12) ∧ (13 : Nat) ≠ 14 ∧
    groupAt lanes.cur 2 (cvtWidth 13 / (8 * 2 ^ lanes.cur.csew)) ∧ groupAt lanes.cur 1 (cvtWidth 12 / (8 * 2 ^ lanes.cur.csew)) ∧
    groupsApart 2 (cvtWidth 13 / (8 * 2 ^ lanes.cur.csew)) 1 (cvtWidth 12 / (8 * 2 ^ lanes.cur.csew)) ∧
    (8 * 2 ^ bytes8.csew = min (cvtWidth 8) (cvtWidth 12) ∧ groupAt bytes8 1 (cvtWidth 8 / (8 * 2 ^ bytes8.csew)) ∧
      groupAt bytes8 4 (cvtWidth 12 / (8 * 2 ^ bytes8.csew)) ∧ groupAt bytes8 8 (4 / 2 ^ bytes8.csew) ∧
      groupsApart 1 (cvtWidth 8 / (8 * 2 ^ bytes8.csew)) 4 (cvtWidth 12 / (8 * 2 ^ bytes8.csew)) ∧
      groupsApart 1 (cvtWidth 8 / (8 * 2 ^ bytes8.csew)) 8 (4 / 2 ^ bytes8.csew)) := by
  simp only [groupAt, groupsApart]; decide

/-- 32 elements of 8 bits, in registers of 512 bytes: a conversion to e2m1 blocks and back. -/
theorem witness_VectorFloats_blocks : bytes8.csew = 0 ∧ groupAt bytes8 2 2 ∧ groupAt bytes8 4 4 ∧ groupAt bytes8 8 8 ∧ groupAt bytes8 12 4 ∧
    groupsApart 2 2 4 4 ∧ groupsApart 2 2 8 8 ∧ groupsApart 4 4 2 2 ∧ groupsApart 2 2 12 4 := by
  simp only [groupAt, groupsApart]; decide

theorem witness_VectorMasks : groupAt lanes.cur 31 1 ∧ lanes.cur.csew ≠ 0 := by simp only [groupAt]; decide

theorem witness_VectorMoves : groupAt lanes.cur 30 1 ∧ groupAt lanes.cur 31 1 ∧ (30 : Nat) ≠ 31 ∧ groupAt lanes.cur 29 1 ∧
    (queues [3, 4]).qMayGet 0 1 = true ∧ (queues [3, 4]).rq 0 = [3, 4] ∧ (queues (List.replicate 15 3)).qMayPut 1 1 = true ∧
    ((queues (List.replicate 15 3)).rq 1).length < 16 ∧ Idle (with' (queues [3, 4])) := by
  simp only [groupAt]
  exact ⟨by decide, by decide, by decide, by decide, by decide, by decide, by decide, by decide, by constructor <;> decide⟩

/-- No element written, and a greatest element that stands alone. -/
theorem witness_VectorReductions : groupAt lanes.cur 31 1 ∧ lanes.cur.csew ≠ 0 ∧ (∀ j, lanes.cur.writes 2 j = false) ∧
    lanes.cur.writes 1 2 = true ∧ (∀ j, lanes.cur.writes 1 j = true → j = 0 ∨ j = 2) ∧ (1 : Nat) ≠ 2 := by
  refine ⟨by simp only [groupAt]; decide, by decide, fun j => ?_, by decide, fun j h => ?_, by decide⟩
  · have e : lanes.cur.rk 2 j = false := by
      show Nat.testBit 0 j = false
      exact Nat.zero_testBit j
    simp [Thread.writes, e]
  · have : j < 4 := of_decide_eq_true (Bool.and_eq_true_iff.mp h).1
    have e : j = 0 ∨ j = 1 ∨ j = 2 ∨ j = 3 := by omega
    rcases e with rfl | rfl | rfl | rfl
    · exact .inl rfl
    · exact absurd h (by decide)
    · exact .inr rfl
    · exact absurd h (by decide)

/-- A VLDFF in the VIQ. -/
def trims : Thread := { task with viq := [{ entry with op := .mem { kind := .load, d := 1, base := 0, stride := 4, idx := none, shaft := false
                                                                    first := true, acquire := false, o := false, p := false, fe := 0
                                                                    ord := 0, scope := 0 } }] }

theorem witness_VectorConfiguration : trims.trimming = true ∧ trims.hnd = false ∧ (3 : Nat) ≠ lanes.cur.cnreg ∧
    lanes.cur.vl ≤ lanes.cur.vgrant * 16384 / (2 ^ (3 + 2) * 2 ^ 3) ∧
    ({ task with vl := 128 }.vgrant * 16384 / (2 ^ (3 + 2) * 2 ^ 3) < { task with vl := 128 }.vl ∧ Idle (with' { task with vl := 128 })) :=
  ⟨by decide, by decide, by decide, by decide, by decide, by constructor <;> decide⟩

/-- A tile instruction in the window. -/
def tentry : TEntry := { cmd := 1, order := 0, pc := 0, bits := 0, op := .mzero 3, issued := false, complete := false, dst := []
                         send := .unsent, flags := 0 }

/-- The reads and writes of FSTAT, VL and TSHAPE with an instruction in the VIQ or in the tile window, and those of a handler. -/
theorem witness_StatusReads_waits : let v := with' { task with viq := [entry] }
    let w := with' { task with win := [{ tentry with op := .mcfg 0 }], hnd := true }
    v.cur.viq ≠ [] ∧ v.cur.hnd = false ∧ w.cur.win ≠ [] ∧ w.cur.hnd = true ∧ trims.trimming = true ∧ trims.hnd = false ∧ v.cur.trimming = false ∧
    (0x050, (1 : Word)) ∉ srValues v ∧ (0x050, (0 : Word)) ∈ srValues v ∧
    (w.cur.win.any (fun e => match e.op with
      | .mcfg _ => true
      | _ => false)) = true := by decide

theorem witness_StatusWrites_waits : (with' { task with viq := [entry] }).cur.viq ≠ [] ∧ (with' { task with viq := [entry] }).cur.hnd = false ∧
    (with' { task with hnd := true, win := [tentry] }).cur.hnd = true := by decide

/-- The thread with tile 3 resident and tile 4 dead, and tile 5 that waits for a landing. -/
def tiled : State := { demo with
  threads := [(0, { task with prick := [(3, { state := .live, res := true, dirty := false, ptile := 0 }),
                                        (5, { state := .receivable, res := false, dirty := false, ptile := 0 })] })]
  cores := [(0, { Core.reset with tiles := [(0, { used := true, owner := 0, mapb := 0, tile := 3, dirty := false, poison := false, ready := allRows
                                                  rows := [(0, 7)], lru := 0, filling := false })] })]
  pkgNum := some 0 }

theorem tiled_idle : TileIdle tiled := ⟨by constructor <;> decide, rfl, by decide, by decide, by decide, by decide +kernel⟩

theorem tiled_readable : TileReadable tiled 3 ∧ TileReadable tiled 4 :=
  ⟨fun p h => by cases h; exact ⟨by decide, fun _ => ⟨rfl, _, rfl, by decide, rfl, rfl, rfl, rfl⟩⟩, fun p (h : none = some p) => nomatch h⟩

/-- Legal operands of the tile instructions: a shape, an MLD of 64 rows of 256 bytes from the window's base, a register of row offsets, a row, a
conversion, and a landing at the end of core 0's scratchpad. -/
theorem witness_TileCommits_results :
    (∀ p, tfind tiled.cur.prick 4 = some p → p.state ≠ .receivable) ∧ shapeOk (toW (64 + 64 * 128 + 256 * 2 ^ 16)) 1 = true ∧
    (1 = tiled.width 0 ∧ (∀ r : Nat, r < 64 → (0x00FFFF0000000000 : Int) ≤ 0x00FFFF0000000000 + r * 256 ∧
        (0x00FFFF0000000000 + r * 256 : Int) + 256 ≤ 0x00FFFF0000000000 + 2 ^ 22)) ∧ (∀ c a n, tiled.guarded c none a n = false) ∧
    shapeA tiled.cur.tshape ≠ 4 ∧ (∀ i, i < 64 → tiled.cur.vGet 2 31 4 i = 0) ∧ cvtOk 0xCB 3 4 0 1 false = true ∧ 0xCB % 16 ≠ 14 ∧
    (tiled.isCore 0 = true ∧ (tiled.core 0).gate = .on ∧ 2 ^ 22 - 16384 + 16384 ≤ tiled.width 0 * 2 ^ 22) := by
  refine ⟨fun p (h : none = some p) => (nomatch h), by decide, ⟨by decide, fun r h => by omega⟩, fun c a n => ?_, by decide, ?_, by decide, by decide, by decide⟩
  · simp only [State.guarded, State.guardedByte, List.any_eq_false, Bool.not_eq_true]
    intro i _ h _
    by_cases e : 0 = h
    · subst e; rfl
    · have : tfind tiled.threads h = none := by simp [tiled, tfind, e]
      rw [this]
  · intro i _
    have v : tiled.cur.v = [] := rfl
    simp [Thread.vGet, v, readV, tget]

/-- Aligned and misaligned values, room and none; the largest matrix shape, the narrowest legal row distance, a legal MMAG base and one
outside the window. -/
theorem witness_TileCommits :
    firstMisaligned 16 [demo.cur.rx 5, 0] = none ∧ firstMisaligned 16 [demo.cur.rx 5, demo.cur.rx 6] = some 7 ∧ demo.cur.win.length < 16 ∧
    16 ≤ ({ task with win := List.replicate 16 tentry }).win.length ∧ demo.cur.hnd = false ∧ demo.cur.cmdsOut 1 = false ∧
    (let n := 64 + 64 * 128 + 256 * 2 ^ 16;
      n < 2 ^ 34 ∧ 1 ≤ n % 128 ∧ n % 128 ≤ 64 ∧ 1 ≤ n / 128 % 512 ∧ n / 128 % 512 ≤ 64 ∧ 1 ≤ n / 2 ^ 16 % 2 ^ 12 ∧
        n / 2 ^ 16 % 2 ^ 12 ≤ 256 * demo.cur.gang) ∧
    256 * (demo.cur.gang : Int) ≤ (256 : Word).toInt ∧ (-256 : Word).toInt ≤ -(256 * (demo.cur.gang : Int)) ∧
    (0x00FFFF0000000000 ≤ (demo.cur.rx 5).toNat ∧ (demo.cur.rx 5).toNat < 0x00FFFF0000000000 + 2 ^ 24) ∧
    ¬ 0x00FFFF0000000000 ≤ (demo.cur.rx 7).toNat ∧ 31 < 8 * 2 ^ demo.cur.cnreg ∧ ¬ 32 < 8 * 2 ^ demo.cur.cnreg ∧
    demo.cur.shapeNow.toNat / 2 ^ 28 % 8 ≠ 4 ∧ (demo.cur.rx 8).toNat ≥ 3 ∧ (demo.cur.rx 0).toNat < 3 ∧
    cvtOk 0xCB 0 1 0 1 false = true := by decide

/-- A bobbin command. -/
def command : BCmd := { num := 1, op := .red 0 4 1, dst := 0, src := 0, order := 0, started := true, rowSrc := [], seq := 1, sent := []
                        ahead := [], got := [], io := none }

/-- A task whose bobbin 3 holds `n` commands. -/
def bobbins (n : Nat) : Thread := { task with bob := [(3, { Bobbin.reset with queue := List.replicate n command })] }

/-- Room and none; one row of 16 bytes that fits the window; a group of eight registers; a reduction of one element. -/
theorem witness_BobbinCommits :
    (bobbins 3).hnd = false ∧ (bobbins 3).cmdsOut 5 = false ∧ ((bobbins 3).bobbin 3).queue.length < 4 ∧
    4 ≤ ((bobbins 4).bobbin 3).queue.length ∧ firstMisaligned 4 [task.rx 5, 4] = none ∧ firstMisaligned 4 [task.rx 5, task.rx 6] = some 7 ∧
    (let v := 16 + 2 ^ 32;
      v / 2 ^ 52 % 16 = 0 ∧ v / 2 ^ 57 = 0 ∧ v % 2 ^ 32 % 16 = 0 ∧ 16 ≤ v % 2 ^ 32 ∧ v % 2 ^ 32 ≤ 65536 ∧ 1 ≤ v / 2 ^ 32 % 2 ^ 20 ∧
        (1 * 4 + task.regBytes task.cnreg - 1) / task.regBytes task.cnreg ≤ 8 ∧ 1 ≤ 8 * 2 ^ task.cnreg - 31) ∧
    (0x00FFFF0000000000 ≤ (task.rx 9 - 8).toNat ∧ (task.rx 9 - 8).toNat - 0x00FFFF0000000000 + 1 * 16 ≤ task.gang * 2 ^ 22) ∧
    ¬ 0x00FFFF0000000000 ≤ (task.rx 0).toNat ∧ (task.rx 0).toNat % 16 = 0 ∧ 24 % 8 = 0 ∧ 24 + 8 ≤ 8 * 2 ^ task.cnreg ∧
    7 < 8 ∧ 1 ≤ 1 % 2 ^ 32 := by decide

theorem witness_BobbinControl : (task.bobbin 3).queue = [] ∧ (∃ r, ((bobbins 4).bobbin 3).queue = command :: r ∧
    ∀ x ∈ command :: r, x.sent = [] ∧ x.io = none) ∧ demo.traceRings = [] :=
  ⟨by decide, ⟨List.replicate 3 command, rfl, by decide⟩, by decide⟩

/-! Golpin engines -/

/-- A packet of `len` bytes to address 0x40 of the near tier, its engine in the middle of the kernel: h1 is 0x13C, h2 0x140, h3 64, h4 and
h5 the address 0x1000 in two halves, h6 is 192, and h7 is 256. -/
def gpacket (kind len : Nat) : EnginePacket :=
  { pkt := { (default : UalinkPacket) with kind := kind, len := len, addr := 0x40, data := List.replicate len 7 }, flow := 0, fresh := 0 }

def golpin (kind len : Nat) (k : Engine → Engine) : State :=
  { demo with
    engines := [(0, k { Engine.reset with busy := true, cur := some (gpacket kind len)
                                          window := (windowBytes (gpacket kind len)).zipIdx.map (fun b => (b.2, b.1))
                                          h := [(1, 0x13C), (2, 0x140), (3, 64), (4, 0x1000), (6, 192), (7, 256)] })]
    blocks := [(0, { PortBlock.reset with
      flows := [(0, { (default : FlowEntry) with stlen := 17 })], ranges := [(0, (0x1000, 64))] })] }

/-- Stores in 32 lines of 32 bytes. -/
def busyStores (e : Engine) : Engine := { e with stores := (List.range 32).map (fun i => (32 * i, 0)) }

theorem witness_GolpinLanes : (7 : Nat) < 8 := by decide

/-- The last word and the last line of the window, and the words beyond them; a word of the header that a kernel may set, and one that it
may not. -/
theorem witness_GolpinPackets_window :
    let a := ((golpin 0 64 id).curEng.rh 1).toNat
    (a % 4 = 0 ∧ a + 4 ≤ 0x140) ∧ 0x40 ≤ a ∧ ¬ ((golpin 0 64 id).curEng.rh 2).toNat + 4 ≤ 0x140 ∧ 0x120 % 32 = 0 ∧ 0x120 + 32 ≤ 0x140 ∧
    ¬ 0x124 % 32 = 0 ∧ ((4 : Nat) = 4 ∧ (0x0C = 0 ∨ 0x0C = 4 ∨ 0x0C = 0x0C)) ∧ ¬ (0x40 ≤ 8 ∨ ((4 : Nat) = 4 ∧ (8 = 0 ∨ 8 = 4 ∨ 8 = 0x0C))) := by
  decide

/-- The last word and line of the flow's state, the word beyond, poisoned words, and the 33rd line of stores. -/
theorem witness_GolpinPackets_state :
    let e := (golpin 0 64 id).curEng
    let full := (golpin 0 64 busyStores).curEng
    let f := (golpin 0 64 id).flowOf 0
    f.ctl.testBit 4 = false ∧ (f.stbase + f.stlen) * 64 = 1088 ∧ 1084 % 4 = 0 ∧ 1084 + 4 ≤ 1088 ∧ 1056 % 32 = 0 ∧ 1056 + 32 ≤ 1088 ∧
    ¬ 1088 + 4 ≤ 1088 ∧ e.stBad 1084 4 = false ∧ { e with poison := [135] }.stBad 1084 4 = true ∧ { e with poison := [135] }.stBad 1056 32 = true ∧
    (stLines (e.stores ++ (List.range 32).map (fun i => (1056 + i, (0 : Byte))))).length ≤ 32 ∧
    ¬ (stLines (full.stores ++ (List.range 4).map (fun i => (1084 + i, (0 : Byte))))).length ≤ 32 ∧
    ({ e with single := [135] }.stSingle 1084 4 = true ∧ e.stSingle 1084 4 = false ∧ e.busy = true ∧ e.cyc < 512) := by decide +kernel

/-- A loop entered and one skipped; an emit of 64 bytes inside the owner's range, from the window and from the state, and the refused
ones. -/
theorem witness_GolpinPackets_emit :
    let s := golpin 0 64 id
    let e := s.curEng
    min (e.rh 3).toNat 255 ≠ 0 ∧ min (e.rh 0).toNat 255 = 0 ∧
    (let src := (e.rh 6).toNat; let dest := (e.rh 5).toNat * 2 ^ 32 + (e.rh 4).toNat
     (src % 32 = 0 ∧ src + 64 ≤ 256) ∧ src + 64 ≤ 1088 ∧ e.stBad src 64 = false ∧
     tfind (s.block 0).ranges 0 = some (0x1000, 64) ∧ 0x1000 ≤ dest ∧ dest + 64 ≤ 0x1000 + 64 ∧ ¬ dest + 96 ≤ 0x1000 + 64) ∧
    e.emits.length < 4 ∧ ¬ (e.rh 7).toNat + 64 ≤ 256 ∧ ¬ 1056 + 64 ≤ 1088 ∧
    (∀ i, i < 4 → i ≠ 0 → tfind (s.block 0).ranges i = none) ∧
    4 ≤ { e with emits := List.replicate 4 { dest := 0x1000, owner := 0, bytes := [] } }.emits.length := by
  decide +kernel

/-- The port block of a machine whose requests have filled the buffer of the port. -/
def crowded : State :=
  let go := fun (s : State) => (s.deliver 0 0 (gpacket 0 256).pkt 0).getD s
  Nat.repeat go 8 (golpin 0 256 id)

/-- A write inside the window, one longer than its packet, one with room and one without; a reply to a read, and one to a write. -/
theorem witness_GolpinPackets_ends :
    (let s := golpin 0 64 id
     s.curEng.cur = some (gpacket 0 64) ∧ s.curEng.winAddr &&& (s.flowOf 0).mask = (s.flowOf 0).base ∧ ¬ 64 < s.curEng.winLen ∧
       (s.deliver 0 0 { (gpacket 0 64).pkt with addr := s.curEng.winAddr, len := s.curEng.winLen, data := s.curEng.winRead 0x40 256 } 0).isSome = true) ∧
    64 < (golpin 0 65 id).curEng.winLen ∧
    (crowded.deliver 0 0 { (gpacket 0 256).pkt with addr := crowded.curEng.winAddr, len := crowded.curEng.winLen,
                                                    data := crowded.curEng.winRead 0x40 256 } 0) = none ∧
    (gpacket 1 8).pkt.kind ≠ 0 ∧ (gpacket 1 8).pkt.kind ≠ 3 ∧ (gpacket 3 8).pkt.kind = 3 ∧ (golpin 0 64 id).curEng.loops = [] ∧
    (let l : LoopFrame := { start := 1, stop := 3, left := 2 }
     (2 : Nat) ≠ l.stop ∧ 3 = l.stop ∧ 1 < l.left ∧ { l with left := 1 }.left ≤ 1) := by
  decide +kernel

/-! Control messages -/

/-- The service connection is open; partition 0 is configured; engine 0 of block 0 has a kernel, a flow and an event area. -/
def served : State := { demo with
  conns := [(0, { Conn.reset with opened := true })], parts := [(0, Partition.reset)]
  engines := [(0, { Engine.reset with kernels := [(0, { owner := 0, words := [0x90000000] })] })]
  blocks := [(0, { PortBlock.reset with areas := [(0, { base := 0x1000, n := 4, prod := 0, cons := 0, lost := 0 })] })] }

theorem is_served : ∀ code, Served served code := fun _ => ⟨by decide, by decide, by decide, by decide, .inl rfl, .inl rfl⟩

/-- The same after a message whose effect has not ended: only its own instruction acts. -/
theorem is_served_held : Served { served with ctlHeld := some (.gate ⟨5⟩) } 0x15 (some (.gate ⟨5⟩)) ∧ Served { served with ctlIn := [0x15] } 0x15 :=
  ⟨⟨by decide, by decide, by decide, by decide, .inl rfl, .inr ⟨by decide, rfl⟩⟩,
    ⟨by decide, by decide, by decide, by decide, .inr ⟨[], rfl⟩, .inl rfl⟩⟩

/-- The settings: each at the last value that it admits, and at the first that it does not. -/
theorem witness_DeviceControl_settings :
    (demo.conn 0).opened = false ∧ 2 ^ 256 - 1 < 2 ^ 256 ∧ ¬ 2 ^ 256 < 2 ^ 256 ∧ (served.pkgNum = none ∧ 1023 < 1024) ∧ ¬ 1024 < 1024 ∧
    (15 < 16 ∧ 3839 < 3840) ∧ ¬ 3840 < 3840 ∧ (served.gtimeSet = false ∧ 2 ^ 64 - 1 < 2 ^ 64) ∧
    dramRange (0x8000000000 - 4096 * 64) (4096 * 64) = true ∧ dramRange (0x8000000000 - 4096 * 64 + 64) (4096 * 64) = false ∧
    (dramRange 0x2000000000 (64 * 2 ^ 4) = true ∧ 0 ≤ 16 ∧ 16 - 0 ≤ 2 ^ 4) ∧ ¬ 17 - 0 ≤ 2 ^ 4 ∧
    ((tfind served.parts 0).isSome = true ∧ 0 + 32 * 2 ^ 4 ≤ 2 ^ 64) ∧ (tfind served.parts 1).isSome = false ∧
    0x01004211 / 2 ^ 24 % 256 ≠ 0 ∧ ¬ 0x00004211 / 2 ^ 24 % 256 ≠ 0 ∧ 63 < 64 ∧ 31 < 32 := by decide +kernel

/-- A bank of core 12 with a request. -/
def waitingBank : State := { served with
  banks := [(12 * 2048, { Bank.reset with waiting := [{ input := 0, pa := 0x180000000, owner := 0, req := .read 8, reply := .none, denied := 0, got := [], bad := false }] })] }

theorem witness_DeviceControl_gang : let cs := served.touched 1 0 4
    (1 < 16 ∧ (4 = 1 ∨ 4 = 2 ∨ 4 = 4) ∧ 0 % 4 = 0 ∧ 0 + 4 ≤ 12 ∧ served.gangHeld cs = false) ∧ served.gangBusy cs = false ∧
    waitingBank.gangBusy (waitingBank.touched 1 0 4) = true ∧ waitingBank.gangHeld (waitingBank.touched 1 0 4) = false ∧
    served.gangHeld (served.touched 0 0 4) = true := by decide +kernel

/-- A kernel that DROPs; one that falls through its end; a slot whose kernel a packet waits for. -/
theorem witness_DeviceControl_kernel : let k := served.engine 0
    let matched := { served with
      blocks := [(0, { PortBlock.reset with flows := [(0, default)] })]
      engines := [(0, { k with input := [gpacket 0 64] })] }
    kernelFault [0x90000000] (k.room 63) (k.slotOk 63 63) = none ∧ (kernelFault [0x0000007B] (k.room 0) (k.slotOk 0 0)).isSome = true ∧
    (kernelFault [0x90000000] (k.room 0) (k.slotOk 0 1)).isSome = true ∧
    served.kernelBusy 0 0 = false ∧ matched.kernelBusy 0 0 = true ∧ matched.flowBusy 0 0 = true ∧ served.flowBusy 3 4095 = false ∧
    served.flowOk 0 4095 { (default : FlowEntry) with ctl := 1, stlen := 4096 } = true ∧
    served.flowOk 0 4095 { (default : FlowEntry) with ctl := 1, stlen := 4097 } = false ∧ flowClean default = true := by decide +kernel

/-- A connection to open, one that is open and idle, and one with a packet that waits. -/
theorem witness_DeviceControl_connections :
    let busy : Conn := { Conn.reset with opened := true, inq := [default] }
    (3 < 4 ∧ ∀ f ∈ (served.block 3).flows, f.2.owner ≠ 0) ∧ (4 ≤ 12 ∧ 12 ≤ 12 ∧ 0x1000 % 4096 = 0) ∧
    (1 ≤ 255 ∧ 255 < 256 ∧ 63 < 64 ∧ 0 + 2 ^ 64 ≤ 2 ^ 64 ∧ 2 ^ 42 ≤ 2 ^ 42 ∧ (served.conn 255).opened = false) ∧
    ({ served with conns := served.conns ++ [(1, { Conn.reset with opened := true })] }.conn 1).opened = true ∧
    { served with conns := served.conns ++ [(1, { Conn.reset with opened := true })] }.hostWaits 1 = [] ∧
    (busy.failed = false ∧ busy.inq ≠ []) ∧
    (∀ f, tfind (served.block 0).flows 0 = some f → f.ctl.testBit 4 = false) ∧ 7 < 8 ∧
    (let f := { (default : FlowEntry) with ctl := 17 }
     tfind { PortBlock.reset with flows := [(0, f)] }.flows 0 = some f ∧ f.ctl.testBit 4 = true) :=
  ⟨by decide +kernel, by decide +kernel, by decide +kernel, by decide +kernel, by decide +kernel, by decide +kernel, fun _ h => (nomatch h),
    by decide, by decide⟩

/-- A pre-empted task of partition 0, with one uncorrectable v register word to repair when `n` is 1. -/
def container (saving : Bool) (n : Nat) : Saved :=
  { magic := 0x5653464B, cver := 1, rev := 4, step := 1, feat := 0x3FFF, gtime := 0, core := 0, thr := { task with taskid := 9 }
    repair := List.replicate n (2, 0), saving := saving, ready := false, order := 0, gang := 1, secs := [] }

theorem witness_ManagementControl_partition :
    served.partitionOk { part := 63, owner := some 63, cores := some [1, 2], grant := some 1, pool := some (0x2000000000, 2 ^ 25), agestep := none } = true ∧
    served.partitionOk { part := 64, owner := some 63, cores := some [1], grant := some 1, pool := some (0x2000000000, 2 ^ 25), agestep := none } = false ∧
    (tfind served.parts 0).isSome = true ∧ (tfind served.parts 1).isSome = false ∧
    ({ served with threads := [] } : State).threads = [] := by decide +kernel

/-- A slot of queue 0. -/
def slot (wdcount : Nat) : HwSlot :=
  { queue := 0, head := 0, notify := 0, weight := 1, prio := 0, part := 0, credit := 0, age := 0, since := 0, idle := some 0, run := none
    wdlim := 1, wdcount := wdcount, wdfrac := 0, exp := false }

/-- A queue without a slot, and one with; a message that may not enable. -/
theorem witness_ManagementControl_queue :
    (spawning 0).queueOk 0 = true ∧ (spawning 0).slotOf 0 = none ∧ { spawning 0 with slots := [(5, slot 0)] }.slotOf 0 = some 5 ∧ served.queueOk 0 = false ∧ (spawning 0).queueBase.isSome = true := by decide +kernel

theorem witness_ManagementControl_owner :
    (63 < 64 ∧ (2 ^ 52 - 2 ^ 21) % 2 ^ 21 = 0 ∧ 2 ^ 52 - 2 ^ 21 < 2 ^ 52) ∧ ¬ 2 ^ 20 % 2 ^ 21 = 0 ∧ served.lockstep = true ∧
    { served with lockstep := false }.lockstep = false ∧ 2 ^ 128 - 1 < 2 ^ 128 ∧
    ((∀ p ∈ served.parts, p.2.owner ≠ 1) ∧ served.ownerLive 1 = false) ∧ served.ownerLive 0 = true ∧
    (served.shootAll 63 none).heldTlbs 63 none = [] ∧
    ({ served with schedTlb := { seq := 0, entries := [pinned] } }.shootAll 0 none).heldTlbs 0 none ≠ [] := by decide +kernel

/-- A drain that stops nothing, and one that meets an issued access. -/
theorem witness_ManagementControl_drain :
    let stops := fun (s : State) => s.threads.any (fun y => decide (y.2.slot ≠ .free) && decide (y.2.info.part = 0) && y.2.stopReq.isSome)
    stops (served.drain 0 false).1 = false ∧
    stops ({ served with threads := [(0, { task with wait := .remote })] }.drain 0 false).1 = true := by decide +kernel

/-- A core without tasks, gated, and one that holds a task. -/
theorem witness_ManagementControl_power :
    served.isCore 12 = true ∧ served.coreHolds 12 true = false ∧ (served.core 12).gate = .on ∧ served.coreHolds 0 false = true ∧
    served.isCore 192 = false ∧ ({ served with cores := [(12, { Core.reset with gate := .gated })] }.core 12).gate = .gated := by decide +kernel

theorem witness_ManagementControl_saved :
    let s := fun (saving : Bool) (n : Nat) => { served with saved := [(9, container saving n)] }
    tfind served.saved 9 = none ∧ tfind (s true 0).saved 9 = some (container true 0) ∧ (container true 0).saving = true ∧
    (container false 1).saving = false ∧ (container false 1).repair[0]? = some (2, 0) ∧ (container false 1).repair[1]? = none ∧
    (container false 1).refused = true ∧ (container false 0).refused = false ∧ ((s false 0).part (container false 0).thr.info.part).drained = false := by
  decide +kernel

/-! Events -/

/-- The machine with another thread 0, its streams not in lockstep. -/
def free (t : Thread) : State := { with' t with lockstep := false }

/-- A task that is being saved and one that is not; a drained EXIT; a wait for a timeline; the tenth microsecond of a WFE. -/
theorem witness_StreamEvents_tasks :
    (∃ v, tfind ({ served with saved := [(9, container true 0)] }.saved) 9 = some v ∧ v.saving = true) ∧
    (let t := { task with slot := .draining }
     t.slot = .draining ∧ t.drained = true ∧ (with' t).dirtyClosed = false ∧ tfind (with' t).slots t.info.slot = none) ∧
    { task with wait := .timeline }.wait = .timeline ∧ task.wait ≠ .timeline ∧
    (let t := { task with wait := .event, wfeSince := some 0 }
     t.wfeSince = some 0 ∧ t.wait = .event ∧ 0 + 10000 ≤ { with' t with gtime := 10000 }.gtime) ∧
    (∀ p ∈ demo.parts, p.2.opened = false) ∧
    ((with' { task with slot := .draining }).ramping 0 = false ∧ shutLine.dirtyShut 0 = true ∧ (with' task).dirtyShut 0 = false) :=
  ⟨⟨container true 0, by decide, by decide⟩, by decide, by decide, by decide, by decide, by decide, by decide +kernel⟩

/-- A queue of the ring of `spawning` that is mapped on slot 0, whose head entry holds `e`, with the words `w` at 4 KiB after the ring. -/
def scheduling (e : Nat) (w : List Nat) : State :=
  let s := ((spawning 1).dramWrite 0 0x2000001000 (natLe 8 e)).dramWrite 0 0x2000002000 (w.flatMap (natLe 8))
  { s with slots := [(0, { slot 0 with notify := 1 })], threads := [(0, Thread.reset)], saved := [], parts := [(0, Partition.reset)] }

theorem one_slot (e : Nat) (w : List Nat) : OneSlot (scheduling e w) 0 0 { slot 0 with notify := 1 } :=
  ⟨rfl, rfl, rfl, rfl, by decide, rfl, rfl⟩

/-- Whether the head entry reads as `e`, its node record can be read, and `p` holds of the FLAGS and the node. -/
def headReads (s : State) (e : Nat) (p : Nat → NodeRun → Bool) : Bool :=
  match (s.qTouch 0).schedRead 0 ((s.qTouch 0).qRead 0 0 8) 8 with
  | .ok v bs => decide (leNat bs = e) && (match v.schedWords 0 0x40002000 16 with
    | .ok _ rec => p (recField rec 0x0C 4) ((NodeRun.blank 0x40002000 0 0 0).read rec)
    | .err _ _ => false)
  | .err _ _ => false

/-- An entry of 0, a bad entry, and a node record that breaks each of the first conditions of R21. -/
theorem witness_StreamEvents_heads :
    (scheduling 0 []).isPending { slot 0 with notify := 1 } = true ∧ headReads (scheduling 0 []) 0 (fun _ _ => true) = true ∧
    headReads (scheduling 1 []) 1 (fun _ _ => true) = true ∧
    headReads (scheduling 0x40002000 [0, 2 ^ 44]) 0x40002000 (fun f _ => decide (f / 4096 ≠ 0)) = true ∧
    headReads (scheduling 0x40002000 [0, 3 * 2 ^ 32]) 0x40002000 (fun f _ => decide (f % 4 = 3 ∧ f / 8 % 2 = 0 ∧ f < 128)) = true ∧
    headReads (scheduling 0x40002000 [0, 5 * 2 ^ 36]) 0x40002000 (fun f _ => decide (4 < f / 16 % 8 ∧ f % 4 = 0 ∧ f < 128)) = true ∧
    headReads (scheduling 0x40002000 (List.replicate 16 0)) 0x40002000 (fun f n => decide (f = 0 ∧ n.repln = 0)) = true ∧
    headReads (scheduling 0x40002000 ([0, 0, 0, 1] ++ List.replicate 12 0)) 0x40002000 (fun f n => decide (f = 0 ∧ n.repln = 1 ∧ n.vgmin = 0)) = true := by decide +kernel

/-- A validated head node with one edge, on the word at 4 KiB after the ring, that waits for `v`; and one that is ready. -/
def headNode (v : Nat) (ready : Bool) : NodeRun := { NodeRun.blank 0x40004000 0 0 0 with
  edges := [(0x40002000, v)], ready := ready, repln := 1, vgmin := 1, vgreq := 8, donetl := 0x40003000, doneval := 3 }

def heading (word v : Nat) (ready : Bool) : State :=
  let s := scheduling 0x40004000 [word]
  { s with
    slots := [(0, { slot 0 with notify := 1, run := some 7 })], runs := [(7, headNode v ready)]
    parts := [(0, { Partition.reset with cores := [0], grant := 10000, poolLen := 2 ^ 25 })] }

/-- A word below WAITVAL, one that reaches it, one with the error flag, and one that cannot be read; a node that cannot be placed yet; a completion
word on a page without atomics, and on no page. -/
theorem witness_StreamEvents_nodes :
    OneSlot (heading 4 5 false) 0 0 { slot 0 with notify := 1, run := some 7 } ∧
    (let reads := fun (s : State) (a : Nat) => match (s.qTouch 0).schedRead 0 a 8 with
      | .ok w bs => (leNat bs, w.stalled)
      | .err _ c => (2 ^ 64 + c, false)
     reads (heading 4 5 false) 0x40002000 = (4, false) ∧ reads (heading 5 5 false) 0x40002000 = (5, false) ∧
     reads (heading (2 ^ 63 + 5) 5 false) 0x40002000 = (2 ^ 63 + 5, false) ∧ 2 ^ 64 ≤ (reads (heading 4 5 false) 0x8000000000000000).1) ∧
    (headNode 5 false).live = 0 ∧ (headNode 5 false).ready = false ∧
    { heading 5 5 false with parts := [(0, Partition.reset)] }.placeable { headNode 5 false with ready := true } = false ∧
    (match (heading 5 5 false).translate none 0 .satomic 0x40003000 8 with
      | .ok y (.phys pa _ pac) => isDram pa && !y.closed pa && !pac.testBit 0
      | _ => false) = true ∧
    (match (heading 5 5 false).translate none 0 .satomic 0x8000000000000000 8 with
      | .err _ _ => true
      | _ => false) = true ∧
    (match atomic.translate none 0 .satomic 0x3000 8 with
      | .ok y (.phys pa _ pac) => isDram pa && !y.closed pa && pac.testBit 0
      | _ => false) = true := by
  refine ⟨⟨rfl, rfl, rfl, rfl, by decide, rfl, rfl⟩, ?_⟩
  decide +kernel

/-- The last replica of a ready node, that starts on slot 0 of core 0 with a grant of 8 units. -/
theorem witness_StreamEvents_placement : let s := heading 5 5 true
    let n := headNode 5 true
    n.ready = true ∧ n.cohort = false ∧ n.started + 1 = n.repln ∧ ctlEn (s.qCtl 0) = true ∧ 0 < { slot 0 with notify := 1 }.weight ∧
    0 ∈ s.partCores 0 n.width ∧ (s.core 0).gate = .on ∧ s.slotFree 0 = true ∧ (∀ x ∈ threadsOf 0, x < 0 → s.slotFree x = false) ∧
    (threadsOf 0).countP (fun x => s.slotFree x) = 4 ∧ n.vgmin ≤ min n.vgreq (64 * s.width 0 / 4) ∧ (∀ c ∈ s.partCores 0 n.width, ¬ c < 0) ∧
    ((s.part 0).takeAreas n.width).isSome = true ∧ s.partCharge 0 + powerCharge n.power ≤ (s.part 0).grant ∧ s.newTask = some 0 := by
  decide +kernel

/-- A trap that may be entered, and none. -/
theorem witness_StreamEvents_traps :
    let p : Pend := { Pend.plain 0 5 7 with src := 3 }
    nextPend task.pend = none ∧ nextPend { task with pend := [p] }.pend = some p ∧ (free { task with pend := [p] }).mayEnter 0 p = true ∧
    (free { task with pend := [p], hnd := true }).mayEnter 0 p = false ∧ demo.route 0 p.code = 0 ∧ task.tvec ≠ 0 := by decide +kernel

/-- A vector instruction at the head of the VIQ that completes, one that traps, one that a handler holds, and a BAR.WAIT. -/
theorem witness_StreamEvents_vector :
    let e := { entry with op := .qget 1 0 }
    let bad := { entry with op := .mem { kind := .load, d := 1, base := 0x8000000000000000, stride := 4, idx := none, shaft := false, first := false
                                         acquire := false, o := false, p := false, fe := 0, ord := 0, scope := 0 } }
    let wait := { entry with op := .barWait 0 0 0 4 }
    (task.live = true ∧ { task with viq := [entry] }.vMay entry = true ∧
      (match (free { task with viq := [entry] }).vTry 0 entry with
        | .done _ => true
        | _ => false) = true) ∧
    ({ task with vl := 4, viq := [bad] }.vMay bad = true ∧
      (match (free { task with vl := 4, viq := [bad] }).vTry 0 bad with
        | .trap _ _ => true
        | _ => false) = true) ∧
    { task with viq := [e], hnd := true }.vMay e = false ∧ { task with viq := [wait] }.viq = [wait] ∧ demo.traceRings = [] ∧
    (∀ h ∈ threadsOf 5, (demo.thr h).viq = []) ∧ (∀ x ∈ [entry], x.sect = none) ∧
    (free { task with viq := [entry] }).lanesFirst 0 = false ∧
    (free { task with vl := 4, viq := [{ entry with op := .assign 3 (.val 7), edge := 1 }] }).lanesFirst 0 = true := by decide +kernel

/-- A tile instruction not issued, issued, and complete; a tile that is being filled, with a task that asks for it and without. -/
theorem witness_StreamEvents_tiles :
    (task.live = true ∧ task.hnd = false) ∧ [tentry].find? (fun e => decide (e.cmd = 1)) = some tentry ∧ tentry.complete = false ∧
    tentry.issued = false ∧ { tentry with op := .mdrop 3 }.op.unit = none ∧ { tentry with complete := true }.complete = true ∧ { tentry with issued := true }.issued = true ∧
    { tentry with send := .retry 0 }.send = .retry 0 ∧ (∀ h ∈ threadsOf 0, ∀ e ∈ (demo.thr h).win, e.issued = true) ∧
    (let p : PTile := { used := true, owner := 0, mapb := 0, tile := 3, dirty := false, poison := false, ready := [], rows := [], lru := 0, filling := true }
     p.came.length < 1024 * demo.width 0 ∧ 1024 * demo.width 0 ≤ { p with came := List.range 1024 }.came.length ∧
       demo.travel = false ∧ { demo with travel := true }.travel = true ∧ demo.tileErrors 0 = false ∧
     p.filling = true ∧ p.ofContext 0 0 = true ∧ { p with owner := 1 }.ofContext 0 0 = false ∧ { p with filling := false }.filling = false) := by
  decide +kernel

/-- A bobbin that may start, one that runs, one that has landed every element, and one frozen. -/
theorem witness_StreamEvents_bobbins :
    let q := { command with started := false }
    let t := { task with bob := [(3, { Bobbin.reset with queue := [q] })] }
    let done : Thread := { bobbins 1 with wm := [(3, 1)] }
    t.live = true ∧ t.bobReady 3 = true ∧ (bobbins 1).bobReady 3 = false ∧ (t.bobbin 2).queue = [] ∧
    (command.started = true ∧ (done.bobbin 3).stat.state < 2 ∧ command.sent = [] ∧ command.count ≤ tlCount (done.rwm 3)) ∧
    ¬ command.count ≤ tlCount ((bobbins 1).rwm 3) ∧ ({ ((bobbins 1).bobbin 3).stat with state := 1 }.state = 1 ∧ 64 ∈ bobbinCodes ∧ command.io = none) ∧
    (∀ l n iw va kb nreg, command.op ≠ .rows l n iw va kb nreg) :=
  ⟨by decide +kernel, by decide +kernel, by decide +kernel, by decide +kernel, by decide +kernel, by decide +kernel, by decide +kernel,
    fun _ _ _ _ _ _ h => nomatch h⟩

/-- A reducing packet in flight, 49,999 ns and 50,000 ns after it was sent. -/
theorem witness_StreamEvents_answers :
    let p : RedPacket := { seq := 0, count := 1, data := [], since := 0, retry := false, out := 1, done := false }
    let q := { command with sent := [p] }
    (({ p with out := 2 }.out - 1 ≠ 0 ∧ p.out - 1 = 0) ∧ p.done = false ∧ { p with done := true }.done = true) ∧
    let s := with' { task with bob := [(3, { Bobbin.reset with queue := [q] })] }
    s.redOf 0 3 0 = some (q, p) ∧ s.redOf 0 3 1 = none ∧ 49999 < p.since + (if p.retry then 1000 else 50000) ∧
    ({ task with wait := .remote }.wait = .remote ∧ task.remote = none) ∧ task.viq.find? (fun e => decide (e.sent ≠ 0)) = none ∧
    [{ entry with sent := 2 }].find? (fun e => decide (e.sent ≠ 0)) = some { entry with sent := 2 } ∧
    { tentry with send := .sent }.send = .sent := by decide +kernel

/-- A bobbin that waits for the answer to a remote read, one that waits for that to a write, and one that waits for none. -/
theorem witness_StreamEvents_remote :
    let q := fun (io : Option BWait) => { command with io := io }
    let t := fun (io : Option BWait) => { task with bob := [(3, { Bobbin.reset with queue := [q io] })] }
    ((t none).bobbin 2).queue = [] ∧ ((t (some .remoteRead)).bobbin 3).queue = [q (some .remoteRead)] ∧
    (q (some .remoteRead)).io = some .remoteRead ∧ (q (some .remoteWrite)).io = some .remoteWrite ∧
    ((q none).io ≠ some .remoteRead ∧ (q none).io ≠ some .remoteWrite) ∧ demo.traceRings = [] ∧ tfind demo.remotes 5 = none ∧
    tfind { demo with remotes := [(5, { src := .scalar 0, port := 3 })] }.remotes 5 = some { src := .scalar 0, port := 3 } := by decide +kernel

/-- A bank with a request and one without, open and closed; the windows of a bank group at its start. -/
theorem witness_MemoryEvents_banks :
    let b := waitingBank.bank (12 * 2048)
    let q : BankReq := { input := 0, pa := 0x180000000, owner := 0, req := .read 8, reply := .none, denied := 0, got := [], bad := false }
    b.offline = false ∧ shas (waitingBank.pillar (pillarOf 12)).shut (12 * 64) = false ∧ b.pick = some (q, []) ∧ q.reply = .none ∧
    (demo.bank 0).waiting = [] ∧ { b with offline := true }.offline = true ∧
    tget demo.spadQueue (spadKeyOf 0 0 false) [] = [] ∧ (demo.core 0).gate ≠ .quiescing ∧ tget demo.l2Queue 0 [] = [] ∧
    tget [(3, [q])] 3 [] = [q] ∧ (demo.pillar 0).change = none ∧ ¬ (demo.pillar 0).windowAt 15 demo.gtime ≤ demo.gtime ∧
    (demo.pillar 0).windowAt 0 ((demo.pillar 0).windowAt 0 0) ≤ (demo.pillar 0).windowAt 0 0 := by decide +kernel

/-- A clean line, a calendar that may change, a walk, and a shoot-down received, acknowledged and complete. -/
theorem witness_MemoryEvents_tables :
    (∃ x, tfind (resident.core 0).l1d 0x1000041 = some x ∧ x.dirty = []) ∧ tfind (demo.core 0).l1d 0 = none ∧
    (demo.pillar 0).walks[0]? = none ∧
    (let w : Walk := { core := 0, owner := 0, va := 0x1040, coreSeq := 0, llSeq := 0, others := [(3, 1)] }
     let s := { paged with pillars := [(0, { Pillar.reset with walks := [w] })] }
     (s.pillar 0).walks[0]? = some w ∧ w.failed = false ∧ { w with failed := true }.failed = true ∧ (∀ a ∈ s.walkPath 0 0x1040, s.closed a = false) ∧
       (∀ x ∈ [(0, 0)], (s.core x.1).tlb.seq = x.2) ∧ (s.core 3).tlb.seq ≠ 1 ∧ (s.pillar 0).tlb.seq = w.llSeq) ∧
    (match paged.walk 0 0x1040 with
      | .ok _ => true
      | .error _ => false) = true ∧
    (match (paged.dramWrite 0 0x400010 (natLe 8 0)).walk 0 0x80000000 with
      | .ok _ => false
      | .error _ => true) = true ∧
    (let k : Shoot := { owner := 0, page := none, toReceive := [208], toAck := [208], root := none }
     shas k.toReceive 208 = true ∧ shas { k with toReceive := [] }.toReceive 208 = false ∧ { k with toReceive := [], toAck := [] }.toAck = [] ∧
       (∀ e ∈ (demo.tlbAt 208).entries, e.doomed = true → e.hit k.owner k.page = false)) ∧
    (({ demo with cores := [(5, { Core.reset with gate := .quiescing })] }.core 5).gate = .quiescing ∧ demo.spadWaiting 5 false = []) :=
  ⟨⟨_, rfl, rfl⟩, by decide +kernel, by decide +kernel, by decide +kernel, by decide +kernel, by decide +kernel, by decide +kernel⟩

/-- An engine at its budget, and one cycle before; a packet to start; an emit to another package. -/
theorem witness_NetworkEvents_engines :
    ((golpin 0 64 (fun k => { k with cyc := 512 })).engine 0).busy = true ∧ 512 ≤ ((golpin 0 64 (fun k => { k with cyc := 512 })).engine 0).cyc ∧
    ¬ 512 ≤ ((golpin 0 64 (fun k => { k with cyc := 511 })).engine 0).cyc ∧ (demo.engine 0).busy = false ∧ (demo.engine 0).input = [] ∧
    [gpacket 0 64] = gpacket 0 64 :: [] ∧ (locOf 0x8000000000040 = .remote 0 0x40) ∧ (∀ b ∈ demo.blocks, b.2.queued = 0) := by decide +kernel

/-- The record of command 5 of a sender that is at its first element: a packet of an earlier command, one beyond the window of elements, one
of another sender, one that is fresh, and the same after it was marked. -/
theorem witness_NetworkEvents_reductions :
    let p := { (gpacket 3 8).pkt with cmd := 5, sender := 1, total := 9, esz := 4 }
    let r : RedRec := { sender := 1, srcpkg := 0, thread := 0, total := 9, anchor := 0, cmd := 5, map := 0 }
    (r.check { p with cmd := 4 }).2 = .applied ∧ (r.check { p with seq := 4096 }).2 = .retry ∧ (r.check { p with sender := 2 }).2 = .retry ∧
    (r.check p).2 = .fresh 3 ∧ ((r.mark p 3).check p).2 = .applied := by decide +kernel

/-- A package with number 3; packets to it and to another, well formed and not, with a flow and without. -/
theorem witness_NetworkEvents_links :
    let me := { served with pkgNum := some 3 }
    let p := { (gpacket 0 64).pkt with dst := 3 }
    let f := { (default : FlowEntry) with ctl := 7, stlen := 1 }
    demo.pkgNum = none ∧ me.pkgNum = some 3 ∧ p.dst = 3 ∧ { p with dst := 2 }.dst ≠ 3 ∧ packetOk p = true ∧ packetOk { p with len := 0 } = false ∧
    (me.block 0).flows.find? (fun x => flowTakes x.2 p) = none ∧
    ({ PortBlock.reset with flows := [(0, f)] }.flows.find? (fun x => flowTakes x.2 p)) = some (0, f) ∧ p.kind ≠ 3 ∧ (gpacket 3 8).pkt.kind = 3 ∧
    me.checkElem 0 8 0x2000000000 = .fine ∧ me.checkElem 0 8 0x1F00000000 = .bad ∧ me.closed 0x2000000000 = false ∧
    { me with cores := [(5, { Core.reset with gate := .gated })] }.checkElem 0 8 (0x10000000000 + 5 * 2 ^ 24) = .gated ∧
    (me.pkgNum ≠ none ∧ 3 < 4 ∧ 5 < 6 ∧ shas me.linksDown 23 = false ∧ (tget (me.block 3).ingress 5 []).length < 64 ∧ (me.block 3).ingress = []) ∧
    64 ≤ (tget [(5, List.replicate 64 p)] 5 []).length ∧ ¬ 32 ≤ (me.engine 24).input.length ∧
    (let quiescing := { me with cores := [(5, { Core.reset with gate := .quiescing })] }
     (quiescing.land 0 1 (toW (2 ^ 42 + 3 * 2 ^ 32 + 5 * 2 ^ 24)) []).2 = 3 ∧ (me.land 0 1 (toW (2 ^ 42 + 3 * 2 ^ 32)) []).2 ≠ 3) ∧
    sendPkg (toW (2 ^ 42 + 3 * 2 ^ 32)) = 3 ∧ sendPkg (toW (2 ^ 42 + 2 * 2 ^ 32)) ≠ 3 ∧ (23 < 24 ∧ shas me.linksDown 23 = false) ∧
    ((∀ x ∈ me.remotes, x.2.port ≠ 23) ∧
      [((5 : Nat), ({ src := .scalar 0, port := 23 } : RemoteReq))].filter (fun y => decide (y.2.port = 23)) = [(5, { src := .scalar 0, port := 23 })]) := by
  decide +kernel

/-- A request packet to package 3: a write, a 32-bit atomic, and one that no packet carries; an element, and one whose bank is closed. -/
theorem witness_NetworkEvents_requests :
    let me := { served with pkgNum := some 3 }
    let p : RequestPacket := { (default : RequestPacket) with dst := 3, kind := 2, op := 11, w := 4, elems := [{ (default : RemoteElem) with addr := 0x2000000000 }] }
    me.pkgNum = some p.dst ∧ (p.kind = 2 ∧ p.op < 12 ∧ p.w = 4) ∧ { p with op := 12 }.op ≥ 12 ∧ { p with kind := 1 }.kind < 2 ∧
    { p with dst := 2 }.dst ≠ 3 ∧ (∀ x ∈ p.elems, me.closed x.addr = false) ∧
    { shutLine with pkgNum := some 3 }.closed 0x40001040 = true ∧ p.elems.find? (fun x => decide (me.checkElem 2 4 x.addr = .bad)) = none ∧
    (me.checkElem 2 4 0x1F00000000 = .bad) := by decide +kernel

/-- Packets in order, ahead of the expected one, behind it, and acknowledgements; a connection that is not open. -/
theorem witness_NetworkEvents_ehrez :
    let p : EhrezPacket := { ver := 1, type := 1, conn := 0, seq := 0, ack := 0, len := 0, addr := 0, status := 0, rsvd := 0, data := [] }
    let k := served.conn 0
    (let f : EthFrame := {}
     f.ipv6 = true ∧ f.fragment = false ∧ f.extension = false ∧ f.size ≤ 9216 ∧ f.port = 47806 ∧ ¬ { f with size := 9217 }.size ≤ 9216) ∧
    (ehrezFramed p = true ∧ k.opened = true ∧ k.failed = false ∧ served.ethIn < 256) ∧ (demo.conn 0).opened = false ∧
    (p.type < 3 ∧ p.seq = k.expect) ∧ ({ p with seq := 1 }.seq ≠ k.expect ∧ seqBefore 1 k.expect = false) ∧
    seqBefore (2 ^ 32 - 1) k.expect = true ∧ { p with type := 3 }.type = 3 ∧ ehrezFramed { p with len := 8193 } = false ∧
    (ehrezFramed { p with type := 7 } = true ∧ ehrezFramed { p with type := 8 } = false ∧ { p with type := 4 }.type = 4 ∧ { p with conn := 1 }.conn ≠ 0) ∧
    ((∃ q ∈ { k with inq := [p] }.inq, q.seq = p.seq ∧ q.type ≠ 3) ∧ ¬ ∃ q ∈ k.inq, q.seq = p.seq ∧ q.type ≠ 3) ∧ served.ctlIn = [] ∧
    (let b := { p with type := 7 }
     ehrezFramed b = true ∧ b.conn = 0 ∧ demo.boot = .requesting ∧ b.seq = (demo.conn 0).expect ∧ { b with seq := 1 }.seq ≠ (demo.conn 0).expect ∧
       seqBefore 1 (demo.conn 0).expect = false ∧ seqBefore (2 ^ 32 - 1) (demo.conn 0).expect = true ∧ demo.ctlIn = []) ∧
    (let x : OutPacket := { pkt := p, sends := 17, since := 0 }
     x.since + 50000 ≤ 50000 ∧ 17 ≤ x.sends ∧ { x with sends := 16 }.sends < 17) ∧ (demo.boot = .requesting) ∧
    { demo with boot := .running }.boot ≠ .requesting := by decide +kernel

/-- A queue to scan with a notify value of 1, and one that overruns its ring. -/
theorem witness_PackageEvents_scan :
    let reads := fun (s : State) => match s.readNotify 0 with
      | (u, some v) => some (v, u.overrun 0 (u.qRead 0 0x18 8) v, u.qRead 0 0x20 8, tfind u.pending 0)
      | _ => none
    ((spawning 1).queueBase ≠ none ∧ ctlEn ((spawning 1).qCtl 0) = true ∧ (spawning 1).slotOf 0 = none) ∧
    reads (spawning 1) = some (1, false, 0, none) ∧ reads (spawning 17) = some (17, true, 0, none) ∧
    (match { spawning 1 with owners := [(0, { Owner.reset with root := 0x200000 })] }.readNotify 0 with
      | (_, some _) => true
      | _ => false) = true := by decide +kernel

theorem witness_PackageEvents_slots :
    let s := { spawning 1 with slots := [(0, slot 0)], threads := [] }
    let u := { s with gtime := 10000 }
    (tfind demo.slots 0 = none) ∧ tfind s.slots 0 = some (slot 0) ∧
    ¬ ((slot 999).exp = false ∧ (slot 999).wdlim ≠ 0 ∧ (slot 999).wdlim * 1000 ≤ (slot 999).wdcount) ∧
    ((slot 1000).exp = false ∧ (slot 1000).wdlim ≠ 0 ∧ (slot 1000).wdlim * 1000 ≤ (slot 1000).wdcount) ∧
    u.noteIdle 0 = u ∧ u.mayUnmap 0 (slot 0) = true ∧ 0 + 10000 ≤ u.gtime ∧ (slot 0).run = none ∧
    demo.pending = [] ∧ ({ s with pending := [(0, 0)] }.nextPending = some 0 ∧ tfind s.slots 1 = none ∧ (tfind s.slots 0).isSome = true) := by
  decide +kernel

theorem witness_PackageEvents_time :
    let m := { demo with timeMaster := some 1, pkgNum := some 2 }
    (∀ k ∈ [(0, slot 999)], k.2.exp = true ∨ k.2.wdlim = 0 ∨ k.2.wdcount < k.2.wdlim * 1000) ∧
    demo.heads 0 0 0 = [] ∧ demo.isCore 0 = true ∧ demo.timeMaster = none ∧ demo.traceRings = [] ∧ demo.slots = [] ∧
    (m.timeMaster ≠ none ∧ m.timeMaster ≠ m.pkgNum) ∧ m.linksUp ≠ [] ∧
    ((({ m with locked := true }.locked = true ∧ 51 > 50) ∧ { m with goodMsgs := 15 }.goodMsgs + 1 = 16)) ∧
    (demo.parts = [] ∧ (∀ c, c < 1 → demo.isCore c = true) ∧ demo.cap < 2400001 ∧ demo.errorLog = none ∧
      served.parts.map (·.1) = [0] ∧ ({ demo with overUs := 20 }.overUs + 1 = 21)) ∧ ({ m with timeMaster := some 2 }.timeMaster = some 2 ∧ m.pkgNum = some 2) ∧
    (let r : Ring := { base := 0x2000000000, n := 4, mask := 0, prod := 15, cons := 0, lost := 0 }
     r.prod - r.cons ≠ 2 ^ r.n ∧ { r with prod := 16 }.prod - r.cons = 2 ^ r.n) ∧ demo.faultRing = none := by decide +kernel

/-! Reset, decoding and the step -/

/-- The first instruction of the machine: thread 0 of the reset agenda, its fetch, and what it decodes to; a register that waits; a word
that decodes to nothing; an engine, and an event. -/
theorem witness_StepRunsTheDecodedInstruction :
    let s := State.reset.withFetchWord 32 0x00C80297
    let q := { s with tick := s.tick + 1, hart := 0 }.pump 0
    s.agenda.headD s.actor = .thread 0 ∧ s.isThread 0 = true ∧ (s.thr 0).live = true ∧ (s.thr 0).stopReq = none ∧ q.cur.stopReq = none ∧
    nextPend q.cur.pend = none ∧ q.cur.slot ≠ .draining ∧
    q.cur.away = none ∧ (q.makeRoom.core (coreOf q.makeRoom.hart)).l1d.length < 1024 ∧ s.stalled = false ∧
    (∀ p ∈ s.parts, (s.part p.1).owed = none) ∧ { q.cur with away := some (0x7B, .spad 0) }.away = some (0x7B, .spad 0) ∧
    (match q.makeRoom.fetch with
      | .ok u w => decide (w % 2 ^ 32 = 0x00C80297) && !u.cur.interlocked (instrRegs (.addi { d := 5, a := 0, imm := 100 })) &&
          { u.cur with rbq := [{ cmd := 1, isF := false, reg := 5 }] }.interlocked (instrRegs (.addi { d := 5, a := 0, imm := 100 }))
      | _ => false) = true ∧
    (decodeYeles 0).toBool = false ∧
    (let g := State.reset.withFetchWord 32 0x08800040
     g.agenda.headD g.actor = .engine 0 ∧ (g.engine 0).busy = true ∧ (g.engine 0).cyc < 512 ∧ (decodeGolpin (g.engine 0).wordAt).toBool = true) ∧
    (encode .timeClockEdge).bytes = 0 ∧ (encode .nop).bytes ≠ 0 ∧ (State.reset.thr 0).live = false ∧ State.reset.isThread 0 = true := by decide +kernel

/-- A parcel that is fetched into the instruction cache. -/
theorem witness_StepRunsTheDecodedInstruction_fetch :
    let p := { State.reset.withFetchWord 32 0x00C80297 with hart := 0 }
    (match p.place .fetch 0x1000 2 with
      | .ok u (.phys pa _ _) => decide (pa % 2 = 0) && (tfind (u.core 0).l1i (pa / 64)).isNone && decide (u.hart = 0) && decide (u.cur = p.cur) &&
          !u.lineShut (pa / 64) && (u.badAt pa 2).isNone
      | _ => false) = true := by decide +kernel

theorem witness_RoundTrip : (Instr.addi { d := 31, a := 31, imm := 32767 }).wf = true ∧
    (encode (.addi { d := 31, a := 31, imm := 32767 })).bytes ≠ 0 ∧ (Instr.golpinDrop).wf = true ∧ (encode .golpinDrop).bytes ≠ 0 ∧
    (decodeYeles 0x00C80297).toBool = true ∧ (decodeGolpin 0x90000000).toBool = true := by decide +kernel

theorem witness_MemoryStaysCanonical : Memory.wf State.reset.mem = true ∧ Memory.wf (State.reset.withFetchWord 32 0x00C80297).mem = true ∧
    (match step (State.reset.withFetchWord 32 0x00C80297) with
      | .next _ => true
      | _ => false) = true := by decide +kernel

end Sys2Proof.Tests
end

section
namespace Sys2Proof.Machine

theorem tput_tput {α : Type} (t : Table α) (k : Nat) (a b : α) : tput (tput t k a) k b = tput t k b := by
  induction t with
  | nil => simp [tput]
  | cons p r ih =>
    obtain ⟨j, c⟩ := p
    simp only [tput]
    split
    · simp [tput]
    · split
      · simp [tput]
      · simp [tput, *]

@[simp] theorem State.setThr_setThr (s : State) (h : Nat) (t u : Thread) : (s.setThr h t).setThr h u = s.setThr h u := by
  simp only [State.setThr, tput_tput]

@[simp] theorem State.setCur_setCur (s : State) (t u : Thread) : (s.setCur t).setCur u = s.setCur u :=
  State.setThr_setThr s s.hart t u

/-- An instruction that changes only its thread, and not the number of its task, leaves the thread changed and everything else as it was. -/
theorem leaves_of_retire {i : Instr} {s : State} {u : Thread} {len : Nat} (hi : exec i s = .next ((s.setCur u).retire len))
    (hpc : u.pc = s.cur.pc) (htask : u.taskid = s.cur.taskid) : Leaves i s (s.cur.pc + toW len) u := by
  refine ⟨_, hi, ?_, rfl, rfl, ?_, ?_⟩
  · rw [State.retire, retireTo_cur, State.cur_setCur, hpc]; rfl
  · intro h hh
    simp only [State.retire, State.retireTo, State.count_thr]
    rw [State.thr_setCur_ne _ _ (by simpa using hh), State.thr_setCur_ne _ _ hh]
  · rw [State.retire, State.retireTo, State.cur_setCur]
    exact countedOne_count htask _ rfl

/-- What `waiting` leaves of a thread that it does not hold for a watermark. -/
theorem waiting_setCur (s : State) (t : Thread) {w : WaitOn} (hw : w ≠ .watermark) :
    (s.setCur t).waiting w = s.setCur { t with wait := w } := by
  simp [State.waiting, hw]

/-- WFE ends: the event flag is set, or 10 µs have passed since it began. -/
theorem wfe_leaves {s : State} (h : s.cur.event = true ∨ ∃ g, s.cur.wfeSince = some g ∧ g + 10000 ≤ s.gtime) :
    Leaves .wfe s (s.cur.pc + 4) { s.cur with event := false } := by
  refine leaves_of_retire (len := 4) ?_ rfl rfl
  rw [exec_wfe, execWfe, if_pos]
  rcases h with h | ⟨g, hg, ht⟩
  · simp [h]
  · simp [hg]; omega

/-- WFE waits, from the time at which it began. -/
theorem wfe_waits {s : State} {g : Nat} (he : s.cur.event = false) (hg : s.cur.wfeSince.getD s.gtime = g) (ht : s.gtime < g + 10000) :
    exec .wfe s = .next (s.setCur { s.cur with wfeSince := some g, wait := .event }) := by
  rw [exec_wfe, execWfe, if_neg (by simp [he, hg]; omega), hg, waiting_setCur _ _ (by decide)]

theorem exitTask_drains {s : State} (h : s.cur.hnd = false) :
    exec .exitTask s = .next (s.setCur { s.cur with slot := .draining, wait := .drain }) := by
  rw [exec_exitTask, execExitTask, if_neg (by simp [h]), waiting_setCur _ _ (by decide)]

theorem exitTask_illegal {s : State} (h : s.cur.hnd = true) : Illegal .exitTask s := by
  unfold Illegal Traps; rw [exec_exitTask, execExitTask, if_pos h]; rfl

/-- Rewriting the executing thread with itself before an instruction ends changes nothing. -/
theorem retire_setCur_cur (s : State) (len : Nat) : (s.setCur s.cur).retire len = s.retire len := by
  simp only [State.retire, State.retireTo, State.cur_setCur, State.setCur_setCur]

/-- YIELD that gives nothing up is a NOP. -/
theorem yieldTask_goes {s : State}
    (h : s.cur.hnd = true ∨ s.expired s.cur = true ∨ s.replicaWaits s.cur.info.part = false) : GoesTo .yieldTask s (s.cur.pc + 4) := by
  obtain ⟨t, ht, hr⟩ := regOp_id s 4
  refine ⟨t, ?_, hr⟩
  rw [exec_yieldTask, execYieldTask, if_pos (by rcases h with h | h | h <;> simp [h]), ← ht, regOp, id, retire_setCur_cur]

/-- Settles O28: one lemma for each way in which WFE, EXIT and YIELD end. -/
theorem waitsAndEnds : Obligations.WaitsAndEnds := by
  intro s
  refine ⟨wfe_leaves, fun he hs => ?_, fun g he hs ht => ?_, exitTask_drains, exitTask_illegal, yieldTask_goes⟩
  · exact wfe_waits he (by simp [hs]) (by omega)
  · rw [wfe_waits he (by simp [hs]) ht, ← hs]

end Sys2Proof.Machine
end

section
/-! Vector instructions at commit -/

namespace Sys2Proof.Machine

/-- The thread after the commit of `op` by a thread that the scalar stream itself has made `v`. -/
def State.queued (s : State) (v : Thread) (op : VOp) (k rm : Nat) (rb : Option (Bool × Nat)) : Thread :=
  { v with viq := s.cur.viq ++ [s.newEntry op k rm], rbq := s.cur.newReadBack rb, cmds := tput s.cur.cmds 0 (s.cur.nextCmd 0) }

theorem newReadBack_eq (t : Thread) (rb : Option (Bool × Nat)) :
    t.rbq ++ optList (rb.map (fun r => ({ cmd := t.nextCmd 0, isF := r.1, reg := r.2 } : RbEntry))) = t.newReadBack rb := by
  cases rb <;> simp [optList, Thread.newReadBack]

/-- A commit with room: the entry joins the VIQ, the scalar stream goes on, and the streams do what they can. -/
theorem commitVWith_eq {s : State} (f : Thread → Thread) (len : Nat) {op : VOp} (k rm : Nat) {rb : Option (Bool × Nat)}
    (hop : ∀ n scope target l, op ≠ .barWait n scope target l) (hh : s.cur.hnd = false) (hn : s.cur.cmdsOut 0 = false)
    (hr : s.cur.viq.length < 32 ∧ (rb ≠ none → s.cur.rbq.length < 8)) :
    s.commitVWith f len op k rm rb =
      .next (((s.newOrder.1.setCur (s.queued (f s.cur) op k rm rb)).retire len).pump s.hart) := by
  have hroom : ¬ (32 ≤ s.cur.viq.length ∨ (rb.isSome = true ∧ 8 ≤ s.cur.rbq.length)) := by
    rintro (h | ⟨h, h'⟩)
    · omega
    · exact absurd (hr.2 (Option.isSome_iff_ne_none.mp h)) (by omega)
  unfold State.commitVWith
  rw [if_neg (by simp [hh, hn]), if_neg hroom]
  dsimp only
  rw [newReadBack_eq]
  split
  · exact absurd rfl (hop _ _ _ _)
  · rfl

theorem newOrder_core (s : State) (c : Nat) : s.newOrder.1.core c =
    if c = coreOf s.hart then { s.core (coreOf s.hart) with commits := (s.core (coreOf s.hart)).commits + 1 } else s.core c :=
  State.core_setCore s _ _ _

theorem State.core_congr {s t : State} (h : t.cores = s.cores) (c : Nat) : t.core c = s.core c := by rw [State.core, State.core, h]

/-- Retiring an instruction changes the executing thread and its counter of retired instructions only. -/
theorem retire_eq (s : State) (len : Nat) : ∃ T K, s.retire len = { s with threads := T, tasks := K } := ⟨_, _, rfl⟩

theorem newOrder_eq (s : State) : ∃ C, s.newOrder.1 = { s with cores := C } := ⟨_, rfl⟩

/-- What a commit leaves of the machine before the streams go on. -/
theorem queued_retire {s : State} {v : Thread} (len : Nat) (op : VOp) (k rm : Nat) (rb : Option (Bool × Nat)) (hpc : v.pc = s.cur.pc)
    (htask : v.taskid = s.cur.taskid) :
    VQueued s ((s.newOrder.1.setCur (s.queued v op k rm rb)).retire len) (v.goneTo 0) (s.cur.pc + toW len) .none op k rm rb ∧
      CountedOne s ((s.newOrder.1.setCur (s.queued v op k rm rb)).retire len) := by
  obtain ⟨C, hC⟩ := newOrder_eq s
  have hcore := newOrder_core s
  rw [hC] at hcore ⊢
  obtain ⟨T, K, hu⟩ := retire_eq (({ s with cores := C } : State).setCur (s.queued v op k rm rb)) len
  refine ⟨⟨?_, rfl, ?_, fun h hne => ?_, fun c => ?_⟩, ?_⟩
  · rw [State.retire, retireTo_cur, State.cur_setCur, State.queued, hpc]; rfl
  · rw [hu]; rfl
  · rw [State.retire, State.retireTo, State.count_thr, State.thr_setCur_ne _ _ (by exact hne), State.thr_setCur_ne _ _ (by exact hne)]; rfl
  · rw [State.core_congr (s := { s with cores := C }) (by rw [hu]; rfl)]; exact hcore c
  · rw [State.retire, State.retireTo, State.cur_setCur]
    exact countedOne_count htask _ rfl

theorem commitVWith_waits {s : State} (f : Thread → Thread) (len : Nat) (op : VOp) (k rm : Nat) {rb : Option (Bool × Nat)}
    (hh : s.cur.hnd = false) (hn : s.cur.cmdsOut 0 = false) (hr : ¬ (s.cur.viq.length < 32 ∧ (rb ≠ none → s.cur.rbq.length < 8))) :
    s.commitVWith f len op k rm rb = .next (s.waiting .viqFull) := by
  unfold State.commitVWith
  rw [if_neg (by simp [hh, hn]), if_pos]
  rw [← Option.isSome_iff_ne_none] at hr
  by_cases hv : s.cur.viq.length < 32
  · right; push Not at hr; exact hr hv
  · left; omega

theorem commitVWith_illegal {s : State} (f : Thread → Thread) (len : Nat) (op : VOp) (k rm : Nat) (rb : Option (Bool × Nat))
    (hh : s.cur.hnd = true) : s.commitVWith f len op k rm rb = .next (s.precise s.illegal) := by
  unfold State.commitVWith; rw [if_pos (by simp [hh])]

/-! The fields of a vector instruction, as `EachVector` writes them -/

theorem pD_eq (p : Option Modifier) (n : Nat) : pD p n = n + 32 * ((p.map (·.dh)).getD 0) := by cases p <;> rfl
theorem pA_eq (p : Option Modifier) (n : Nat) : pA p n = n + 32 * ((p.map (·.ah)).getD 0) := by cases p <;> rfl
theorem pB_eq (p : Option Modifier) (n : Nat) : pB p n = n + 32 * ((p.map (·.bh)).getD 0) := by cases p <;> rfl
theorem pRm_eq (p : Option Modifier) : pRm p = (p.map (·.rm)).getD 7 := by cases p <;> rfl
theorem pSat_eq (p : Option Modifier) : pSat p = decide ((p.map (·.sat)).getD 0 = 1) := by cases p <;> rfl

theorem vSrc_eq (t : Thread) (p : Option Modifier) (ok b : Nat) (zero : Bool) : t.vSrc p ok b zero =
    if ok = 0 then VSrc.reg (b + 32 * ((p.map (·.bh)).getD 0)) else if ok = 1 then .val (t.rx b)
    else if ok = 2 then .val (if zero then BitVec.ofNat 64 b else (BitVec.ofNat 5 b).signExtend 64) else .val (t.rf b) := by
  match ok with
  | 0 => simp [Thread.vSrc, pB_eq]
  | 1 => rfl
  | 2 => simp [Thread.vSrc, sextW_eq, toW]
  | n + 3 => simp [Thread.vSrc]

/-- An operation that names no register group has no illegal operands. -/
theorem groupsOk_of_no_groups {v : VOp} {w c : Nat} (hd : v.dst w = []) (hs : v.srcs w = []) : v.groupsOk w c = true := by
  simp [VOp.groupsOk, hd, hs]

/-- Commit, wait or trap, for an instruction that `commitV` ends where it is legal. -/
theorem commitV_commits {i : Instr} {s : State} {len k rm : Nat} {legal : Prop} {v : VOp} {rb : Option (Bool × Nat)}
    (hv : ∀ n scope target l, v ≠ .barWait n scope target l) (hl : legal → exec i s = s.commitV len v k rm rb)
    (hn : ¬ legal → Illegal i s) : VCommits i s len legal v k rm rb := by
  refine ⟨fun h hh hc hr => ?_, fun h hh hc hr => ?_, fun h => ?_⟩
  · exact ⟨_, by rw [hl h, State.commitV, commitVWith_eq id len k rm hv hh hc hr]; rfl, queued_retire len v k rm rb rfl rfl⟩
  · rw [Waits, hl h, State.commitV, commitVWith_waits id len v k rm hh hc hr]; rfl
  · by_cases hlegal : legal
    · rw [Illegal, Traps, hl hlegal, State.commitV, commitVWith_illegal id len v k rm rb (h.resolve_left (not_not_intro hlegal))]; rfl
    · exact hn hlegal

/-- The same for an instruction whose commit checks the width and the register groups. -/
theorem vCommit_commits {i : Instr} {s : State} {p : Option Modifier} {k : Nat} {ok : Thread → Bool} {op : Thread → VOp}
    {rb : Option (Bool × Nat)} {legal : Prop} {v : VOp} (hi : exec i s = vCommit p k ok op rb s) (hop : op s.cur = v)
    (hv : ∀ n scope target l, v ≠ .barWait n scope target l)
    (hl : legal ↔ v.groupsOk (2 ^ s.cur.csew) (8 * 2 ^ s.cur.cnreg) = true ∧ ok s.cur = true) :
    VCommits i s (if p.isSome then 8 else 4) legal v k (if (p.map (·.rm)).getD 7 = 7 then s.cur.frm else (p.map (·.rm)).getD 7) rb := by
  refine commitV_commits hv (fun h => ?_) (fun h => ?_)
  · obtain ⟨hg, ho⟩ := hl.mp h
    simp only [hi, vCommit, hop, hg, ho, Bool.and_self, if_true, Thread.rmOf, pRm_eq]; rfl
  · rw [Illegal, Traps, hi, vCommit, if_neg]
    · rfl
    · rw [hop, Bool.and_eq_true]; exact fun hc => h (hl.mpr hc.symm)

end Sys2Proof.Machine
end

section
namespace Sys2Proof.Machine

/-- Settles O35: each instruction's meaning is a commit of what `EachVector` names, and `vCommit_commits` says what a commit does. -/
theorem vectorCommits : Obligations.VectorCommits := by
  intro s
  refine ⟨fun x hx o => ?_, fun x hx o => ?_, fun x hx o => ?_, fun x hx o => ?_, fun x hx o => ?_, fun x hx o => ?_, fun x hx o => ?_,
    fun x hx o => ?_, fun x hx o => ?_, fun x hx o => ?_, fun o => ?_, fun o => ?_, fun o => ?_, fun o => ?_, fun o => ⟨?_, ?_⟩,
    fun o => ⟨?_, ?_, ?_, ?_⟩, fun o => ?_, fun o => ⟨?_, ?_⟩, fun o => ⟨?_, ?_⟩, fun o => ?_, fun o => ?_, ?_⟩
  · have hi : exec (x.1 o) s = vInt x.2 anySew false o s := by fin_cases hx <;> rfl
    exact vCommit_commits hi (by simp only [pD_eq, pA_eq, vSrc_eq]) nofun (by simp [anySew])
  · have hi : exec (x.1 o) s = vInt x.2 anySew true o s := by fin_cases hx <;> rfl
    exact vCommit_commits hi (by simp only [pD_eq, pA_eq, vSrc_eq]) nofun (by simp [anySew])
  · have hi : exec (x.1 o) s = vInt x.2 halfSew false o s := by fin_cases hx <;> rfl
    exact vCommit_commits hi (by simp only [pD_eq, pA_eq, vSrc_eq]) nofun (by simp [halfSew])
  · have hi : exec (x.1 o) s = vInt x.2 halfSew true o s := by fin_cases hx <;> rfl
    exact vCommit_commits hi (by simp only [pD_eq, pA_eq, vSrc_eq]) nofun (by simp [halfSew])
  · have hi : exec (x.1 o) s = vFlt x.2 o s := by fin_cases hx <;> rfl
    exact vCommit_commits hi (by simp only [pD_eq, pA_eq, vSrc_eq]) nofun (by simp [fpSew])
  · have hi : exec (x.1 o) s = vFun x.2 o s := by fin_cases hx <;> rfl
    exact vCommit_commits hi (by simp only [pD_eq, pA_eq]) nofun (by simp [fpSew])
  · have hi : exec (x.1 o) s = vCmp x.2 anySew o s := by fin_cases hx <;> rfl
    exact vCommit_commits hi (by simp only [pA_eq, vSrc_eq]) nofun (by simp [anySew])
  · have hi : exec (x.1 o) s = vCmp x.2 fpSew o s := by fin_cases hx <;> rfl
    exact vCommit_commits hi (by simp only [pA_eq, vSrc_eq]) nofun (by simp [fpSew])
  · have hi : exec (x.1 o) s = vLogic x.2 o s := by fin_cases hx <;> rfl
    exact vCommit_commits hi rfl nofun (iff_of_true trivial ⟨groupsOk_of_no_groups rfl rfl, rfl⟩)
  · have hi : exec (x.1 o) s = vFold x.2 o s := by fin_cases hx <;> rfl
    exact vCommit_commits hi (by simp only [pA_eq, Thread.vStart]) nofun (by simp [sewOf, fpSew, imp_iff_not_or])
  · exact vCommit_commits (exec_vfcvt s o) (by simp only [pD_eq, pA_eq, pSat_eq]) nofun (by simp [cvtSew])
  · exact vCommit_commits (exec_vfcvtRs s o) (by simp only [pD_eq, pA_eq, pB_eq, pSat_eq, rsSrc]) nofun
      (and_congr_right fun _ => decide_eq_true_iff.symm)
  · exact vCommit_commits (exec_vqget s o) (by simp only [pD_eq]) nofun Iff.rfl
  · exact vCommit_commits (exec_vqput s o) (by simp only [pA_eq, Thread.vCount]) nofun Iff.rfl
  · exact vCommit_commits (exec_kcount s o) rfl nofun (iff_of_true trivial ⟨groupsOk_of_no_groups rfl rfl, rfl⟩)
  · exact vCommit_commits (exec_kffs s o) rfl nofun (iff_of_true trivial ⟨groupsOk_of_no_groups rfl rfl, rfl⟩)
  · exact vCommit_commits (exec_vshup s o) (by simp only [pD_eq, pA_eq, Thread.vCount]) nofun (by simp [anySew])
  · exact vCommit_commits (exec_vshdn s o) (by simp only [pD_eq, pA_eq, Thread.vCount]) nofun (by simp [anySew])
  · exact vCommit_commits (exec_vpick s o) (by simp only [pD_eq, pA_eq, vSrc_eq]) nofun (by simp [anySew])
  · exact vCommit_commits (exec_vscan s o) (by simp only [pD_eq, pA_eq, Thread.vStart]) nofun (by simp [sewOf, fpSew, imp_iff_not_or])
  · exact vCommit_commits (exec_vcompact s o) (by simp only [pD_eq, pA_eq]) nofun (by simp [anySew])
  · exact vCommit_commits (exec_vassign s o) (by simp only [pD_eq, vSrc_eq]) nofun (by simp [anySew])
  · exact vCommit_commits (exec_vramp s o) (by simp only [pD_eq, sextW_eq]) nofun (by simp [anySew])
  · exact vCommit_commits (exec_vgetx s o) (by simp only [pA_eq, Thread.vCount]) nofun (by simp [anySew])
  · exact vCommit_commits (exec_vgetf s o) (by simp only [pA_eq, Thread.vCount]) nofun (by simp [anySew])
  · exact vCommit_commits (exec_vredmaxi s o) (by simp only [pA_eq]) nofun (by simp [sewOf, fpSew, imp_iff_not_or])
  · exact vCommit_commits (exec_vrand s o) (by simp only [pD_eq]) nofun (by simp [anySew])
  · exact commitV_commits nofun (fun _ => rfl) (fun h => absurd trivial h)

end Sys2Proof.Machine
end

section
/-! Frames of the stores: what the operations on memory and the translations of the schedulers leave as it was -/

namespace Sys2Proof.Machine

/-- Accesses to memory may have gone before `t`: the tables of cores, memory and its keys, and pillars are any. -/
def State.Stored (s t : State) : Prop :=
  ∃ cs m k ps, t = { s with cores := cs, mem := m, keys := k, pillars := ps }

theorem State.Stored.refl (s : State) : s.Stored s := ⟨_, _, _, _, rfl⟩

theorem State.Stored.trans {s t u : State} (h : s.Stored t) (h' : t.Stored u) : s.Stored u := by
  obtain ⟨_, _, _, _, rfl⟩ := h
  obtain ⟨_, _, _, _, rfl⟩ := h'
  exact ⟨_, _, _, _, rfl⟩

/-- A fold of steps that only access memory only accesses memory. -/
theorem State.Stored.foldl {α : Type} {f : State → α → State} (hf : ∀ (s : State) a, s.Stored (f s a)) (l : List α) (s : State) :
    s.Stored (l.foldl f s) := by
  induction l generalizing s with
  | nil => exact .refl s
  | cons a r ih => exact (hf s a).trans (ih _)

theorem stored_setCore (s : State) (c : Nat) (k : Core) : s.Stored (s.setCore c k) := ⟨_, _, _, _, rfl⟩

theorem stored_mem (s : State) (m : List Host.Cell) : s.Stored { s with mem := m } := ⟨_, _, _, _, rfl⟩

theorem stored_l2Touch (s : State) (pa o : Nat) (w : Bool) : s.Stored (s.l2Touch pa o w) := by
  unfold State.l2Touch
  split <;> exact ⟨_, _, _, _, rfl⟩

theorem stored_l2TouchAll (s : State) (pa n o : Nat) (w : Bool) : s.Stored (s.l2TouchAll pa n o w) := by
  obtain ⟨p, h⟩ := l2TouchAll_eq s pa n o w
  exact ⟨_, _, _, p, h⟩

theorem stored_dramPut (s : State) (o pa : Nat) (b : Byte) : s.Stored (s.dramPut o pa b) := by
  unfold State.dramPut
  dsimp only
  split <;> exact ⟨_, _, _, _, rfl⟩

theorem stored_putBytes {put : State → Nat → Byte → State} (hp : ∀ (s : State) a b, s.Stored (put s a b)) (bs : List Byte) (s : State) (a : Nat) :
    s.Stored (putBytes put s a bs) := by
  induction bs generalizing s a with
  | nil => exact .refl s
  | cons b r ih => exact (hp s a b).trans (ih _ _)

theorem stored_dramWrite (s : State) (o pa : Nat) (bs : List Byte) : s.Stored (s.dramWrite o pa bs) :=
  (stored_l2TouchAll s pa bs.length o true).trans (stored_putBytes (fun s a b => stored_dramPut s o a b) bs _ pa)

theorem stored_l1WriteBack (s : State) (c line : Nat) : s.Stored (s.l1WriteBack c line) := by
  unfold State.l1WriteBack
  split
  · exact .refl s
  · split
    · exact .refl s
    · exact ((stored_l2Touch _ _ _ _).trans (.foldl (fun s _ => stored_dramPut s _ _ _) _ _)).trans (stored_setCore _ _ _)

theorem stored_l1WriteBackThread (s : State) (c h : Nat) : s.Stored (s.l1WriteBackThread c h) := by
  refine .foldl (fun s line => ?_) _ s
  split
  · exact stored_l1WriteBack s c line
  · exact .refl s

theorem stored_l1Flush (s : State) (c line : Nat) : s.Stored (s.l1Flush c line) :=
  (stored_l1WriteBack s c line).trans (stored_setCore _ _ _)

theorem stored_l1Trim (s : State) (c line : Nat) : s.Stored (s.l1Trim c line) := by
  unfold State.l1Trim
  split
  · exact .refl s
  · split <;> exact stored_setCore _ _ _

theorem stored_l1Evict (s : State) (c : Nat) : s.Stored (s.l1Evict c) := by
  refine .foldl (fun s line => ?_) _ s
  split
  · exact stored_l1Trim s c line
  · exact stored_l1Flush s c line

theorem stored_putSections (o : Nat) (l : List Section) (s : State) (a : Nat) : s.Stored (s.putSections o a l) := by
  induction l generalizing s a with
  | nil => exact .refl s
  | cons x r ih => rw [State.putSections]; exact (stored_dramWrite s o a x.header).trans (ih _ _)

theorem stored_putContainer (s : State) (task : Nat) : s.Stored (s.putContainer task) := by
  unfold State.putContainer
  split
  · exact .refl s
  · dsimp only
    refine State.Stored.trans ?_ (stored_putSections _ _ _ _)
    exact State.Stored.trans (stored_mem s _) (stored_dramWrite _ _ _ _)

/-! Accesses of the schedulers -/

/-- Accesses of the schedulers may have gone before `t`: beside what they store, the scheduler TLB, what is sent to other packages and
whether the turn is held are any. -/
def State.Accessed (s t : State) : Prop :=
  ∃ cs m k ps tlb st ob rm rn, t = { s with
    cores := cs, mem := m, keys := k, pillars := ps, schedTlb := tlb, stalled := st, outbox := ob, remotes := rm, remoteNext := rn }

theorem State.Accessed.refl (s : State) : s.Accessed s := ⟨_, _, _, _, _, _, _, _, _, rfl⟩

theorem State.Accessed.trans {s t u : State} (h : s.Accessed t) (h' : t.Accessed u) : s.Accessed u := by
  obtain ⟨_, _, _, _, _, _, _, _, _, rfl⟩ := h
  obtain ⟨_, _, _, _, _, _, _, _, _, rfl⟩ := h'
  exact ⟨_, _, _, _, _, _, _, _, _, rfl⟩

theorem State.Stored.accessed {s t : State} (h : s.Stored t) : s.Accessed t := by
  obtain ⟨_, _, _, _, rfl⟩ := h; exact ⟨_, _, _, _, _, _, _, _, _, rfl⟩

section
variable {s t : State} (h : s.Accessed t)
include h
theorem State.Accessed.threads : t.threads = s.threads := by obtain ⟨_, _, _, _, _, _, _, _, _, rfl⟩ := h; rfl
theorem State.Accessed.slots : t.slots = s.slots := by obtain ⟨_, _, _, _, _, _, _, _, _, rfl⟩ := h; rfl
theorem State.Accessed.parts : t.parts = s.parts := by obtain ⟨_, _, _, _, _, _, _, _, _, rfl⟩ := h; rfl
theorem State.Accessed.runs : t.runs = s.runs := by obtain ⟨_, _, _, _, _, _, _, _, _, rfl⟩ := h; rfl
theorem State.Accessed.saved : t.saved = s.saved := by obtain ⟨_, _, _, _, _, _, _, _, _, rfl⟩ := h; rfl
end

theorem accessed_holdAt (s : State) (pa : Nat) : s.Accessed (s.holdAt pa) := by
  obtain ⟨b, h⟩ := holdAt_eq s pa
  rw [h]; exact ⟨_, _, _, _, _, _, _, _, _, rfl⟩

theorem accessed_stalled (s : State) (b : Bool) : s.Accessed { s with stalled := b } := ⟨_, _, _, _, _, _, _, _, _, rfl⟩

theorem accessed_sysWrite (s : State) (pa : Nat) (bs : List Byte) : s.Accessed (s.sysWrite pa bs) :=
  (accessed_holdAt s pa).trans (stored_dramWrite _ _ _ _).accessed

theorem accessed_qTouch (s : State) (q : Nat) : s.Accessed (s.qTouch q) :=
  (accessed_holdAt s _).trans (stored_l2Touch _ _ _ _).accessed

theorem accessed_qWrite (s : State) (q off n v : Nat) : s.Accessed (s.qWrite q off n v) := accessed_sysWrite _ _ _

/-! Translations -/

/-- The state that a translation leaves, whatever it answers. -/
def XRes.state (x : XRes) : State :=
  match x with
  | .ok s _ => s
  | .err s _ => s
  | .miss s => s

/-- The same of a lookup. -/
def LeafRes.state (x : LeafRes) : State :=
  match x with
  | .ok s _ _ => s
  | .err s _ => s
  | .miss s => s

theorem accessed_setPillar (s : State) (p : Nat) (k : Pillar) : s.Accessed (s.setPillar p k) := ⟨_, _, _, _, _, _, _, _, _, rfl⟩

theorem accessed_setFirstTlb (s : State) (c : Option Nat) (t : Tlb) : s.Accessed (s.setFirstTlb c t) := by
  cases c <;> exact ⟨_, _, _, _, _, _, _, _, _, rfl⟩

theorem accessed_missWalk (s : State) (c o va : Nat) : s.Accessed (s.missWalk c o va).state := by
  unfold State.missWalk
  dsimp only
  repeat' split
  all_goals exact accessed_setPillar _ _ _

theorem stored_walkTouch (s : State) (o : Nat) (l : List Nat) : s.Stored (s.walkTouch o l) :=
  .foldl (fun s a => stored_l2Touch s a o false) l s

theorem accessed_walkNow (s : State) (c : Option Nat) (o va : Nat) : s.Accessed (s.walkNow c o va).state := by
  unfold State.walkNow
  dsimp only
  split
  · exact .refl s
  · split
    · exact (stored_walkTouch _ _ _).accessed
    · exact ((stored_walkTouch _ _ _).accessed.trans (accessed_setPillar _ _ _)).trans (accessed_setFirstTlb _ _ _)

theorem accessed_leafOf (s : State) (c : Option Nat) (o va : Nat) : s.Accessed (s.leafOf c o va).state := by
  unfold State.leafOf
  dsimp only
  split
  · exact accessed_setFirstTlb _ _ _
  · split
    · split
      · exact .refl s
      · exact (accessed_setPillar _ _ _).trans (accessed_setFirstTlb _ _ _)
    · split
      · exact accessed_missWalk _ _ _ _
      · exact accessed_walkNow _ _ _ _

theorem accessed_translate (s : State) (c : Option Nat) (o : Nat) (k : Acc) (va n : Nat) : s.Accessed (s.translate c o k va n).state := by
  have hl := accessed_leafOf s c o va
  unfold State.translate
  dsimp only
  split
  · repeat' split
    all_goals exact .refl s
  · split
    · exact .refl s
    · split
      · next h => rw [h] at hl; exact hl
      · next h => rw [h] at hl; exact hl
      · next h =>
        rw [h] at hl
        repeat' split
        all_goals exact hl

/-- The state that an access of a scheduler leaves. -/
def SRes.state (x : SRes) : State :=
  match x with
  | .ok s _ => s
  | .err s _ => s

theorem accessed_schedRead (s : State) (o va n : Nat) : s.Accessed (s.schedRead o va n).state := by
  have ht := accessed_translate s none o .sload va n
  unfold State.schedRead
  split
  · next h => rw [h] at ht; exact ht
  · exact accessed_stalled s true
  · next h => rw [h] at ht; exact ht
  · next h =>
    rw [h] at ht
    split
    · exact ht.trans (accessed_holdAt _ _)
    · exact ht.trans (stored_l2Touch _ _ _ _).accessed
    · split <;> exact ht
    · split <;> exact ht
    · exact ht

theorem accessed_schedWrite (s : State) (o va : Nat) (bs : List Byte) : s.Accessed (s.schedWrite o va bs).state := by
  have ht := accessed_translate s none o .sstore va bs.length
  unfold State.schedWrite
  split
  · next h => rw [h] at ht; exact ht
  · exact accessed_stalled s true
  · next h => rw [h] at ht; exact ht
  · next h =>
    rw [h] at ht
    split
    · exact (ht.trans (accessed_holdAt _ _)).trans (stored_dramWrite _ _ _ _).accessed
    · exact ht.trans (stored_dramWrite _ _ _ _).accessed
    · split
      · exact ht.trans ⟨_, _, _, _, _, _, _, _, _, rfl⟩
      · exact ht
    · exact ht

theorem accessed_schedRead_ok {s u : State} {o va n : Nat} {bs : List Byte} (h : s.schedRead o va n = .ok u bs) : s.Accessed u := by
  have hs := accessed_schedRead s o va n; rwa [h] at hs

theorem accessed_schedRead_err {s u : State} {o va n c : Nat} (h : s.schedRead o va n = .err u c) : s.Accessed u := by
  have hs := accessed_schedRead s o va n; rwa [h] at hs

theorem accessed_schedWrite_ok {s u : State} {o va : Nat} {bs l : List Byte} (h : s.schedWrite o va bs = .ok u l) : s.Accessed u := by
  have hs := accessed_schedWrite s o va bs; rwa [h] at hs

theorem accessed_schedWrite_err {s u : State} {o va c : Nat} {bs : List Byte} (h : s.schedWrite o va bs = .err u c) : s.Accessed u := by
  have hs := accessed_schedWrite s o va bs; rwa [h] at hs

/-- The state that a read of several words leaves. -/
def SWords.state (x : SWords) : State :=
  match x with
  | .ok s _ => s
  | .err s _ => s

theorem accessed_schedWords (o n : Nat) (s : State) (va : Nat) : s.Accessed (s.schedWords o va n).state := by
  induction n generalizing s va with
  | zero => exact .refl s
  | succ n ih =>
    unfold State.schedWords
    split
    · next h => exact accessed_schedRead_err h
    · next u bs h =>
      have hr := accessed_schedRead_ok h
      have hi := ih u (va + 8)
      split
      · next h' => rw [h'] at hi; exact hr.trans hi
      · next h' => rw [h'] at hi; exact hr.trans hi

theorem accessed_queueEvent (s : State) (q kind cause node data : Nat) : s.Accessed (s.queueEvent q kind cause node data) := by
  unfold State.queueEvent
  dsimp only
  refine (accessed_qTouch s q).trans ?_
  generalize s.qTouch q = u
  split
  · exact accessed_qWrite _ _ _ _ _
  · split
    · next v _ h =>
      have hv : u.Accessed v := accessed_schedWrite_ok h
      exact hv.trans (accessed_qWrite _ _ _ _ _)
    · next v _ h =>
      have hv : u.Accessed v := accessed_schedWrite_err h
      exact hv.trans (accessed_qWrite _ _ _ _ _)

theorem accessed_askRemote {s t : State} {src : RemoteFrom} {m : Nat → OutMsg} (h : s.askRemote src m = some t) : s.Accessed t := by
  unfold State.askRemote at h
  split at h
  · cases h
  · cases h; exact ⟨_, _, _, _, _, _, _, _, _, rfl⟩

theorem accessed_completeNode (s : State) (r : NodeRun) : s.Accessed (s.completeNode r) := by
  unfold State.completeNode
  split
  · exact .refl s
  · have ht := accessed_translate s none (s.part r.part).owner .satomic r.donetl 8
    dsimp only
    split
    · next h => rw [h] at ht; exact ht.trans (accessed_queueEvent _ _ _ _ _ _)
    · exact accessed_stalled s true
    · next h => rw [h] at ht; exact ht.trans (accessed_queueEvent _ _ _ _ _ _)
    · next h =>
      rw [h] at ht
      refine ht.trans ?_
      split
      · exact accessed_queueEvent _ _ _ _ _ _
      · split
        · split
          · next h' => exact accessed_askRemote h'
          · exact accessed_queueEvent _ _ _ _ _ _
        · exact (accessed_holdAt _ _).trans (stored_dramWrite _ _ _ _).accessed

end Sys2Proof.Machine
end

section
/-! The table of nodes: no access of a scheduler reads it -/

namespace Sys2Proof.Machine

/-- The machine with another table of nodes. -/
def State.withRuns (s : State) (R : Table NodeRun) : State := { s with runs := R }

variable (s : State) (R : Table NodeRun)

@[simp] theorem closed_runs (pa : Nat) : (s.withRuns R).closed pa = s.closed pa := rfl
@[simp] theorem dramRead_runs (o pa n : Nat) : (s.withRuns R).dramRead o pa n = s.dramRead o pa n := rfl
@[simp] theorem descAddr_runs (q : Nat) : (s.withRuns R).descAddr q = s.descAddr q := rfl
@[simp] theorem qRead_runs (q off n : Nat) : (s.withRuns R).qRead q off n = s.qRead q off n := rfl
@[simp] theorem qCtl_runs (q : Nat) : (s.withRuns R).qCtl q = s.qCtl q := rfl
@[simp] theorem part_runs (p : Nat) : (s.withRuns R).part p = s.part p := rfl
@[simp] theorem pillar_runs (p : Nat) : (s.withRuns R).pillar p = s.pillar p := rfl
@[simp] theorem lockstep_runs : (s.withRuns R).lockstep = s.lockstep := rfl
@[simp] theorem linksUp_runs : (s.withRuns R).linksUp = s.linksUp := rfl
@[simp] theorem tick_runs : (s.withRuns R).tick = s.tick := rfl
@[simp] theorem pkgNum_runs : (s.withRuns R).pkgNum = s.pkgNum := rfl
@[simp] theorem ownerLive_runs (o : Nat) : (s.withRuns R).ownerLive o = s.ownerLive o := rfl
@[simp] theorem firstTlb_runs (c : Option Nat) : (s.withRuns R).firstTlb c = s.firstTlb c := by cases c <;> rfl
@[simp] theorem overtaken_runs (c : Option Nat) (e : TlbEntry) : (s.withRuns R).overtaken c e = s.overtaken c e := rfl
@[simp] theorem eventBytes_runs (q kind cause node data : Nat) :
    (s.withRuns R).eventBytes q kind cause node data = s.eventBytes q kind cause node data := rfl

theorem setPillar_runs (p : Nat) (k : Pillar) : (s.withRuns R).setPillar p k = (s.setPillar p k).withRuns R := rfl
theorem setFirstTlb_runs (c : Option Nat) (t : Tlb) : (s.withRuns R).setFirstTlb c t = (s.setFirstTlb c t).withRuns R := by
  cases c <;> rfl

theorem holdAt_runs (pa : Nat) : (s.withRuns R).holdAt pa = (s.holdAt pa).withRuns R := by
  rw [State.holdAt, State.holdAt, closed_runs]
  split <;> rfl

theorem l2Touch_runs (pa o : Nat) (w : Bool) : (s.withRuns R).l2Touch pa o w = (s.l2Touch pa o w).withRuns R := by
  unfold State.l2Touch
  split <;> rfl

theorem l2TouchAll_runs (pa n o : Nat) (w : Bool) : (s.withRuns R).l2TouchAll pa n o w = (s.l2TouchAll pa n o w).withRuns R := by
  unfold State.l2TouchAll
  generalize (pa + n - 1) / 64 + 1 - pa / 64 = k
  generalize pa / 64 = l
  induction k generalizing s l with
  | zero => rfl
  | succ k ih => rw [forUp, forUp, l2Touch_runs, ih]

/-- A byte written to DRAM: memory and keys change, both by what they were. -/
theorem dramPut_eq (o pa : Nat) (b : Byte) : s.dramPut o pa b = { s with
    mem := tput (if tfind s.keys (pa / 16) = some (s.keyTag o) then s.mem else (s.dropGranule (pa / 16)).mem) pa b
    keys := if tfind s.keys (pa / 16) = some (s.keyTag o) then s.keys else tput s.keys (pa / 16) (s.keyTag o) } := by
  unfold State.dramPut
  dsimp only
  split <;> rfl

theorem dramPut_runs (o pa : Nat) (b : Byte) : (s.withRuns R).dramPut o pa b = (s.dramPut o pa b).withRuns R := by
  rw [dramPut_eq, dramPut_eq]; rfl

theorem dramWrite_runs (o pa : Nat) (bs : List Byte) : (s.withRuns R).dramWrite o pa bs = (s.dramWrite o pa bs).withRuns R := by
  unfold State.dramWrite
  rw [l2TouchAll_runs]
  generalize s.l2TouchAll pa bs.length o true = u
  induction bs generalizing u pa with
  | nil => rfl
  | cons b r ih => rw [putBytes, putBytes, dramPut_runs, ih]

theorem sysWrite_runs (pa : Nat) (bs : List Byte) : (s.withRuns R).sysWrite pa bs = (s.sysWrite pa bs).withRuns R := by
  rw [State.sysWrite, State.sysWrite, holdAt_runs, dramWrite_runs]

theorem qTouch_runs (q : Nat) : (s.withRuns R).qTouch q = (s.qTouch q).withRuns R := by
  rw [State.qTouch, State.qTouch, descAddr_runs, holdAt_runs, l2Touch_runs]

theorem qWrite_runs (q off n v : Nat) : (s.withRuns R).qWrite q off n v = (s.qWrite q off n v).withRuns R := by
  rw [State.qWrite, State.qWrite, descAddr_runs, sysWrite_runs]

/-! Translations -/

/-- A translation with another state in each of its answers. -/
def XRes.map (f : State → State) (x : XRes) : XRes :=
  match x with
  | .ok s p => .ok (f s) p
  | .err s e => .err (f s) e
  | .miss s => .miss (f s)

/-- The same of a lookup. -/
def LeafRes.map (f : State → State) (x : LeafRes) : LeafRes :=
  match x with
  | .ok s l e => .ok (f s) l e
  | .err s e => .err (f s) e
  | .miss s => .miss (f s)

/-- The same of an access of a scheduler. -/
def SRes.map (f : State → State) (x : SRes) : SRes :=
  match x with
  | .ok s bs => .ok (f s) bs
  | .err s c => .err (f s) c

@[simp] theorem walkFrom_runs (o va lvl a up : Nat) : (s.withRuns R).walkFrom o va lvl a up = s.walkFrom o va lvl a up := by
  induction lvl generalizing a up with
  | zero => rfl
  | succ l ih => rw [State.walkFrom, State.walkFrom, dramRead_runs]; simp only [ih]

@[simp] theorem walk_runs (o va : Nat) : (s.withRuns R).walk o va = s.walk o va := by
  rw [State.walk, State.walk, walkFrom_runs]; rfl

@[simp] theorem walkReads_runs (o va lvl a : Nat) : (s.withRuns R).walkReads o va lvl a = s.walkReads o va lvl a := by
  induction lvl generalizing a with
  | zero => rfl
  | succ l ih => rw [State.walkReads, State.walkReads, dramRead_runs]; simp only [ih]

@[simp] theorem walkPath_runs (o va : Nat) : (s.withRuns R).walkPath o va = s.walkPath o va := by
  rw [State.walkPath, State.walkPath, walkReads_runs]; rfl

theorem walkTouch_runs (o : Nat) (l : List Nat) : (s.withRuns R).walkTouch o l = (s.walkTouch o l).withRuns R := by
  unfold State.walkTouch
  induction l generalizing s with
  | nil => rfl
  | cons a r ih => rw [List.foldl_cons, List.foldl_cons, l2Touch_runs, ih]

theorem walkNow_runs (c : Option Nat) (o va : Nat) :
    (s.withRuns R).walkNow c o va = (s.walkNow c o va).map (·.withRuns R) := by
  have hs : (s.withRuns R).walkSize o va = s.walkSize o va := by rw [State.walkSize, State.walkSize, walk_runs]
  have hc : (s.withRuns R).closed = s.closed := rfl
  unfold State.walkNow
  dsimp only
  rw [hs, hc, walkPath_runs, walk_runs, pillar_runs, lockstep_runs, walkTouch_runs]
  split
  · rfl
  · cases s.walk o va with
    | error e => rfl
    | ok r => simp only [pillar_runs, firstTlb_runs, tick_runs, setPillar_runs, setFirstTlb_runs, LeafRes.map]

theorem leafOf_runs (o va : Nat) : (s.withRuns R).leafOf none o va = (s.leafOf none o va).map (·.withRuns R) := by
  unfold State.leafOf
  dsimp only
  rw [firstTlb_runs, pillar_runs, lockstep_runs, ite_self]
  cases (s.firstTlb none).find o va with
  | some e => rfl
  | none =>
    cases (s.pillar (State.pathPillar none)).tlb.find o va with
    | some e => dsimp only; rw [overtaken_runs]; split <;> rfl
    | none => exact walkNow_runs s R none o va

theorem translate_runs (o : Nat) (k : Acc) (va n : Nat) :
    (s.withRuns R).translate none o k va n = (s.translate none o k va n).map (·.withRuns R) := by
  unfold State.translate
  rw [leafOf_runs]
  split
  · dsimp only; split <;> rfl
  · split
    · rfl
    · cases s.leafOf none o va with
      | err u e => rfl
      | miss u => rfl
      | ok u l e =>
        dsimp only [LeafRes.map]
        rw [ownerLive_runs, pkgNum_runs]
        cases permitted k e
        · rfl
        · generalize (!admits k (leafType e) _ || _) = refused
          cases refused
          · cases (needWr k && leafSeal e && u.ownerLive o) <;> rfl
          · rfl

/-! Accesses of the schedulers -/

theorem schedWrite_runs (o va : Nat) (bs : List Byte) :
    (s.withRuns R).schedWrite o va bs = (s.schedWrite o va bs).map (·.withRuns R) := by
  unfold State.schedWrite
  rw [translate_runs]
  cases s.translate none o .sstore va bs.length with
  | err u e => rfl
  | miss u => rfl
  | ok u p =>
    cases p with
    | spad off => rfl
    | phys pa m pac =>
      dsimp only [XRes.map]
      rw [holdAt_runs, dramWrite_runs, dramWrite_runs, linksUp_runs, tick_runs]
      cases locOf pa with
      | remote p la => dsimp only; cases (if u.linksUp.isEmpty = true then none else Config.remoteByte u.tick pa) <;> rfl
      | _ => rfl

theorem queueEvent_runs (q kind cause node data : Nat) :
    (s.withRuns R).queueEvent q kind cause node data = (s.queueEvent q kind cause node data).withRuns R := by
  unfold State.queueEvent
  simp only [qTouch_runs, qRead_runs, qCtl_runs, part_runs, eventBytes_runs, schedWrite_runs]
  generalize s.qTouch q = u
  split
  · rw [qWrite_runs]
  · cases u.schedWrite (u.part (ctlPart (u.qCtl q))).owner (u.qRead q 0x10 8 + 32 * (u.qRead q 0x30 8 % 2 ^ ctlEvlog (u.qCtl q)))
      (u.eventBytes q kind cause node data) with
    | ok v bs => exact qWrite_runs v R _ _ _ _
    | err v c => simp only [SRes.map, qRead_runs]; exact qWrite_runs v R _ _ _ _

theorem askRemote_runs (src : RemoteFrom) (m : Nat → OutMsg) :
    (s.withRuns R).askRemote src m = (s.askRemote src m).map (·.withRuns R) := by
  unfold State.askRemote
  rw [linksUp_runs]
  cases s.linksUp <;> rfl

theorem completeNode_runs (r : NodeRun) : (s.withRuns R).completeNode r = (s.completeNode r).withRuns R := by
  unfold State.completeNode
  simp only [part_runs, translate_runs]
  split
  · rfl
  · cases s.translate none (s.part r.part).owner .satomic r.donetl 8 with
    | err u e => exact queueEvent_runs u R _ _ _ _ _
    | miss u => rfl
    | ok u p =>
      cases p with
      | spad off => exact queueEvent_runs u R _ _ _ _ _
      | phys pa m pac =>
        simp only [XRes.map, queueEvent_runs, askRemote_runs, holdAt_runs, dramWrite_runs, dramRead_runs]
        split
        · rfl
        · cases locOf pa with
          | remote pkg la =>
            dsimp only
            generalize u.askRemote _ _ = a
            cases a <;> rfl
          | _ => rfl

end Sys2Proof.Machine
end

section
/-! A scheduling step that finds one slot: its head entry, and the readiness of its head node (R21 to R24, R149, R150) -/

namespace Sys2Proof.Machine

/-! Tables and slots -/

theorem tdel_tput {α : Type} (t : Table α) (k : Nat) (v : α) : tdel (tput t k v) k = tdel t k := by
  induction t with
  | nil => simp [tput, tdel]
  | cons p r ih =>
    obtain ⟨j, c⟩ := p
    simp only [tput]
    split
    · simp [tdel]
    · split
      · subst_vars; simp [tdel]
      · simp only [tdel, List.filter_cons] at ih ⊢
        rw [ih]

/-- What a slot keeps beside its head, its run, and the times of its queue. -/
def HwSlot.moved (k : HwSlot) (head : Nat) (run : Option Nat) (idle : Option Nat) (count frac : Nat) : HwSlot :=
  { k with head := head, run := run, idle := idle, wdcount := count, wdfrac := frac }

theorem restartWdt_one {s : State} {n : Nat} {k : HwSlot} (h : s.slots = [(n, k)]) :
    ∃ c f, s.restartWdt n = { s with slots := [(n, k.moved k.head k.run k.idle c f)] } := by
  have hk : tfind s.slots n = some k := by simp [h, tfind]
  unfold State.restartWdt
  rw [hk]
  dsimp only
  split
  · exact ⟨k.wdcount, k.wdfrac, by rw [show k.moved k.head k.run k.idle k.wdcount k.wdfrac = k from rfl, ← h]⟩
  · exact ⟨0, 0, by simp [State.setSlot, h, tput, HwSlot.moved]⟩

theorem noteIdle_one {s : State} {n : Nat} {k : HwSlot} (h : s.slots = [(n, k)]) :
    ∃ i c f, s.noteIdle n = { s with slots := [(n, k.moved k.head k.run i c f)] } := by
  have hk : tfind s.slots n = some k := by simp [h, tfind]
  have hput : ∀ i, s.setSlot n { k with idle := i } = { s with slots := [(n, k.moved k.head k.run i k.wdcount k.wdfrac)] } := by
    intro i; simp [State.setSlot, h, tput, HwSlot.moved]
  unfold State.noteIdle
  rw [hk]
  dsimp only
  split
  · exact ⟨_, _, _, hput _⟩
  · split
    · exact ⟨k.idle, k.wdcount, k.wdfrac, by rw [show k.moved k.head k.run k.idle k.wdcount k.wdfrac = k from rfl, ← h]⟩
    · rw [hput]
      split
      · obtain ⟨c, f, hr⟩ := restartWdt_one (s := { s with slots := [(n, k.moved k.head k.run (some s.gtime) k.wdcount k.wdfrac)] }) rfl
        exact ⟨_, c, f, by rw [hr]; rfl⟩
      · exact ⟨_, _, _, rfl⟩

/-- The tables that hold tasks, nodes and partitions are as before. -/
structure State.KeepsTasks (s t : State) : Prop where
  threads : t.threads = s.threads
  saved : t.saved = s.saved
  runs : t.runs = s.runs
  parts : t.parts = s.parts

theorem State.KeepsTasks.trans {s t u : State} (h : s.KeepsTasks t) (h' : t.KeepsTasks u) : s.KeepsTasks u :=
  ⟨h'.threads.trans h.threads, h'.saved.trans h.saved, h'.runs.trans h.runs, h'.parts.trans h.parts⟩

/-- HEAD moves past the entry of the one slot (R150). -/
theorem advanceHead_one {s : State} {n : Nat} {k : HwSlot} (h : s.slots = [(n, k)]) :
    (∃ i c f, (s.advanceHead n).slots = [(n, k.moved ((k.head + 1) % 2 ^ 64) none i c f)]) ∧ s.KeepsTasks (s.advanceHead n) := by
  have hk : tfind s.slots n = some k := by simp [h, tfind]
  unfold State.advanceHead
  rw [hk]
  dsimp only
  have hset : (s.setSlot n { k with head := (k.head + 1) % 2 ^ 64, run := none }).slots =
      [(n, k.moved ((k.head + 1) % 2 ^ 64) none k.idle k.wdcount k.wdfrac)] := by simp [State.setSlot, h, tput, HwSlot.moved]
  have ha := accessed_qWrite (s.setSlot n { k with head := (k.head + 1) % 2 ^ 64, run := none }) k.queue 0x18 8 ((k.head + 1) % 2 ^ 64)
  generalize hu : (s.setSlot n { k with head := (k.head + 1) % 2 ^ 64, run := none }).qWrite k.queue 0x18 8 ((k.head + 1) % 2 ^ 64) = u at ha ⊢
  obtain ⟨i, c, f, hn⟩ := noteIdle_one (ha.slots.trans hset)
  refine ⟨⟨i, c, f, by rw [hn]; rfl⟩, ?_⟩
  have hb : s.KeepsTasks u := ⟨ha.threads, ha.saved, ha.runs, ha.parts⟩
  exact hb.trans (by rw [hn]; exact ⟨rfl, rfl, rfl, rfl⟩)

/-! The step -/

/-- What a step does once it has looked at the head of its one slot. -/
theorem schedule_eq_of_oneSlot {s : State} {p n : Nat} {k : HwSlot} (h : OneSlot s p n k) :
    s.schedule =
      let u := s.lookHead n
      let cand := [n].filter (fun n => match tfind u.slots n with
        | some k => u.isCandidate n k
        | none => false)
      let v := u.preemptStep p
      if cand.isEmpty then v else v.serveOne p cand := by
  have hp : s.preempted p = [] := by simp [State.preempted, h.saved]
  have hm : (s.slots.filter (fun k => decide (k.2.part = p))).map (·.1) = [n] := by simp [h.slots, h.mine]
  have ho : (!(s.part p).opened) = false := by simp [h.opened]
  unfold State.schedule
  rw [h.parts, List.foldl_cons, List.foldl_nil]
  unfold State.stepPart
  rw [ho]
  simp only [hp, List.foldl_nil, List.filter_nil, State.resumeOrphan, hm, List.foldl_cons]
  rfl

theorem resumable_none {s : State} (hs : s.saved = []) (n : Nat) (k : HwSlot) : s.resumable n k = none := by
  simp [State.resumable, State.preempted, hs]

theorem preemptStep_none {s : State} {p n : Nat} {k : HwSlot} (hs : s.slots = [(n, k)]) (hc : s.preemptChoice k = none) :
    s.preemptStep p = s := by
  simp [State.preemptStep, hs, hc]

/-- A step that finds no candidate and pre-empts nothing only looks at the head. -/
theorem schedule_quiet {s u : State} {p n : Nat} {k k' : HwSlot} (h : OneSlot s p n k) (hu : s.lookHead n = u)
    (hs : u.slots = [(n, k')]) (hv : u.saved = []) (hc : u.preemptChoice k' = none)
    (hr : ∀ id r, u.readyHead k' = some (id, r) → u.placeable r = false) : s.schedule = u := by
  have hf : tfind u.slots n = some k' := by simp [hs, tfind]
  have hcand : u.isCandidate n k' = false := by
    rw [State.isCandidate, resumable_none hv]
    cases hh : u.readyHead k' with
    | none => simp
    | some x => simp [hr x.1 x.2 hh]
  rw [schedule_eq_of_oneSlot h, hu]
  simp only [hf, hcand, List.filter_cons, List.filter_nil, Bool.false_eq_true, if_false, List.isEmpty_nil, if_true]
  exact preemptStep_none hs hc

theorem readyHead_no_run {s : State} {k : HwSlot} (h : k.run = none) : s.readyHead k = none := by
  simp [State.readyHead, h]

/-- A step after which the head of the slot is a node no longer. -/
theorem schedule_advanced {s x : State} {p n : Nat} {k : HwSlot} (h : OneSlot s p n k) (hx : s.lookHead n = x.advanceHead n)
    (hs : x.slots = [(n, k)]) (hv : x.saved = []) : s.schedule = x.advanceHead n := by
  obtain ⟨⟨i, c, f, hk⟩, hkeep⟩ := advanceHead_one hs
  refine schedule_quiet h hx hk (hkeep.saved.trans hv) ?_ ?_
  · simp [State.preemptChoice, readyHead_no_run (s := x.advanceHead n) (show (k.moved _ none i c f).run = none from rfl)]
  · intro id r hr
    rw [readyHead_no_run rfl] at hr
    cases hr

/-! The head entry -/

theorem takeHead_settled {s : State} {n : Nat} {k : HwSlot} (hk : tfind s.slots n = some k) (h : k.notify = k.head) (fuel : Nat) :
    s.takeHead n fuel = s := by
  cases fuel with
  | zero => rfl
  | succ f => simp [State.takeHead, hk, State.isPending, h]

theorem takeHead_run {s : State} {n : Nat} {k : HwSlot} (hk : tfind s.slots n = some k) (h : k.run.isSome = true) (fuel : Nat) :
    s.takeHead n fuel = s := by
  cases fuel with
  | zero => rfl
  | succ f => simp [State.takeHead, hk, h]

/-- Where the entry at HEAD lies. -/
def State.headEntry (s : State) (k : HwSlot) : Nat := s.qRead k.queue 0 8 + 8 * (k.head % 2 ^ ctlLogsz (s.qCtl k.queue))

section
variable {s v : State} {n : Nat} {k : HwSlot} {bs : List Byte} (hk : tfind s.slots n = some k) (hx : k.exp = false) (hr : k.run = none)
  (hp : s.isPending k = true) (hb : s.schedRead (s.part k.part).owner (s.headEntry k) 8 = .ok v bs)
include hk hx hr hp hb

theorem takeHead_zero (f : Nat) (h : leNat bs = 0) : s.takeHead n (f + 1) = (v.advanceHead n).takeHead n f := by
  unfold State.headEntry at hb
  rw [State.takeHead, hk]
  simp [hx, hr, hp, hb, h]

theorem takeHead_bad (f : Nat) (h : leNat bs % 128 ≠ 0) :
    s.takeHead n (f + 1) = ((v.queueEvent k.queue 2 1 (leNat bs) k.head).advanceHead n).takeHead n f := by
  unfold State.headEntry at hb
  have h0 : leNat bs ≠ 0 := fun h' => h (by rw [h'])
  rw [State.takeHead, hk]
  simp [hx, hr, hp, hb, h, h0]

theorem takeHead_invalid (f : Nat) {w : State} {r : NodeRun} {c d : Nat} (h0 : leNat bs ≠ 0) (h : leNat bs % 128 = 0)
    (hv : v.validate (leNat bs) k.queue n k.part = .bad w r c d) :
    s.takeHead n (f + 1) = (w.failNode n r c d).takeHead n f := by
  unfold State.headEntry at hb
  rw [State.takeHead, hk]
  simp [hx, hr, hp, hb, h, h0, hv]
end

theorem validate_bad {s w : State} {e q n p c d : Nat} {rec : List Byte} (hw : s.schedWords (s.part p).owner e 16 = .ok w rec)
    (hc : w.checkNode ((NodeRun.blank e q n p).read rec) (recField rec 0x0C 4) = some (c, d)) :
    s.validate e q n p = .bad w ((NodeRun.blank e q n p).read rec) c d := by
  simp [State.validate, hw, hc]

end Sys2Proof.Machine
end

section
/-! A scheduling step: its head entry (R149, R21), and the readiness of its head node (R22 to R24) -/

namespace Sys2Proof.Machine

/-- What a scheduling step finds of the one slot once it has read the queue's descriptor. -/
theorem qTouch_oneSlot {s : State} {p n : Nat} {k : HwSlot} (h : OneSlot s p n k) :
    tfind (s.qTouch k.queue).slots n = some k ∧ (s.qTouch k.queue).slots = [(n, k)] ∧ (s.qTouch k.queue).saved = [] := by
  have ha := accessed_qTouch s k.queue
  have hs : (s.qTouch k.queue).slots = [(n, k)] := ha.slots.trans h.slots
  exact ⟨by simp [hs, tfind], hs, ha.saved.trans h.saved⟩

/-- The address of a queue descriptor's field reads the same after the descriptor has been touched. -/
theorem qRead_qTouch (s : State) (q r off n : Nat) : (s.qTouch q).qRead r off n = s.qRead r off n := by
  obtain ⟨b, hb⟩ := holdAt_eq s (s.descAddr q)
  rw [State.qTouch, hb]
  unfold State.l2Touch
  split <;> rfl

theorem qCtl_qTouch (s : State) (q r : Nat) : (s.qTouch q).qCtl r = s.qCtl r := qRead_qTouch s q r 0x28 4

theorem part_qTouch (s : State) (q p : Nat) : (s.qTouch q).part p = s.part p := by
  rw [State.part, (accessed_qTouch s q).parts, State.part]

/-- The look at a head is over when its slot holds no node. -/
theorem lookHead_no_run {s u : State} {n : Nat} {k k' : HwSlot} (hk : tfind s.slots n = some k)
    (hu : (s.qTouch k.queue).takeHead n (2 ^ ctlLogsz (s.qCtl k.queue)) = u) (hf : tfind u.slots n = some k') (hr : k'.run = none) :
    s.lookHead n = u := by
  rw [State.lookHead, hk]
  simp only [hu, hf, hr, Option.bind_none]

/-- What becomes of a head node whose edges have been read. -/
def Ready.after (x : Ready) (n id : Nat) (r : NodeRun) : State :=
  match x with
  | .no s => s
  | .yes s => { s with runs := tput s.runs id { r with ready := true } }
  | .fail s c d => s.failRun n id r c d

/-! The head entry -/

section
variable {s x : State} {p n : Nat} {k : HwSlot} (h : OneSlot s p n k) (hlast : (k.head + 1) % 2 ^ 64 = k.notify)
include h hlast

/-- A step whose head entry is skipped, the last of its queue, ends there. -/
theorem schedule_skips (hx : s.Accessed x)
    (hl : ∀ f, (s.qTouch k.queue).takeHead n (f + 1) = (x.advanceHead n).takeHead n f) : s.schedule = x.advanceHead n := by
  have hs : x.slots = [(n, k)] := hx.slots.trans h.slots
  obtain ⟨⟨i, c, f, hk⟩, -⟩ := advanceHead_one hs
  have hf : tfind (x.advanceHead n).slots n = some (k.moved ((k.head + 1) % 2 ^ 64) none i c f) := by simp [hk, tfind]
  obtain ⟨g, hg⟩ := Nat.exists_eq_succ_of_ne_zero (Nat.two_pow_pos (ctlLogsz (s.qCtl k.queue))).ne'
  have hu : (s.qTouch k.queue).takeHead n (2 ^ ctlLogsz (s.qCtl k.queue)) = x.advanceHead n := by
    rw [hg, hl, takeHead_settled hf hlast.symm]
  exact schedule_advanced h (lookHead_no_run (by simp [h.slots, tfind]) hu hf rfl) hs (hx.saved.trans h.saved)

variable (hrun : k.run = none) (hpend : s.isPending k = true)
include hrun hpend

/-- What a step that reads its head entry does for it. -/
theorem schedule_headEntry {v : State} {bs : List Byte}
    (hb : (s.qTouch k.queue).schedRead (s.part p).owner
      ((s.qTouch k.queue).qRead k.queue 0 8 + 8 * (k.head % 2 ^ ctlLogsz ((s.qTouch k.queue).qCtl k.queue))) 8 = .ok v bs) :
    (leNat bs = 0 → s.schedule = v.advanceHead n) ∧
    (leNat bs % 128 ≠ 0 → s.schedule = (v.queueEvent k.queue 2 1 (leNat bs) k.head).advanceHead n) ∧
    (∀ w rec c d, leNat bs ≠ 0 → leNat bs % 128 = 0 → v.schedWords (s.part p).owner (leNat bs) 16 = .ok w rec →
      w.checkNode ((NodeRun.blank (leNat bs) k.queue n p).read rec) (recField rec 0x0C 4) = some (c, d) →
      s.schedule = ((w.queueEvent k.queue 1 c (leNat bs) d).completeNode
        { (NodeRun.blank (leNat bs) k.queue n p).read rec with failed := true }).advanceHead n) := by
  obtain ⟨hk, -, -⟩ := qTouch_oneSlot h
  have hu : (s.qTouch k.queue).isPending k = true := by rw [← hpend, State.isPending, qCtl_qTouch, State.isPending]
  have ha := (accessed_qTouch s k.queue).trans (accessed_schedRead_ok hb)
  have hb' : (s.qTouch k.queue).schedRead ((s.qTouch k.queue).part k.part).owner ((s.qTouch k.queue).headEntry k) 8 = .ok v bs := by
    rw [part_qTouch, h.mine]; exact hb
  refine ⟨fun h0 => ?_, fun h0 => ?_, fun w rec c d h0 hal hw hc => ?_⟩
  · exact schedule_skips h hlast ha fun f => takeHead_zero hk h.counts hrun hu hb' f h0
  · exact schedule_skips h hlast (ha.trans (accessed_queueEvent _ _ _ _ _ _)) fun f => takeHead_bad hk h.counts hrun hu hb' f h0
  · have hp : v.part k.part = s.part p := by rw [h.mine, State.part, ha.parts, State.part]
    have hv := validate_bad (q := k.queue) (n := n) (by rw [hp]; exact hw) (by rw [h.mine]; exact hc)
    have hw' : v.Accessed w := by have := accessed_schedWords (s.part p).owner 16 v (leNat bs); rwa [hw] at this
    rw [h.mine] at hv
    refine schedule_skips h hlast ((ha.trans hw').trans ((accessed_queueEvent _ _ _ _ _ _).trans (accessed_completeNode _ _))) fun f => ?_
    rw [takeHead_invalid hk h.counts hrun hu hb' f h0 hal (by rw [h.mine]; exact hv), State.failNode]
    rfl
end

/-! The conditions of R21 that `SchedulingStep` names -/

/-- The reserved bits of FLAGS that R20 gives no meaning. -/
theorem reservedFlags (flags : Nat) : (flags / 4096 ≠ 0 ∨ flags / 8 % 2 = 1 ∨ flags / 128 % 2 = 1) ↔
    (flags / 4096 ≠ 0 ∨ flags.testBit 7 = true ∨ flags.testBit 3 = true) := by
  simp only [Nat.testBit_eq_decide_div_mod_eq, decide_eq_true_eq]
  omega

section
variable (s : State) (r : NodeRun) (flags : Nat)

theorem checkNode_reserved (h : flags / 4096 ≠ 0 ∨ flags / 8 % 2 = 1 ∨ flags / 128 % 2 = 1) : s.checkNode r flags = some (1, 0) := by
  unfold State.checkNode; rw [if_pos ((reservedFlags flags).mp h)]

variable (h : ¬ (flags / 4096 ≠ 0 ∨ flags / 8 % 2 = 1 ∨ flags / 128 % 2 = 1))
include h

theorem checkNode_width (hw : flags % 4 = 3) : s.checkNode r flags = some (2, 0) := by
  unfold State.checkNode; rw [if_neg (fun h' => h ((reservedFlags flags).mpr h')), if_pos hw]

variable (hw : flags % 4 ≠ 3)
include hw

theorem checkNode_edges (he : 4 < flags / 16 % 8) : s.checkNode r flags = some (3, 0) := by
  unfold State.checkNode; rw [if_neg (fun h' => h ((reservedFlags flags).mpr h')), if_neg hw, if_pos he]

variable (he : flags / 16 % 8 ≤ 4)
include he

theorem checkNode_replicas (hr : r.repln = 0 ∨ 65536 < r.repln) : s.checkNode r flags = some (4, 0) := by
  unfold State.checkNode
  rw [if_neg (fun h' => h ((reservedFlags flags).mpr h')), if_neg hw, if_neg (by omega), if_pos hr]

theorem checkNode_units (hr : 1 ≤ r.repln) (hr' : r.repln ≤ 65536) (hv : r.vgmin = 0 ∨ r.vgreq < r.vgmin ∨ 64 * r.width < r.vgreq) :
    s.checkNode r flags = some (5, 0) := by
  unfold State.checkNode
  rw [if_neg (fun h' => h ((reservedFlags flags).mpr h')), if_neg hw, if_neg (by omega), if_neg (by omega), if_pos hv]
end

/-! Failure -/

theorem completionValue_failed (old val : Nat) (err : Bool) :
    completionValue old val (err || true) = max (old % 2 ^ 63) (val % 2 ^ 63) + (if true = true ∨ 2 ^ 63 ≤ old then 2 ^ 63 else 0) := by
  simp [completionValue]

/-- The update of the completion word of a node that has failed (R23, R24). -/
theorem completeNode_updated (s : State) (r : NodeRun) : Updated s (s.completeNode { r with failed := true }) r true := by
  have hgo : ∀ {α : Type} (a b : α), r.donetl ≠ 0 → r.donetl % 8 = 0 → (if r.donetl = 0 ∨ r.donetl % 8 ≠ 0 then a else b) = b :=
    fun a b h0 h8 => if_neg (by simp [h0, h8])
  refine ⟨fun h => ?_, fun y e h0 h8 ht => ?_, fun y pa mt pac h0 h8 ht hd hc => ?_⟩
  · unfold State.completeNode; rw [if_pos (Or.inl h)]
  · unfold State.completeNode
    simp only [hgo _ _ h0 h8, ht]
  · have hhold : y.holdAt pa = y := by rw [State.holdAt, hc]; rfl
    refine ⟨fun hp => ?_, fun hp => ?_⟩
    · unfold State.completeNode
      simp only [hgo _ _ h0 h8, ht, pacHas, Nat.sub_self, hp, Bool.not_false, if_true]
    · unfold State.completeNode
      simp only [hgo _ _ h0 h8, ht, pacHas, Nat.sub_self, hp, Bool.not_true, Bool.false_eq_true, if_false, hhold,
        completionValue_failed]
      unfold isDram at hd
      split
      · next hl => simp [hl] at hd
      · rfl

/-- A node that has failed leaves the table of nodes with its update, once none of its replicas is live. -/
theorem settleRun_failed (s : State) (id : Nat) {r : NodeRun} (hl : r.live = 0) (hf : r.failed = true) :
    (s.withRuns (tput s.runs id r)).settleRun id = (s.completeNode r).withRuns (tdel s.runs id) := by
  have hr : tfind (s.withRuns (tput s.runs id r)).runs id = some r := by simp [State.withRuns, tfind_tput]
  have hd : tdel (s.withRuns (tput s.runs id r)).runs id = tdel s.runs id := tdel_tput _ _ _
  rw [State.settleRun, hr]
  dsimp only
  rw [if_pos ⟨hl, Or.inl hf⟩, completeNode_runs, hd]
  rfl

/-- A head node with no live replica fails: it leaves the table of nodes, and HEAD moves on (R22 to R24, R150). -/
theorem failRun_updated {s : State} (n : Nat) {id : Nat} {r : NodeRun} (c d : Nat) (hl : r.live = 0) :
    ∃ x, Updated (s.queueEvent r.queue 1 c r.node d) x r true ∧ s.Accessed x ∧
      s.failRun n id r c d = (x.withRuns (tdel s.runs id)).advanceHead n := by
  have ha := accessed_queueEvent s r.queue 1 c r.node d
  refine ⟨(s.queueEvent r.queue 1 c r.node d).completeNode { r with failed := true }, completeNode_updated _ r,
    ha.trans (accessed_completeNode _ _), ?_⟩
  rw [← ha.runs, ← settleRun_failed (r := { r with failed := true }) _ id hl rfl]
  rfl

/-- Nothing can be pre-empted for a slot while no thread slot holds a task (R155). -/
theorem preemptChoice_free {s : State} (k : HwSlot) (hfree : ∀ x ∈ s.threads, x.2.slot = .free) : s.preemptChoice k = none := by
  have hvict : ∀ q g m, s.victims q g m = [] := by
    intro q g m
    simp only [State.victims, List.map_eq_nil_iff, List.filter_eq_nil_iff]
    intro x hx
    simp [hfree x hx]
  unfold State.preemptChoice
  split
  · rfl
  · dsimp only
    rw [hvict]
    exact ite_eq_left_iff.mpr fun _ => ite_eq_left_iff.mpr fun _ => rfl

/-! Readiness -/

section
variable {s : State} {p n id a val : Nat} {k : HwSlot} {r : NodeRun} (h : OneSlot s p n k) (hrun : k.run = some id)
  (hr : tfind s.runs id = some r) (hready : r.ready = false) (hedge : r.edges = [(a, val)])
include h hrun hr hready hedge

/-- A step looks at a head node that is not ready yet. -/
theorem lookHead_unready : s.lookHead n = ((s.qTouch k.queue).readEdges (s.part p).owner [(a, val)] false).after n id r := by
  obtain ⟨hk, -, -⟩ := qTouch_oneSlot h
  have hslot : tfind s.slots n = some k := by simp [h.slots, tfind]
  rw [State.lookHead, hslot, ← hedge]
  simp only [takeHead_run hk (by simp [hrun]), hk, hrun, Option.bind_some, (accessed_qTouch s k.queue).runs, hr, Option.map_some, hready,
    h.counts, Bool.or_self, Bool.false_eq_true, if_false, part_qTouch, h.mine]
  cases (s.qTouch k.queue).readEdges (s.part p).owner r.edges false <;> rfl

/-- The head node fails for the word of its edge. -/
theorem schedule_fails {w : State} {c d : Nat} (hl : r.live = 0) (hw : (s.qTouch k.queue).Accessed w)
    (he : (s.qTouch k.queue).readEdges (s.part p).owner [(a, val)] false = .fail w c d) :
    ∃ x, Updated (w.queueEvent r.queue 1 c r.node d) x r true ∧
      exec .schedulingStep s = .next ((x.withRuns (tdel s.runs id)).advanceHead n) := by
  have hw' := (accessed_qTouch s k.queue).trans hw
  obtain ⟨x, hx, hax, hfail⟩ := failRun_updated (s := w) n (id := id) c d hl
  rw [hw'.runs] at hfail
  refine ⟨x, hx, ?_⟩
  have hx' := hw'.trans hax
  rw [exec_schedulingStep, execSchedulingStep, schedule_advanced h (x := x.withRuns (tdel s.runs id)) ?_ (hx'.slots.trans h.slots)
    (hx'.saved.trans h.saved)]
  rw [lookHead_unready h hrun hr hready hedge, he, ← hfail]; rfl

theorem schedule_edge_err {w : State} {c : Nat} (hb : (s.qTouch k.queue).schedRead (s.part p).owner a 8 = .err w c) (hl : r.live = 0) :
    ∃ x, Updated (w.queueEvent r.queue 1 9 r.node a) x r true ∧
      exec .schedulingStep s = .next ((x.withRuns (tdel s.runs id)).advanceHead n) :=
  schedule_fails h hrun hr hready hedge hl (accessed_schedRead_err hb) (by simp [State.readEdges, hb])

variable {w : State} {bs : List Byte} (hb : (s.qTouch k.queue).schedRead (s.part p).owner a 8 = .ok w bs) (hst : w.stalled = false)
include hb hst

theorem schedule_edge_flag (hv : val ≤ leNat bs % 2 ^ 63) (hf : 2 ^ 63 ≤ leNat bs) (hl : r.live = 0) :
    ∃ x, Updated (w.queueEvent r.queue 1 10 r.node 0) x r true ∧
      exec .schedulingStep s = .next ((x.withRuns (tdel s.runs id)).advanceHead n) := by
  refine schedule_fails h hrun hr hready hedge hl (accessed_schedRead_ok hb) ?_
  simp only [State.readEdges, hb, hst, Bool.false_eq_true, if_false, if_neg (Nat.not_lt.mpr hv), decide_eq_true hf, Bool.or_true, if_true]

theorem schedule_edge_waits (hv : leNat bs % 2 ^ 63 < val) : exec .schedulingStep s = .next w := by
  have ha := (accessed_qTouch s k.queue).trans (accessed_schedRead_ok hb)
  have hnone : w.readyHead k = none := by simp [State.readyHead, hrun, ha.runs, hr, hready]
  rw [exec_schedulingStep, execSchedulingStep,
    schedule_quiet h (u := w) ?_ (ha.slots.trans h.slots) (ha.saved.trans h.saved) (by simp [State.preemptChoice, hnone])
      (fun _ _ hh => by rw [hnone] at hh; cases hh)]
  rw [lookHead_unready h hrun hr hready hedge]
  simp only [State.readEdges, hb, hst, Bool.false_eq_true, if_false, if_pos hv, Ready.after]

/-- A head node becomes ready, and nothing can be pre-empted for it, as no thread slot holds a task. -/
theorem schedule_edge_ready (hv : val ≤ leNat bs % 2 ^ 63) (hf : leNat bs < 2 ^ 63) (hfree : ∀ x ∈ s.threads, x.2.slot = .free)
    (hplace : ({ w with runs := tput s.runs id { r with ready := true } } : State).placeable { r with ready := true } = false) :
    exec .schedulingStep s = .next { w with runs := tput s.runs id { r with ready := true } } := by
  have ha := (accessed_qTouch s k.queue).trans (accessed_schedRead_ok hb)
  have hhead : ∀ i x, ({ w with runs := tput s.runs id { r with ready := true } } : State).readyHead k = some (i, x) →
      x = { r with ready := true } := by
    intro i x hh
    simp only [State.readyHead, hrun, Option.bind_some, tfind_tput, if_true, Option.map_some] at hh
    split at hh
    · cases hh; rfl
    · cases hh
  rw [exec_schedulingStep, execSchedulingStep,
    schedule_quiet h (u := { w with runs := tput s.runs id { r with ready := true } }) ?_ (ha.slots.trans h.slots)
      (ha.saved.trans h.saved) ?_ (fun i x hh => by rw [hhead i x hh]; exact hplace)]
  · rw [lookHead_unready h hrun hr hready hedge, ← ha.runs]
    simp only [State.readEdges, hb, hst, Bool.false_eq_true, if_false, if_neg (Nat.not_lt.mpr hv), decide_eq_false (Nat.not_le.mpr hf),
      Bool.or_self, Ready.after]
  · exact preemptChoice_free k (by rw [show ({ w with runs := tput s.runs id { r with ready := true } } : State).threads = w.threads from rfl, ha.threads]; exact hfree)
end

end Sys2Proof.Machine
end

section
/-! A scheduling step: the placement of a replica (R25 to R27, R150, R154) -/

namespace Sys2Proof.Machine

/-! The cores of a partition, in order -/

theorem mem_sadd (l : List Nat) (n m : Nat) : m ∈ sadd l n ↔ m = n ∨ m ∈ l := by
  induction l with
  | nil => simp [sadd]
  | cons a r ih =>
    simp only [sadd]
    split
    · simp
    · split
      · subst_vars; simp
      · simp only [List.mem_cons, ih]; tauto

theorem pairwise_sadd {l : List Nat} (h : l.Pairwise (· < ·)) (n : Nat) : (sadd l n).Pairwise (· < ·) := by
  induction l with
  | nil => simp [sadd]
  | cons a r ih =>
    obtain ⟨ha, hr⟩ := List.pairwise_cons.mp h
    simp only [sadd]
    split
    · next hn =>
      refine List.pairwise_cons.mpr ⟨fun x hx => ?_, h⟩
      rcases List.mem_cons.mp hx with rfl | hx
      · exact hn
      · exact hn.trans (ha x hx)
    · split
      · exact h
      · next hn he =>
        refine List.pairwise_cons.mpr ⟨fun x hx => ?_, ih hr⟩
        rcases (mem_sadd r n x).mp hx with rfl | hx
        · omega
        · exact ha x hx

theorem pairwise_foldl_sadd (m : List Nat) : ∀ l : List Nat, l.Pairwise (· < ·) → (m.foldl sadd l).Pairwise (· < ·) := by
  induction m with
  | nil => exact fun l h => h
  | cons a r ih => exact fun l h => ih _ (pairwise_sadd h a)

theorem pairwise_partCores (s : State) (p g : Nat) : (s.partCores p g).Pairwise (· < ·) :=
  (pairwise_foldl_sadd _ [] List.Pairwise.nil).filter _

theorem tget_eq_getD {α : Type} (t : Table α) (k : Nat) (d : α) : tget t k d = (tfind t k).getD d := by
  induction t with
  | nil => rfl
  | cons a r ih =>
    simp only [tget, tfind]
    split
    · rfl
    · exact ih

/-! The first room -/

/-- Rooms that yield no sufficient grant are passed over. -/
theorem pickRoom_append {least most : Nat} {pre rest : List CoreRoom} {r : CoreRoom} {h : Nat} {hs : List Nat}
    (hpre : ∀ x ∈ pre, x.slots = [] ∨ min most (x.units / x.slots.length) < least) (hr : r.slots = h :: hs)
    (hg : least ≤ min most (r.units / (hs.length + 1))) :
    ∃ l, pickRoom (pre ++ r :: rest) least most = some (h, min most (r.units / (hs.length + 1)), l) := by
  induction pre with
  | nil => exact ⟨_, by rw [List.nil_append, pickRoom, hr]; exact if_neg (by omega)⟩
  | cons x pre ih =>
    obtain ⟨l, hl⟩ := ih fun y hy => hpre y (List.mem_cons_of_mem x hy)
    refine ⟨x :: l, ?_⟩
    rw [List.cons_append, pickRoom]
    cases hx : x.slots with
    | nil => simp [hl]
    | cons a as =>
      have hlt : min most (x.units / (as.length + 1)) < least := by
        rcases hpre x List.mem_cons_self with h0 | h0
        · rw [hx] at h0; cases h0
        · rwa [hx, List.length_cons] at h0
      simp only [hl, Option.map_some]
      exact if_pos hlt

/-- The free slots of a core, and the units that its tasks leave, as R26 counts them. -/
theorem room_nil (s : State) (c : Nat) :
    (s.room [] c).slots = (threadsOf c).filter (fun x => s.slotFree x) ∧
    (s.room [] c).units = 64 * s.width c - (threadsOf c).foldl (fun m x => if s.slotFree x then m else m + (s.thr x).vgrant) 0 := by
  have hf : (fun m x => match tfind s.threads x with
      | some t => if (decide (t.slot = .free) || shas [] x) = true then m else m + t.vgrant
      | none => m) = (fun m x => if s.slotFree x = true then m else m + (s.thr x).vgrant : Nat → Nat → Nat) := by
    funext m x
    unfold State.slotFree State.thr
    rw [tget_eq_getD]
    cases tfind s.threads x <;> simp [shas]
  refine ⟨by simp [State.room, shas], ?_⟩
  rw [← hf]
  rfl

/-- The first free slot, in the rising order of a list. -/
theorem filter_eq_cons {q : Nat → Bool} {h : Nat} : ∀ {l : List Nat}, l.Pairwise (· < ·) → h ∈ l → q h = true →
    (∀ x ∈ l, x < h → q x = false) → ∃ r, l.filter q = h :: r := by
  intro l
  induction l with
  | nil => intro _ hm; cases hm
  | cons a r ih =>
    intro hp hm hq hlt
    obtain ⟨ha, hr⟩ := List.pairwise_cons.mp hp
    rcases List.mem_cons.mp hm with rfl | hm
    · exact ⟨_, List.filter_cons_of_pos hq⟩
    · rw [List.filter_cons_of_neg (by simp [hlt a List.mem_cons_self (ha h hm)])]
      exact ih hr hm hq fun x hx => hlt x (List.mem_cons_of_mem a hx)

theorem pairwise_threadsOf (c : Nat) : (threadsOf c).Pairwise (· < ·) := by simp [threadsOf]

/-- The free slots of a core, and its free units. -/
def State.freeCount (s : State) (c : Nat) : Nat := (threadsOf c).countP (fun x => s.slotFree x)

def State.unitsLeft (s : State) (c : Nat) : Nat :=
  64 * s.width c - (threadsOf c).foldl (fun m x => if s.slotFree x then m else m + (s.thr x).vgrant) 0

section
variable {s : State} {p c h vgmin vgreq g : Nat} (hc : c ∈ s.partCores p g) (hon : (s.core c).gate = .on)
  (hh : h ∈ threadsOf c) (hfree : s.slotFree h = true) (hfirst : ∀ x ∈ threadsOf c, x < h → s.slotFree x = false)
  (hmin : vgmin ≤ min vgreq (s.unitsLeft c / s.freeCount c))
  (hlow : ∀ c' ∈ s.partCores p g, c' < c → (s.core c').gate = .on →
    s.freeCount c' = 0 ∨ min vgreq (s.unitsLeft c' / s.freeCount c') < vgmin)
include hc hon hh hfree hfirst hmin hlow

/-- R26: the first free slot of the lowest core that grants enough. -/
theorem pickRoom_lowest : ∃ l, pickRoom (s.rooms p g []) vgmin vgreq = some (h, min vgreq (s.unitsLeft c / s.freeCount c), l) := by
  obtain ⟨pre, post, hl⟩ := List.append_of_mem (List.mem_filter (p := fun c => decide ((s.core c).gate = .on)).mpr ⟨hc, decide_eq_true hon⟩)
  have hsort := (pairwise_partCores s p g).filter (fun c => decide ((s.core c).gate = .on))
  rw [hl] at hsort
  have hlen : ∀ x, (s.room [] x).slots.length = s.freeCount x := fun x => by
    rw [(room_nil s x).1, State.freeCount, List.countP_eq_length_filter]
  obtain ⟨hs, hslots⟩ := filter_eq_cons (q := fun x => s.slotFree x) (pairwise_threadsOf c) hh hfree hfirst
  have hslots' : (s.room [] c).slots = h :: hs := (room_nil s c).1.trans hslots
  have hcount : hs.length + 1 = s.freeCount c := by rw [← hlen, hslots', List.length_cons]
  have hunits : (s.room [] c).units = s.unitsLeft c := (room_nil s c).2
  unfold State.rooms
  rw [hl, List.map_append, List.map_cons, ← hunits, ← hcount]
  refine pickRoom_append ?_ hslots' (by rw [hunits, hcount]; exact hmin)
  intro x hx
  obtain ⟨c', hc', rfl⟩ := List.mem_map.mp hx
  have hin : c' ∈ (s.partCores p g).filter (fun c => decide ((s.core c).gate = .on)) := by
    rw [hl]; exact List.mem_append_left _ hc'
  obtain ⟨hin, hon'⟩ := List.mem_filter.mp hin
  have hlt : c' < c := (List.pairwise_append.mp hsort).2.2 c' hc' c List.mem_cons_self
  rw [(room_nil s c').2, hlen]
  rcases hlow c' hin hlt (of_decide_eq_true hon') with h0 | h0
  · exact Or.inl (List.length_eq_zero_iff.mp (by rw [hlen, h0]))
  · exact Or.inr h0
end

end Sys2Proof.Machine
end

section
/-! A scheduling step: what a placed replica finds (R27), and what the step then moves (R150, R154) -/

namespace Sys2Proof.Machine

/-! The image, and the clock -/

theorem accessed_imageFrames (o n : Nat) : ∀ (s : State) (va : Nat), s.Accessed (s.imageFrames o va n).1 := by
  induction n with
  | zero => exact fun s va => .refl s
  | succ m ih =>
    intro s va
    have ht := accessed_translate s none o .maint va 1
    unfold State.imageFrames
    cases hx : s.translate none o .maint va 1 with
    | ok u pl =>
      rw [hx] at ht
      cases pl with
      | phys pa mt pac => exact ht.trans (ih u _)
      | spad a => exact ht
    | err u e => rw [hx] at ht; exact ht
    | miss u => rw [hx] at ht; exact ht.trans (accessed_stalled u true)

theorem accessed_dropImage (s : State) (c o lo hi : Nat) : s.Accessed (s.dropImage c o lo hi) := by
  have hf := accessed_imageFrames o (hi / 65536 + 1 - lo / 65536) s (lo / 65536 * 65536)
  unfold State.dropImage
  split
  · exact .refl s
  · split
    · next u hu => rw [hu] at hf; exact hf.trans (stored_setCore _ _ _).accessed
    · next u fr hu => rw [hu] at hf; exact hf.trans (stored_setCore _ _ _).accessed

/-! Placement of a replica -/

/-- A replica of the node `id` at its launch. -/
def launchOf (s : State) (id : Nat) (r : NodeRun) (task grant backing save : Nat) : Thread :=
  let t := launch r (s.part r.part).owner task r.started grant backing save s.gtime s.orderNext
  { t with info := { t.info with run := id } }

/-- The tables of tasks and nodes once a replica of node `id` has begun as task `task`. -/
def State.startedWith (s : State) (id : Nat) (r : NodeRun) (task : Nat) (w : TaskWords) : State :=
  { s.setWords task w with taskNext := (task + 1) % 2 ^ 20, runs := tput s.runs id r }

theorem startedWith_keeps (s : State) (id : Nat) (r : NodeRun) (task : Nat) (w : TaskWords) :
    (s.startedWith id r task w).threads = s.threads ∧ (s.startedWith id r task w).parts = s.parts ∧
    (s.startedWith id r task w).slots = s.slots ∧ (s.startedWith id r task w).saved = s.saved ∧
    (s.startedWith id r task w).runs = tput s.runs id r := ⟨rfl, rfl, rfl, rfl, rfl⟩

/-- A node one more of whose replicas has been placed. -/
def NodeRun.next (r : NodeRun) : NodeRun := { r with started := r.started + 1, live := r.live + 1 }

/-- What a placement changes beside the cores and the machine's memory. -/
structure PlacedAt (s t : State) (id h : Nat) (r : NodeRun) (P : Partition) (task grant backing save : Nat) : Prop where
  thr : ∃ units, t.thr h = { launchOf s id r task grant backing save with units := units }
  others : ∀ x, x ≠ h → t.thr x = s.thr x
  parts : t.parts = tput s.parts r.part P
  runs : t.runs = tput s.runs id r.next
  slots : t.slots = s.slots
  saved : t.saved = s.saved

/-- The units granted to a slot that holds `t`. -/
theorem thr_grantUnits (s : State) (h : Nat) (t : Thread) :
    ∃ l, ((s.setThr h t).grantUnits h).thr h = { t with units := l } := by
  unfold State.grantUnits
  simp only [State.thr_setThr_self]
  exact ⟨_, rfl⟩

theorem thr_grantUnits_ne {s : State} {h x : Nat} (t : Thread) (hx : x ≠ h) : ((s.setThr h t).grantUnits h).thr x = s.thr x := by
  unfold State.grantUnits
  rw [State.thr_setThr_ne _ _ _ hx]
  exact State.thr_setThr_ne _ _ _ hx

/-- What the placement still does for its core once the replica stands at its slot. -/
theorem accessed_prepareCore (s : State) (c o lo hi : Nat) : s.Accessed (((s.dropImage c o lo hi).l1Evict c).trimClock c) :=
  ((accessed_dropImage s _ _ _ _).trans (stored_l1Evict _ _).accessed).trans (stored_setCore _ _ _).accessed

/-- The match of a placement on its node and its task number, by the two options in turn: the areas of a replica are never to be evaluated. -/
theorem match_someSome (f : NodeRun → Nat → State) (d : State) (a : Option NodeRun) (b : Option Nat) :
    (match a, b with
      | some r, some task => f r task
      | _, _ => d) = a.elim d (fun r => b.elim d (f r)) := by
  cases a <;> cases b <;> rfl

section
variable {s : State} {id h task grant backing save : Nat} {r : NodeRun} {P : Partition} (hr : tfind s.runs id = some r)
  (ht : s.newTask = some task) (ha : (s.part r.part).takeAreas r.width = some (P, backing, save))
include hr ht ha

theorem placeOne_eq : s.placeOne id h grant =
    ((((((s.setPart r.part P).setThr h (launchOf s id r task grant backing save)).grantUnits h).startedWith id r.next task
      { owner := (s.part r.part).owner, tl := [], ctr := [] }).dropImage (coreOf h) (s.part r.part).owner r.imgLo r.imgHi).l1Evict
      (coreOf h)).trimClock (coreOf h) := by
  unfold State.placeOne
  refine (match_someSome _ s _ _).trans ?_
  rw [hr, Option.elim_some, ht, Option.elim_some, ha]
  rfl

theorem placeOne_placed : PlacedAt s (s.placeOne id h grant) id h r P task grant backing save := by
  rw [placeOne_eq hr ht ha]
  obtain ⟨l, hl⟩ := thr_grantUnits (s.setPart r.part P) h (launchOf s id r task grant backing save)
  have hne := fun x hx => thr_grantUnits_ne (s := s.setPart r.part P) (h := h) (x := x) (launchOf s id r task grant backing save) hx
  have hb : ∀ t : Thread, (((s.setPart r.part P).setThr h t).grantUnits h).parts = tput s.parts r.part P ∧
      (((s.setPart r.part P).setThr h t).grantUnits h).runs = s.runs ∧ (((s.setPart r.part P).setThr h t).grantUnits h).slots = s.slots ∧
      (((s.setPart r.part P).setThr h t).grantUnits h).saved = s.saved := fun t => ⟨rfl, rfl, rfl, rfl⟩
  obtain ⟨hp, hru, hsl, hsa⟩ := hb (launchOf s id r task grant backing save)
  generalize ((s.setPart r.part P).setThr h (launchOf s id r task grant backing save)).grantUnits h = b at hl hne hp hru hsl hsa ⊢
  obtain ⟨hwt, hwp, hwsl, hwsa, hwr⟩ := startedWith_keeps b id r.next task { owner := (s.part r.part).owner, tl := [], ctr := [] }
  generalize b.startedWith id r.next task _ = w at hwt hwp hwsl hwsa hwr ⊢
  have hx := accessed_prepareCore w (coreOf h) (s.part r.part).owner r.imgLo r.imgHi
  have hthr : ∀ y, ((((w.dropImage (coreOf h) (s.part r.part).owner r.imgLo r.imgHi).l1Evict (coreOf h)).trimClock (coreOf h)).thr y) = b.thr y :=
    fun y => by rw [State.thr, hx.threads, hwt, State.thr]
  exact ⟨⟨l, (hthr h).trans hl⟩, fun y hy => (hthr y).trans (hne y hy), hx.parts.trans (hwp.trans hp), hx.runs.trans (hwr.trans (by rw [hru])),
    hx.slots.trans (hwsl.trans hsl), hx.saved.trans (hwsa.trans hsa)⟩
end

/-- R27: the registers at launch. -/
theorem launched_launchOf (s : State) (id : Nat) (r : NodeRun) (task grant backing save : Nat) (units : List Nat) :
    Launched { launchOf s id r task grant backing save with units := units } r (s.part r.part).owner task r.started grant where
  pc := rfl
  x n := by
    have h : ({ launchOf s id r task grant backing save with units := units } : Thread).rx n =
        (((Thread.reset.wx 1 (toW r.args)).wx 2 (toW r.started)).wx 3 (toW r.repln)).rx n := rfl
    have h0 : Thread.reset.rx n = 0 := by unfold Thread.rx; split <;> rfl
    rw [h, Thread.rx_wx, Thread.rx_wx, Thread.rx_wx, h0]
    by_cases h1 : n = 1
    · subst h1; rfl
    · by_cases h2 : n = 2
      · subst h2; rfl
      · by_cases h3 : n = 3
        · subst h3; rfl
        · simp [h1, h2, h3]
  f n := by simp [launchOf, launch, Thread.rf, Thread.reset, tget]
  vectors := by simp [launchOf, launch, Thread.reset]
  config := ⟨rfl, rfl, rfl, rfl, rfl⟩
  mvl := rfl
  place := ⟨rfl, rfl, rfl, rfl⟩
  names := ⟨rfl, rfl, rfl⟩
  tiles := by simp [launchOf, launch, Thread.reset]
  counters := by simp [launchOf, launch, Thread.reset]
  streams := by simp [launchOf, launch, Thread.reset]
  status := by simp [launchOf, launch, Thread.reset]
  slot := rfl

end Sys2Proof.Machine
end

section
/-! A scheduling step: the service of a ready head node, and what the step then moves (R25, R150, R154) -/

namespace Sys2Proof.Machine

theorem firstUp_of_exists {p : Nat → Bool} : ∀ {n lo : Nat}, (∃ m, lo ≤ m ∧ m < lo + n ∧ p m = true) →
    ∃ m, firstUp lo n p = some m ∧ p m = true := by
  intro n
  induction n with
  | zero => rintro lo ⟨m, h1, h2, -⟩; omega
  | succ n ih =>
    rintro lo ⟨m, h1, h2, hm⟩
    unfold firstUp
    by_cases hp : p lo = true
    · exact ⟨lo, if_pos hp, hp⟩
    · rw [if_neg hp]
      have hne : m ≠ lo := fun h => hp (h ▸ hm)
      exact ih ⟨m, by omega, by omega, hm⟩

/-- The only candidate is found wherever the search begins, if it has credit. -/
theorem nextCredit_one {n rp : Nat} {k : HwSlot} (hn : n < 64) (hc : 0 < k.credit) : nextCredit [(n, k)] [n] rp = some n := by
  unfold nextCredit
  obtain ⟨m, hm, hp⟩ := firstUp_of_exists (lo := rp) (n := 64)
    (p := fun i => shas [n] (i % 64) && (match tfind [(n, k)] (i % 64) with
      | some k => decide (0 < k.credit)
      | none => false))
    ⟨rp + (n + 64 - rp % 64) % 64, by omega, by omega, by
      have : (rp + (n + 64 - rp % 64) % 64) % 64 = n := by omega
      simp [this, shas, tfind, hc]⟩
  have hmod : m % 64 = n := by
    have := (Bool.and_eq_true_iff.mp hp).1
    simp only [shas, List.any_cons, List.any_nil, Bool.or_false, decide_eq_true_eq] at this
    exact this.symm
  exact (congrArg (Option.map (· % 64)) hm).trans (congrArg some hmod)

/-- The slot when its turn of R154 comes: its credit is renewed where it is spent. -/
def HwSlot.renewed (k : HwSlot) : HwSlot := { k with credit := if k.credit = 0 then k.weight else k.credit }

/-- The machine with one slot. -/
def State.withSlot (s : State) (n : Nat) (k : HwSlot) : State := { s with slots := [(n, k)] }

/-- The slot after its turn. -/
def HwSlot.spent (k : HwSlot) (credit : Nat) : HwSlot := { k with credit := credit, age := 0 }

theorem mapSlots_one {s : State} {n : Nat} {k : HwSlot} (h : s.slots = [(n, k)]) (f : HwSlot → HwSlot) : s.mapSlots [n] f = s.withSlot n (f k) := by
  simp [State.mapSlots, State.withSlot, h, shas]

theorem mapSlots_none (s : State) (f : HwSlot → HwSlot) : s.mapSlots [] f = s := by
  simp [State.mapSlots, shas]

/-- The service of R154 where the one slot is the only candidate. -/
theorem serveOne_one {s z : State} {p n : Nat} {k k' : HwSlot} (h : s.slots = [(n, k)]) (hn : n < 64) (hc : 0 < k.renewed.credit)
    (hz : (s.withSlot n k.renewed).serve n k.renewed = z) (hk : z.slots = [(n, k')]) :
    s.serveOne p [n] = ((z.withSlot n (k'.spent (k.renewed.credit - 1))).setPart p { z.part p with
      rp := tput (z.part p).rp (k.level (s.part p).agestep) (if k.renewed.credit - 1 = 0 then (n + 1) % 64 else n) }) := by
  have hf : tfind s.slots n = some k := by simp [h, tfind]
  have hnew : (if k.credit = 0 then s.mapSlots [n] (fun k => { k with credit := k.weight }) else s) = s.withSlot n k.renewed := by
    split
    · next h0 => rw [mapSlots_one h, HwSlot.renewed, h0]; rfl
    · next h0 => rw [HwSlot.renewed, if_neg h0, State.withSlot, ← h]
  have hf' : tfind (s.withSlot n k.renewed).slots n = some k.renewed := by simp [State.withSlot, tfind]
  unfold State.serveOne
  simp only [hf, List.foldl_cons, List.foldl_nil, Nat.zero_max, List.filter_cons, decide_true, if_true, List.filter_nil, List.all_cons,
    List.all_nil, Bool.and_true, decide_eq_true_eq, Nat.lt_irrefl, decide_false, Bool.false_eq_true, if_false]
  rw [hnew, show (s.withSlot n k.renewed).slots = [(n, k.renewed)] from rfl, nextCredit_one hn hc]
  dsimp only
  rw [show tfind [(n, k.renewed)] n = some k.renewed from by simp [tfind]]
  dsimp only
  rw [hz, mapSlots_one hk, mapSlots_none]
  rfl

/-! The last replica of a node -/

/-- The areas of one replica. The count stays a variable until the search for areas is one too: neither is ever to be evaluated. -/
theorem hasAreas_of_takeAreas {p P : Partition} {g n backing save : Nat} (hn : n = 1) (ha : p.takeAreas g = some (P, backing, save)) :
    p.hasAreas g n = true := by
  delta Partition.hasAreas Partition.hasAreas._f
  obtain ⟨areas, hareas⟩ : ∃ f, Partition.takeAreas = f := ⟨_, rfl⟩
  rw [hareas] at ha ⊢
  subst hn
  change (match areas p g with
    | none => false
    | some (_, _, _) => true) = true
  rw [ha]

section
variable {s : State} {r : NodeRun} {h grant : Nat} {l : List CoreRoom}
  (hpick : pickRoom (s.rooms r.part r.width []) r.vgmin r.vgreq = some (h, grant, l))
include hpick

theorem pickRooms_one : pickRooms (s.rooms r.part r.width []) (List.replicate 1 (r.vgmin, r.vgreq)) = some [(h, grant)] := by
  simp [pickRooms, hpick]

variable {id task backing save : Nat} {P : Partition} (hco : r.cohort = false) (ht : s.newTask = some task)
  (ha : (s.part r.part).takeAreas r.width = some (P, backing, save))
  (hp : s.partCharge r.part + powerCharge r.power ≤ (s.part r.part).grant)
include hco ht ha hp

theorem placeable_one : s.placeable r = true := by
  have hpower : s.powerFits r.part (powerCharge r.power) 1 = true := decide_eq_true (by rw [Nat.mul_one]; exact hp)
  have htask : s.newTask.isSome = true := by rw [ht]; rfl
  have hrooms : (pickRooms (s.rooms r.part r.width []) (List.replicate 1 (r.vgmin, r.vgreq))).isSome = true := by rw [pickRooms_one hpick]; rfl
  unfold State.placeable
  rw [hco, if_neg Bool.false_ne_true]
  dsimp only
  rw [hrooms, hasAreas_of_takeAreas rfl ha, hpower, htask]
  rfl

variable (hr : tfind s.runs id = some r) (hlast : r.started + 1 = r.repln)
include hr hlast

theorem placeSome_last (m : Nat) : s.placeSome id (m + 2) = s.placeOne id h grant := by
  have hpl : (decide (r.repln ≤ r.started) || !s.placeable r) = false := by
    rw [placeable_one hpick hco ht ha hp, decide_eq_false (by omega)]; rfl
  have hz' : tfind (s.placeOne id h grant).runs id = some r.next := by
    rw [(placeOne_placed hr ht ha).runs, tfind_tput, if_pos rfl]
  have hend : (decide (r.next.repln ≤ r.next.started) || !(s.placeOne id h grant).placeable r.next) = true := by
    rw [decide_eq_true (by simp only [NodeRun.next]; omega), Bool.true_or]
  rw [State.placeSome, hr]
  dsimp only
  rw [hpl, if_neg Bool.false_ne_true, hpick]
  dsimp only
  rw [State.placeSome, hz']
  dsimp only
  rw [hend, if_pos rfl]
end

end Sys2Proof.Machine
end

section
/-! A scheduling step that places the last replica of its head node (R25 to R27, R150, R154) -/

namespace Sys2Proof.Machine

/-- The two areas of a replica are listed after those of its partition. -/
theorem areas_takeAreas {p P : Partition} {g backing save : Nat} (h : p.takeAreas g = some (P, backing, save)) :
    P.areas = p.areas ++ [(backing, 8 * g * 2 ^ 20), (save, 2 * g * 2 ^ 20)] := by
  have e : Partition.takeAreas = Partition.takeAreas := rfl
  conv at e => rhs; delta Partition.takeAreas
  -- the search is never to be evaluated
  obtain ⟨find, hfind⟩ : ∃ f, Partition.findArea = f := ⟨_, rfl⟩
  rw [hfind] at e
  rw [e] at h
  dsimp only at h
  split at h
  · cases h
  · split at h
    · cases h
    · cases h
      simp

/-- The machine in a turn of its one slot: it differs from `s` in what reading a descriptor touches, and in the slot. -/
def State.turned (s : State) (stalled : Bool) (pillars : Table Pillar) (slots : Table HwSlot) : State :=
  { s with stalled := stalled, pillars := pillars, slots := slots }

theorem qTouch_turned (s : State) (q : Nat) : ∃ b pl, s.qTouch q = s.turned b pl s.slots := by
  obtain ⟨b, hb⟩ := holdAt_eq s (s.descAddr q)
  rw [State.qTouch, hb]
  unfold State.l2Touch
  split
  · exact ⟨_, _, rfl⟩
  · exact ⟨_, _, rfl⟩

/-- A head node that has been found ready. -/
theorem readyHead_ready {s : State} {k : HwSlot} {id : Nat} {r : NodeRun} (hrun : k.run = some id) (hr : tfind s.runs id = some r)
    (hready : r.ready = true) (hen : ctlEn (s.qCtl k.queue) = true ∨ r.started ≠ 0) : s.readyHead k = some (id, r) := by
  unfold State.readyHead
  rw [hrun, Option.bind_some, hr, Option.map_some]
  dsimp only
  rw [if_pos (by simpa [hready] using hen)]

/-- What the last replica of a node leaves of its slot once the step is over. -/
theorem placeHead_last {s : State} {n id hh grant task backing save : Nat} {k : HwSlot} {r : NodeRun} {P : Partition}
    {l : List CoreRoom} (hs : s.slots = [(n, k)]) (hr : tfind s.runs id = some r) (hco : r.cohort = false) (hlast : r.started + 1 = r.repln)
    (hpick : pickRoom (s.rooms r.part r.width []) r.vgmin r.vgreq = some (hh, grant, l)) (ht : s.newTask = some task)
    (ha : (s.part r.part).takeAreas r.width = some (P, backing, save))
    (hp : s.partCharge r.part + powerCharge r.power ≤ (s.part r.part).grant) :
    ∃ i c f, (s.placeHead n id r).slots = [(n, k.moved ((k.head + 1) % 2 ^ 64) none i c f)] ∧
      (s.placeOne id hh grant).KeepsTasks (s.placeHead n id r) := by
  have hplaced := placeOne_placed hr ht ha (h := hh) (grant := grant)
  unfold State.placeHead
  rw [hco, if_neg Bool.false_ne_true, placeSome_last hpick hco ht ha hp hr hlast 6]
  generalize s.placeOne id hh grant = z at hplaced ⊢
  obtain ⟨c, f, hw⟩ := restartWdt_one (s := z.nextOrder) (hplaced.slots.trans hs)
  have hk : z.KeepsTasks (z.nextOrder.restartWdt n) := by rw [hw]; exact ⟨rfl, rfl, rfl, rfl⟩
  have hslots : (z.nextOrder.restartWdt n).slots = [(n, k.moved k.head k.run k.idle c f)] := by rw [hw]
  generalize z.nextOrder.restartWdt n = y at hk hslots ⊢
  have hnext : tfind y.runs id = some r.next := by rw [hk.runs, hplaced.runs, tfind_tput, if_pos rfl]
  obtain ⟨⟨i, c', f', hadv⟩, hkeep⟩ := advanceHead_one hslots
  have hfin : y.placed n id = y.advanceHead n := by
    unfold State.placed
    rw [hnext]
    exact if_pos (by simp only [NodeRun.next]; omega)
  rw [hfin]
  exact ⟨i, c', f', hadv, hk.trans hkeep⟩

/-- R25, R26, R150, R154: the step places the last replica of its ready head node, and moves on. -/
theorem schedule_places {s : State} {p n id hh grant task backing save : Nat} {k : HwSlot} {r : NodeRun} {P : Partition} {l : List CoreRoom}
    (h : OneSlot s p n k) (hrun : k.run = some id) (hr : tfind s.runs id = some r) (hready : r.ready = true) (hco : r.cohort = false)
    (hpart : r.part = p) (hlast : r.started + 1 = r.repln) (hen : ctlEn (s.qCtl k.queue) = true ∨ r.started ≠ 0)
    (hcr : 0 < k.credit ∨ 0 < k.weight) (hpick : pickRoom (s.rooms p r.width []) r.vgmin r.vgreq = some (hh, grant, l))
    (ht : s.newTask = some task) (ha : (s.part p).takeAreas r.width = some (P, backing, save))
    (hp : s.partCharge p + powerCharge r.power ≤ (s.part p).grant) :
    ∃ y i c f, PlacedAt s y id hh r P task grant backing save ∧ s.schedule.threads = y.threads ∧ s.schedule.saved = [] ∧
      s.schedule.runs = y.runs ∧
      s.schedule.slots = [(n, (k.renewed.moved ((k.head + 1) % 2 ^ 64) none i c f).spent (k.renewed.credit - 1))] ∧
      s.schedule.part p = { P with rp := tput P.rp (k.level (s.part p).agestep) (if k.renewed.credit - 1 = 0 then (n + 1) % 64 else n) } := by
  subst hpart
  obtain ⟨b, pl, hu⟩ := qTouch_turned s k.queue
  have hslots : (s.turned b pl s.slots).slots = [(n, k)] := h.slots
  have hfind : tfind (s.turned b pl s.slots).slots n = some k := by rw [hslots]; simp [tfind]
  have hlook : s.lookHead n = s.turned b pl s.slots := by
    have hk : tfind s.slots n = some k := by rw [h.slots]; simp [tfind]
    have hrun' : tfind (s.turned b pl s.slots).runs id = some r := hr
    rw [State.lookHead, hk]
    simp only [hu, takeHead_run hfind (by simp [hrun]), hfind, hrun, Option.bind_some, hrun', Option.map_some, hready, Bool.true_or, if_true]
  have hhead : (s.turned b pl s.slots).readyHead k = some (id, r) := readyHead_ready hrun hr hready hen
  have hplace : (s.turned b pl s.slots).placeable r = true := placeable_one hpick hco ht ha hp
  have hcand : (s.turned b pl s.slots).isCandidate n k = true := by
    rw [State.isCandidate, h.counts, hhead]
    dsimp only
    rw [hplace, Bool.or_true]; rfl
  have hpre : (s.turned b pl s.slots).preemptStep r.part = s.turned b pl s.slots := by
    refine preemptStep_none hslots ?_
    unfold State.preemptChoice
    rw [hhead]
    dsimp only
    rw [hco, if_neg Bool.false_ne_true]
    refine if_pos (Bool.or_eq_true_iff.mpr (Or.inl ?_))
    change (pickRooms (s.rooms r.part r.width []) _).isSome = true
    rw [pickRooms_one hpick]; rfl
  have hcredit : 0 < k.renewed.credit := by
    unfold HwSlot.renewed; dsimp only; split <;> omega
  obtain ⟨i, c, f, hsl, hkeep⟩ := placeHead_last (s := s.turned b pl [(n, k.renewed)]) (n := n) rfl hr hco hlast hpick ht ha hp
  have hplaced := placeOne_placed (s := s.turned b pl [(n, k.renewed)]) (h := hh) (grant := grant) hr ht ha
  have hserve : ((s.turned b pl s.slots).withSlot n k.renewed).serve n k.renewed = (s.turned b pl [(n, k.renewed)]).placeHead n id r := by
    have hhead' : (s.turned b pl [(n, k.renewed)]).readyHead k.renewed = some (id, r) := readyHead_ready hrun hr hready hen
    change (s.turned b pl [(n, k.renewed)]).serve n k.renewed = _
    rw [State.serve, resumable_none (s := s.turned b pl [(n, k.renewed)]) h.saved, hhead']
  have hone : s.schedule = (s.turned b pl s.slots).serveOne r.part [n] := by
    rw [schedule_eq_of_oneSlot h, hlook]
    dsimp only
    simp only [hfind, hcand, List.filter_cons, List.filter_nil, if_true, List.isEmpty_cons, Bool.false_eq_true, if_false, hpre]
  have hsched := serveOne_one (p := r.part) hslots h.number hcredit hserve hsl
  rw [← hone] at hsched
  generalize (s.turned b pl [(n, k.renewed)]).placeHead n id r = z at hkeep hsched hsl
  generalize (s.turned b pl [(n, k.renewed)]).placeOne id hh grant = y at hkeep hplaced
  have hP : z.part r.part = P := by
    rw [State.part, hkeep.parts, hplaced.parts]; exact tget_tput_self _ _ _ _
  rw [hP] at hsched
  refine ⟨{ y with slots := s.slots }, i, c, f, ⟨hplaced.thr, hplaced.others, hplaced.parts, hplaced.runs, rfl, hplaced.saved⟩, ?_⟩
  rw [hsched]
  refine ⟨hkeep.threads, hkeep.saved.trans (hplaced.saved.trans h.saved), hkeep.runs, rfl, ?_⟩
  exact State.part_setPart_self _ _ _

end Sys2Proof.Machine
end

section
/-! The scheduling step, as `SchedulingStep` and the statement of stream events say it -/

namespace Sys2Proof.Machine

theorem exec_scheduling (s : State) : exec .schedulingStep s = .next s.schedule := by
  rw [exec_schedulingStep, execSchedulingStep]

/-- R25 to R27, R150, R154: the clause of `SchedulingStep` about a placement. -/
theorem schedulingStep_places {s : State} {p n id hh c task backing save : Nat} {k : HwSlot} {r : NodeRun} {P : Partition}
    (h : OneSlot s p n k) (hrun : k.run = some id) (hr : tfind s.runs id = some r) (hready : r.ready = true) (hco : r.cohort = false)
    (hpart : r.part = p) (hlast : r.started + 1 = r.repln) (hen : ctlEn (s.qCtl k.queue) = true ∨ r.started ≠ 0)
    (hcr : 0 < k.credit ∨ 0 < k.weight)
    (hpick : ∃ l, pickRoom (s.rooms p r.width []) r.vgmin r.vgreq = some (hh, min r.vgreq (s.unitsLeft c / s.freeCount c), l))
    (ha : (s.part p).takeAreas r.width = some (P, backing, save)) (hp : s.partCharge p + powerCharge r.power ≤ (s.part p).grant)
    (ht : s.newTask = some task) :
    let grant := min r.vgreq (s.unitsLeft c / s.freeCount c)
    let credit := (if k.credit = 0 then k.weight else k.credit) - 1
    let level := min 7 (k.prio + k.age / (s.part p).agestep)
    ∃ t k', exec .schedulingStep s = .next t ∧ Launched (t.thr hh) r (s.part p).owner task r.started grant ∧
      (t.thr hh).mapb = backing / 2 ^ 23 ∧ (t.thr hh).info.save = save ∧
      (∀ x, x ≠ hh → t.thr x = s.thr x) ∧ t.saved = [] ∧ tfind t.runs id = some { r with started := r.repln, live := r.live + 1 } ∧
      (t.part p).areas = (s.part p).areas ++ [(backing, 8 * r.width * 2 ^ 20), (save, 2 * r.width * 2 ^ 20)] ∧
      t.slots = [(n, k')] ∧ k'.head = (k.head + 1) % 2 ^ 64 ∧ k'.run = none ∧ k'.credit = credit ∧ k'.age = 0 ∧
      tget (t.part p).rp level 0 = if credit = 0 then (n + 1) % 64 else n := by
  obtain ⟨l, hpick⟩ := hpick
  obtain ⟨y, i, c', f, hy, hthreads, hsaved, hruns, hslots, hpt⟩ :=
    schedule_places h hrun hr hready hco hpart hlast hen hcr hpick ht ha hp
  obtain ⟨units, hthr⟩ := hy.thr
  have hs : ∀ x, s.schedule.thr x = y.thr x := fun x => by rw [State.thr, hthreads, State.thr]
  refine ⟨s.schedule, _, exec_scheduling s, ?_, ?_, ?_, fun x hx => (hs x).trans (hy.others x hx), hsaved, ?_, ?_, hslots, rfl, rfl, rfl, rfl, ?_⟩
  · rw [hs, hthr, ← hpart]
    exact launched_launchOf s id r task _ backing save units
  · rw [hs, hthr]; rfl
  · rw [hs, hthr]; rfl
  · rw [hruns, hy.runs, tfind_tput, if_pos rfl, NodeRun.next, hlast]
  · exact (congrArg Partition.areas hpt).trans (areas_takeAreas (P := P) ha)
  · exact (congrArg (fun q : Partition => tget q.rp _ 0) hpt).trans (tget_tput_self _ _ _ _)

theorem schedulingStep_holds (s : State) : SchedulingStep s := by
  intro p n k h
  refine ⟨fun v bs hrun hpend hlast hb => ?_, fun id r a val hrun hr hready hedge => ?_, ?_⟩
  · obtain ⟨hzero, hbad, hnode⟩ := schedule_headEntry h hlast hrun hpend hb
    have hlooks : ∀ {t}, s.schedule = t → exec .schedulingStep s = .next t := fun ht => by rw [exec_scheduling, ht]
    refine ⟨fun h0 => hlooks (hzero h0), fun h0 => hlooks (hbad h0), fun w rec h0 hal hw => ?_⟩
    have hfails := fun c hc => hlooks (hnode w rec c 0 h0 hal hw hc)
    exact ⟨fun hr => hfails 1 (checkNode_reserved w _ _ hr), fun hr hwd => hfails 2 (checkNode_width w _ _ hr hwd),
      fun hr hwd he => hfails 3 (checkNode_edges w _ _ hr hwd he), fun hr hwd he =>
        ⟨fun hn => hfails 4 (checkNode_replicas w _ _ hr hwd he hn), fun h1 h2 hv => hfails 5 (checkNode_units w _ _ hr hwd he h1 h2 hv)⟩⟩
  · refine ⟨fun w c hb hl => schedule_edge_err h hrun hr hready hedge hb hl, fun w bs hb hst => ?_⟩
    exact ⟨schedule_edge_waits h hrun hr hready hedge hb hst, schedule_edge_flag h hrun hr hready hedge hb hst,
      schedule_edge_ready h hrun hr hready hedge hb hst⟩
  · intro id r c hh task P backing save hrun hr hready hco hpart hlast hen hcr free units grant hc hon hmem hfree hfirst hmin hlow ha hp ht
    exact schedulingStep_places (c := c) h hrun hr hready hco hpart hlast hen hcr (pickRoom_lowest hc hon hmem hfree hfirst hmin hlow) ha hp ht

/-- A key that is listed reads one of the table's values. -/
theorem tget_listed {α : Type} {t : Table α} {k : Nat} (d : α) (h : k ∈ t.map (·.1)) : ∃ p ∈ t, p.2 = tget t k d := by
  induction t with
  | nil => cases h
  | cons a t ih =>
    unfold tget
    split
    · exact ⟨a, List.mem_cons_self, rfl⟩
    · next hne =>
      obtain ⟨x, hx, hv⟩ := ih ((List.mem_cons.mp h).resolve_left fun e => hne e.symm)
      exact ⟨x, List.mem_cons_of_mem a hx, hv⟩

/-- R246, R440: no partition that may place, no step. -/
theorem schedule_closed {s : State} (h : ∀ p ∈ s.parts, p.2.opened = false) : s.schedule = s := by
  have hstep : ∀ p ∈ s.parts.map (·.1), s.stepPart p = s := by
    intro p hp
    obtain ⟨q, hq, hv⟩ := tget_listed Partition.reset hp
    unfold State.stepPart
    rw [State.part, ← hv, h q hq]
    rfl
  unfold State.schedule
  generalize s.parts.map (·.1) = l at hstep ⊢
  induction l with
  | nil => rfl
  | cons p l ih =>
    rw [List.foldl_cons, hstep p List.mem_cons_self]
    exact ih fun q hq => hstep q (List.mem_cons_of_mem p hq)

end Sys2Proof.Machine
end

section
/-! The end of a save, the end of a drain, and the waits of WFE and TLWAIT (R30, R33, R156, R205, R310) -/

namespace Sys2Proof.Machine

/-! CONTEXT_SAVE_COMPLETE -/

section
variable {s : State} {task : Nat}

theorem saveDone_passes (h : ∀ v, tfind s.saved task = some v → v.saving = false) : s.saveDone task = s := by
  unfold State.saveDone
  split
  · rfl
  · next v hv =>
    dsimp only
    rw [h v hv]
    exact if_pos rfl

/-- While the bank of a dirty line is closed, the save goes on. -/
theorem saveDone_shut {x : Nat × Thread}
    (hx : s.threads.find? (fun x => decide (x.2.slot = .saving) && decide (x.2.taskid = task)) = some x) (hs : s.dirtyShut x.1 = true) :
    s.saveDone task = s := by
  unfold State.saveDone
  split
  · rfl
  · dsimp only
    rw [hx]
    exact if_pos (by simp [hs])

variable {v : Saved} (hv : tfind s.saved task = some v) (hsave : v.saving = true)
include hv hsave

/-- A save whose slot is already free. -/
theorem saveDone_none (hx : s.threads.find? (fun x => decide (x.2.slot = .saving) && decide (x.2.taskid = task)) = none) :
    ({ s with saved := tput s.saved task { v with saving := false } } : State).Stored (s.saveDone task) := by
  unfold State.saveDone
  rw [hv]
  dsimp only
  rw [hx, hsave]
  exact stored_putContainer _ task

/-- The save of the task of a slot, which is free then. -/
theorem saveDone_some {x : Nat × Thread}
    (hx : s.threads.find? (fun x => decide (x.2.slot = .saving) && decide (x.2.taskid = task)) = some x) (hs : s.dirtyShut x.1 = false) :
    ({ s with saved := tput s.saved task { v with saving := false, thr := x.2 }, threads := tdel s.threads x.1 } : State).Stored
      (s.saveDone task) := by
  unfold State.saveDone
  rw [hv]
  dsimp only
  rw [hx, hsave]
  dsimp only
  rw [if_neg (by simp [hs])]
  obtain ⟨cs, m, ks, ps, hw⟩ := stored_l1WriteBackThread s (coreOf x.1) x.1
  rw [hw]
  obtain ⟨cs', m', ks', ps', hc⟩ := stored_putContainer
    { s with saved := tput s.saved task { v with saving := false, thr := x.2 }, cores := cs, mem := m, keys := ks, pillars := ps } task
  rw [hc]
  exact ⟨_, _, _, _, rfl⟩
end

/-! The end of a drain (R33) -/

theorem retireTask_passes {s : State} {h : Nat} (hn : ¬ ((s.thr h).slot = .draining ∧ (s.thr h).drained = true ∧ s.ramping h = false ∧
    s.dirtyShut h = false)) : s.retireTask h = s := by
  unfold State.retireTask
  refine if_pos ?_
  by_contra hc
  simp only [not_or, not_not, Bool.not_eq_false, Bool.not_eq_true] at hc
  obtain ⟨h1, h2, h3, h4⟩ := hc
  exact hn ⟨h1, h2, h4, h3⟩

theorem retireTask_ends {s : State} {h : Nat} (hslot : (s.thr h).slot = .draining) (hd : (s.thr h).drained = true) (hr : s.ramping h = false)
    (hs : s.dirtyShut h = false) : s.retireTask h =
      let t := s.thr h
      let u := ((s.l1WriteBackThread (coreOf h) h).count t.taskid 1 1).freeSlot h false
      match tfind u.slots t.info.slot with
      | some k => if k.queue = t.info.queue then (u.restartWdt t.info.slot).noteIdle t.info.slot else u
      | none => u := by
  unfold State.retireTask
  exact if_neg (by simp [hslot, hd, hr, hs])

end Sys2Proof.Machine
end

section
/-! The entry of a deferred trap (R231 to R235): what stopping a thread's streams leaves as it was -/

namespace Sys2Proof.Machine

/-- What stopping the streams of thread `h` leaves as it was: the routing of causes, and what its trap entry reads of the thread. -/
structure KeepsTrap (s t : State) (h : Nat) : Prop where
  owners : t.owners = s.owners
  owner : (t.thr h).owner = (s.thr h).owner
  tvec : (t.thr h).tvec = (s.thr h).tvec
  hnd : (t.thr h).hnd = (s.thr h).hnd
  pend : (t.thr h).pend = (s.thr h).pend

theorem KeepsTrap.refl (s : State) (h : Nat) : KeepsTrap s s h := ⟨rfl, rfl, rfl, rfl, rfl⟩

theorem KeepsTrap.trans {s t u : State} {h : Nat} (a : KeepsTrap s t h) (b : KeepsTrap t u h) : KeepsTrap s u h :=
  ⟨b.owners.trans a.owners, b.owner.trans a.owner, b.tvec.trans a.tvec, b.hnd.trans a.hnd, b.pend.trans a.pend⟩

theorem KeepsTrap.foldl {α : Type} {f : State → α → State} {h : Nat} (hf : ∀ (s : State) a, KeepsTrap s (f s a) h) (l : List α) (s : State) :
    KeepsTrap s (l.foldl f s) h := by
  induction l generalizing s with
  | nil => exact .refl s h
  | cons a r ih => exact (hf s a).trans (ih _)

theorem KeepsTrap.forUp {f : Nat → State → State} {h : Nat} (hf : ∀ i (s : State), KeepsTrap s (f i s) h) (n : Nat) :
    ∀ (lo : Nat) (s : State), KeepsTrap s (Machine.forUp lo n f s) h := by
  induction n with
  | zero => exact fun _ s => .refl s h
  | succ n ih => exact fun lo s => (hf lo s).trans (ih _ _)

/-- A thread that keeps what a trap entry reads is stored. -/
theorem keepsTrap_setThr {s : State} {x h : Nat} {t : Thread} (ho : t.owner = (s.thr x).owner) (hv : t.tvec = (s.thr x).tvec)
    (hh : t.hnd = (s.thr x).hnd) (hp : t.pend = (s.thr x).pend) : KeepsTrap s (s.setThr x t) h := by
  by_cases e : h = x
  · subst e
    exact ⟨rfl, by rw [State.thr_setThr_self, ho], by rw [State.thr_setThr_self, hv], by rw [State.thr_setThr_self, hh],
      by rw [State.thr_setThr_self, hp]⟩
  · have hne := State.thr_setThr_ne s x t e
    exact ⟨rfl, by rw [hne], by rw [hne], by rw [hne], by rw [hne]⟩

theorem keepsTrap_fillGranule (s : State) (o c off h : Nat) : KeepsTrap s (s.fillGranule o c off) h := by
  have hset : ∀ (s : State) x, KeepsTrap s (match tfind s.threads x with
      | some t => s.setThr x { t with event := true }
      | none => s) h := by
    intro s x
    cases hx : tfind s.threads x with
    | none => exact .refl s h
    | some t =>
      have ht : s.thr x = t := by rw [State.thr, tget_eq_getD, hx]; rfl
      exact keepsTrap_setThr (by rw [ht]) (by rw [ht]) (by rw [ht]) (by rw [ht])
  have htag : KeepsTrap s (s.spadTag o (spadKey c off / 64)) h := by
    unfold State.spadTag
    split <;> exact ⟨rfl, rfl, rfl, rfl, rfl⟩
  unfold State.fillGranule
  dsimp only
  split
  · exact htag
  · refine htag.trans (KeepsTrap.trans ?_ (KeepsTrap.foldl (f := fun (s : State) x => match tfind s.threads x with
      | some t => s.setThr x { t with event := true }
      | none => s) hset (threadsOf c) _))
    exact ⟨rfl, rfl, rfl, rfl, rfl⟩

theorem keepsTrap_fillWritten (s : State) (h : Nat) (e : VEntry) (hi : Nat) : KeepsTrap s (s.fillWritten h e hi) h := by
  unfold State.fillWritten
  split
  · split
    · refine KeepsTrap.forUp (fun i s => ?_) _ _ _
      split
      · exact keepsTrap_fillGranule _ _ _ _ _
      · exact .refl s h
    · exact .refl s h
  · exact .refl s h

theorem keepsTrap_stopVector (s : State) (h : Nat) : KeepsTrap s (s.stopVector h) h := by
  have hun : KeepsTrap s (s.unpin h) h := ⟨rfl, rfl, rfl, rfl, rfl⟩
  have hfill : ∀ s : State, KeepsTrap s (s.fillStopped h) h := by
    intro s
    unfold State.fillStopped
    split
    · exact .refl s h
    · exact (keepsTrap_fillWritten s h _ _).trans (keepsTrap_setThr rfl rfl rfl rfl)
  unfold State.stopVector
  exact (hun.trans (hfill _)).trans (keepsTrap_setThr rfl rfl rfl rfl)

/-- What the stop of a deferred trap leaves for its entry. -/
theorem stopFor_keeps (s : State) (h : Nat) (p : Pend) :
    (s.stopFor h p).owners = s.owners ∧ ((s.stopFor h p).thr h).owner = (s.thr h).owner ∧ ((s.stopFor h p).thr h).tvec = (s.thr h).tvec ∧
    ((s.stopFor h p).thr h).hnd = (s.thr h).hnd ∧ (p.src ≠ 2 → ((s.stopFor h p).thr h).pend = (s.thr h).pend) := by
  have hv := keepsTrap_stopVector s h
  unfold State.stopFor
  split
  · exact ⟨rfl, rfl, rfl, rfl, fun _ => rfl⟩
  · split
    · next h2 =>
      have hfree : ∀ c l, KeepsTrap (s.stopVector h) ((s.stopVector h).freeTiles c l) h := fun c l =>
        KeepsTrap.foldl (f := fun s pt => s.setCore c { s.core c with tiles := tdel (s.core c).tiles pt })
          (fun s pt => ⟨rfl, rfl, rfl, rfl, rfl⟩) l _
      unfold State.abandonFrom
      refine ⟨(hfree _ _).owners.trans hv.owners, ?_, ?_, ?_, fun hne => absurd h2 hne⟩
      · rw [State.thr_setThr_self]; exact hv.owner
      · rw [State.thr_setThr_self]; exact hv.tvec
      · rw [State.thr_setThr_self]; exact hv.hnd
    · exact ⟨hv.owners, hv.owner, hv.tvec, hv.hnd, fun _ => hv.pend⟩

/-- A trap goes to the handler of its thread. -/
theorem takeTrap_handler {s : State} {h : Nat} {p : Pend} (pc : Word) (hroute : s.route (s.thr h).owner p.code = 0)
    (hvec : (s.thr h).tvec ≠ 0) (hhnd : (s.thr h).hnd = false) :
    s.takeTrap h p pc = (s.stopFor h p).setThr h (((s.stopFor h p).thr h).enter p pc) := by
  obtain ⟨hos, ho, hv, hh, -⟩ := stopFor_keeps s h p
  have hcode : p.code ≠ 64 := by
    intro hc
    rw [State.route, if_pos hc] at hroute
    cases hroute
  have hr : (s.stopFor h p).route ((s.stopFor h p).thr h).owner p.code = 0 := by
    rw [← hroute, ho]
    simp only [State.route, State.owner, hos]
  unfold State.takeTrap
  rw [if_neg hcode]
  extract_lets
  rw [hr]
  exact if_neg (by rw [hv, hh, hhnd]; exact fun hor => hor.elim hvec Bool.false_ne_true)

/-- A thread whose pending trap `p` is being entered. -/
def Thread.taking (t : Thread) (p : Pend) : Thread := { t with pend := t.pend.erase p, slot := .placed }

/-- R231 to R235: the entry of the next deferred trap. -/
theorem enterDeferred_handler {s : State} {h : Nat} {p : Pend} (hp : nextPend (s.thr h).pend = some p) (hm : s.mayEnter h p = true)
    (hroute : s.route (s.thr h).owner p.code = 0) (hvec : (s.thr h).tvec ≠ 0) :
    s.enterDeferred h = ((s.setThr h ((s.thr h).taking p)).stopFor h p).setThr h
      ((((s.setThr h ((s.thr h).taking p)).stopFor h p).thr h).enter p (s.thr h).pc) := by
  have hhnd : (s.thr h).hnd = false := by
    unfold State.mayEnter at hm
    simp only [Bool.and_eq_true, Bool.not_eq_true'] at hm
    tauto
  unfold State.enterDeferred
  extract_lets t
  rw [hp]
  dsimp only
  rw [if_pos hm]
  exact takeTrap_handler _ (by rw [State.thr_setThr_self]; exact hroute) (by rw [State.thr_setThr_self]; exact hvec)
    (by rw [State.thr_setThr_self]; exact hhnd)

/-- R233: the entry of a bobbin's trap. -/
theorem enter_bobbin (t : Thread) {p : Pend} (pc : Word) {vec : Word} (h : p.src = 3) (hv : t.tvec = vec) : t.enter p pc = { t with
    hnd := true, tsrc := 3, tcode := p.code, tepc := pc, tval := p.tval, tvpc := 0, tpos := 0, nkeep := 0, tstart := 0
    pc := vec, wait := .none, freed := false, remote := none, away := none, shoot := none, wfeSince := none } := by
  unfold Thread.enter
  rw [h, hv]
  rfl

theorem enterDeferred_passes {s : State} {h : Nat}
    (hn : nextPend (s.thr h).pend = none ∨ ∃ p, nextPend (s.thr h).pend = some p ∧ s.mayEnter h p = false) : s.enterDeferred h = s := by
  unfold State.enterDeferred
  dsimp only
  rcases hn with hn | ⟨p, hn, hm⟩
  · rw [hn]
  · rw [hn]
    dsimp only
    rw [if_neg (by simp [hm])]

end Sys2Proof.Machine
end

section
/-! The vector stream, its lanes, and the barrier words (R30, R161, R162, R209, R231, R366) -/

namespace Sys2Proof.Machine

theorem trace_off {s : State} (h : s.traceRings = []) (hh kind unit arg : Nat) : s.trace hh kind unit arg = s := by
  simp [State.trace, h]

/-! What goes on behind the head -/

theorem lanesFirst_lockstep {s : State} {h : Nat} (hl : s.lockstep = true) : s.lanesFirst h = false := by
  unfold State.lanesFirst
  split
  · simp [hl]
  · rfl

theorem lanesFirst_empty {s : State} {h : Nat} (hv : (s.thr h).viq = []) : s.lanesFirst h = false := by
  simp [State.lanesFirst, hv]

theorem vAhead_lockstep {s : State} {h : Nat} (hl : s.lockstep = true) : s.vAhead h = s := by
  unfold State.vAhead
  dsimp only
  split
  · rfl
  · exact if_pos (by simp [hl])

theorem vAhead_empty {s : State} {h : Nat} (hv : (s.thr h).viq = []) : s.vAhead h = s := by
  simp [State.vAhead, hv, chainLimits]

/-- An entry that has no section serves nothing. -/
theorem vServe_none {s : State} {h : Nat} {e : VEntry} (he : e.sect = none) : s.vServe h e = s := by
  unfold State.vServe
  split
  · next hs => rw [he] at hs; cases hs
  · rfl

/-! The head -/

section
variable {s : State} {h : Nat} {e : VEntry} {rest : List VEntry} (hv : (s.thr h).viq = e :: rest)
include hv

theorem vStep_held (hm : (s.thr h).vMay e = false) (hs : ∀ x ∈ (s.thr h).viq, x.sect = none) : s.vStep h = (s, false) := by
  have hfold : ∀ l : List VEntry, (∀ x ∈ l, x.sect = none) → l.foldl (fun s e => State.vServe s h e) s = s := by
    intro l
    induction l with
    | nil => exact fun _ => rfl
    | cons x l ih =>
      intro hl
      rw [List.foldl_cons, vServe_none (hl x List.mem_cons_self)]
      exact ih fun y hy => hl y (List.mem_cons_of_mem x hy)
  unfold State.vStep
  rw [hv] at hs ⊢
  dsimp only
  rw [hm]
  exact congrArg (·, false) (hfold _ hs)

variable (hm : (s.thr h).vMay e = true)
include hm

theorem vStep_may : s.vStep h =
    match (s.vBegin h e).1.vTry h (s.vBegin h e).2 with
    | .done u => (u.vComplete h e, true)
    | .wait u => (u, false)
    | .trap u p => (u.raisePend h p, false) := by
  unfold State.vStep
  rw [hv]
  dsimp only
  rw [hm]
  rfl

theorem vectorEvent_done {u : State} (ht : (s.vBegin h e).1.vTry h (s.vBegin h e).2 = .done u) : s.vectorEvent h false = u.vComplete h e := by
  unfold State.vectorEvent
  rw [vStep_may hv hm, ht]
  rfl

theorem vectorEvent_wait {u : State} (ht : (s.vBegin h e).1.vTry h (s.vBegin h e).2 = .wait u) : s.vectorEvent h false = u.vAhead h := by
  unfold State.vectorEvent
  rw [vStep_may hv hm, ht]
  rfl

theorem vectorEvent_trap {u : State} {p : Pend} (ht : (s.vBegin h e).1.vTry h (s.vBegin h e).2 = .trap u p) :
    s.vectorEvent h false = (u.raisePend h p).vAhead h := by
  unfold State.vectorEvent
  rw [vStep_may hv hm, ht]
  rfl
end

theorem vectorEvent_empty {s : State} {h : Nat} (hv : (s.thr h).viq = []) : s.vectorEvent h (s.lanesFirst h) = s := by
  have hstep : s.vStep h = (s, false) := by simp [State.vStep, hv]
  rw [lanesFirst_empty hv, State.vectorEvent, hstep]
  exact vAhead_empty hv

theorem vectorEvent_held {s : State} {h : Nat} {e : VEntry} {rest : List VEntry} (hv : (s.thr h).viq = e :: rest)
    (hm : (s.thr h).vMay e = false) (hl : s.lockstep = true) (hs : ∀ x ∈ (s.thr h).viq, x.sect = none) :
    s.vectorEvent h (s.lanesFirst h) = s := by
  rw [lanesFirst_lockstep hl, State.vectorEvent, vStep_held hv hm hs]
  exact vAhead_lockstep hl

theorem vBegin_quiet {s : State} {h : Nat} {e : VEntry} (ht : s.traceRings = []) :
    (s.vBegin h e).1 = if e.began then s else s.setHead h { e with began := true } := by
  unfold State.vBegin
  split
  · rfl
  · exact trace_off (s := s.setHead h { e with began := true }) ht _ _ _ _

/-! The lanes of a core whose threads have no vector instruction -/

theorem laneGroups_idle {s : State} {c : Nat} (h : ∀ x ∈ threadsOf c, (s.thr x).viq = []) : s.laneGroups c = [] := by
  have hbusy : ((threadsOf c).filter (fun h => (s.thr h).live)).filter (fun h => !(s.thr h).viq.isEmpty) = [] := by
    rw [List.filter_eq_nil_iff]
    intro x hx
    simp [h x (List.mem_of_mem_filter hx)]
  unfold State.laneGroups
  dsimp only
  rw [hbusy]
  simp [shas]

/-- A cycle in which no lane draws: it counts and records ballast (R222, R223). -/
theorem laneCycle_idle {s : State} {c : Nat} (h : ∀ x ∈ threadsOf c, (s.thr x).viq = []) :
    ∃ u k, (u = s ∨ ∃ task n, u = s.count task 12 n) ∧ s.laneCycle c = u.setCore c k ∧
      { k with drew := (s.core c).drew, ballast := (s.core c).ballast } = s.core c := by
  unfold State.laneCycle
  rw [laneGroups_idle h, List.map_nil]
  dsimp only
  generalize s.edgeStep c _ = step
  cases step
  all_goals
    simp only [cutGroups, List.foldl_nil]
    split
    · exact ⟨_, _, Or.inr ⟨_, _, rfl⟩, rfl, rfl⟩
    · exact ⟨_, _, Or.inl rfl, rfl, rfl⟩

end Sys2Proof.Machine
end

section
/-! The tile units, the tile stream, sends that go again, and the fills of tiles (R70, R160, R188, R384) -/

namespace Sys2Proof.Machine

/-- A cycle of a unit to which no entry is offered (R160). -/
theorem unitCycle_idle {s : State} {c u : Nat} (h : ∀ x ∈ threadsOf c, ∀ e ∈ (s.thr x).win, e.issued = true ∨ e.op.unit ≠ some u)
    (herr : s.tileErrors c = false) (htr : s.travel = false) : s.unitCycle c u = s := by
  have hoff : ∀ x ∈ threadsOf c, ∀ e ∈ (s.thr x).win, (!e.issued && decide (e.op.unit = some u)) = false := by
    intro x hx e he
    rcases h x hx e he with hi | hu
    · simp [hi]
    · simp [hu]
  have hcheck : (s.checkTiles c).askFills c = s := by
    rw [State.checkTiles, herr, if_neg Bool.false_ne_true, State.askFills, htr, if_neg Bool.false_ne_true]
  have hfold : ∀ l : List Nat, (∀ x ∈ l, x ∈ threadsOf c) → l.foldl (fun s h => if (s.thr h).live then
      ((s.thr h).win.filter (fun e => !e.issued && decide (e.op.unit = some u))).foldl (fun s e => s.fillSources h e) s else s) s = s := by
    intro l
    induction l with
    | nil => exact fun _ => rfl
    | cons x l ih =>
      intro hl
      have hnil : (s.thr x).win.filter (fun e => !e.issued && decide (e.op.unit = some u)) = [] := by
        rw [List.filter_eq_nil_iff]
        intro e he
        simp [hoff x (hl x List.mem_cons_self) e he]
      rw [List.foldl_cons, hnil, List.foldl_nil, ite_self]
      exact ih fun y hy => hl y (List.mem_cons_of_mem x hy)
  have hoffer : ∀ x ∈ threadsOf c, s.tileOffer x u = none := by
    intro x hx
    unfold State.tileOffer
    split
    · rw [List.find?_eq_none]
      intro e he
      simp [hoff x hx e he]
    · rfl
  have hmem : ∀ i, 4 * c + i % 4 ∈ threadsOf c := by
    intro i
    simp only [threadsOf, List.mem_cons, List.not_mem_nil, or_false]
    omega
  unfold State.unitCycle
  extract_lets last checked filled
  have hfilled : filled = s := by
    change ((threadsOf c).foldl _ ((s.checkTiles c).askFills c)) = s
    rw [hcheck]
    exact hfold _ fun _ hx => hx
  rw [hfilled]
  simp only [List.map_cons, List.map_nil, List.findSome?_cons, List.findSome?_nil, hoffer _ (hmem _), Option.map_none]

/-! The entries of a thread's window -/

section
variable {s : State} {h cmd : Nat}

theorem tileFinish_none (hn : (s.thr h).win.find? (fun e => decide (e.cmd = cmd)) = none ∨ ¬ (s.thr h).live = true) :
    s.tileFinish h cmd = s := by
  unfold State.tileFinish
  split
  · rfl
  · next e he =>
    refine if_pos ?_
    rcases hn with hn | hn
    · rw [hn] at he; cases he
    · exact Bool.not_eq_true _ ▸ hn

theorem sendAgain_none (hn : (s.thr h).win.find? (fun e => decide (e.cmd = cmd)) = none ∨
    ∃ e, (s.thr h).win.find? (fun e => decide (e.cmd = cmd)) = some e ∧ ∀ g, e.send ≠ .retry g) : s.sendAgain h cmd = s := by
  unfold State.sendAgain State.sendEntry
  rcases hn with hn | ⟨e, he, hs⟩
  · rw [hn]
  · rw [he]
    dsimp only
    split
    · next g hg => exact absurd hg (hs g)
    · rfl

variable {e : TEntry} (he : (s.thr h).win.find? (fun e => decide (e.cmd = cmd)) = some e)
include he

theorem tileFinish_some : s.tileFinish h cmd =
    if (s.thr h).live = false then s
    else if e.complete then s.retireAll h 17
    else if e.issued then (if (s.thr h).trapped cmd then s else s.tileRun h e)
    else if e.op.unit.isNone && !(s.thr h).hnd then s.tileTry h cmd
    else s := by
  unfold State.tileFinish
  rw [he]

/-- An entry of a unit waits for the unit to issue it, and one of none for the end of a handler. -/
theorem tileFinish_waits (hc : e.complete = false) (hi : e.issued = false) (hu : e.op.unit ≠ none ∨ (s.thr h).hnd = true) :
    s.tileFinish h cmd = s := by
  have hno : (e.op.unit.isNone && !(s.thr h).hnd) = false := by
    rcases hu with hu | hu
    · simp [Option.isNone_iff_eq_none, hu]
    · simp [hu]
  rw [tileFinish_some he, hc, hi, hno, if_neg Bool.false_ne_true, if_neg Bool.false_ne_true,
    if_neg Bool.false_ne_true, ite_self]

theorem sendAgain_retry {g : Nat} (hs : e.send = .retry g) : s.sendAgain h cmd = s.tileRun h e := by
  unfold State.sendAgain State.sendEntry
  rw [he]
  dsimp only
  rw [hs]
end

/-! Fills -/

section
variable {s : State} {c pt : Nat}

theorem fillDone_none (hn : tfind (s.core c).tiles pt = none ∨ ∃ p, tfind (s.core c).tiles pt = some p ∧ p.filling = false) :
    s.fillDone c pt = s := by
  unfold State.fillDone
  rcases hn with hn | ⟨p, hp, hf⟩
  · rw [hn]
  · rw [hp]
    exact if_pos (by simp [hf])

variable {p : PTile} (hp : tfind (s.core c).tiles pt = some p)
include hp

/-- The pieces of a fill are still coming. -/
theorem fillDone_coming (ht : s.travel = true) (hl : p.came.length < 1024 * s.width c) : s.fillDone c pt = s := by
  unfold State.fillDone
  rw [hp]
  exact if_pos (by simp [ht, hl])

theorem fillDone_ends (hf : p.filling = true) (hl : s.travel = false ∨ 1024 * s.width c ≤ p.came.length) : s.fillDone c pt =
    match s.threads.find? (fun x => decide (coreOf x.1 = c) && x.2.live && p.ofContext x.2.owner x.2.mapb) with
    | some x => (if p.came.length < 1024 * s.width c then s.fillTile x.1 p.tile pt else s.fillEnd x.1 p.tile pt p.rows).resolveMtovs x.1
    | none => s.setCore c { s.core c with tiles := tdel (s.core c).tiles pt } := by
  have hgo : ¬ (!p.filling || (s.travel && decide (p.came.length < 1024 * s.width c))) = true := by
    rcases hl with hl | hl
    · simp [hf, hl]
    · simp [hf]; intro _; omega
  unfold State.fillDone
  rw [hp]
  exact if_neg hgo
end

end Sys2Proof.Machine
end

section
/-! The bobbins: the rules of their accessors, and the start, completion and fault of a command (R75, R202, R207, R211, R233) -/

namespace Sys2Proof.Machine

/-! Reading a bobbin -/

theorem bobbin_setBobbin (t : Thread) (n m : Nat) (b : Bobbin) : (t.setBobbin n b).bobbin m = if m = n then b else t.bobbin m :=
  tget_tset _ _ _ _ _

@[simp] theorem bobbin_setBobbin_self (t : Thread) (n : Nat) (b : Bobbin) : (t.setBobbin n b).bobbin n = b := by
  rw [bobbin_setBobbin, if_pos rfl]

theorem thr_setBob (s : State) (h bn : Nat) (b : Bobbin) : (s.setBob h bn b).thr h = (s.thr h).setBobbin bn b := State.thr_setThr_self _ _ _

@[simp] theorem bob_setBob (s : State) (h bn : Nat) (b : Bobbin) : (s.setBob h bn b).bob h bn = b := by
  rw [State.bob, thr_setBob, bobbin_setBobbin_self]

/-- The head command in place. -/
theorem bob_setCmd (s : State) (h bn : Nat) (q : BCmd) : (s.setCmd h bn q).bob h bn =
    { s.bob h bn with queue := (s.bob h bn).queue.map (fun x => if x.num = q.num then q else x) } := bob_setBob _ _ _ _

theorem stat_setCmd (s : State) (h bn : Nat) (q : BCmd) : ((s.setCmd h bn q).bob h bn).stat = (s.bob h bn).stat := by rw [bob_setCmd]

theorem thr_setCmd (s : State) (h bn : Nat) (q : BCmd) : ∃ b, (s.setCmd h bn q).thr h = (s.thr h).setBobbin bn b := ⟨_, thr_setBob _ _ _ _⟩

theorem pend_setCmd (s : State) (h bn : Nat) (q : BCmd) : ((s.setCmd h bn q).thr h).pend = (s.thr h).pend := by
  obtain ⟨b, hb⟩ := thr_setCmd s h bn q; rw [hb]; rfl

theorem wm_setCmd (s : State) (h bn : Nat) (q : BCmd) : ((s.setCmd h bn q).thr h).wm = (s.thr h).wm := by
  obtain ⟨b, hb⟩ := thr_setCmd s h bn q; rw [hb]; rfl

/-! A fault -/

/-- A trap of a bobbin is pending beside those that are. -/
theorem thr_raisePend (s : State) (h : Nat) {p : Pend} (hp : p.src = 3) : (s.raisePend h p).thr h =
    { s.thr h with pend := (s.thr h).pend ++ [{ p with time := some s.gtime, seen := s.tick }], event := true } := by
  have hany : (s.thr h).pend.any (fun q => decide (q.src = p.src) && (decide (p.src = 1) || (decide (p.src = 2) && decide (q.cmd = p.cmd)))) = false := by
    simp [hp]
  unfold State.raisePend
  dsimp only
  rw [hany, if_neg Bool.false_ne_true]
  exact State.thr_setThr_self _ _ _

/-- R211, R233: bobbin `bn` of thread `h` has frozen with a cause between `s` and `u`. -/
structure Frozen (s u : State) (h bn code va : Nat) : Prop where
  stat : (u.bob h bn).stat = { (s.bob h bn).stat with state := 2, fcode := BitVec.ofNat 16 code }
  event : (u.thr h).event = true
  pend : ∃ p, (u.thr h).pend = (s.thr h).pend ++ [p] ∧ p.src = 3 ∧ p.code = code ∧ p.cmd = bn ∧ p.tval = toW va
  wm : (u.thr h).wm = (s.thr h).wm

/-- A bobbin whose status is frozen, and its trap. -/
theorem frozen_raisePend {s : State} {h bn va : Nat} {b : Bobbin} {p : Pend} (hp : p.src = 3) (hc : p.cmd = bn) (hv : p.tval = toW va)
    (hb : b.stat = { (s.bob h bn).stat with state := 2, fcode := BitVec.ofNat 16 p.code }) :
    Frozen s ((s.setBob h bn b).raisePend h p) h bn p.code va := by
  have hthr := thr_raisePend (s.setBob h bn b) h hp
  rw [thr_setBob] at hthr
  refine ⟨?_, by rw [hthr], ⟨{ p with time := some s.gtime, seen := s.tick }, by rw [hthr]; rfl, hp, rfl, hc, hv⟩, by rw [hthr]; rfl⟩
  rw [State.bob, hthr]
  exact (congrArg Bobbin.stat (bobbin_setBobbin_self _ _ _)).trans hb

theorem freeze_frozen {s : State} (ht : s.traceRings = []) (h bn : Nat) (q : BCmd) (code va : Nat) (dst : Bool) (level entry : Nat)
    (item : Option (Nat × Nat)) : Frozen s (s.freeze h bn q code va dst level entry item) h bn code va := by
  unfold State.freeze
  dsimp only
  rw [trace_off (s := s.setBob h bn _) ht]
  exact frozen_raisePend rfl rfl rfl rfl

/-- A bobbin that freezes once its head command has been changed. -/
theorem Frozen.of_setCmd {s u : State} {h bn code va : Nat} {q : BCmd} (hf : Frozen (s.setCmd h bn q) u h bn code va) : Frozen s u h bn code va where
  stat := by rw [hf.stat, stat_setCmd]
  event := hf.event
  pend := by rw [← pend_setCmd s h bn q]; exact hf.pend
  wm := hf.wm.trans (wm_setCmd s h bn q)

/-! The start of a command -/

theorem thr_errorRecord (s : State) (kind loc h : Nat) : (s.errorRecord kind loc).thr h = s.thr h := by
  unfold State.errorRecord
  split
  · rfl
  · split
    · rfl
    · dsimp only [State.thr]
      rw [(accessed_sysWrite s _ _).threads]

theorem rwm_noteWords (s : State) (h n : Nat) (regs : RegSet) : ((s.noteWords h regs).thr h).rwm n = (s.thr h).rwm n := by
  have hfold : ∀ (l : List Nat) (s : State), ((l.foldl (fun s w => s.errorRecord logMasked (2 ^ 32 * h + w)) s).thr h) = s.thr h := by
    intro l
    induction l with
    | nil => exact fun _ => rfl
    | cons w l ih => exact fun s => (ih _).trans (thr_errorRecord s _ _ _)
  unfold State.noteWords
  dsimp only
  split
  · rfl
  · rw [hfold, State.thr_setThr_self]; rfl

/-- The machine in which the head command of a bobbin has started, with its watermark at 0 (R75). -/
def State.startedCmd (s : State) (h bn : Nat) (q : BCmd) : State :=
  (s.setThr h ((s.thr h).wwm bn 0)).setBob h bn
    { queue := ((s.thr h).bobbin bn).queue.map (fun x => if x.num = q.num then q else x), stat := { abt := false, fcode := 0, state := 1 } }

theorem rwm_startedCmd (s : State) (h bn : Nat) (q : BCmd) : ((s.startedCmd h bn q).thr h).rwm bn = 0 := by
  rw [State.startedCmd, thr_setBob, State.thr_setThr_self]
  change ((s.thr h).wwm bn 0).rwm bn = 0
  rw [Thread.rwm_wwm, if_pos rfl]

section
variable {s : State} {h bn : Nat} {q : BCmd} (ht : s.traceRings = [])
include ht

/-- A command of another kind than CPYROWS starts. -/
theorem bobStart_plain (hop : ∀ l n iw va kb nreg, q.op ≠ .rows l n iw va kb nreg) :
    s.bobStart h bn q = s.startedCmd h bn { q with started := true, rowSrc := [] } := by
  unfold State.bobStart
  extract_lets t b bad q' started traced
  have hbad : bad = false := by
    change (match q.op with
      | .rows _ n iw va kb nreg => (List.range n).any (fun i => t.rk kb i && t.vBad nreg va (if iw = 1 then 8 else 4) i)
      | _ => false) = false
    split
    · next ho => exact absurd ho (hop _ _ _ _ _ _)
    · rfl
  have hq : q' = { q with started := true, rowSrc := [] } := by
    change ({ q with started := true, rowSrc := _ } : BCmd) = _
    congr 1
    split
    · next ho => exact absurd ho (hop _ _ _ _ _ _)
    · rfl
  have hstart : traced = s.startedCmd h bn q' := trace_off (s := started) ht _ _ _ _
  rw [hstart, hq, if_neg (by rw [hbad]; exact Bool.false_ne_true)]
  split
  · next ho => exact absurd ho (hop _ _ _ _ _ _)
  · rfl

/-- A CPYROWS starts, or freezes at a word that cannot be read. -/
theorem bobStart_rows {l n iw va kb nreg : Nat} (ho : q.op = .rows l n iw va kb nreg) :
    (∃ q' code a, s.bobStart h bn q = (s.startedCmd h bn q').freeze h bn q' code a false 0 0 none) ∨
    (∃ q' regs, s.bobStart h bn q = (s.startedCmd h bn q').noteWords h regs) := by
  unfold State.bobStart
  extract_lets t b bad q' started traced
  have hstart : traced = s.startedCmd h bn q' := trace_off (s := started) ht _ _ _ _
  rw [hstart]
  by_cases hb : bad = true
  · rw [if_pos hb]
    exact Or.inl ⟨q', 64, _, rfl⟩
  · rw [if_neg hb, ho]
    exact Or.inr ⟨q', _, rfl⟩

theorem rwm_bobStart : ((s.bobStart h bn q).thr h).rwm bn = 0 := by
  by_cases hop : ∀ l n iw va kb nreg, q.op ≠ .rows l n iw va kb nreg
  · rw [bobStart_plain ht hop]; exact rwm_startedCmd _ _ _ _
  · push Not at hop
    obtain ⟨l, n, iw, va, kb, nreg, ho⟩ := hop
    rcases bobStart_rows (h := h) (bn := bn) ht ho with ⟨q', code, a, hs⟩ | ⟨q', regs, hs⟩
    · have hf := freeze_frozen (s := s.startedCmd h bn q') ht h bn q' code a false 0 0 none
      rw [hs, Thread.rwm, hf.wm]; exact rwm_startedCmd _ _ _ _
    · rw [hs, rwm_noteWords]; exact rwm_startedCmd _ _ _ _

/-! The completion of a command -/

/-- R202: the timeline of the thread is raised, and nothing else that a bobbin or another timeline reads. -/
theorem advance_thread (i n : Nat) (err : Bool) : ((s.advance h i n err).thr h).bob = (s.thr h).bob ∧
    ∀ m, ((s.advance h i n err).thr h).rtl m = if m = i then tlRaise ((s.thr h).rtl i) n err else (s.thr h).rtl m := by
  have hadv : ((s.thr h).advance i n err).bob = (s.thr h).bob ∧
      ∀ m, ((s.thr h).advance i n err).rtl m = if m = i then tlRaise ((s.thr h).rtl i) n err else (s.thr h).rtl m := by
    unfold Thread.advance
    dsimp only
    split
    · next he =>
      refine ⟨rfl, fun m => ?_⟩
      split
      · next hm => rw [hm, he]
      · rfl
    · exact ⟨rfl, fun m => tget_tset _ _ _ _ _⟩
  unfold State.advance
  dsimp only
  split
  · next he =>
    refine ⟨rfl, fun m => ?_⟩
    split
    · next hm => rw [hm]; exact he.symm.trans ((hadv.2 i).trans (if_pos rfl))
    · rfl
  · rw [trace_off (s := s.setThr h _) ht, State.thr_setThr_self]
    exact hadv

/-- R202: the completion of the head command. -/
theorem bobComplete_thread : ((s.bobComplete h bn q).thr h).bobbin bn =
      { queue := (s.bob h bn).queue.filter (fun x => !decide (x.num = q.num)), stat := { (s.bob h bn).stat with state := 0 } } ∧
    ∀ m, ((s.bobComplete h bn q).thr h).rtl m = if m = 2 + bn then tlRaise ((s.thr h).rtl (2 + bn)) q.num false else (s.thr h).rtl m := by
  unfold State.bobComplete
  dsimp only
  generalize hb : ({ queue := (s.bob h bn).queue.filter (fun x => !decide (x.num = q.num)), stat := { (s.bob h bn).stat with state := 0 } } : Bobbin) = b
  obtain ⟨hbob, htl⟩ := advance_thread (s := s.setBob h bn b) (h := h) ht (2 + bn) q.num false
  have htr : ((s.setBob h bn b).advance h (2 + bn) q.num false).traceRings = [] := by
    unfold State.advance
    dsimp only
    split
    · exact ht
    · rw [trace_off (s := (s.setBob h bn b).setThr h _) ht]; exact ht
  rw [trace_off htr]
  rw [thr_setBob] at hbob htl
  refine ⟨?_, htl⟩
  rw [Thread.bobbin, hbob]
  exact bobbin_setBobbin_self _ _ _
end

end Sys2Proof.Machine
end

section
/-! Reducing copies, and the answers of other packages (R134, R233, R245, R363, R382, R413, R436) -/

namespace Sys2Proof.Machine

/-- An answer that has come changes the table of requests alone. -/
theorem remoteDone_eq (s : State) (src : RemoteFrom) : ∃ r, s.remoteDone src = { s with remotes := r } := by
  unfold State.remoteDone
  split
  · exact ⟨_, rfl⟩
  · exact ⟨s.remotes, rfl⟩

/-! Landing -/

/-- The watermark after elements [i, i + n) have landed (R207, R413). -/
def State.slid (s : State) (h bn : Nat) (q : BCmd) (i n : Nat) : Nat :=
  (slide (tlCount ((s.thr h).rwm bn)) ((List.range n).foldl (fun l x => sadd l (i + x)) q.ahead) (q.ahead.length + n)).1

theorem rwm_landed (s : State) (h bn : Nat) (q : BCmd) (i n : Nat) : ((s.landed h bn q i n).thr h).rwm bn = toW (s.slid h bn q i n) := by
  unfold State.landed
  dsimp only
  rw [State.count_thr, Thread.rwm, wm_setCmd, State.thr_setThr_self]
  exact (Thread.rwm_wwm _ _ _ _).trans (if_pos rfl)

theorem queue_landed (s : State) (h bn : Nat) (q : BCmd) (i n : Nat) : ∃ ahead, ((s.landed h bn q i n).bob h bn).queue =
    (s.bob h bn).queue.map (fun x => if x.num = q.num then { q with ahead := ahead, got := [], io := none } else x) := by
  unfold State.landed
  dsimp only
  rw [State.bob, State.count_thr]
  generalize hw : (s.thr h).wwm bn _ = t
  have hb : (s.setThr h t).bob h bn = s.bob h bn := by
    rw [State.bob, State.thr_setThr_self, ← hw]; rfl
  have hq := fun ahead => congrArg Bobbin.queue (bob_setCmd (s.setThr h t) h bn { q with ahead := ahead, got := [], io := none })
  rw [hb] at hq
  exact ⟨_, hq _⟩

/-! Reducing copies (R413) -/

/-- A packet in flight is of the head command. -/
theorem redOf_head {s : State} {h bn seq : Nat} {q : BCmd} {p : RedPacket} (hr : s.redOf h bn seq = some (q, p)) :
    p.seq = seq ∧ ∃ rest, (s.bob h bn).queue = q :: rest := by
  unfold State.redOf at hr
  split at hr
  · cases hr
  · next q' rest hq =>
    obtain ⟨p', hp, he⟩ := Option.map_eq_some_iff.mp hr
    cases he
    exact ⟨of_decide_eq_true (List.find?_some (p := fun p : RedPacket => decide (p.seq = seq)) hp), rest, hq⟩

section
variable {s : State} {h bn seq : Nat}

theorem redAnswer_none (hr : s.redOf h bn seq = none) (applied : Bool) : s.redAnswer h bn seq applied = s := by
  unfold State.redAnswer; rw [hr]

theorem redError_none (hr : s.redOf h bn seq = none) : s.redError h bn seq = s := by
  unfold State.redError; rw [hr]

theorem redAgain_none (hr : s.redOf h bn seq = none) : s.redAgain h bn seq = s := by
  unfold State.redAgain; rw [hr]

/-- The packet after the answer to one of its transmissions. -/
def RedPacket.answered (p : RedPacket) (applied : Bool) (now : Nat) : RedPacket :=
  { p with out := p.out - 1, done := p.done || applied, retry := p.retry || !applied, since := if applied then p.since else now }

/-- The packets in flight once the answer to one transmission of packet `p` has come. -/
def BCmd.sentAfter (q : BCmd) (seq : Nat) (p : RedPacket) : List RedPacket :=
  q.sent.filterMap (fun x => if x.seq = seq then (if p.done = true ∧ p.out = 0 then none else some p) else some x)

variable {q : BCmd} {p : RedPacket} (hr : s.redOf h bn seq = some (q, p))
include hr

/-- An answer that lands nothing: *retry*, or one more answer to a packet that has been applied. -/
theorem redAnswer_lands_nothing {applied : Bool} (ha : applied = false ∨ p.done = true) :
    s.redAnswer h bn seq applied = s.setCmd h bn { q with sent := q.sentAfter seq (p.answered applied s.gtime) } := by
  have hno : (applied && !p.done) = false := by
    rcases ha with ha | ha
    · rw [ha]; rfl
    · rw [ha, Bool.not_true, Bool.and_false]
  unfold State.redAnswer
  rw [hr]
  dsimp only
  rw [if_neg (by rw [hno]; exact Bool.false_ne_true)]
  rfl

/-- The first *applied* of a packet lands its elements. -/
theorem redAnswer_lands (hd : p.done = false) :
    (∃ x rest, ((s.redAnswer h bn seq true).bob h bn).queue = x :: rest ∧ x.sent = q.sentAfter seq (p.answered true s.gtime)) ∧
    ((s.redAnswer h bn seq true).thr h).rwm bn = toW (s.slid h bn q seq p.count) := by
  obtain ⟨hseq, rest, hq⟩ := redOf_head hr
  generalize hq' : ({ q with sent := q.sentAfter seq (p.answered true s.gtime) } : BCmd) = q'
  have hnum : q.num = q'.num := by rw [← hq']
  have hmodel : s.redAnswer h bn seq true = match ((s.landed h bn q' p.seq p.count).bob h bn).queue with
      | x :: _ => (s.landed h bn q' p.seq p.count).setCmd h bn { x with got := q'.got, io := q'.io }
      | [] => s.landed h bn q' p.seq p.count := by
    unfold State.redAnswer
    rw [hr]
    dsimp only
    rw [if_pos (by rw [hd]; rfl), ← hq']
    rfl
  obtain ⟨ahead, hl⟩ := queue_landed s h bn q' p.seq p.count
  rw [hq, List.map_cons, if_pos hnum] at hl
  have hslid : s.slid h bn q' p.seq p.count = s.slid h bn q seq p.count := by rw [hseq, ← hq']; rfl
  rw [hmodel, hl]
  dsimp only
  refine ⟨?_, ?_⟩
  · rw [bob_setCmd, hl]
    dsimp only
    rw [List.map_cons, if_pos rfl]
    exact ⟨_, _, rfl, by rw [← hq']⟩
  · rw [Thread.rwm, wm_setCmd, ← hslid]
    exact rwm_landed s h bn q' p.seq p.count

/-- An error that answers a packet that has not been applied freezes the bobbin (R413, R436). -/
theorem redError_frozen (hd : p.done = false) (ht : s.traceRings = []) :
    Frozen s (s.redError h bn seq) h bn 13 ((q.dst.toNat + seq * q.esz) % 2 ^ 64) := by
  unfold State.redError
  rw [hr]
  dsimp only
  rw [if_neg (by rw [hd]; exact Bool.false_ne_true)]
  exact Frozen.of_setCmd (freeze_frozen (s := s.setCmd h bn _) ht _ _ _ _ _ _ _ _ _)

/-- A packet that has been applied, or whose time has not come, does not go again. -/
theorem redAgain_waits (hw : p.done = true ∨ s.gtime < p.since + (if p.retry then 1000 else 50000)) : s.redAgain h bn seq = s := by
  unfold State.redAgain
  rw [hr]
  dsimp only
  split
  · refine if_pos ?_
    rcases hw with hw | hw
    · simp [hw]
    · simp [hw]
  · rfl
end

/-! Answers by their tags -/

section
variable {s : State} {h : Nat}

/-- R363, R382: an answer to the scalar stream. -/
theorem answers_scalar (a : RemoteAnswerMsg) : Answers s (.scalar h) a (s.answerScalar h a) := by
  unfold State.answerScalar
  dsimp only [Answers]
  refine ⟨fun hw hr => ?_, fun hn => if_neg fun hc => hn.elim (fun hw => hw hc.1) fun hr => hr hc.2⟩
  rw [if_pos ⟨hw, hr⟩]
  cases a.gated <;> rfl

/-- R134: an answer to a vector instruction. -/
theorem answers_vector (cmd : Nat) (idxs : List Nat) (a : RemoteAnswerMsg) : Answers s (.vector h cmd idxs) a (s.answerVector h cmd idxs a) := by
  unfold State.answerVector
  dsimp only [Answers]
  refine ⟨fun hn => by rw [hn], fun e he => ?_⟩
  have hcmd : e.cmd = cmd := by
    have := List.find?_some (p := fun e : VEntry => decide (e.cmd = cmd) && decide (e.sent ≠ 0)) he
    simp only [Bool.and_eq_true, decide_eq_true_eq] at this
    exact this.1
  rw [he]
  dsimp only
  rw [State.setHead, hcmd]

/-- R413, R436: an answer to a transmission of a CPYRED. -/
theorem answers_reduce (bn seq : Nat) {a : RemoteAnswerMsg} (u : State)
    (hu : u = if a.err.isSome then s.redError h bn seq else s) : Answers s (.reduce h bn seq) a u := by
  dsimp only [Answers]
  refine ⟨fun hn => ?_, fun q p hr hd ha ht => ?_⟩
  · rcases hn with hn | hn
    · rw [hu, hn]; rfl
    · rw [hu, redError_none hn, ite_self]
  · rw [hu, if_pos ha]
    have hf := redError_frozen hr hd ht
    exact ⟨hf.stat, hf.pend⟩
end

theorem code_leafErr (s : State) (core : Option Nat) (owner va code : Nat) : (s.leafErr core owner va code).code = code := by
  unfold State.leafErr
  split
  · rfl
  · split <;> rfl

/-! Bobbins -/

section
variable {s : State} {h bn : Nat} {q : BCmd} {rest : List BCmd} (hq : (s.bob h bn).queue = q :: rest) (a : RemoteAnswerMsg)
include hq

/-- The bytes that a source answer of a bobbin is for. -/
def State.awaited (s : State) (h bn : Nat) (q : BCmd) : Nat :=
  (q.srcAt (tlCount ((s.thr h).rwm bn) + q.got.length / q.esz)).getD 0 + q.got.length % q.esz

theorem answerBobbin_other (hr : q.io ≠ some .remoteRead) (hw : q.io ≠ some .remoteWrite) : s.answerBobbin h bn a = s := by
  unfold State.answerBobbin
  rw [hq]
  exact if_pos ⟨hr, hw⟩

theorem answerBobbin_write (hw : q.io = some .remoteWrite) (he : a.err = none) (hg : a.gated = []) :
    s.answerBobbin h bn a = s.landed h bn q (tlCount ((s.thr h).rwm bn)) q.held := by
  unfold State.answerBobbin
  rw [hq]
  dsimp only
  rw [if_neg (fun hc => hc.2 hw), if_neg (by simp [he, hg]), if_pos (by simp [hw])]

theorem answerBobbin_read (hr : q.io = some .remoteRead) (he : a.err = none) (hg : a.gated = []) :
    s.answerBobbin h bn a =
      s.setCmd h bn { q with got := q.got ++ ualinkBytes (s.awaited h bn q) q.piece ((tfind a.values 0).getD 0), io := none } := by
  unfold State.answerBobbin
  rw [hq]
  dsimp only
  rw [if_neg (fun hc => hc.1 hr), if_neg (by simp [he, hg]), if_neg (by simp [hr])]
  rfl

/-- R233: an error, or a gated element, freezes the bobbin at the address of its access. -/
theorem answerBobbin_frozen (ht : s.traceRings = []) (hio : q.io = some .remoteRead ∨ q.io = some .remoteWrite)
    (hbad : a.err.isSome = true ∨ a.gated ≠ []) :
    Frozen s (s.answerBobbin h bn a) h bn (if a.err.isSome then 13 else 12)
      (if decide (q.io = some .remoteWrite) then (q.dstAt (tlCount ((s.thr h).rwm bn))).getD 0 else s.awaited h bn q) := by
  unfold State.answerBobbin
  rw [hq]
  dsimp only
  rw [if_neg (fun hc => hio.elim hc.1 hc.2), if_pos hbad, code_leafErr]
  exact Frozen.of_setCmd (freeze_frozen (s := s.setCmd h bn _) ht _ _ _ _ _ _ _ _ _)
end

end Sys2Proof.Machine
end

section
/-! What an answer comes to, whoever asked; sends; the faults of bobbins (R134, R211, R233, R363, R384, R436) -/

namespace Sys2Proof.Machine

/-- R233, R363: an answer to a bobbin. -/
theorem answers_bobbin (s : State) (h bn : Nat) (a : RemoteAnswerMsg) : Answers s (.bobbin h bn) a (s.answerBobbin h bn a) := by
  dsimp only [Answers]
  refine ⟨fun hq => ?_, fun q rest hq => ⟨answerBobbin_other hq a, fun hw he hg => ?_, answerBobbin_read hq a, fun hw hbad ht => ?_,
    fun hr hbad ht => ?_⟩⟩
  · unfold State.answerBobbin State.bob
    rw [hq]
  · rw [answerBobbin_write hq a hw he hg]
    exact rwm_landed _ _ _ _ _ _
  · have hf := answerBobbin_frozen hq a ht (Or.inr hw) hbad
    rw [hw] at hf
    exact ⟨hf.stat, hf.pend⟩
  · have hf := answerBobbin_frozen hq a ht (Or.inl hr) hbad
    rw [hr] at hf
    exact ⟨hf.stat, hf.pend⟩

/-- An answer reaches whoever asked. -/
theorem answers_answerRemote (s : State) (src : RemoteFrom) (a : RemoteAnswerMsg) : Answers s src a (s.answerRemote src a) := by
  cases src with
  | scalar h => exact answers_scalar a
  | vector h cmd idxs => exact answers_vector cmd idxs a
  | bobbin h bn => exact answers_bobbin s h bn a
  | reduce h bn seq => exact answers_reduce bn seq _ rfl
  | send h cmd => exact rfl
  | update p q node word => exact rfl
  | nobody => exact rfl

/-! Sends (R384) -/

section
variable {s : State} {h cmd : Nat}

theorem sendAnswered_other {ans : Nat} (hn : (s.thr h).win.find? (fun e => decide (e.cmd = cmd)) = none ∨
    ∃ e, (s.thr h).win.find? (fun e => decide (e.cmd = cmd)) = some e ∧ e.send ≠ .sent) : s.sendAnswered h cmd ans = s := by
  unfold State.sendAnswered State.sendEntry
  rcases hn with hn | ⟨e, he, hs⟩
  · rw [hn]
  · rw [he]
    dsimp only
    split
    · next hs' => exact absurd (of_decide_eq_true hs') hs
    · rfl

theorem sendAnswered_msend {ans : Nat} {e : TEntry} {v : Nat} {la : Bool} {d : Word}
    (he : (s.thr h).win.find? (fun e => decide (e.cmd = cmd)) = some e) (hs : e.send = .sent) (ho : e.op = .msend v la d) :
    s.sendAnswered h cmd ans = match ans with
      | 0 => (s.setEntry h { e with send := .landed }).tileRun h { e with send := .landed }
      | 1 => s.setEntry h { e with send := .retry s.gtime }
      | _ => (s.setEntry h { e with send := .unsent }).raisePend h (tileTrap cmd 14 d 0 0) := by
  unfold State.sendAnswered State.sendEntry
  rw [he]
  dsimp only
  split
  · next ho' _ =>
    rw [ho] at ho'
    cases ho'
    rfl
  · next hno => exact absurd (decide_eq_true hs) (hno v la d ho)
end

/-! The events of a bobbin with a command at its head, and of one with none -/

section
variable {s : State} {o : OpBobbin}

theorem bobbinEvents_empty (hq : (s.bob o.h o.bn).queue = []) : Passes (.bobbinCommandStart o) s ∧ Passes (.bobbinElementLanding o) s ∧
    Passes (.bobbinCommandComplete o) s := by
  simp only [Passes, exec_bobbinCommandStart, execBobbinCommandStart, exec_bobbinElementLanding, execBobbinElementLanding,
    exec_bobbinCommandComplete, execBobbinCommandComplete, hq, and_self]

variable {q : BCmd} {rest : List BCmd} (hq : (s.bob o.h o.bn).queue = q :: rest)
include hq

theorem commandStart_cons : exec (.bobbinCommandStart o) s =
    .next (if (s.thr o.h).live && (s.thr o.h).bobReady o.bn then s.bobStart o.h o.bn q else s) := by
  rw [exec_bobbinCommandStart, execBobbinCommandStart, hq]

theorem elementLanding_cons : exec (.bobbinElementLanding o) s =
    .next (if (s.thr o.h).live then s.bobOne o.h o.bn (tlCount ((s.thr o.h).rwm o.bn)) (2 + q.esz / q.piece) else s) := by
  rw [exec_bobbinElementLanding, execBobbinElementLanding, hq]

/-- A command completes when it has started, every element has landed and no packet is out. -/
def BCmd.endsAt (q : BCmd) (s : State) (h bn : Nat) : Prop :=
  (s.thr h).live = true ∧ q.started = true ∧ (s.bob h bn).stat.state < 2 ∧ q.sent = [] ∧ q.count ≤ tlCount ((s.thr h).rwm bn)

theorem commandComplete_cons : (q.endsAt s o.h o.bn → exec (.bobbinCommandComplete o) s = .next (s.bobComplete o.h o.bn q)) ∧
    (¬ q.endsAt s o.h o.bn → Passes (.bobbinCommandComplete o) s) := by
  have hends : ((s.thr o.h).live && q.started && decide ((s.bob o.h o.bn).stat.state < 2) && q.sent.isEmpty &&
      decide (q.count ≤ tlCount ((s.thr o.h).rwm o.bn))) = true ↔ q.endsAt s o.h o.bn := by
    simp only [Bool.and_eq_true, decide_eq_true_eq, List.isEmpty_iff, BCmd.endsAt, and_assoc]
  rw [Passes, exec_bobbinCommandComplete, execBobbinCommandComplete, hq]
  exact ⟨fun h => congrArg _ (if_pos (hends.mpr h)), fun h => congrArg _ (if_neg fun hc => h (hends.mp hc))⟩
end

/-! A fault from without (R211, R233) -/

theorem mem_iff_shas (l : List Nat) (n : Nat) : n ∈ l ↔ shas l n = true := by
  simp [shas]

/-- Whether the access that a bobbin awaits is one of the memory of this package. -/
def BCmd.inside (q : BCmd) : Bool :=
  match q.io with
  | some .pointRead | some (.pointWrite _ _) => true
  | _ => false

theorem inside_eq_false (q : BCmd) : q.inside = false ↔ q.io ≠ some .pointRead ∧ ∀ i n, q.io ≠ some (.pointWrite i n) := by
  unfold BCmd.inside
  split
  · next h => simp [h]
  · next i n h => simp [h]
  · next h1 h2 => exact ⟨fun _ => ⟨h1, h2⟩, fun _ => rfl⟩

theorem execBobbinFault_cons {s : State} {o : OpBobbinFault} {q : BCmd} {rest : List BCmd} (hq : (s.bob o.h o.bn).queue = q :: rest) :
    ((s.thr o.h).live = true ∧ q.started = true ∧ (s.bob o.h o.bn).stat.state = 1 ∧ o.code ∈ bobbinCodes ∧ q.io ≠ some .pointRead ∧
        (∀ i n, q.io ≠ some (.pointWrite i n)) →
      execBobbinFault o s = .next ((s.setCmd o.h o.bn { q with got := [], io := none }).freeze o.h o.bn { q with got := [], io := none }
        o.code o.addr o.dst 0 0 none)) ∧
    (¬ ((s.thr o.h).live = true ∧ q.started = true ∧ (s.bob o.h o.bn).stat.state = 1 ∧ o.code ∈ bobbinCodes ∧ q.io ≠ some .pointRead ∧
        ∀ i n, q.io ≠ some (.pointWrite i n)) →
      execBobbinFault o s = .next s) := by
  unfold execBobbinFault
  rw [hq]
  dsimp -zeta only
  extract_lets ours q'
  have hours : ours = q.inside := rfl
  clear_value ours
  rw [← inside_eq_false, hours]
  rw [mem_iff_shas]
  refine ⟨fun ⟨h1, h2, h3, h4, h5⟩ => ?_, fun hn => ?_⟩
  · exact congrArg _ (if_pos (by rw [h1, h2, h4, h5, h3]; rfl))
  · refine congrArg _ (if_neg fun hc => ?_)
    simp only [Bool.and_eq_true, Bool.not_eq_true', decide_eq_true_eq] at hc
    obtain ⟨⟨⟨⟨h4, h5⟩, h1⟩, h2⟩, h3⟩ := hc
    exact hn ⟨h1, h2, h3, h4, h5⟩

end Sys2Proof.Machine
end

section
namespace Sys2Proof.Machine

/-- Settles O52: one lemma per event, for the condition under which it acts and for what it does then. -/
theorem streamEvents : Obligations.StreamEvents := by
  unfold Obligations.StreamEvents
  intro s
  refine ⟨⟨exec_scheduling s, schedule_closed, schedulingStep_holds s⟩, fun o => ?_, fun o => ?_, fun o => ?_, fun o => ?_, fun o => ?_,
    fun o => ?_, fun o => ?_, fun o => ?_, fun o => ?_, fun o => ?_, fun o => ?_, fun o => ?_, fun o => ?_, fun o => ?_⟩
  · -- the end of a save
    refine ⟨fun h => congrArg _ (saveDone_passes h), fun ⟨x, hx, hs⟩ => congrArg _ (saveDone_shut hx hs), fun v hv hsave hshut => ?_⟩
    refine ⟨s.saveDone o.task, rfl, ?_⟩
    split
    · next x hx =>
      have hs : s.dirtyShut x.1 = false := by
        by_contra hc
        exact hshut ⟨x, hx, by simpa using hc⟩
      obtain ⟨cs, m, ks, ps, ht⟩ := saveDone_some hv hsave hx hs
      rw [ht]
      refine ⟨rfl, fun k hk => ?_, ?_, fun h hh => ?_, fun y hy => ?_⟩
      · exact (tfind_tput _ _ _ _).trans (if_neg hk)
      · exact (tfind_tput _ _ _ _).trans (if_pos rfl)
      · exact (tfind_tdel _ _ _).trans (if_neg fun e => hh x hx e.symm)
      · cases hx.symm.trans hy
        exact (tfind_tdel _ _ _).trans (if_pos rfl)
    · next hx =>
      obtain ⟨cs, m, ks, ps, ht⟩ := saveDone_none hv hsave hx
      rw [ht]
      exact ⟨rfl, fun k hk => (tfind_tput _ _ _ _).trans (if_neg hk), (tfind_tput _ _ _ _).trans (if_pos rfl), fun _ _ => rfl,
        fun y hy => by rw [hx] at hy; cases hy⟩
  · -- the end of a drain
    refine ⟨fun hn => congrArg _ (retireTask_passes hn), fun ⟨h1, h2, h3, h4⟩ hk => ?_, fun k ⟨h1, h2, h3, h4⟩ hk hq => ?_⟩
    · rw [exec_taskRetirement, execTaskRetirement, retireTask_ends h1 h2 h3 h4]
      dsimp only
      split
      · next k hk' => rw [if_neg (hk k hk')]
      · rfl
    · rw [exec_taskRetirement, execTaskRetirement, retireTask_ends h1 h2 h3 h4]
      dsimp only
      rw [hk]
      dsimp only
      rw [if_pos hq]
  · -- the waits of TLWAIT and WFE
    dsimp only [Passes]
    simp only [exec_tlwaitPoll, execTlwaitPoll, exec_wfeTimeout, execWfeTimeout]
    refine ⟨fun h => by rw [if_pos h], fun h => by rw [if_neg h], fun g hg hw hgt => ?_, fun hn => ?_⟩
    · rw [hg]
      dsimp only
      rw [if_pos ⟨hw, by omega⟩]
    · split
      · next g hg =>
        rw [if_neg]
        rintro ⟨hw, hgt⟩
        rcases hn with h | h | ⟨g', h, hlt⟩
        · rw [h] at hg; cases hg
        · exact h hw
        · cases h.symm.trans hg; omega
      · rfl
  · -- the entry of a deferred trap
    refine ⟨fun hn => congrArg _ (enterDeferred_passes hn), fun p hp hm hroute hvec => ⟨s.enterDeferred o.h, rfl, ?_⟩⟩
    obtain ⟨-, -, hv, -, hpend⟩ := stopFor_keeps (s.setThr o.h ((s.thr o.h).taking p)) o.h p
    rw [State.thr_setThr_self] at hv hpend
    rw [enterDeferred_handler hp hm hroute hvec, State.thr_setThr_self]
    refine ⟨rfl, rfl, rfl, rfl, rfl, hv, hpend, fun hsrc => ?_⟩
    rw [State.stopFor, if_neg (by omega), if_neg (by omega)]
    rw [State.stopFor, if_neg (by omega), if_neg (by omega)] at hv
    exact congrArg _ (enter_bobbin _ _ hsrc hv)
  · -- the vector stream
    have hexec : exec (.vectorInstructionComplete o) s =
        .next (if (s.thr o.h).live then s.vectorEvent o.h (s.lanesFirst o.h) else s) := rfl
    refine ⟨fun hn => ?_, fun e rest hlive hv hm hl hs => ?_, fun hlive hf => ?_, fun e rest hlive hv hm hf => ⟨?_, ?_, ?_, vBegin_quiet⟩,
      fun hl => ⟨lanesFirst_lockstep hl, vAhead_lockstep hl⟩, fun e rest v k b g hv hop => ?_, fun hn => ?_⟩
    · rw [Passes, hexec]
      split
      · next hlive => rw [vectorEvent_empty (hn.resolve_left (by simp [hlive]))]
      · rfl
    · rw [Passes, hexec, if_pos hlive, vectorEvent_held hv hm hl hs]
    · rw [hexec, if_pos hlive, hf]; rfl
    · intro u ht
      rw [hexec, if_pos hlive, hf, vectorEvent_done hv hm ht]
    · intro u ht
      rw [hexec, if_pos hlive, hf, vectorEvent_wait hv hm ht]
    · intro u p ht
      rw [hexec, if_pos hlive, hf, vectorEvent_trap hv hm ht]
    · rw [exec_barrierPoll, execBarrierPoll, hv]
      dsimp only
      rw [hop]
    · rw [Passes, exec_barrierPoll, execBarrierPoll]
      rcases hn with hv | ⟨e, rest, hv, hop⟩
      · rw [hv]
      · rw [hv]
        dsimp only
        split
        · next v k b g hop' => exact absurd hop' (hop v k b g)
        · rfl
  · -- the lanes
    refine ⟨s.laneCycle o.c, rfl, fun h => ?_⟩
    obtain ⟨u, k, hu, hcycle, hk⟩ := laneCycle_idle h
    rw [hcycle]
    rcases hu with rfl | ⟨task, n, rfl⟩
    · exact ⟨rfl, fun _ _ _ => rfl, fun c hc => State.core_setCore_ne _ _ _ hc, by rw [State.core_setCore_self, hk]⟩
    · refine ⟨rfl, fun k' i hi => ?_, fun c hc => State.core_setCore_ne _ _ _ hc, by rw [State.core_setCore_self, hk]⟩
      exact (State.counter_count s task 12 n k' i).trans (by rw [if_neg (fun h => hi h.2), Nat.add_zero])
  · -- the tile units
    exact ⟨rfl, unitCycle_idle⟩
  · -- the tile stream
    have hexec : exec (.tileInstructionComplete o) s = .next (s.tileFinish o.h o.cmd) := rfl
    refine ⟨fun hn => congrArg _ (tileFinish_none hn), fun e he hc hi hu => congrArg _ (tileFinish_waits he hc hi hu), fun e he hl hc => ?_, fun e he hl hc hi => ⟨fun ht => ?_, fun ht => ?_⟩,
      fun e he hl hh hc hi hu => ?_, fun hn => congrArg _ (sendAgain_none hn), fun e g he hs => congrArg _ (sendAgain_retry he hs)⟩
    · rw [hexec, tileFinish_some he, if_neg (by simp [hl]), if_pos hc]
    · rw [hexec, tileFinish_some he, if_neg (by simp [hl]), if_neg (by simp [hc]), if_pos hi, if_neg (by simp [ht])]
    · rw [Passes, hexec, tileFinish_some he, if_neg (by simp [hl]), if_neg (by simp [hc]), if_pos hi, if_pos ht]
    · rw [hexec, tileFinish_some he, if_neg (by simp [hl]), if_neg (by simp [hc]), if_neg (by simp [hi]), if_pos (by simp [hu, hh])]
  · -- the fills of tiles
    refine ⟨fun hn => congrArg _ (fillDone_none hn), fun p hp ht hl => congrArg _ (fillDone_coming hp ht hl), fun p hp hf hl ha => ?_,
      fun p x hp hf ha => ⟨fun ht hl => ?_, fun hl => ?_⟩⟩
    all_goals rw [hp] at ha
    · rw [exec_tileFillComplete, execTileFillComplete, fillDone_ends hp hf hl, ha]
    · rw [exec_tileFillComplete, execTileFillComplete, fillDone_ends hp hf (Or.inl ht), ha]
      dsimp only
      rw [if_pos hl]
    · rw [exec_tileFillComplete, execTileFillComplete, fillDone_ends hp hf (Or.inr hl), ha]
      dsimp only
      rw [if_neg (Nat.not_lt.mpr hl)]
  · -- the bobbins
    refine ⟨fun hn => ?_, fun q rest hq hl hr ht => ⟨s.bobStart o.h o.bn q, ?_, rwm_bobStart ht, fun hop => ?_⟩, fun hn => ?_,
      fun q rest hq hl => ?_, fun hn => ?_, fun q rest hq he ht => ⟨_, (commandComplete_cons hq).1 he, ?_, fun n => ?_⟩⟩
    · cases hq : (s.bob o.h o.bn).queue with
      | nil => exact (bobbinEvents_empty hq).1
      | cons q rest =>
        rw [Passes, commandStart_cons hq, if_neg]
        rcases hn with hn | hn
        · simp [hn]
        · simp [hn]
    · rw [commandStart_cons hq, if_pos (by simp [hl, hr])]
    · rw [bobStart_plain ht hop, State.startedCmd, thr_setBob, bobbin_setBobbin_self]
    · cases hq : (s.bob o.h o.bn).queue with
      | nil => exact (bobbinEvents_empty hq).2.1
      | cons q rest =>
        rcases hn with hn | hn
        · cases hn.symm.trans hq
        · rw [Passes, elementLanding_cons hq, if_neg (by simp [hn])]
    · rw [elementLanding_cons hq, if_pos hl]
    · rcases hn with hn | ⟨q, rest, hq, hn⟩
      · exact (bobbinEvents_empty hn).2.2
      · exact (commandComplete_cons hq).2 hn
    · rw [(bobComplete_thread ht).1]
      simp only [decide_not]
      rfl
    · rw [(bobComplete_thread ht).2]
      split
      · next hn => rw [hn]
      · rfl
  · -- the faults of bobbins
    refine ⟨fun hn => ?_, fun q rest hq hr ht => ⟨_, (execBobbinFault_cons hq).1 hr, ?_⟩⟩
    · rcases hn with hq | ⟨q, rest, hq, hn⟩
      · have hq' : (s.bob o.h o.bn).queue = [] := hq
        rw [Passes, exec_bobbinFault, execBobbinFault, hq']
      · exact (execBobbinFault_cons hq).2 hn
    · have hf := Frozen.of_setCmd (freeze_frozen (s := s.setCmd o.h o.bn { q with got := [], io := none }) ht o.h o.bn
        { q with got := [], io := none } o.code o.addr o.dst 0 0 none)
      obtain ⟨p, hp, hsrc, hcode, hcmd, hval⟩ := hf.pend
      exact ⟨hf.stat, hf.event, ⟨p, hp, hsrc, hcode, hval, hcmd⟩, hf.wm⟩
  · -- reducing copies
    obtain ⟨r, hd⟩ := remoteDone_eq s (.reduce o.h o.bn o.seq)
    have hexec : exec (.reducingWriteAnswer o) s = .next (if o.err then (s.remoteDone (.reduce o.h o.bn o.seq)).redError o.h o.bn o.seq
      else (s.remoteDone (.reduce o.h o.bn o.seq)).redAnswer o.h o.bn o.seq o.applied) := rfl
    have hred : (s.remoteDone (.reduce o.h o.bn o.seq)).redOf o.h o.bn o.seq = s.redOf o.h o.bn o.seq := by rw [hd]; rfl
    refine ⟨fun hn => ⟨?_, congrArg _ (redAgain_none hn)⟩, ⟨_, rfl, fun he => answers_reduce _ _ _ (by rw [he]; rfl)⟩,
      fun q p hr => ⟨fun he ha => ?_, fun he ha hp => ⟨_, rfl, ?_⟩⟩, fun q p hr hw => congrArg _ (redAgain_waits hr hw), rfl⟩
    · rw [hexec, redError_none (hred.trans hn), redAnswer_none (hred.trans hn), ite_self]
    · rw [hexec, he, if_neg Bool.false_ne_true, redAnswer_lands_nothing (hred.trans hr) ha, hd]
      rfl
    · rw [he, ha]
      obtain ⟨⟨x, rest, hq, hs⟩, hw⟩ := redAnswer_lands (hred.trans hr) hp
      refine ⟨⟨x, rest, hq, hs.trans ?_⟩, hw.trans ?_⟩
      · rw [hd]
        simp only [BCmd.sentAfter, RedPacket.answered]
      · rw [hd]; rfl
  · -- the answers of other packages
    refine ⟨fun hn => ?_, fun r hr => ⟨_, ?_, answers_answerRemote _ r.src o.ans⟩⟩
    · rw [Passes, exec_remoteAnswer, execRemoteAnswer, hn]
    · rw [exec_remoteAnswer, execRemoteAnswer, hr]
  · -- the answers to sends
    obtain ⟨r, hd⟩ := remoteDone_eq s (.send o.h o.cmd)
    have hexec : exec (.msendAnswer o) s = .next ((s.remoteDone (.send o.h o.cmd)).sendAnswered o.h o.cmd o.ans) := rfl
    have hthr : (s.remoteDone (.send o.h o.cmd)).thr o.h = s.thr o.h := by rw [hd]; rfl
    refine ⟨fun hn => ?_, fun e v la d he hs ho => ⟨fun ha => ?_, fun ha => ?_, fun ha => ?_⟩⟩
    · rw [hexec, sendAnswered_other (by rw [hthr]; exact hn)]
    all_goals rw [hexec, sendAnswered_msend (by rw [hthr]; exact he) hs ho, ha]
    · rfl
    · rw [show (s.remoteDone (.send o.h o.cmd)).gtime = s.gtime by rw [hd]]
      rfl
    · rfl

end Sys2Proof.Machine
end

section
/-! Scalar integer instructions (R42, R43, R294), scalar floating point (R299, R300) -/

namespace Sys2Proof.Machine

/-- An instruction of two x registers writes what its function gives for them. -/
theorem writesX_of_aluReg {i : Instr} {s : State} {len d a b : Nat} {f : Word → Word → Word} {v : Word}
    (hi : exec i s = aluReg len d a b f s) (hv : f (s.cur.rx a) (s.cur.rx b) = v) : WritesX i s len d v := by
  obtain ⟨t, ht, hr⟩ := regOp_wx s len d v (f := fun t => t.wx d (f (t.rx a) (t.rx b))) (by rw [hv])
  exact ⟨t, hi.trans ht, hr⟩

/-- An instruction of one x register. -/
theorem writesX_of_regOp {i : Instr} {s : State} {len d : Nat} {v : Word} (hi : exec i s = regOp len s (fun t => t.wx d v)) :
    WritesX i s len d v := by
  obtain ⟨t, ht, hr⟩ := regOp_wx s len d v (f := fun t => t.wx d v) rfl
  exact ⟨t, hi.trans ht, hr⟩

/-! Orders of words in the terms of their numbers -/

theorem slt_min {w : Nat} (x y : BitVec w) : (if y.slt x then y else x) = BitVec.ofInt w (min x.toInt y.toInt) := by
  simp only [BitVec.slt_eq_decide, decide_eq_true_eq]
  split
  · next h => rw [min_eq_right h.le, BitVec.ofInt_toInt]
  · next h => rw [min_eq_left (not_lt.mp h), BitVec.ofInt_toInt]

theorem slt_max {w : Nat} (x y : BitVec w) : (if x.slt y then y else x) = BitVec.ofInt w (max x.toInt y.toInt) := by
  simp only [BitVec.slt_eq_decide, decide_eq_true_eq]
  split
  · next h => rw [max_eq_right h.le, BitVec.ofInt_toInt]
  · next h => rw [max_eq_left (not_lt.mp h), BitVec.ofInt_toInt]

theorem ult_min {w : Nat} (x y : BitVec w) : (if y.ult x then y else x) = BitVec.ofNat w (min x.toNat y.toNat) := by
  simp only [BitVec.ult_eq_decide, decide_eq_true_eq]
  split
  · next h => rw [min_eq_right h.le, BitVec.ofNat_toNat, BitVec.setWidth_eq]
  · next h => rw [min_eq_left (not_lt.mp h), BitVec.ofNat_toNat, BitVec.setWidth_eq]

theorem ult_max {w : Nat} (x y : BitVec w) : (if x.ult y then y else x) = BitVec.ofNat w (max x.toNat y.toNat) := by
  simp only [BitVec.ult_eq_decide, decide_eq_true_eq]
  split
  · next h => rw [max_eq_right h.le, BitVec.ofNat_toNat, BitVec.setWidth_eq]
  · next h => rw [max_eq_left (not_lt.mp h), BitVec.ofNat_toNat, BitVec.setWidth_eq]

theorem bit1_slt {w : Nat} (x y : BitVec w) : bit1 (x.slt y) = if x.toInt < y.toInt then 1 else 0 := by
  simp only [bit1, BitVec.slt_eq_decide, decide_eq_true_eq]

theorem bit1_ult {w : Nat} (x y : BitVec w) : bit1 (x.ult y) = if x.toNat < y.toNat then 1 else 0 := by
  simp only [bit1, BitVec.ult_eq_decide, decide_eq_true_eq]

/-- A shift by `n` places scales a word. -/
theorem shiftLeft_eq_mul (x : Word) (n : Nat) : x <<< n = BitVec.ofNat 64 (2 ^ n) * x := by
  rw [BitVec.shiftLeft_eq_mul_twoPow, BitVec.mul_comm]
  exact congrArg (· * x) (BitVec.eq_of_toNat_eq (by rw [BitVec.toNat_twoPow, BitVec.toNat_ofNat]))

/-- Settles O2: each instruction is the register form of its function of two words. -/
theorem integerRegisters : Obligations.IntegerRegisters := by
  intro s o x y
  refine ⟨writesX_of_aluReg (exec_add s o) rfl, writesX_of_aluReg (exec_sub s o) rfl, writesX_of_aluReg (exec_andR s o) rfl,
    writesX_of_aluReg (exec_orR s o) rfl, writesX_of_aluReg (exec_xorR s o) rfl, writesX_of_aluReg (exec_andinv s o) rfl,
    writesX_of_aluReg (exec_orinv s o) rfl, writesX_of_aluReg (exec_sll s o) rfl, writesX_of_aluReg (exec_srl s o) rfl,
    writesX_of_aluReg (exec_sra s o) rfl, writesX_of_aluReg (exec_setlt s o) (bit1_slt _ _),
    writesX_of_aluReg (exec_setltu s o) (bit1_ult _ _), writesX_of_aluReg (exec_minR s o) (slt_min _ _),
    writesX_of_aluReg (exec_maxR s o) (slt_max _ _), writesX_of_aluReg (exec_minu s o) (ult_min _ _),
    writesX_of_aluReg (exec_maxu s o) (ult_max _ _), writesX_of_aluReg (exec_ixadd1 s o) ?_,
    writesX_of_aluReg (exec_ixadd2 s o) ?_, writesX_of_aluReg (exec_ixadd3 s o) ?_, writesX_of_aluReg (exec_ixadd4 s o) ?_⟩
  all_goals exact congrArg (· + _) (shiftLeft_eq_mul _ _)

/-! Products and quotients as integers -/

theorem mul_eq_ofInt {w : Nat} (x y : BitVec w) : x * y = BitVec.ofInt w (x.toInt * y.toInt) := by
  rw [BitVec.ofInt_mul, BitVec.ofInt_toInt, BitVec.ofInt_toInt]

theorem sdiv_eq_ofInt {w : Nat} (x y : BitVec w) : x.sdiv y = BitVec.ofInt w (x.toInt.tdiv y.toInt) := by
  apply BitVec.eq_of_toInt_eq
  rw [BitVec.toInt_sdiv, BitVec.toInt_ofInt]

theorem srem_eq_ofInt {w : Nat} (x y : BitVec w) : x.srem y = BitVec.ofInt w (x.toInt.tmod y.toInt) := by
  rw [← BitVec.toInt_srem, BitVec.ofInt_toInt]

theorem udiv_eq_ofNat {w : Nat} (x y : BitVec w) : x / y = BitVec.ofNat w (x.toNat / y.toNat) := by
  rw [← BitVec.toNat_udiv, BitVec.ofNat_toNat, BitVec.setWidth_eq]

theorem umod_eq_ofNat {w : Nat} (x y : BitVec w) : x % y = BitVec.ofNat w (x.toNat % y.toNat) := by
  rw [← BitVec.toNat_umod, BitVec.ofNat_toNat, BitVec.setWidth_eq]

/-- Settles O3: the laws of the operations on fields of 64 bits give every product, quotient and remainder as that of the words. -/
theorem multiplyDivide : Obligations.MultiplyDivide := by
  intro s o x y
  refine ⟨writesX_of_aluReg (exec_mul s o) (mul_eq_ofInt _ _), writesX_of_aluReg (exec_mulhi s o) (wOp_mulHigh_signed _ _),
    writesX_of_aluReg (exec_mulhiu s o) (wOp_mulHigh_unsigned _ _), writesX_of_aluReg (exec_mulhmix s o) (wOp_mulHigh_mixed _ _),
    writesX_of_aluReg (exec_div s o) ?_, writesX_of_aluReg (exec_divu s o) ?_, writesX_of_aluReg (exec_rem s o) ?_,
    writesX_of_aluReg (exec_remu s o) ?_⟩
  · rw [wOp_sdiv, sdiv_eq_ofInt]
  · rw [wOp_udiv, udiv_eq_ofNat]
  · rw [wOp_srem, srem_eq_ofInt]
  · rw [wOp_urem, umod_eq_ofNat]

/-! Scalar floating point -/

/-- A floating-point instruction writes the value of its function, and raises its flags. -/
theorem writesF_of_fpTo {i : Instr} {s : State} {d : Nat} {r : Thread → Nat × FFlags} {v : Nat × FFlags} (hi : exec i s = fpTo d r s)
    (hv : r s.cur = v) : WritesF i s d (BitVec.ofNat 64 v.1) v.2 := by
  obtain ⟨t, ht, hr⟩ := regOp_wf s 4 d (toW v.1) v.2 (f := fun t => let v := r t; (t.wf d (toW v.1)).raise v.2) (by rw [hv]; rfl)
  exact ⟨t, hi.trans ht, hr⟩

theorem scalarFmt_width_pos (fmt : Nat) : 0 < (scalarFmt fmt).width := by
  unfold scalarFmt
  split <;> decide

/-- A sign operation reads the sign, and the bits below it, off the whole registers. -/
theorem signOp_eq (f : FFmt) (op x y : Nat) (hw : 0 < f.width) : f.signOp op (x % 2 ^ f.width) (y % 2 ^ f.width) = f.signOp op x y := by
  have hsign : ∀ z, f.sign (z % 2 ^ f.width) = f.sign z := fun z => by
    rw [FFmt.sign, Nat.testBit_mod_two_pow, decide_eq_true (by omega), Bool.true_and, FFmt.sign]
  simp only [FFmt.signOp, hsign, Nat.mod_mod_of_dvd _ (Nat.pow_dvd_pow 2 (Nat.sub_le f.width 1))]

/-- A sign operation writes its result and raises no flag. -/
theorem writesF_of_signOp {i : Instr} {s : State} {o : OpFloat3n} (op : Nat) {v : Nat}
    (hi : exec i s = fp2n (fun f a b => (f.signOp op a b, 0)) o s)
    (hv : (scalarFmt o.fmt).signOp op (s.cur.rf o.a).toNat (s.cur.rf o.b).toNat = v) : WritesF i s o.d (BitVec.ofNat 64 v) 0 := by
  rw [fp2n] at hi
  refine writesF_of_fpTo (v := (v, 0)) hi ?_
  simp only [Thread.fOp, signOp_eq _ _ _ _ (scalarFmt_width_pos o.fmt), hv]

/-- Settles O8: each instruction delivers its format's operation on the low bits of its operands; `signOp_eq` reads the sign
operations off the whole registers. -/
theorem floatArithmetic : Obligations.FloatArithmetic := by
  intro s v rm writes
  have run2 : ∀ {i : Instr} {o : OpFloat3} (f : FFmt → Nat → Nat → Nat → Nat × FFlags), exec i s = fp2 f o s →
      writes i o.d (f (scalarFmt o.fmt) (rm o.rm) (v o.fmt o.a) (v o.fmt o.b)) := fun f hi => writesF_of_fpTo hi rfl
  have run2n : ∀ {i : Instr} {o : OpFloat3n} (f : FFmt → Nat → Nat → Nat × FFlags), exec i s = fp2n f o s →
      writes i o.d (f (scalarFmt o.fmt) (v o.fmt o.a) (v o.fmt o.b)) := fun f hi => writesF_of_fpTo hi rfl
  refine ⟨fun o => run2 _ (exec_fadd s o), fun o => run2 _ (exec_fsub s o), fun o => run2 _ (exec_fmul s o),
    fun o => run2 _ (exec_fdiv s o), fun o => writesF_of_fpTo (d := o.d) (v := (scalarFmt o.fmt).sqrt (rm o.rm) (v o.fmt o.a)) (exec_fsqrt s o) rfl,
    fun o => run2n _ (exec_fmin s o), fun o => run2n _ (exec_fmax s o),
    fun o => writesF_of_fpTo (d := o.d) (v := (scalarFmt o.fmt).fma (rm o.rm) (v o.fmt o.a) (v o.fmt o.b) (v o.fmt o.c)) (exec_fmadd s o) rfl,
    fun o => ⟨writesF_of_signOp 0 (exec_fsgcpy s o) ?_, writesF_of_signOp 1 (exec_fsginv s o) ?_, writesF_of_signOp 2 (exec_fsgxor s o) ?_⟩⟩
  all_goals simp only [FFmt.signOp, FFmt.signBit, FFmt.sign, Bool.cond_eq_ite]

end Sys2Proof.Machine
end

section
/-! Status and control registers (R76, R77, R79, R306) -/

namespace Sys2Proof.Machine

/-! What MFS reads -/

theorem bstat_eq (t : Thread) (n : Nat) : t.bstat n = BitVec.ofNat 64 ((if (t.bobbin n).stat.abt then 2 ^ 32 else 0) +
    (t.bobbin n).stat.fcode.toNat * 2 ^ 16 + (t.bobbin n).queue.length * 16 + (t.bobbin n).stat.state) := by
  rw [Thread.bstat, toW]
  exact congrArg _ (by omega)

/-- A read delivers what `srValues` lists, VL and FSTAT where no earlier instruction can still change them. -/
theorem srRead_srValues (s : State) : ∀ p ∈ srValues s, (p.1 = 0x000 → (if s.cur.hnd then s.cur.vl else s.cur.vlAhead) = s.cur.vl) →
    (p.1 = 0x030 → s.cur.fstatNow = s.cur.fstat) → s.srRead p.1 = some p.2 := by
  simp only [srValues, List.forall_mem_append, List.forall_mem_cons, List.forall_mem_map, List.not_mem_nil, false_imp_iff,
    implies_true, and_true, ← bstat_eq]
  refine ⟨⟨fun hvl _ => congrArg (fun n => some (toW n)) (hvl trivial), ?_⟩, fun n hn _ _ => ?_⟩
  · repeat' apply And.intro
    case right.right.right.right.right.right.right.right.right.right.right.right.right.right.right.left =>
      exact fun _ hf => congrArg (fun f => some (BitVec.setWidth 64 f)) (hf trivial)
    all_goals exact fun _ _ => rfl
  · have : n < 8 := List.mem_range.mp hn
    interval_cases n <;> rfl

/-- Every register that a read knows is listed. -/
theorem srRead_none {s : State} {n : Nat} (h : n ∉ (srValues s).map (·.1)) : s.srRead n = none := by
  unfold State.srRead
  split
  case h_36 => rfl
  all_goals exact absurd (by simp [srValues, List.range_succ]) h

theorem mfsWaits_handler {t : Thread} (n : Nat) (h : t.hnd = true) : t.mfsWaits n = false := by
  simp only [Thread.mfsWaits, h, Bool.not_true, Bool.false_and]

theorem mfsWaits_other {t : Thread} {n : Nat} (hvl : n ≠ 0x000) (hts : n ≠ 0x007) (hf : n ≠ 0x030) : t.mfsWaits n = false := by
  unfold Thread.mfsWaits
  split <;> simp_all

theorem mfsWaits_empty {t : Thread} (n : Nat) (hv : t.viq = []) (hw : t.win = []) : t.mfsWaits n = false := by
  unfold Thread.mfsWaits
  split <;> simp [Thread.trimming, hv, hw]

theorem writesX_of_mfs {s : State} {o : OpMfs} {v : Word} (hv : s.srRead o.n = some v) (hw : s.cur.mfsWaits o.n = false) :
    WritesX (.mfs o) s 4 o.d v :=
  writesX_of_regOp (by rw [exec_mfs, execMfs, hv]; simp only [hw, Bool.false_eq_true, if_false])

theorem waits_of_mfs {s : State} {o : OpMfs} {v : Word} (hv : s.srRead o.n = some v) (hw : s.cur.mfsWaits o.n = true) :
    Waits (.mfs o) s .readback := by
  rw [Waits, exec_mfs, execMfs, hv]
  simp only [hw, if_true]
  rfl

/-- Settles O20: a read delivers its listed value, and waits by `mfsWaits`. -/
theorem statusReads : Obligations.StatusReads := by
  intro s o t cfg
  refine ⟨fun v hm hv hw => writesX_of_mfs (srRead_srValues s _ hm (fun _ => ?_) (fun _ => ?_)) (mfsWaits_empty _ hv hw),
    fun v hm h0 h7 hf => writesX_of_mfs (srRead_srValues s _ hm (absurd · h0) (absurd · hf)) (mfsWaits_other h0 h7 hf),
    fun hn hh hq => waits_of_mfs (by rw [hn]; rfl) ?_,
    fun hn hh => writesX_of_mfs (by rw [hn]; rfl) (mfsWaits_handler _ hh),
    fun hn hh hc => waits_of_mfs (by rw [hn]; rfl) ?_,
    fun hn hc => writesX_of_mfs (by rw [hn]; rfl) ?_,
    fun hn hh hc => waits_of_mfs (by rw [hn]; rfl) ?_,
    fun hn hh hc => writesX_of_mfs (by rw [hn, State.srRead, hh]; rfl) ?_,
    fun hn hh => writesX_of_mfs (by rw [hn, State.srRead, hh]; rfl) (mfsWaits_handler _ hh),
    fun hn => ?_⟩
  · rw [Thread.vlAhead, hv]
    exact ite_self _
  · rw [Thread.fstatNow, hw]
    rfl
  · rw [hn, Thread.mfsWaits, hh]
    simpa using hq
  · rw [hn, Thread.mfsWaits, hh]
    exact hc
  · rw [hn, Thread.mfsWaits]
    rcases hc with hc | hc
    · rw [hc]; rfl
    · exact Bool.and_eq_false_imp.mpr fun _ => hc
  · rw [hn, Thread.mfsWaits, hh]
    exact hc
  · rw [hn, Thread.mfsWaits, hh]
    exact hc
  · rw [Illegal, Traps, exec_mfs, execMfs, srRead_none hn]
    rfl

/-! What MTS writes -/

/-- The greatest even number that is not above a word is the word without its bit 0. -/
theorem evenPc_eq (v : Word) : evenPc v = v &&& ~~~1 := by
  have hs : evenPc v = v >>> 1 <<< 1 := BitVec.eq_of_toNat_eq (by
    rw [evenPc, toW, BitVec.toNat_ofNat, BitVec.toNat_shiftLeft, BitVec.toNat_ushiftRight, Nat.shiftLeft_eq, Nat.shiftRight_eq_div_pow,
      pow_one])
  rw [hs, show (1 : Word) = BitVec.twoPow 64 0 from rfl]
  ext i hi
  cases i with
  | zero => simp
  | succ n => simp [BitVec.getElem_twoPow, Nat.add_comm 1 n, BitVec.getLsbD_eq_getElem hi]

theorem leaves_of_mts {s : State} {o : OpMts} {u : Thread} (hw : s.cur.srWrite o.n (s.cur.rx o.a) = some u)
    (hn : o.n = 0x030 → s.cur.mfsWaits 0x030 = false) (hpc : u.pc = s.cur.pc) (htask : u.taskid = s.cur.taskid) :
    Leaves (.mts o) s (s.cur.pc + 4) u := by
  refine leaves_of_retire (len := 4) ?_ hpc htask
  rw [exec_mts, execMts, hw]
  exact if_neg fun h => Bool.false_ne_true ((hn h.1).symm.trans h.2)

theorem illegal_of_mts {s : State} {o : OpMts} (hw : s.cur.srWrite o.n (s.cur.rx o.a) = none) : Illegal (.mts o) s := by
  rw [Illegal, Traps, exec_mts, execMts, hw]
  rfl

theorem srWrite_other {t : Thread} {n : Nat} {v : Word} (h : n ∉ [0x011, 0x030, 0x031, 0x041, 0x046, 0x061]) : t.srWrite n v = none := by
  unfold Thread.srWrite
  split
  case h_7 => rfl
  all_goals exact absurd (by simp) h

/-- Settles O21: each writable register takes its fields, FSTAT where the MFS of it would not wait. -/
theorem statusWrites : Obligations.StatusWrites := by
  intro s o t v even leaves
  have plain : ∀ {k}, o.n = k → k ≠ 0x030 → o.n = 0x030 → s.cur.mfsWaits 0x030 = false := fun hn hk h => absurd (hn.symm.trans h) hk
  have hmode : ∀ {p : Thread}, v.toNat % 8 < 4 → (if 4 ≤ v.toNat % 8 then none else some p) = some p := fun h => if_neg (by omega)
  have hgroup : ∀ {p : Thread}, v.toNat % 64 < 16 * t.gang → (if 16 * t.gang ≤ v.toNat % 64 then none else some p) = some p :=
    fun h => if_neg (by omega)
  refine ⟨fun hn => leaves_of_mts (by rw [hn]; rfl) (plain hn (by decide)) rfl rfl, fun hn hv hw => ?_, fun hn hh hq => ?_,
    fun hn hh => leaves_of_mts (by rw [hn]; rfl) (fun _ => mfsWaits_handler _ hh) rfl rfl,
    fun hn hm => leaves_of_mts (by rw [hn]; exact hmode hm) (plain hn (by decide)) rfl rfl, fun hn => ?_, fun hn => ?_,
    fun hn hg => leaves_of_mts (by rw [hn]; exact hgroup hg) (plain hn (by decide)) rfl rfl,
    fun hn hm => illegal_of_mts (by rw [hn]; exact if_pos hm),
    fun hn hg => illegal_of_mts (by rw [hn]; exact if_pos hg),
    fun hn => illegal_of_mts (srWrite_other hn)⟩
  · refine leaves_of_mts (u := { t with fstat := v.setWidth 6 }) ?_ (fun _ => mfsWaits_empty _ hv hw) rfl rfl
    rw [hn]
    exact congrArg (fun w => some { t with fstat := v.setWidth 6, win := w }) (show t.win.map _ = t.win by rw [hw]; rfl)
  · have hwait : s.cur.mfsWaits 0x030 = true := by
      rw [Thread.mfsWaits, hh]
      simpa using hq
    rw [Waits, exec_mts, execMts, hn]
    exact if_pos ⟨rfl, hwait⟩
  · exact leaves_of_mts (by rw [hn]; exact congrArg (fun p => some { t with tepc := p }) (evenPc_eq v)) (plain hn (by decide)) rfl rfl
  · exact leaves_of_mts (by rw [hn]; exact congrArg (fun p => some { t with tvec := p }) (evenPc_eq v)) (plain hn (by decide)) rfl rfl

end Sys2Proof.Machine
end

section
/-! Golpin lane instructions (R396, R406) -/

namespace Sys2Proof.Machine

/-- A counted loop is a fold over its indices. -/
theorem forUp_eq_foldl {σ : Type} (lo n : Nat) (f : Nat → σ → σ) (s : σ) :
    forUp lo n f s = (List.range' lo n).foldl (fun s i => f i s) s := by
  induction n generalizing lo s with
  | zero => rfl
  | succ n ih => rw [forUp, ih, List.range'_succ, List.foldl_cons]

/-! Numbers made bit by bit, and counts of bits -/

/-- The number whose bits below `n` are given: bit by bit, as the model makes masks. -/
def bitsUpTo (g : Nat → Bool) (n : Nat) : Nat := (List.range n).foldl (fun v i => setBit v i (g i)) 0

theorem bitsUpTo_succ (g : Nat → Bool) (n : Nat) : bitsUpTo g (n + 1) = setBit (bitsUpTo g n) n (g n) := by
  rw [bitsUpTo, List.range_succ, List.foldl_concat, bitsUpTo]

theorem setBit_of_lt {v n : Nat} (b : Bool) (h : v < 2 ^ n) : setBit v n b = if b then 2 ^ n + v else v := by
  rw [setBit, Nat.testBit_lt_two_pow h, if_neg Bool.false_ne_true, Nat.add_comm]

theorem bitsUpTo_lt (g : Nat → Bool) (n : Nat) : bitsUpTo g n < 2 ^ n := by
  induction n with
  | zero => simp [bitsUpTo]
  | succ n ih =>
    rw [bitsUpTo_succ, setBit_of_lt _ ih, pow_succ]
    split <;> omega

theorem testBit_bitsUpTo (g : Nat → Bool) (n i : Nat) : (bitsUpTo g n).testBit i = (decide (i < n) && g i) := by
  induction n with
  | zero => simp [bitsUpTo]
  | succ n ih =>
    have hlt := bitsUpTo_lt g n
    rw [bitsUpTo_succ, setBit_of_lt _ hlt]
    rcases lt_trichotomy i n with h | rfl | h
    · have hi : decide (i < n + 1) = decide (i < n) := by simp [h, Nat.lt_succ_of_lt h]
      rw [hi, ← ih]
      split
      · rw [Nat.testBit_two_pow_add_gt h]
      · rfl
    · split
      · next hg => rw [Nat.testBit_two_pow_add_eq, Nat.testBit_lt_two_pow hlt, hg]; simp
      · next hg => rw [Nat.testBit_lt_two_pow hlt, Bool.eq_false_iff.mpr hg, Bool.and_false]
    · rw [decide_eq_false (by omega), Bool.false_and]
      apply Nat.testBit_lt_two_pow
      have h2 : 2 ^ (n + 1) ≤ 2 ^ i := Nat.pow_le_pow_right (by omega) h
      rw [pow_succ] at h2
      split <;> omega

/-- A count of bits, as a count of the places that hold a 1. -/
theorem popcount_eq_countP (n v : Nat) : popcount n v = (List.range n).countP (fun i => v.testBit i) := by
  rw [popcount, forUp_eq_foldl, ← List.range_eq_range']
  induction n with
  | zero => rfl
  | succ n ih =>
    rw [List.range_succ, List.foldl_concat, ih, List.countP_append, List.countP_singleton]
    split <;> rfl

/-! Writes of an engine's registers -/

theorem Engine.SetsH.pc {e k : Engine} {d : Nat} {v : BitVec 32} (h : e.SetsH k d v) : k.pc = e.pc :=
  have hpc := congrArg Engine.pc h.1
  hpc

theorem Engine.SetsJ.pc {e k : Engine} {d : Nat} {active f : Nat → Bool} (h : e.SetsJ k d active f) : k.pc = e.pc :=
  have hpc := congrArg Engine.pc h.1
  hpc

theorem Engine.SetsY.pc {e k : Engine} {d : Nat} {active : Nat → Bool} {f : Nat → BitVec 32} (h : e.SetsY k d active f) : k.pc = e.pc :=
  have hpc := congrArg Engine.pc h.1
  hpc

theorem setsH_wh (e : Engine) (d : Nat) (v : BitVec 32) : e.SetsH (e.wh d v) d v := by
  unfold Engine.wh
  split
  · next h => exact ⟨rfl, fun n => by simp only [Engine.rh, h]; split <;> rfl⟩
  · next h =>
    refine ⟨rfl, fun n => ?_⟩
    simp only [Engine.rh, tget_tset]
    split <;> rfl

theorem setsJ_wj (e : Engine) (d : Nat) (v : BitVec 8) (active f : Nat → Bool)
    (hv : ∀ i, i < 8 → v.getLsbD i = if active i = true then f i else (e.rj d).getLsbD i) : e.SetsJ (e.wj d v) d active f := by
  unfold Engine.wj
  split
  · next h => exact ⟨rfl, fun n i _ => by simp [h]⟩
  · next h =>
    refine ⟨rfl, fun n i hi => ?_⟩
    by_cases hn : n = d
    · subst hn
      simp [Engine.rj, tget_tset, h, hv i hi]
    · simp [Engine.rj, tget_tset, hn]

theorem ry_wy (k : Engine) (r d j i : Nat) (v : BitVec 32) (hi : i < 8) (hj : j < 8) :
    (k.wy d j v).ry r i = if r = d ∧ i = j then v else k.ry r i := by
  have : (8 * r + i = 8 * d + j) ↔ (r = d ∧ i = j) := by omega
  simp only [Engine.ry, Engine.wy, tget_tset, this]

theorem setsY_wy (e : Engine) (d j : Nat) (v : BitVec 32) (hj : j < 8) : e.SetsY (e.wy d j v) d (fun i => decide (i = j)) (fun _ => v) :=
  ⟨rfl, fun r i hi => by simp only [ry_wy _ _ _ _ _ _ hi hj, decide_eq_true_eq]⟩

/-- The first `n` lanes of a write of active lanes. -/
theorem setsY_lanesUpTo (e : Engine) (d jm : Nat) (f : Nat → BitVec 32) (n : Nat) (hn : n ≤ 8) :
    e.SetsY ((List.range n).foldl (fun k i => if (e.rj jm).getLsbD i then k.wy d i (f i) else k) e) d
      (fun i => decide (i < n) && (e.rj jm).getLsbD i) f := by
  induction n with
  | zero => exact ⟨rfl, fun r i _ => by simp⟩
  | succ n ih =>
    obtain ⟨hframe, hlanes⟩ := ih (by omega)
    rw [List.range_succ, List.foldl_concat]
    refine ⟨?_, fun r i hi => ?_⟩
    · split
      · exact hframe
      · exact hframe
    · split
      · rw [ry_wy _ _ _ _ _ _ hi (by omega), hlanes r i hi]
        grind
      · rw [hlanes r i hi]
        grind

theorem setsY_lanes (e : Engine) (d jm : Nat) (f : Nat → BitVec 32) : e.SetsY (e.lanes d jm f) d (fun i => (e.rj jm).getLsbD i) f := by
  obtain ⟨hframe, hlanes⟩ := setsY_lanesUpTo e d jm f 8 le_rfl
  exact ⟨hframe, fun r i hi => (hlanes r i hi).trans (by simp only [hi, decide_true, Bool.true_and])⟩

theorem setsJ_cmpLanes (e : Engine) (d jm : Nat) (f : Nat → Bool) : e.SetsJ (e.cmpLanes d jm f) d (fun i => (e.rj jm).getLsbD i) f :=
  setsJ_wj e d _ _ f fun i hi => by
    rw [BitVec.getLsbD_ofNat, decide_eq_true hi, Bool.true_and]
    exact (testBit_bitsUpTo _ 8 i).trans (by rw [decide_eq_true hi, Bool.true_and])

/-! Folds of the tree of R58 -/

section
variable {g : Nat → Nat → Nat} (hg : ∀ a b c, g (g a b) c = g a (g b c))
include hg

/-- A level of the tree halves its list, keeps the fold of it by an associative function, and raises no flag. -/
theorem pairUp_assoc : (l : List Nat) → (pairUp (fun a b => (g a b, 0)) l).2 = 0 ∧
    (pairUp (fun a b => (g a b, 0)) l).1.length = (l.length + 1) / 2 ∧
    ∀ s, (pairUp (fun a b => (g a b, 0)) l).1.foldl g s = l.foldl g s
  | [] => ⟨rfl, rfl, fun _ => rfl⟩
  | [_] => ⟨rfl, by simp [pairUp], fun _ => rfl⟩
  | a :: b :: r => by
    obtain ⟨hf, hl, hs⟩ := pairUp_assoc r
    refine ⟨?_, ?_, fun s => ?_⟩
    · simpa [pairUp] using hf
    · rw [pairUp]
      simp only [List.length_cons, hl]
      omega
    · rw [pairUp, List.foldl_cons, hs, List.foldl_cons, List.foldl_cons, hg]

/-- With enough levels, the tree of an associative function folds its list from the start value. -/
theorem foldTree_assoc (s : Nat) (l : List Nat) (fuel : Nat) (h : l.length ≤ 2 ^ fuel) :
    foldTree (fun a b => (g a b, 0)) s l fuel = (l.foldl g s, 0) := by
  induction fuel generalizing l with
  | zero =>
    match l, h with
    | [], _ => rfl
    | [_], _ => rfl
  | succ n ih =>
    match l, h with
    | [], _ => rfl
    | [_], _ => rfl
    | a :: b :: r, h =>
      obtain ⟨hf, hl, hs⟩ := pairUp_assoc hg (a :: b :: r)
      have hlen : (pairUp (fun a b => (g a b, 0)) (a :: b :: r)).1.length ≤ 2 ^ n := by
        rw [hl]
        rw [pow_succ] at h
        omega
      rw [foldTree, ih _ hlen, hf, hs]
      · exact Prod.ext rfl BitVec.zero_or
      · simp
      · simp

end

/-! Engines' instructions -/

/-- An instruction that cannot trap leaves its engine as its function does. -/
theorem gDoes_of_gRun {i : Instr} {s : State} {cost : Nat} {f : Engine → Engine} {R : Engine → Prop}
    (hi : exec i s = gRun cost (fun _ k => .ok (f k)) s) (hpc : (f s.curEng).pc = s.curEng.pc) (hR : R (f s.curEng)) : GDoes i s cost R :=
  ⟨f s.curEng, by rw [hi, ← hpc]; rfl, hR⟩

theorem gDoes_setsH {i : Instr} {s : State} {cost d : Nat} {f : Engine → BitVec 32} {v : BitVec 32}
    (hi : exec i s = gRun cost (fun _ k => .ok (k.wh d (f k))) s) (hv : f s.curEng = v) : GDoes i s cost (fun k => s.curEng.SetsH k d v) :=
  have h := setsH_wh s.curEng d v
  gDoes_of_gRun hi (by rw [hv]; exact h.pc) (by rw [hv]; exact h)

theorem gDoes_setsJ {i : Instr} {s : State} {d : Nat} {f : Engine → BitVec 8} {active b : Nat → Bool}
    (hi : exec i s = gOp (fun k => k.wj d (f k)) s)
    (hv : ∀ i, i < 8 → (f s.curEng).getLsbD i = if active i = true then b i else (s.curEng.rj d).getLsbD i) :
    GDoes i s 1 (fun k => s.curEng.SetsJ k d active b) :=
  have h := setsJ_wj s.curEng d _ active b hv
  gDoes_of_gRun hi h.pc h

theorem gDoes_lanes {i : Instr} {s : State} {d jm : Nat} {f : Engine → Nat → BitVec 32} {v : Nat → BitVec 32}
    (hi : exec i s = gOp (fun k => k.lanes d jm (f k)) s) (hv : ∀ i, f s.curEng i = v i) :
    GDoes i s 1 (fun k => s.curEng.SetsY k d (fun i => (s.curEng.rj jm).getLsbD i) v) :=
  have h := setsY_lanes s.curEng d jm v
  have hf : f s.curEng = v := funext hv
  gDoes_of_gRun hi (by rw [hf]; exact h.pc) (by rw [hf]; exact h)

theorem gDoes_cmp {i : Instr} {s : State} {o : OpGcmp} {f g : BitVec 32 → BitVec 32 → Bool} (hi : exec i s = gCmp o f s)
    (hf : ∀ a b, f a b = g a b) :
    GDoes i s 1 (fun k => s.curEng.SetsJ k o.d (fun i => (s.curEng.rj o.jm).getLsbD i) (fun i => g (s.curEng.ry o.a i) (s.curEng.ry o.b i))) :=
  have hfg : f = g := funext fun a => funext (hf a)
  have h := setsJ_cmpLanes s.curEng o.d o.jm (fun i => g (s.curEng.ry o.a i) (s.curEng.ry o.b i))
  gDoes_of_gRun (f := fun k => k.cmpLanes o.d o.jm (fun i => f (k.ry o.a i) (k.ry o.b i))) hi (by rw [hfg]; exact h.pc)
    (by rw [hfg]; exact h)

/-- The two forms of a lane operation. -/
theorem gDoes_pair {iv is : Instr} {s : State} {o : OpGl} {f g : BitVec 32 → BitVec 32 → BitVec 32} (hv : exec iv s = gVv o f s)
    (hs : exec is s = gVs o f s) (hf : ∀ a b, f a b = g a b) :
    GDoes iv s 1 (fun k => s.curEng.SetsY k o.d (fun i => (s.curEng.rj o.jm).getLsbD i) (fun i => g (s.curEng.ry o.a i) (s.curEng.ry o.b i))) ∧
    GDoes is s 1 (fun k => s.curEng.SetsY k o.d (fun i => (s.curEng.rj o.jm).getLsbD i) (fun i => g (s.curEng.ry o.a i) (s.curEng.rh o.b))) :=
  ⟨gDoes_lanes hv fun _ => hf _ _, gDoes_lanes hs fun _ => hf _ _⟩

/-! Lane reductions -/

/-- The active lanes of a source. -/
def Engine.activeLanes (e : Engine) (jm a : Nat) : List (BitVec 32) :=
  ((List.range 8).filter (fun i => (e.rj jm).getLsbD i)).map (fun i => e.ry a i)

theorem activeLanes_length (e : Engine) (jm a : Nat) : (e.activeLanes jm a).length ≤ 8 := by
  rw [Engine.activeLanes, List.length_map]
  exact List.length_filter_le _ (List.range 8)

theorem gDoes_red {i : Instr} {s : State} {o : OpGl} {f : Nat → Nat → Nat × FFlags} {v : BitVec 32} (hi : exec i s = gRed o f s)
    (hv : BitVec.ofNat 32 (foldTree f (s.curEng.rh o.b).toNat ((s.curEng.activeLanes o.jm o.a).map (·.toNat)) 4).1 = v) :
    GDoes i s 3 (fun k => s.curEng.SetsH k o.d v) :=
  gDoes_setsH hi (by rw [← hv, Engine.activeLanes, List.map_map]; rfl)

theorem foldTree_lanes {g : Nat → Nat → Nat} (hg : ∀ a b c, g (g a b) c = g a (g b c)) (s : Nat) (l : List (BitVec 32)) (h : l.length ≤ 8) :
    (foldTree (fun a b => (g a b, 0)) s (l.map (·.toNat)) 4).1 = (l.map (·.toNat)).foldl g s := by
  rw [foldTree_assoc hg _ _ _ (by rw [List.length_map]; omega)]

theorem ofNat_foldl_add (w s : Nat) (l : List Nat) :
    BitVec.ofNat w (l.foldl (fun a b => (a + b) % 2 ^ w) s) = BitVec.ofNat w s + BitVec.ofNat w l.sum := by
  induction l generalizing s with
  | nil => simp
  | cons a l ih =>
    have hm : BitVec.ofNat w ((s + a) % 2 ^ w) = BitVec.ofNat w s + BitVec.ofNat w a := by
      rw [← BitVec.ofNat_add]
      exact BitVec.eq_of_toNat_eq (by rw [BitVec.toNat_ofNat, BitVec.toNat_ofNat, Nat.mod_mod])
    rw [List.foldl_cons, ih, List.sum_cons, BitVec.ofNat_add, ← BitVec.add_assoc, hm]

/-- The greater of two numbers as signed words of `w` bits, the first where they are equal. -/
def maxSx (w a b : Nat) : Nat := if sx w a < sx w b then b else a

theorem sx_maxSx (w a b : Nat) : sx w (maxSx w a b) = max (sx w a) (sx w b) := by
  unfold maxSx
  split <;> omega

theorem maxSx_assoc (w a b c : Nat) : maxSx w (maxSx w a b) c = maxSx w a (maxSx w b c) := by
  unfold maxSx
  grind

theorem sx_foldl_maxSx (w s : Nat) (l : List Nat) : sx w (l.foldl (maxSx w) s) = (l.map (sx w)).foldl max (sx w s) := by
  induction l generalizing s with
  | nil => rfl
  | cons a l ih => rw [List.foldl_cons, ih, sx_maxSx, List.map_cons, List.foldl_cons]

theorem ofNat_foldl_maxSx (s : BitVec 32) (l : List (BitVec 32)) :
    BitVec.ofNat 32 ((l.map (·.toNat)).foldl (maxSx 32) s.toNat) = BitVec.ofInt 32 ((l.map (·.toInt)).foldl max s.toInt) := by
  have hx : ∀ x : BitVec 32, sx 32 x.toNat = x.toInt := fun x => by rw [sx_eq_toInt, BitVec.ofNat_toNat, BitVec.setWidth_eq]
  rw [← BitVec.ofInt_toInt (x := BitVec.ofNat 32 _), ← sx_eq_toInt, sx_foldl_maxSx, List.map_map, hx,
    show sx 32 ∘ (·.toNat) = BitVec.toInt from funext hx]

theorem count_active (e : Engine) (n : Nat) : popcount 8 (e.rj n).toNat = (List.range 8).countP (fun i => (e.rj n).getLsbD i) :=
  popcount_eq_countP 8 _

/-- Settles O48: each instruction is a write of an h, y or j register of its engine. -/
theorem golpinLanes : Obligations.GolpinLanes := by
  intro s e on fp half
  refine ⟨?_, ?_, ?_, fun o => ⟨gDoes_setsH (f := fun k => (k.rj o.a).setWidth 32) (exec_jtoh s o) rfl,
      gDoes_setsH (f := fun k => BitVec.ofNat 32 (popcount 8 (k.rj o.a).toNat)) (exec_jcount s o) (congrArg _ (count_active e o.a))⟩,
    fun o => gDoes_setsJ (f := fun k => (k.rh o.a).setWidth 8) (exec_htoj s o) fun i hi => ?_,
    fun o => gDoes_lanes (f := fun k _ => k.rh o.a) (exec_lbcst s o) fun _ => rfl,
    fun o ho => ⟨gDoes_setsH (f := fun k => k.ry o.a o.lane) (exec_lext s o) rfl, ?_⟩, fun o => ?_⟩
  · simp only [List.forall_mem_cons, List.not_mem_nil, false_imp_iff, implies_true, and_true]
    refine ⟨fun o => gDoes_pair (exec_laddVv s o) (exec_laddVs s o) fun _ _ => rfl, fun o => gDoes_pair (exec_lsubVv s o) (exec_lsubVs s o) fun _ _ => rfl,
      fun o => gDoes_pair (exec_landVv s o) (exec_landVs s o) fun _ _ => rfl, fun o => gDoes_pair (exec_lorVv s o) (exec_lorVs s o) fun _ _ => rfl,
      fun o => gDoes_pair (exec_lxorVv s o) (exec_lxorVs s o) fun _ _ => rfl, fun o => gDoes_pair (exec_lminVv s o) (exec_lminVs s o) slt_min,
      fun o => gDoes_pair (exec_lmaxVv s o) (exec_lmaxVs s o) slt_max, fun o => gDoes_pair (exec_lminuVv s o) (exec_lminuVs s o) ult_min,
      fun o => gDoes_pair (exec_lmaxuVv s o) (exec_lmaxuVs s o) ult_max, fun o => gDoes_pair (exec_lmulVv s o) (exec_lmulVs s o) fun _ _ => rfl,
      fun o => gDoes_pair (exec_lfaddVv s o) (exec_lfaddVs s o) fun _ _ => rfl, fun o => gDoes_pair (exec_lfmaxVv s o) (exec_lfmaxVs s o) fun _ _ => rfl,
      fun o => gDoes_pair (exec_lfminVv s o) (exec_lfminVs s o) fun _ _ => rfl, fun o => gDoes_pair (exec_lbfaddVv s o) (exec_lbfaddVs s o) fun _ _ => rfl⟩
  · simp only [List.forall_mem_cons, List.not_mem_nil, false_imp_iff, implies_true, and_true]
    exact ⟨fun o => gDoes_cmp (exec_lcmpeq s o) fun _ _ => rfl, fun o => gDoes_cmp (exec_lcmpne s o) fun _ _ => decide_not.symm,
      fun o => gDoes_cmp (exec_lcmplt s o) fun _ _ => BitVec.slt_eq_decide, fun o => gDoes_cmp (exec_lcmpltu s o) fun _ _ => BitVec.ult_eq_decide,
      fun o => gDoes_cmp (exec_lcmpfeq s o) fun _ _ => rfl, fun o => gDoes_cmp (exec_lcmpflt s o) fun _ _ => rfl,
      fun o => gDoes_cmp (exec_lcmpfle s o) fun _ _ => rfl⟩
  · simp only [List.forall_mem_cons, List.not_mem_nil, false_imp_iff, implies_true, and_true]
    refine ⟨fun o => gDoes_setsJ (exec_jand s o) fun i hi => ?_, fun o => gDoes_setsJ (exec_jor s o) fun i hi => ?_,
      fun o => gDoes_setsJ (exec_jxor s o) fun i hi => ?_, fun o => gDoes_setsJ (exec_jandinv s o) fun i hi => ?_⟩
    all_goals simp [on, e, hi]
  · simp [e, hi]
  · exact gDoes_of_gRun (f := fun k => k.wy o.d o.lane (k.rh o.a)) (exec_lins s o) rfl (setsY_wy e o.d o.lane (e.rh o.a) ho)
  · intro l b tree
    have hlen : l.length ≤ 8 := activeLanes_length e o.jm o.a
    refine ⟨gDoes_red (exec_lredadd s o) ?_, gDoes_red (exec_lredmax s o) ?_, gDoes_red (exec_lredmaxu s o) ?_, gDoes_red (exec_lredfadd s o) rfl,
      gDoes_red (exec_lredfmax s o) rfl, gDoes_red (exec_lredfmin s o) rfl⟩
    · refine (congrArg _ (foldTree_lanes (g := fun a b => (a + b) % 2 ^ 32) (fun a b c => by omega) b.toNat l hlen)).trans ?_
      rw [ofNat_foldl_add, BitVec.ofNat_toNat, BitVec.setWidth_eq]
    · exact (congrArg _ (foldTree_lanes (maxSx_assoc 32) b.toNat l hlen)).trans (ofNat_foldl_maxSx b l)
    · exact congrArg _ (foldTree_lanes max_assoc b.toNat l hlen)

end Sys2Proof.Machine
end

section
/-! The rounding mode of a converted tile (R380) -/

namespace Sys2Proof.Machine

/-- A placed thread whose FMODE.RM holds 4, and whose tile 0 holds the f32 value 0x3F80FFFF in its first element; x8 is the control of
an MCVT from f32 to f16 that rounds by FMODE. Every other element is 0. -/
def modeFour : State := { State.reset with
  travel := false
  threads := [(0, { Thread.reset with slot := .placed, x := [(8, 1994)], frm := 4
                                      prick := [(0, { state := .live, res := true, dirty := false, ptile := 0 })] })]
  cores := [(0, { Core.reset with tiles := [(0, { used := true, owner := 0, mapb := 0, tile := 0, dirty := false, poison := false, ready := allRows
                                                  rows := [(0, 0xFF), (1, 0xFF), (2, 0x80), (3, 0x3F)], lru := 0, filling := false })] })] }

/-- The MCVT of tile 0 into tile 1 by the control in x8; tile 0 is its random tile too. -/
def convertZero : OpMcvt := { td := 1, ta := 0, tb := 0, xa := 8, la := false, lb := false }

theorem tileIdle_modeFour : TileIdle modeFour := ⟨by constructor <;> decide, rfl, by decide, by decide, by decide, by decide +kernel⟩

theorem tileReadable_modeFour : TileReadable modeFour 0 := fun p h => by
  cases h
  exact ⟨by decide, fun _ => ⟨rfl, _, rfl, by decide, rfl, rfl, rfl, rfl⟩⟩

/-- The first f16 element of tile 1 after an instruction. -/
def firstOfTileOne : Res → Nat
  | .next u => tileElem 1 (tileRows u 0 1) 0 2 0
  | _ => 0

/-- The model rounds the first element by the random bits of the tile: 0xFFFF is added below the last kept bit, and the value goes up. -/
theorem convertZero_rounds_up : firstOfTileOne (exec (.mcvt convertZero) modeFour) = 15368 := by decide +kernel

/-- Refutes O44: `TileIdle` admits a thread whose FMODE.RM holds 4. An MCVT that rounds by FMODE then rounds as with rounding field 4,
by the random tile, where `TilesDo` gives 15367, the value for a random number of 0, because the field itself is 7. -/
theorem not_tileCommits : ¬ Obligations.TileCommits := by
  intro h
  obtain ⟨-, -, -, -, -, -, -, -, -, hcvt, -⟩ := (h modeFour).1 tileIdle_modeFour
  obtain ⟨-, -, hmakes⟩ := hcvt convertZero
  have hreads : ∀ x ∈ [(0, false), (1, false)], TileReadable modeFour x.1 := by
    simp only [List.forall_mem_cons, List.not_mem_nil, false_imp_iff, implies_true, and_true]
    exact ⟨tileReadable_modeFour, fun p hp => nomatch hp⟩
  obtain ⟨u, hu, ⟨-, -, -, -, helem⟩, -⟩ := hmakes (by decide +kernel) (by decide) (by decide) (by decide)
    hreads (fun p hp => nomatch hp)
  have hmodel := convertZero_rounds_up
  have hfirst := helem 0 0 (by decide) (by decide)
  rw [hu] at hmodel
  exact absurd (hmodel.symm.trans hfirst) (by decide +kernel)

end Sys2Proof.Machine
end

section
/-! A vector instruction of an idle thread performs as it commits (R16 to R19, R316) -/

namespace Sys2Proof.Machine

/-- The entry of a vector instruction when it is tried at the head of the VIQ. -/
def State.begun (s : State) (op : VOp) (k rm : Nat) : VEntry := { s.newEntry op k rm with began := true }

/-- The executing thread when the vector instruction that it has just committed is tried. -/
def State.started (s : State) (len : Nat) (op : VOp) (k rm : Nat) (rb : Option (Bool × Nat)) : Thread :=
  { s.cur.goneTo (s.cur.pc + toW len) with
    viq := [s.begun op k rm], rbq := s.cur.newReadBack rb, cmds := tput s.cur.cmds 0 (s.cur.nextCmd 0) }

/-- `u` is `t` but for what vector instructions other than accesses and configurations write. -/
def Thread.ResultsIn (t u : Thread) : Prop :=
  u = { t with x := u.x, f := u.f, v := u.v, wrote := u.wrote, k := u.k, q := u.q, qbad := u.qbad, fstat := u.fstat, event := u.event }

/-- The results of `u` in a thread whose scalar stream and queues are those of `t`. -/
def Thread.settledAs (u t : Thread) : Thread :=
  { u with pc := t.pc, wait := t.wait, freed := t.freed, remote := t.remote, away := t.away, shoot := t.shoot, wfeSince := t.wfeSince
           viq := t.viq, rbq := t.rbq, cmds := t.cmds }

theorem started_settledAs (s : State) (len : Nat) (op : VOp) (k rm : Nat) (rb : Option (Bool × Nat)) :
    (s.started len op k rm rb).settledAs s.cur = s.cur := rfl

/-! What a stream leaves alone -/

/-- `t` is `s` but for thread `h`, which is `u`. -/
structure OnlyThread (s t : State) (h : Nat) (u : Thread) : Prop where
  thread : t.thr h = u
  others : ∀ h', h' ≠ h → t.thr h' = s.thr h'
  rest : { t with threads := s.threads } = s

theorem onlyThread_setThr (s : State) (h : Nat) (u : Thread) : OnlyThread s (s.setThr h u) h u :=
  ⟨State.thr_setThr_self _ _ _, fun _ hne => State.thr_setThr_ne _ _ _ hne, rfl⟩

theorem onlyThread_self (s : State) (h : Nat) : OnlyThread s s h (s.thr h) := ⟨rfl, fun _ _ => rfl, rfl⟩

theorem trace_of_no_rings {s : State} (hr : s.traceRings = []) (h kind ctx value : Nat) : s.trace h kind ctx value = s := by
  rw [State.trace, hr]
  rfl

theorem advance_of_eq {t : Thread} {i n : Nat} {err : Bool} (h : tlRaise (t.rtl i) n err = t.rtl i) : t.advance i n err = t := if_pos h

theorem advance_of_ne {t : Thread} {i n : Nat} {err : Bool} (h : tlRaise (t.rtl i) n err ≠ t.rtl i) :
    t.advance i n err = { t with tl := tset t.tl i (tlRaise (t.rtl i) n err) 0, event := true } := if_neg h

theorem rtl_advance (t : Thread) (i n : Nat) (err : Bool) (j : Nat) :
    (t.advance i n err).rtl j = if j = i then tlRaise (t.rtl i) n err else t.rtl j := by
  by_cases h : tlRaise (t.rtl i) n err = t.rtl i
  · rw [advance_of_eq h, h]
    split
    · next hj => rw [hj]
    · rfl
  · rw [advance_of_ne h]
    exact tget_tset _ _ _ _ _

theorem advance_eq (t : Thread) (i n : Nat) (err : Bool) :
    t.advance i n err = { t with tl := (t.advance i n err).tl, event := (t.advance i n err).event } := by
  by_cases h : tlRaise (t.rtl i) n err = t.rtl i
  · rw [advance_of_eq h]
  · rw [advance_of_ne h]

/-- An advance of a timeline changes its thread only. -/
theorem onlyThread_advance {s : State} (hr : s.traceRings = []) (h i n : Nat) (err : Bool) :
    OnlyThread s (s.advance h i n err) h ((s.thr h).advance i n err) := by
  unfold State.advance
  dsimp only
  by_cases hv : tlRaise ((s.thr h).rtl i) n err = (s.thr h).rtl i
  · rw [advance_of_eq hv, if_pos rfl]
    exact onlyThread_self s h
  · rw [if_neg (by rw [rtl_advance, if_pos rfl]; exact hv), trace_of_no_rings (by exact hr)]
    exact onlyThread_setThr s h _

theorem noteMasked_of_sound {s : State} {h : Nat} {e : VEntry} (hv : (s.thr h).verr = []) : s.noteMasked h e = s := by
  rw [State.noteMasked, State.noteWords, hv]
  rfl

/-- Counting element groups changes no thread, and the third counter only. -/
theorem countGroups_eq (s : State) (h : Nat) (e : VEntry) (lo hi : Nat) : ∃ K, s.countGroups h e lo hi = { s with tasks := K } ∧
    ∀ k n, n ≠ 2 → (s.countGroups h e lo hi).counter k n = s.counter k n := by
  unfold State.countGroups
  dsimp only
  split
  · exact ⟨s.tasks, rfl, fun _ _ _ => rfl⟩
  · exact ⟨_, rfl, fun k n hn => by rw [State.counter_count, if_neg (fun h => hn h.2), Nat.add_zero]⟩

/-- Collection of physical tiles changes them only. -/
theorem collectTiles_eq (s : State) (h : Nat) : ∃ T, s.collectTiles h = s.setCore (coreOf h) { s.core (coreOf h) with tiles := T } := ⟨_, rfl⟩

/-- Completion of the head of the VIQ of a thread that has no other entry: the VIQ and the read-back entries are empty, its timeline advances,
and physical tiles may be collected. -/
theorem vComplete_alone {s : State} {h : Nat} {e e' : VEntry} (hr : s.traceRings = []) (hverr : (s.thr h).verr = [])
    (hviq : (s.thr h).viq = [e']) (hcmd : e'.cmd = e.cmd) (hrbq : ∀ r ∈ (s.thr h).rbq, r.cmd = e.cmd) :
    ∃ t, OnlyThread s t h (({ s.thr h with viq := [], rbq := [] } : Thread).advance 0 e.cmd false) ∧ s.vComplete h e = t.collectTiles h := by
  have hempty : (s.thr h).viq.filter (fun x => !decide (x.cmd = e.cmd)) = [] := by rw [hviq]; simp [hcmd]
  have hread : (s.thr h).rbq.filter (fun x => !decide (x.cmd = e.cmd)) = [] := by simpa using hrbq
  have hadv := onlyThread_advance (s := s.setThr h { s.thr h with viq := [], rbq := [] }) (by exact hr) h 0 e.cmd false
  rw [State.thr_setThr_self] at hadv
  refine ⟨_, ⟨hadv.thread, fun h' hne => (hadv.others h' hne).trans (State.thr_setThr_ne _ _ _ hne), ?_⟩, ?_⟩
  · exact congrArg (fun x : State => { x with threads := s.threads }) hadv.rest
  · rw [State.vComplete, noteMasked_of_sound hverr]
    dsimp only
    rw [hempty, hread, trace_of_no_rings]
    exact (congrArg (·.traceRings) hadv.rest).trans hr

/-- The first try of an entry that is alone in the VIQ marks it as begun, and nothing else. -/
theorem vBegin_alone {s : State} {h : Nat} {e : VEntry} (hr : s.traceRings = []) (hviq : (s.thr h).viq = [e]) (hb : e.began = false) :
    s.vBegin h e = (s.setThr h { s.thr h with viq := [{ e with began := true }] }, { e with began := true }) := by
  have hmap : (s.thr h).viq.map (fun x => if x.cmd = e.cmd then { e with began := true } else x) = [{ e with began := true }] := by
    rw [hviq]
    simp
  rw [State.vBegin, if_neg (by simp [hb]), trace_of_no_rings (by exact hr)]
  rw [State.setHead]
  dsimp only
  rw [hmap]

/-- The head of the VIQ may run while nothing else is under way. -/
theorem vMay_alone {t : Thread} (e : VEntry) (hh : t.hnd = false) (hs : t.stopReq = none) (hwait : t.wait ≠ .stop) (hp : t.pend = [])
    (hwin : t.win = []) (hbob : t.bob = []) : t.vMay e = true := by
  simp [Thread.vMay, Thread.stopping, Thread.vectorHeld, Thread.winBefore, Thread.bobBefore, hh, hs, hwait, hp, hwin, hbob]

theorem vStep_empty {s : State} {h : Nat} (hviq : (s.thr h).viq = []) : s.vStep h = (s, false) := by
  rw [State.vStep, hviq]

theorem pumpVector_empty {s : State} {h : Nat} (hviq : (s.thr h).viq = []) (n : Nat) : s.pumpVector h n = s := by
  cases n with
  | zero => rfl
  | succ n => rw [State.pumpVector, vStep_empty hviq]; rfl

/-- The streams of a thread whose queues are empty do nothing. -/
theorem pumpRound_empty {s : State} {h : Nat} (hviq : (s.thr h).viq = []) (hwin : (s.thr h).win = []) (hbob : (s.thr h).bob = []) :
    s.pumpRound h = s := by
  rw [State.pumpRound, State.pumpBobbins, hbob, if_pos List.isEmpty_nil, pumpVector_empty hviq, State.pumpTiles, hwin, hviq]
  rfl

/-- The streams of a thread with one entry in its VIQ and nothing in the other queues do what that entry does. -/
theorem pump_alone {s s' : State} {h : Nat} {e : VEntry} (hl : s.lockstep = true) (hviq : (s.thr h).viq = [e]) (hwin : (s.thr h).win = [])
    (hbob : (s.thr h).bob = []) (hstep : s.vStep h = (s', true)) (hviq' : (s'.thr h).viq = []) (hwin' : (s'.thr h).win = [])
    (hbob' : (s'.thr h).bob = []) : s.pump h = s' := by
  have hwork : (s.thr h).work = 1 := by simp [Thread.work, hviq, hwin, hbob]
  have hwork' : (s'.thr h).work = 0 := by simp [Thread.work, hviq', hwin', hbob']
  have hround : s.pumpRound h = s' := by
    rw [State.pumpRound, State.pumpBobbins, hbob, if_pos List.isEmpty_nil, State.pumpVector, hstep]
    dsimp only
    rw [if_pos rfl, pumpVector_empty hviq', State.pumpTiles, hwin', hviq']
    rfl
  rw [State.pump, hl, hwork]
  simp only [Nat.one_ne_zero, decide_false, Bool.not_false, Bool.and_self, if_true]
  rw [State.pumpLoop, hround, hwork, hwork', if_pos Nat.one_pos, State.pumpLoop, pumpRound_empty hviq' hwin' hbob', if_neg (by omega)]

/-- What a vector instruction of an idle thread finds and makes when it is tried: results in its thread, and a count of element groups. -/
def Tries (s : State) (len : Nat) (op : VOp) (k rm : Nat) (rb : Option (Bool × Nat)) (R : Thread → Prop) : Prop :=
  ∀ q : State, q.thr s.hart = s.started len op k rm rb → ∃ u lo hi,
    q.vTry s.hart (s.begun op k rm) = .done ((q.setThr s.hart u).countGroups s.hart (s.begun op k rm) lo hi) ∧
    (s.started len op k rm rb).ResultsIn u ∧ R (u.settledAs s.cur)

/-- The thread after the completion of a vector instruction that has left it as `u`. -/
theorem completed_eq {s : State} (hidle : Idle s) {len k rm : Nat} {op : VOp} {rb : Option (Bool × Nat)} {u : Thread}
    (hu : (s.started len op k rm rb).ResultsIn u) (cmd : Nat) :
    let c := ({ u with viq := [], rbq := [] } : Thread).advance 0 cmd false
    c = { u.settledAs s.cur with pc := s.cur.pc + toW len, wait := .none, freed := false, remote := none, away := none, shoot := none
                                 wfeSince := none, cmds := tput s.cur.cmds 0 (s.cur.nextCmd 0), tl := c.tl, event := c.event } := by
  intro c
  have hc : c = { ({ u with viq := [], rbq := [] } : Thread) with tl := c.tl, event := c.event } := advance_eq _ _ _ _
  generalize c = c at hc ⊢
  rw [Thread.ResultsIn] at hu
  refine hc.trans ?_
  rw [Thread.settledAs, hidle.viq, hidle.rbq, hu]
  rfl

/-- The machine after the only vector instruction of a thread has completed, its thread being `u`. -/
theorem vStep_alone {s : State} {h : Nat} {e : VEntry} {u : Thread} {lo hi : Nat} (hr : s.traceRings = []) (hviq : (s.thr h).viq = [e])
    (hb : e.began = false) (hmay : (s.thr h).vMay e = true) (hrbq : ∀ r ∈ u.rbq, r.cmd = e.cmd) (hverr : u.verr = [])
    (hu : u.viq = [{ e with began := true }])
    (htry : (s.setThr h { s.thr h with viq := [{ e with began := true }] }).vTry h { e with began := true } =
      .done (((s.setThr h { s.thr h with viq := [{ e with began := true }] }).setThr h u).countGroups h { e with began := true } lo hi)) :
    ∃ t K, s.vStep h = (t.collectTiles h, true) ∧
      OnlyThread { s with tasks := K } t h (({ u with viq := [], rbq := [] } : Thread).advance 0 e.cmd false) ∧
      ∀ k n, n ≠ 2 → t.counter k n = s.counter k n := by
  obtain ⟨K, hgroups, hcounters⟩ := countGroups_eq ((s.setThr h { s.thr h with viq := [{ e with began := true }] }).setThr h u) h
    { e with began := true } lo hi
  rw [hgroups] at htry hcounters
  have hthr : ({ (s.setThr h { s.thr h with viq := [{ e with began := true }] }).setThr h u with tasks := K } : State).thr h = u :=
    State.thr_setThr_self _ _ _
  obtain ⟨t, ht, hcomplete⟩ := vComplete_alone (e := e) (e' := { e with began := true })
    (s := { (s.setThr h { s.thr h with viq := [{ e with began := true }] }).setThr h u with tasks := K }) hr
    (by rw [hthr]; exact hverr) (by rw [hthr]; exact hu) rfl (by rw [hthr]; exact hrbq)
  rw [hthr] at ht
  refine ⟨t, K, ?_, ⟨ht.thread, fun h' hne => (ht.others h' hne).trans ?_, congrArg (fun x : State => { x with threads := s.threads }) ht.rest⟩,
    fun k n hn => ?_⟩
  · rw [State.vStep, hviq]
    dsimp only
    rw [hmay, vBegin_alone hr hviq hb]
    simp only [Bool.not_true, Bool.false_eq_true, if_false]
    rw [htry]
    exact Prod.ext hcomplete rfl
  · exact (State.thr_setThr_ne _ _ _ hne).trans (State.thr_setThr_ne _ _ _ hne)
  · refine Eq.trans ?_ (hcounters k n hn)
    have htasks : t.tasks = K := congrArg (·.tasks) ht.rest
    rw [State.counter, State.words, htasks]
    rfl

/-- A vector instruction that is committed by an idle thread, and completes at its first try, performs at once. -/
theorem performs_of_tries {i : Instr} {s : State} {len k rm : Nat} {op : VOp} {rb : Option (Bool × Nat)} {R : Thread → Prop} (hidle : Idle s)
    (hc : VCommitsAs i s len s.cur op k rm rb) (ht : Tries s len op k rm rb R) : Performs i s len R := by
  obtain ⟨u, hexec, ⟨hcur, hhart, hrest, hothers, hcores⟩, hcount⟩ := hc
  have hthr : u.thr s.hart = { s.cur.goneTo 0 with viq := [s.newEntry op k rm], rbq := s.cur.newReadBack rb
                                                   cmds := tput s.cur.cmds 0 (s.cur.nextCmd 0), pc := s.cur.pc + toW len } := by
    rw [← hhart]
    refine hcur.trans ?_
    rw [hidle.viq]
    rfl
  have hrings : u.traceRings = [] := (congrArg (·.traceRings) hrest).trans hidle.traces
  have hmay : (u.thr s.hart).vMay (s.newEntry op k rm) = true := by
    rw [hthr]
    exact vMay_alone _ hidle.handler hidle.stopReq (fun h => nomatch h) hidle.pend hidle.win hidle.bob
  have hstarted : ({ u.thr s.hart with viq := [{ s.newEntry op k rm with began := true }] } : Thread) = s.started len op k rm rb := by
    rw [hthr]
    rfl
  obtain ⟨w, lo, hi, htry, hres, hR⟩ := ht (u.setThr s.hart (s.started len op k rm rb)) (State.thr_setThr_self _ _ _)
  have hsound : s.cur.verr = [] := by
    have h := hidle.sound
    rw [Thread.vSound, Bool.and_eq_true, List.isEmpty_iff, List.isEmpty_iff] at h
    exact h.2
  have hrbq : ∀ r ∈ w.rbq, r.cmd = (s.newEntry op k rm).cmd := by
    rw [hres]
    cases rb with
    | none => exact fun r hr => absurd (hidle.rbq ▸ hr) List.not_mem_nil
    | some x =>
      intro r hr
      have hr' : r ∈ s.cur.rbq ++ [{ cmd := s.cur.nextCmd 0, isF := x.1, reg := x.2 }] := hr
      rw [hidle.rbq, List.nil_append, List.mem_singleton] at hr'
      rw [hr']
      rfl
  obtain ⟨t, K, hstep, hon, hcounters⟩ := vStep_alone (e := s.newEntry op k rm) hrings (by rw [hthr]) rfl hmay hrbq
    (by rw [hres]; exact hsound) (by rw [hres]; rfl) (by rw [hstarted]; exact htry)
  have hdone := completed_eq hidle hres (s.newEntry op k rm).cmd
  have htthr : (t.collectTiles s.hart).thr s.hart = ({ w with viq := [], rbq := [] } : Thread).advance 0 (s.newEntry op k rm).cmd false :=
    hon.thread
  have hpump : u.pump s.hart = t.collectTiles s.hart := by
    refine pump_alone ((congrArg (·.lockstep) hrest).trans hidle.lockstep) (by rw [hthr]) (by rw [hthr]; exact hidle.win)
      (by rw [hthr]; exact hidle.bob) hstep ?_ ?_ ?_
    · rw [htthr, advance_eq]
    · rw [htthr, advance_eq, hres]
      exact hidle.win
    · rw [htthr, advance_eq, hres]
      exact hidle.bob
  have hharts : (t.collectTiles s.hart).hart = s.hart := (congrArg (·.hart) hon.rest).trans hhart
  have hcurs : (t.collectTiles s.hart).cur = ({ w with viq := [], rbq := [] } : Thread).advance 0 (s.newEntry op k rm).cmd false := by
    rw [State.cur, hharts, htthr]
  refine ⟨t.collectTiles s.hart, w.settledAs s.cur, by rw [hexec, hpump], hR, ?_, fun n => ?_, hharts, ?_, ?_, ?_, ?_⟩
  · rw [hcurs]
    exact hdone
  · rw [hcurs, rtl_advance, hres]
    rfl
  · intro h hne
    exact ((hon.others h hne).trans (hothers h hne))
  · exact (congrArg (fun x : State => { x with threads := s.threads, tasks := s.tasks, cores := s.cores }) hon.rest).trans hrest
  · intro c
    have hc : t.core c = u.core c := State.core_congr (congrArg (·.cores) hon.rest) c
    obtain ⟨T, hT⟩ := collectTiles_eq t s.hart
    rw [hT, State.core_setCore]
    split
    · next h => rw [← h, hc, hcores, if_pos h, h]
    · next h => rw [hc, hcores, if_neg h]
  · intro k n hn
    refine Eq.trans ?_ ((hcounters k n hn).trans (hcount.counters k n))
    rfl

end Sys2Proof.Machine
end

section
/-! Elements of vector register groups (R64, R109, R316) -/

namespace Sys2Proof.Machine

/-! Bytes of a table as numbers -/

theorem tget_writeV (v : Table Byte) (k n x b : Nat) :
    tget (writeV v k n x) b 0 = if k ≤ b ∧ b < k + n then BitVec.ofNat 8 (x / 256 ^ (b - k)) else tget v b 0 := by
  induction n generalizing v k x with
  | zero => rw [writeV, if_neg (by omega)]
  | succ n ih =>
    rw [writeV, ih, tget_tset]
    rcases Nat.lt_trichotomy b k with h | rfl | h
    · rw [if_neg (by omega), if_neg (by omega), if_neg (by omega)]
    · rw [if_neg (by omega), if_pos rfl, if_pos (by omega), Nat.sub_self, pow_zero, Nat.div_one]
    · by_cases hn : b < k + 1 + n
      · rw [if_pos (by omega), if_pos (by omega), Nat.div_div_eq_div_mul, ← pow_succ', Nat.sub_add_eq, Nat.sub_add_cancel (by omega)]
      · rw [if_neg (by omega), if_neg (by omega), if_neg (by omega)]

theorem readV_congr {v v' : Table Byte} {k n : Nat} (h : ∀ x, x < n → tget v (k + x) 0 = tget v' (k + x) 0) : readV v k n = readV v' k n := by
  induction n generalizing k with
  | zero => rfl
  | succ n ih =>
    rw [readV, readV, ← Nat.add_zero k, h 0 (by omega), Nat.add_zero]
    congr 2
    exact ih fun x hx => by rw [Nat.add_assoc, Nat.add_comm 1 x]; exact h (x + 1) (by omega)

theorem readV_lt (v : Table Byte) (k n : Nat) : readV v k n < 256 ^ n := by
  induction n generalizing k with
  | zero => rw [readV, pow_zero]; exact Nat.one_pos
  | succ n ih =>
    have hb := (tget v k 0).isLt
    have hr := ih (k + 1)
    rw [readV, pow_succ]
    omega

theorem readV_writeV (v : Table Byte) (k n x : Nat) : readV (writeV v k n x) k n = x % 256 ^ n := by
  induction n generalizing v k x with
  | zero => rw [pow_zero, Nat.mod_one]; rfl
  | succ n ih =>
    have hsplit : x % 256 ^ (n + 1) = x % 256 + 256 * (x / 256 % 256 ^ n) := by rw [pow_succ', Nat.mod_mul]
    rw [readV, writeV, ih, tget_writeV, if_neg (by omega), tget_tset, if_pos rfl, BitVec.toNat_ofNat, hsplit]

theorem two_pow_bytes (w : Nat) : 256 ^ w = 2 ^ (8 * w) := by rw [pow_mul]; rfl

/-! Places of bytes in the v registers -/

/-- The place of byte `o` of the group that begins at register `r` among the bytes of all v registers. -/
def Thread.place (t : Thread) (nreg r o : Nat) : Nat := r * t.regBytes nreg + o

/-- An element does not cross from one register into the next. -/
theorem vKey_add {t : Thread} {nreg w : Nat} (hw : w ∣ t.regBytes nreg) (r j : Nat) {x : Nat} (hx : x < w) :
    t.vKey nreg r (j * w) + x = t.vKey nreg r (j * w + x) := by
  obtain ⟨c, hc⟩ := hw
  rw [Thread.vKey, Thread.vKey, hc, Nat.mul_comm j w]
  have hdiv : (w * j + x) / (w * c) = w * j / (w * c) := by
    rw [← Nat.div_div_eq_div_mul, ← Nat.div_div_eq_div_mul, Nat.mul_add_div (by omega), Nat.div_eq_of_lt hx, Nat.add_zero,
      Nat.mul_div_cancel_left _ (by omega)]
  have hmod : (w * j + x) % (w * c) = w * j % (w * c) + x := by
    rw [Nat.mod_mul, Nat.mul_add_mod, Nat.mod_eq_of_lt hx, Nat.mul_add_div (by omega), Nat.div_eq_of_lt hx, Nat.add_zero,
      Nat.mul_mod_mul_left, Nat.add_comm]
  rw [hdiv, hmod, Nat.add_assoc]

/-- Bytes with one key have one place. -/
theorem place_eq_of_vKey_eq {t : Thread} {nreg : Nat} (hpos : 0 < t.regBytes nreg) (hB : t.regBytes nreg ≤ 2 ^ 20) {r o r' o' : Nat}
    (h : t.vKey nreg r o = t.vKey nreg r' o') : t.place nreg r o = t.place nreg r' o' := by
  have hm := Nat.mod_lt o hpos
  have hm' := Nat.mod_lt o' hpos
  rw [Thread.vKey, Thread.vKey] at h
  have hreg : r + o / t.regBytes nreg = r' + o' / t.regBytes nreg := by omega
  have hoff : o % t.regBytes nreg = o' % t.regBytes nreg := by omega
  have hsplit : ∀ a b, t.place nreg a b = (a + b / t.regBytes nreg) * t.regBytes nreg + b % t.regBytes nreg := fun a b => by
    rw [Thread.place, Nat.add_mul, Nat.add_assoc, Nat.div_add_mod']
  rw [hsplit, hsplit, hreg, hoff]

/-! Elements -/

theorem vGet_lt (t : Thread) (nreg r w j : Nat) : t.vGet nreg r w j < 2 ^ (8 * w) := two_pow_bytes w ▸ readV_lt _ _ _

theorem vGet_mod (t : Thread) (nreg r w j : Nat) : t.vGet nreg r w j % 2 ^ (8 * w) = t.vGet nreg r w j := Nat.mod_eq_of_lt (vGet_lt t nreg r w j)

@[simp] theorem vKey_vPut (t : Thread) (nreg r w j x n r' o : Nat) : (t.vPut nreg r w j x).vKey n r' o = t.vKey n r' o := rfl

theorem vGet_vPut_same (t : Thread) (nreg r w j x : Nat) : (t.vPut nreg r w j x).vGet nreg r w j = x % 2 ^ (8 * w) := by
  rw [← two_pow_bytes]
  exact readV_writeV _ _ _ _

theorem tget_vPut (t : Thread) (nreg r w j x b : Nat) : tget (t.vPut nreg r w j x).v b 0 =
    if t.vKey nreg r (j * w) ≤ b ∧ b < t.vKey nreg r (j * w) + w then BitVec.ofNat 8 (x / 256 ^ (b - t.vKey nreg r (j * w))) else tget t.v b 0 :=
  tget_writeV _ _ _ _ _

/-- A thread whose v registers are `B` bytes each, as its configuration and its grant make them (R26, R64, R78). -/
structure Thread.Banked (t : Thread) : Prop where
  small : t.regBytes t.cnreg ≤ 2 ^ 20
  words : 8 ∣ t.regBytes t.cnreg
  sew : t.csew ≤ 3
  fits : t.mvl * 2 ^ t.csew ≤ t.regBytes t.cnreg
  vl : t.vl ≤ t.mvl

theorem Idle.banked {s : State} (h : Idle s) : s.cur.Banked := by
  have hpow : (16384 : Nat) = 2 ^ (11 - s.cur.cnreg) * 2 ^ (3 + s.cur.cnreg) := by
    rw [← pow_add, show 11 - s.cur.cnreg + (3 + s.cur.cnreg) = 14 by have := h.nregRange; omega]
    rfl
  have hB : s.cur.regBytes s.cur.cnreg = s.cur.vgrant * 2 ^ (11 - s.cur.cnreg) := by
    rw [Thread.regBytes, hpow, ← Nat.mul_assoc, Nat.mul_div_cancel _ (Nat.two_pow_pos _)]
  refine ⟨?_, ?_, h.sewRange, ?_, h.vl⟩
  · rw [hB]
    calc s.cur.vgrant * 2 ^ (11 - s.cur.cnreg) ≤ 256 * 2 ^ 11 :=
          Nat.mul_le_mul h.grant (Nat.pow_le_pow_right (by omega) (by omega))
      _ ≤ 2 ^ 20 := by decide
  · rw [hB]
    exact Dvd.dvd.mul_left (pow_dvd_pow 2 (show 3 ≤ 11 - s.cur.cnreg by have := h.nregRange; omega)) _
  · rw [h.mvl, mvlOf, Thread.regBytes, ← Nat.div_div_eq_div_mul]
    exact Nat.div_mul_le_self _ _

/-! The elements of a destination group, written one after another -/

/-- The values of the elements below `n` that are written. -/
def lanesBelow (on : Nat → Bool) (val : Nat → Nat) (n j : Nat) : Option Nat := if j < n ∧ on j = true then some (val j) else none

/-- The flags of the elements below `n` that are written, together. -/
def flagsBelow (on : Nat → Bool) (fl : Nat → FFlags) (n : Nat) : FFlags :=
  (List.range n).foldl (fun f j => if on j then f ||| fl j else f) 0

theorem flagsBelow_succ (on : Nat → Bool) (fl : Nat → FFlags) (n : Nat) :
    flagsBelow on fl (n + 1) = if on n then flagsBelow on fl n ||| fl n else flagsBelow on fl n := by
  rw [flagsBelow, List.range_succ, List.foldl_concat]
  rfl

theorem flagsBelow_zero_flags (on : Nat → Bool) (n : Nat) : flagsBelow on (fun _ => 0) n = 0 := by
  induction n with
  | zero => rfl
  | succ n ih =>
    rw [flagsBelow_succ, ih]
    split <;> rfl

section
variable {t u : Thread} {d w : Nat} {val : Nat → Option Nat} {fl : FFlags}

/-- Bytes of different elements of one width. -/
theorem byte_ne_of_ne {i j w x y : Nat} (hij : i ≠ j) (hx : x < w) (hy : y < w) : i * w + x ≠ j * w + y := fun h => hij (by
  have hdiv : ∀ a b, b < w → (a * w + b) / w = a := fun a b hb => by
    rw [Nat.mul_comm, Nat.mul_add_div (by omega), Nat.div_eq_of_lt hb, Nat.add_zero]
  rw [← hdiv i x hx, h, hdiv j y hy])

theorem Thread.Lanes.refl (t : Thread) (d w : Nat) : t.Lanes t d w (fun _ => none) 0 :=
  ⟨by rw [show t.fstat ||| 0 = t.fstat from BitVec.or_zero], fun _ _ => rfl, fun _ _ => rfl⟩

theorem Thread.Lanes.vKey (h : t.Lanes u d w val fl) (n r o : Nat) : u.vKey n r o = t.vKey n r o := by rw [h.1]; rfl

/-- Where two elements have no place in common, no byte of one is a byte of the other. -/
theorem vKey_ne_of_places {r j r' j' w' x x' : Nat} (hb : t.Banked) (hpos : 0 < t.regBytes t.cnreg) (hw : w ∣ t.regBytes t.cnreg)
    (hw' : w' ∣ t.regBytes t.cnreg) (hx : x < w) (hx' : x' < w')
    (hp : t.place t.cnreg r (j * w + x) ≠ t.place t.cnreg r' (j' * w' + x')) :
    t.vKey t.cnreg r (j * w) + x ≠ t.vKey t.cnreg r' (j' * w') + x' := by
  rw [vKey_add hw _ _ hx, vKey_add hw' _ _ hx']
  exact fun h => hp (place_eq_of_vKey_eq hpos hb.small h)

/-- An element whose places are those of no written element reads as before. -/
theorem Thread.Lanes.vGet_apart (h : t.Lanes u d w val fl) (hb : t.Banked) (hpos : 0 < t.regBytes t.cnreg) {r w' j' : Nat}
    (hw : w ∣ t.regBytes t.cnreg) (hw' : w' ∣ t.regBytes t.cnreg)
    (hp : ∀ j x x', j < t.vl → val j ≠ none → x < w → x' < w' → t.place t.cnreg r (j' * w' + x') ≠ t.place t.cnreg d (j * w + x)) :
    u.vGet t.cnreg r w' j' = t.vGet t.cnreg r w' j' := by
  rw [Thread.vGet, h.vKey]
  exact readV_congr fun x' hx' => h.2.2 _ fun j x hj hv hx => vKey_ne_of_places hb hpos hw' hw hx' hx (hp j x x' hj hv hx hx')

/-- One more element is written. -/
theorem Thread.Lanes.vPut (h : t.Lanes u d w val fl) (hb : t.Banked) (hw : w ∣ t.regBytes t.cnreg) {j : Nat} (hj : j < t.vl) (x : Nat)
    (f : FFlags) : t.Lanes ((u.vPut t.cnreg d w j x).raise f) d w (fun i => if i = j then some (x % 2 ^ (8 * w)) else val i) (fl ||| f) := by
  have hpos : 0 < t.regBytes t.cnreg := by
    have h1 : 0 < t.mvl * 2 ^ t.csew := Nat.mul_pos (by have := hb.vl; omega) (Nat.two_pow_pos _)
    exact h1.trans_le hb.fits
  obtain ⟨hrec, hval, hframe⟩ := h
  have hkey : ∀ n r o, u.vKey n r o = t.vKey n r o := fun n r o => by rw [hrec]; rfl
  have hfstat : u.fstat = t.fstat ||| fl := by rw [hrec]
  refine ⟨?_, fun i hi => ?_, fun b hne => ?_⟩
  · have hf : u.fstat ||| f = t.fstat ||| (fl ||| f) := by rw [hfstat, BitVec.or_assoc]
    rw [Thread.raise, Thread.flag, Thread.vPut, hf, hrec]
  · dsimp only
    by_cases hij : i = j
    · rw [if_pos hij, hij]
      exact vGet_vPut_same u t.cnreg d w j x
    · rw [if_neg hij, ← hval i hi]
      refine readV_congr fun y hy => ?_
      refine (tget_vPut _ _ _ _ _ _ _).trans (if_neg ?_)
      rw [show ((u.vPut t.cnreg d w j x).raise f).vKey t.cnreg d (i * w) = t.vKey t.cnreg d (i * w) from hkey _ _ _, hkey]
      intro hin
      refine vKey_ne_of_places (r := d) (j := i) (r' := d) (j' := j) (x := y) (x' := t.vKey t.cnreg d (i * w) + y - t.vKey t.cnreg d (j * w))
        hb hpos hw hw hy (by omega) ?_ (by omega)
      rw [Thread.place, Thread.place]
      exact fun h => byte_ne_of_ne hij hy (by omega) (Nat.add_left_cancel h)
  · dsimp only at hne
    rw [show ((u.vPut t.cnreg d w j x).raise f).v = (u.vPut t.cnreg d w j x).v from rfl, tget_vPut, if_neg, hframe b]
    · intro i y hi hv hy
      by_cases hij : i = j
      · exact hne i y hi (by rw [if_pos hij]; exact Option.some_ne_none _) hy
      · exact hne i y hi (by rw [if_neg hij]; exact hv) hy
    · rw [hkey]
      exact fun hin => hne j (b - t.vKey t.cnreg d (j * w)) hj (by rw [if_pos rfl]; exact Option.some_ne_none _) (by omega) (by omega)

/-- Registers of a group of `n` hold `n` times as many element bytes as the elements of one register need. -/
theorem Thread.Banked.element_lt (hb : t.Banked) {n j x : Nat} (hj : j < t.mvl) (hx : x < n * 2 ^ t.csew) :
    j * (n * 2 ^ t.csew) + x < n * t.regBytes t.cnreg := by
  calc j * (n * 2 ^ t.csew) + x < (j + 1) * (n * 2 ^ t.csew) := by rw [Nat.succ_mul]; omega
    _ ≤ t.mvl * (n * 2 ^ t.csew) := Nat.mul_le_mul_right _ hj
    _ = n * (t.mvl * 2 ^ t.csew) := Nat.mul_left_comm _ _ _
    _ ≤ n * t.regBytes t.cnreg := Nat.mul_le_mul_left _ hb.fits

theorem Thread.Banked.pos (hb : t.Banked) {j : Nat} (hj : j < t.mvl) : 0 < t.regBytes t.cnreg :=
  (Nat.mul_pos (by omega) (Nat.two_pow_pos _)).trans_le hb.fits

/-- Bytes of groups that share no register have different places. -/
theorem place_ne_of_groupsApart {d n a m x y : Nat} (h : groupsApart d n a m) (hx : x < n * t.regBytes t.cnreg)
    (hy : y < m * t.regBytes t.cnreg) : t.place t.cnreg a y ≠ t.place t.cnreg d x := by
  rw [Thread.place, Thread.place]
  rcases h with h | h
  · have := Nat.mul_le_mul_right (t.regBytes t.cnreg) h
    rw [Nat.add_mul] at this
    omega
  · have := Nat.mul_le_mul_right (t.regBytes t.cnreg) h
    rw [Nat.add_mul] at this
    omega

/-- The width of an element divides the bytes of a register. -/
theorem Thread.Banked.dvd (hb : t.Banked) {n : Nat} (h : n * 2 ^ t.csew ∣ 8) : n * 2 ^ t.csew ∣ t.regBytes t.cnreg := h.trans hb.words

/-- A source in registers that the destination does not share reads as before. -/
theorem Thread.Lanes.vGet_of_groupsApart {n m a j' : Nat} (hb : t.Banked) (h : t.Lanes u d (n * 2 ^ t.csew) val fl) (hn : n * 2 ^ t.csew ∣ 8)
    (hm : m * 2 ^ t.csew ∣ 8) (hap : groupsApart d n a m) (hj : j' < t.mvl) :
    u.vGet t.cnreg a (m * 2 ^ t.csew) j' = t.vGet t.cnreg a (m * 2 ^ t.csew) j' :=
  h.vGet_apart hb (hb.pos hj) (hb.dvd hn) (hb.dvd hm) fun _ _ _ hlt _ hx hx' =>
    place_ne_of_groupsApart hap (hb.element_lt (hlt.trans_le hb.vl) hx) (hb.element_lt hj hx')

/-- An element of a source, which is the destination itself or shares no register with it, that has not been written yet reads as before. -/
theorem Thread.Lanes.vGet_source {n m a j : Nat} (hb : t.Banked) (h : t.Lanes u d (n * 2 ^ t.csew) val fl) (hn : n * 2 ^ t.csew ∣ 8)
    (hm : m * 2 ^ t.csew ∣ 8) (hs : (a = d ∧ m = n) ∨ groupsApart d n a m) (hj : j < t.vl) (hv : val j = none) :
    u.vGet t.cnreg a (m * 2 ^ t.csew) j = t.vGet t.cnreg a (m * 2 ^ t.csew) j := by
  rcases hs with ⟨rfl, rfl⟩ | hap
  · rw [h.2.1 j hj, hv]
    rfl
  · exact h.vGet_of_groupsApart hb hn hm hap (hj.trans_le hb.vl)

end

theorem lanesBelow_self (on : Nat → Bool) (val : Nat → Nat) (n : Nat) : lanesBelow on val n n = none := if_neg (by simp)

theorem lanesBelow_succ (on : Nat → Bool) (val : Nat → Nat) (n : Nat) :
    lanesBelow on val (n + 1) = if on n then fun i => if i = n then some (val n) else lanesBelow on val n i else lanesBelow on val n := by
  funext i
  have hi : i < n + 1 ↔ i = n ∨ i < n := by omega
  by_cases hon : on n = true
  · rw [if_pos hon]
    by_cases hin : i = n
    · simp [lanesBelow, hin, hon]
    · simp [lanesBelow, hin, hi]
  · rw [if_neg hon]
    by_cases hin : i = n
    · simp [lanesBelow, hin, hon]
    · simp [lanesBelow, hin, hi]

/-- A loop that writes the elements of its destination one after another has written those that it goes through. -/
theorem lanes_forUp {t : Thread} {d w : Nat} {on : Nat → Bool} {val : Nat → Nat} {fl : Nat → FFlags} {step : Nat → Thread → Thread}
    (hb : t.Banked) (hw : w ∣ t.regBytes t.cnreg)
    (hstep : ∀ n u, n < t.vl → t.Lanes u d w (lanesBelow on (fun j => val j % 2 ^ (8 * w)) n) (flagsBelow on fl n) →
      step n u = if on n then (u.vPut t.cnreg d w n (val n)).raise (fl n) else u) (n : Nat) (hn : n ≤ t.vl) :
    t.Lanes (forUp 0 n step t) d w (lanesBelow on (fun j => val j % 2 ^ (8 * w)) n) (flagsBelow on fl n) := by
  rw [forUp_eq_foldl, ← List.range_eq_range']
  induction n with
  | zero =>
    have hnone : lanesBelow on (fun j => val j % 2 ^ (8 * w)) 0 = fun _ => none := funext fun j => if_neg (by omega)
    rw [hnone]
    exact Thread.Lanes.refl t d w
  | succ n ih =>
    have ihn := ih (by omega)
    rw [List.range_succ, List.foldl_concat, hstep n _ (by omega) ihn, lanesBelow_succ, flagsBelow_succ]
    split
    · exact ihn.vPut hb hw (by omega) _ _
    · exact ihn

/-! Elementwise instructions -/

theorem vHeal_of_sound {t : Thread} (h : t.vSound = true) (nreg r w lo hi : Nat) (act : Nat → Bool) : t.vHeal nreg r w lo hi act = t := if_pos h

/-- With no poisoned word, the elements of an instruction are its loop. -/
theorem elems_of_sound {t : Thread} {e : VEntry} (hi : Nat)
    (h : (forUp e.start (hi - e.start) (fun i t => if t.active e.k i then t.elem e i else t) t).vSound = true) :
    t.elems e hi = forUp e.start (hi - e.start) (fun i t => if t.active e.k i then t.elem e i else t) t := by
  rw [Thread.elems]
  generalize forUp e.start (hi - e.start) (fun i t => if t.active e.k i then t.elem e i else t) t = u at h
  induction e.op.dst (2 ^ e.sew) with
  | nil => rfl
  | cons g l ih =>
    rw [List.foldl_cons]
    simp only [vHeal_of_sound h, ite_self]
    exact ih

theorem poisonStop_of_sound {t : Thread} (h : t.vSound = true) (e : VEntry) : t.poisonStop e = none := if_pos h

/-- An elementwise instruction goes through its elements. -/
theorem vTry_elementwise {s : State} {h : Nat} {e : VEntry} (hbad : e.bad = false) (he : e.op.elementwise = true)
    (hs : (s.thr h).vSound = true) :
    s.vTry h e = .done ((s.setThr h ((s.thr h).elems e (s.thr h).vl)).countGroups h e e.start (s.thr h).vl) := by
  rw [State.vTry, hbad, if_neg Bool.false_ne_true]
  cases hop : e.op <;> rw [hop] at he
  case int | flt | fun1 | cvt | cvtRs | cmp | klogic | shup | shdn | pick | assign | ramp | rand =>
    dsimp only
    rw [poisonStop_of_sound hs]
    rfl
  all_goals exact absurd he Bool.false_ne_true

theorem Thread.Lanes.sound {t u : Thread} {d w : Nat} {val : Nat → Option Nat} {fl : FFlags} (h : t.Lanes u d w val fl) :
    u.vSound = t.vSound := by rw [h.1]; rfl

theorem Thread.Lanes.resultsIn {t u : Thread} {d w : Nat} {val : Nat → Option Nat} {fl : FFlags} (h : t.Lanes u d w val fl) :
    t.ResultsIn u := by
  rw [Thread.ResultsIn, h.1]

/-- Lanes of the thread while its instruction runs are lanes of the thread before it. -/
theorem Thread.Lanes.settled {s : State} {len k rm d w : Nat} {op : VOp} {rb : Option (Bool × Nat)} {u : Thread} {val : Nat → Option Nat}
    {fl : FFlags} (h : (s.started len op k rm rb).Lanes u d w val fl) : s.cur.Lanes (u.settledAs s.cur) d w val fl := by
  obtain ⟨hrec, hval, hframe⟩ := h
  refine ⟨?_, hval, hframe⟩
  rw [hrec]
  rfl

theorem Thread.Banked.started {s : State} (h : s.cur.Banked) (len : Nat) (op : VOp) (k rm : Nat) (rb : Option (Bool × Nat)) :
    (s.started len op k rm rb).Banked := ⟨h.small, h.words, h.sew, h.fits, h.vl⟩

/-- An elementwise instruction that an idle thread commits, whose every element is written as given, performs at once. -/
theorem performs_elementwise {i : Instr} {s : State} {len k rm d w : Nat} {op : VOp} {on : Nat → Bool} {val : Nat → Nat}
    {fl : Nat → FFlags} (hidle : Idle s) (hc : VCommitsAs i s len s.cur op k rm none) (hop : op.elementwise = true)
    (hw : w ∣ s.cur.regBytes s.cur.cnreg)
    (hstep : ∀ (n : Nat) (u : Thread), n < s.cur.vl →
      s.cur.Lanes (u.settledAs s.cur) d w (lanesBelow on (fun j => val j % 2 ^ (8 * w)) n) (flagsBelow on fl n) →
      (if u.active k n then u.elem (s.begun op k rm) n else u) =
        if on n then (u.vPut s.cur.cnreg d w n (val n)).raise (fl n) else u) :
    Performs i s len fun v => s.cur.Lanes v d w (lanesBelow on (fun j => val j % 2 ^ (8 * w)) s.cur.vl) (flagsBelow on fl s.cur.vl) := by
  refine performs_of_tries hidle hc fun q hq => ?_
  have hb : (s.started len op k rm none).Banked := hidle.banked.started len op k rm none
  have hsound : (s.started len op k rm none).vSound = true := hidle.sound
  have hlanes := lanes_forUp hb hw (fun n u hn hu => hstep n u hn hu.settled) s.cur.vl le_rfl
  have helems := elems_of_sound (t := s.started len op k rm none) (e := s.begun op k rm) s.cur.vl (hlanes.sound.trans hsound)
  refine ⟨_, _, _, vTry_elementwise rfl hop (by rw [hq]; exact hsound), ?_, ?_⟩
  · rw [hq]
    exact (helems ▸ hlanes).resultsIn
  · rw [hq]
    exact (helems ▸ hlanes).settled

end Sys2Proof.Machine
end

section
/-! Integer vector operations (R42, R43, R324, R325) -/

namespace Sys2Proof.Machine

/-! Operands -/

/-- The low bits of a sign extension are a sign extension to fewer bits. -/
theorem setWidth_signExtend {w m n : Nat} (h : m ≤ n) (x : BitVec w) : (x.signExtend n).setWidth m = x.signExtend m := by
  ext i hi
  rw [BitVec.getElem_setWidth, BitVec.getLsbD_signExtend, BitVec.getElem_signExtend, decide_eq_true (hi.trans_le h), Bool.true_and]
  split <;> rfl

/-- The second operand of an instruction, as its entry holds it, is the one that its fields name. -/
theorem opb_vSrc {t : Thread} (hsew : t.csew ≤ 3) (p : Option Modifier) (ok b : Nat) (zero : Bool) (j : Nat) :
    t.opb t.cnreg (t.vSrc p ok b zero) (2 ^ t.csew) j = laneB t p ok b zero j := by
  have hw : 8 * 2 ^ t.csew ≤ 64 := by
    have := Nat.pow_le_pow_right (n := 2) (by decide) hsew
    omega
  unfold Thread.vSrc laneB
  split
  · rfl
  · rfl
  · next hok =>
    dsimp only [Thread.opb]
    split
    · rw [toW, BitVec.toNat_ofNat, Nat.mod_mod_of_dvd _ (Nat.pow_dvd_pow 2 hw)]
      rfl
    · rw [sextW_eq, ← BitVec.toNat_setWidth, setWidth_signExtend hw]
      rfl
  · next h0 h1 h2 =>
    rw [if_neg (fun h => h0 h), if_neg (fun h => h1 h), if_neg (fun h => h2 h)]
    rfl

theorem laneB_lt (t : Thread) (p : Option Modifier) (ok b : Nat) (zero : Bool) (j : Nat) : laneB t p ok b zero j < 2 ^ (8 * 2 ^ t.csew) := by
  unfold laneB
  dsimp only
  split_ifs
  · exact vGet_lt _ _ _ _ _
  · exact Nat.mod_lt _ (Nat.two_pow_pos _)
  · exact Nat.mod_lt _ (Nat.two_pow_pos _)
  · exact BitVec.isLt _
  · exact Nat.mod_lt _ (Nat.two_pow_pos _)

/-! Commit by an idle thread -/

/-- A vector instruction whose width and registers are legal is committed by an idle thread. -/
theorem commits_of_idle {i : Instr} {s : State} {p : Option Modifier} {k : Nat} {ok : Thread → Bool} {op : Thread → VOp}
    {rb : Option (Bool × Nat)} (hidle : Idle s) (hi : exec i s = vCommit p k ok op rb s)
    (hv : ∀ n scope target l, op s.cur ≠ .barWait n scope target l)
    (hg : (op s.cur).groupsOk (2 ^ s.cur.csew) (8 * 2 ^ s.cur.cnreg) = true) (hok : ok s.cur = true) :
    VCommitsAs i s (if p.isSome then 8 else 4) s.cur (op s.cur) k
      (if (p.map (·.rm)).getD 7 = 7 then s.cur.frm else (p.map (·.rm)).getD 7) rb :=
  (vCommit_commits hi rfl hv Iff.rfl).1 ⟨hg, hok⟩ hidle.handler hidle.numbers
    ⟨by rw [hidle.viq]; decide, fun _ => by rw [hidle.rbq]; decide⟩

theorem fits_of_groupAt {t : Thread} {r n w : Nat} (h : groupAt t r n) : VGrp.fits (8 * 2 ^ t.cnreg) ⟨r, n, w⟩ = true := by
  obtain ⟨hr, hc⟩ := h
  rw [VGrp.fits, Bool.and_eq_true, decide_eq_true_eq, decide_eq_true_eq]
  exact ⟨hr, hc⟩

theorem pairOk_of_groupsApart {d n w a m w' : Nat} (strict : Bool) (h : groupsApart d n a m) : VGrp.pairOk strict ⟨d, n, w⟩ ⟨a, m, w'⟩ = true := by
  rw [VGrp.pairOk, VGrp.apart, Bool.or_eq_true, Bool.or_eq_true, decide_eq_true_eq, decide_eq_true_eq]
  exact .inl h

/-- Two groups of one register are the same or share none. -/
theorem pairOk_one (d a w : Nat) : VGrp.pairOk false ⟨d, 1, w⟩ ⟨a, 1, w⟩ = true := by
  rcases lt_trichotomy d a with h | rfl | h
  · exact pairOk_of_groupsApart _ (.inl h)
  · simp [VGrp.pairOk]
  · exact pairOk_of_groupsApart _ (.inr h)

/-- The groups of a second operand: one register, or none. -/
theorem all_vSrc_group {t : Thread} {p : Option Modifier} {ok b w : Nat} {zero : Bool} {f : VGrp → Bool}
    (h : ok = 0 → f ⟨pB p b, 1, w⟩ = true) : ((t.vSrc p ok b zero).group 1 w).all f = true := by
  unfold Thread.vSrc
  split
  · simpa [VSrc.group] using h rfl
  all_goals rfl

/-! One lane of an integer operation -/

/-- Registers of the destination group and of the first source group of an integer operation (R324). -/
def VIntOp.destRegs (op : VIntOp) : Nat :=
  match op with
  | .mulw | .mulwu | .macw => 2
  | _ => 1

def VIntOp.sourceRegs (op : VIntOp) : Nat :=
  match op with
  | .narrows | .narrowu => 2
  | _ => 1

theorem dst_int (op : VIntOp) (d a : Nat) (b : VSrc) (w : Nat) : (VOp.int op d a b).dst w = [⟨d, op.destRegs, op.destRegs * w⟩] := by
  cases op <;> simp [VOp.dst, VIntOp.destRegs]

theorem elem_int (t : Thread) (e : VEntry) (i : Nat) {op : VIntOp} {d a : Nat} {b : VSrc} (h : e.op = .int op d a b) : t.elem e i =
    let r := op.eval (8 * 2 ^ e.sew) (t.vGet e.nreg a (op.sourceRegs * 2 ^ e.sew) i) (t.opb e.nreg b (2 ^ e.sew) i)
      (t.vGet e.nreg d (op.destRegs * 2 ^ e.sew) i)
    (t.vPut e.nreg d (op.destRegs * 2 ^ e.sew) i r.1).raise (satFlag r.2) := by
  rw [Thread.elem, h]
  cases op <;> simp [VIntOp.destRegs, VIntOp.sourceRegs]

theorem srcs_int (op : VIntOp) (d a : Nat) (b : VSrc) (w : Nat) : (VOp.int op d a b).srcs w =
    (if op = .macw then [⟨d, op.destRegs, op.destRegs * w⟩] else []) ++ ⟨a, op.sourceRegs, op.sourceRegs * w⟩ :: b.group 1 w := by
  cases op <;> simp [VOp.srcs, VIntOp.sourceRegs, VIntOp.destRegs]

theorem destRegs_cases (op : VIntOp) : op.destRegs = 1 ∨ op.destRegs = 2 := by cases op <;> simp [VIntOp.destRegs]

theorem sourceRegs_cases (op : VIntOp) : op.sourceRegs = 1 ∨ op.sourceRegs = 2 ∧ op.destRegs = 1 := by
  cases op <;> simp [VIntOp.sourceRegs, VIntOp.destRegs]

theorem groupsOk_int {t : Thread} {op : VIntOp} {d a : Nat} {b : VSrc} (hd : groupAt t d op.destRegs) (ha : groupAt t a op.sourceRegs)
    (hb : (b.group 1 (2 ^ t.csew)).all (fun g => g.fits (8 * 2 ^ t.cnreg) && VGrp.pairOk false ⟨d, op.destRegs, op.destRegs * 2 ^ t.csew⟩ g) = true)
    (hda : op.destRegs ≠ op.sourceRegs → groupsApart d op.destRegs a op.sourceRegs) :
    (VOp.int op d a b).groupsOk (2 ^ t.csew) (8 * 2 ^ t.cnreg) = true := by
  have hpair : VGrp.pairOk false ⟨d, op.destRegs, op.destRegs * 2 ^ t.csew⟩ ⟨a, op.sourceRegs, op.sourceRegs * 2 ^ t.csew⟩ = true := by
    by_cases h : op.destRegs = op.sourceRegs
    · have h1 : op.sourceRegs = 1 := by
        rcases sourceRegs_cases op with h' | ⟨h', h''⟩
        · exact h'
        · omega
      rw [h, h1]
      exact pairOk_one _ _ _
    · exact pairOk_of_groupsApart _ (hda h)
  have hself : VGrp.pairOk false ⟨d, op.destRegs, op.destRegs * 2 ^ t.csew⟩ ⟨d, op.destRegs, op.destRegs * 2 ^ t.csew⟩ = true := by
    simp [VGrp.pairOk]
  rw [List.all_eq_true] at hb
  simp only [Bool.and_eq_true] at hb
  rw [VOp.groupsOk, dst_int, srcs_int]
  have hstrict : ∀ g, (VOp.int op d a b).strictFor g (2 ^ t.csew) = false := fun _ => rfl
  simp only [hstrict, Bool.and_eq_true, List.all_eq_true, List.mem_append, List.mem_cons, List.not_mem_nil, or_false]
  constructor
  · rintro g (rfl | hg | rfl | hg)
    · exact fits_of_groupAt hd
    · split at hg
      · rw [List.mem_singleton.mp hg]; exact fits_of_groupAt hd
      · exact absurd hg List.not_mem_nil
    · exact fits_of_groupAt ha
    · exact (hb g hg).1
  · rintro _ rfl g (hg | rfl | hg)
    · split at hg
      · rw [List.mem_singleton.mp hg]; exact hself
      · exact absurd hg List.not_mem_nil
    · exact hpair
    · exact (hb g hg).2

theorem Performs.mono {i : Instr} {s : State} {len : Nat} {R R' : Thread → Prop} (h : Performs i s len R) (hR : ∀ v, R v → R' v) :
    Performs i s len R' := by
  obtain ⟨t, v, hexec, hv, hrest⟩ := h
  exact ⟨t, v, hexec, hR v hv, hrest⟩

/-- A register shares none with a group of one or two registers that it is apart from, or is that group. -/
theorem one_or_apart {d n b : Nat} (hn : n = 1 ∨ n = 2) (h : n = 2 → groupsApart d n b 1) : b = d ∧ 1 = n ∨ groupsApart d n b 1 := by
  rcases hn with rfl | rfl
  · rcases lt_trichotomy b d with hlt | rfl | hlt
    · exact .inr (.inr hlt)
    · exact .inl ⟨rfl, rfl⟩
    · exact .inr (.inl hlt)
  · exact .inr (h rfl)

theorem pairOk_of_one_or_apart {d n b w : Nat} (h : b = d ∧ 1 = n ∨ groupsApart d n b 1) : VGrp.pairOk false ⟨d, n, n * w⟩ ⟨b, 1, w⟩ = true := by
  rcases h with ⟨rfl, rfl⟩ | h
  · rw [Nat.one_mul]
    exact pairOk_one _ _ _
  · exact pairOk_of_groupsApart _ h

/-- Elements of the destination group of an integer operation have at most 8 bytes. -/
theorem destRegs_dvd {op : VIntOp} {sew : Nat} (hle : sew ≤ 3) (h : op.destRegs = 2 ∨ op.sourceRegs = 2 → sew < 3) : op.destRegs * 2 ^ sew ∣ 8 := by
  rcases destRegs_cases op with h1 | h2
  · rw [h1, Nat.one_mul]
    exact pow_dvd_pow 2 hle
  · rw [h2, ← pow_succ']
    exact pow_dvd_pow 2 (h (.inl h2))

theorem sourceRegs_dvd {op : VIntOp} {sew : Nat} (hle : sew ≤ 3) (h : op.destRegs = 2 ∨ op.sourceRegs = 2 → sew < 3) : op.sourceRegs * 2 ^ sew ∣ 8 := by
  rcases sourceRegs_cases op with h1 | ⟨h2, -⟩
  · rw [h1, Nat.one_mul]
    exact pow_dvd_pow 2 hle
  · rw [h2, ← pow_succ']
    exact pow_dvd_pow 2 (h (.inr h2))

/-- The second operand of an element reads as before while the destination is written, as a source does. -/
theorem Thread.Lanes.opb_source {t u : Thread} {d n j : Nat} {val : Nat → Option Nat} {fl : FFlags} (hb : t.Banked)
    (h : t.Lanes u d (n * 2 ^ t.csew) val fl) (hn : n * 2 ^ t.csew ∣ 8) {p : Option Modifier} {ok b : Nat} {zero : Bool} {s : Thread}
    (hs : ok = 0 → pB p b = d ∧ 1 = n ∨ groupsApart d n (pB p b) 1) (hj : j < t.vl) (hv : val j = none) :
    u.opb t.cnreg (s.vSrc p ok b zero) (2 ^ t.csew) j = t.opb t.cnreg (s.vSrc p ok b zero) (2 ^ t.csew) j := by
  unfold Thread.vSrc
  split
  · have h1 : 1 * 2 ^ t.csew ∣ 8 := by rw [Nat.one_mul]; exact pow_dvd_pow 2 hb.sew
    have hsrc := h.vGet_source hb hn h1 (hs rfl) hj hv
    rwa [Nat.one_mul] at hsrc
  all_goals rfl

theorem Thread.Lanes.active {t u : Thread} {d w : Nat} {val : Nat → Option Nat} {fl : FFlags} (h : t.Lanes u d w val fl) (k i : Nat) :
    u.active k i = t.active k i := by rw [h.1]; rfl

theorem lanesBelow_writes (t : Thread) (k : Nat) (val : Nat → Nat) :
    lanesBelow (t.writes k) val t.vl = fun j => if t.writes k j then some (val j) else none := by
  funext j
  by_cases h : t.writes k j = true
  · have hj : j < t.vl := by
      rw [Thread.writes, Bool.and_eq_true, decide_eq_true_eq] at h
      exact h.1
    rw [lanesBelow, if_pos ⟨hj, h⟩, if_pos h]
  · rw [lanesBelow, if_neg (fun hc => h hc.2), if_neg h]

theorem writes_of_lt {t : Thread} {n : Nat} (h : n < t.vl) (k : Nat) : t.writes k n = t.active k n := by
  rw [Thread.writes, decide_eq_true h, Bool.true_and]
  rfl

/-- What the obligation asks of one integer operation of an idle thread: the elements that it writes, and the saturation that it raises. -/
def LaneForm (s : State) (mk : OpV → Instr) (nd na : Nat) (zero : Bool) (f : Nat → Nat → Nat → Nat × Bool) : Prop := ∀ o : OpV,
  let t := s.cur
  let w := 2 ^ t.csew
  let d := pD o.p o.d
  let a := pA o.p o.a
  let b := pB o.p o.b
  groupAt t d nd → groupAt t a na → (o.ok = 0 → groupAt t b 1) → (nd = 2 ∨ na = 2 → t.csew < 3) →
  (nd ≠ na → groupsApart d nd a na) → (nd = 2 → o.ok = 0 → groupsApart d nd b 1) →
  let r := fun (j : Nat) => f (t.vGet t.cnreg a (na * w) j) (laneB t o.p o.ok o.b zero j) (t.vGet t.cnreg d (nd * w) j)
  Performs (mk o) s (if o.p.isSome then 8 else 4) fun v =>
    t.Lanes v d (nd * w) (fun j => if t.writes o.k j then some (r j).1 else none)
      (t.laneFlags o.k (fun j => if (r j).2 then flSAT else 0))

/-- An integer operation of an idle thread writes the values of its function, where that is what the model evaluates. -/
theorem vInt_performs {s : State} (hidle : Idle s) (op : VIntOp) {mk : OpV → Instr} {ok : Thread → Bool} {zero : Bool}
    {f : Nat → Nat → Nat → Nat × Bool} (hi : ∀ o, exec (mk o) s = vInt op ok zero o s)
    (hok : (op.destRegs = 2 ∨ op.sourceRegs = 2 → s.cur.csew < 3) → ok s.cur = true)
    (hf : ∀ a b c, a < 2 ^ (op.sourceRegs * (8 * 2 ^ s.cur.csew)) → b < 2 ^ (8 * 2 ^ s.cur.csew) →
      c < 2 ^ (op.destRegs * (8 * 2 ^ s.cur.csew)) → op.eval (8 * 2 ^ s.cur.csew) a b c = f a b c ∧
      (f a b c).1 < 2 ^ (op.destRegs * (8 * 2 ^ s.cur.csew))) : LaneForm s mk op.destRegs op.sourceRegs zero f := by
  intro o t w d a b hd ha hb hsew hda hdb r
  have hbanked := hidle.banked
  have hb' : o.ok = 0 → b = d ∧ 1 = op.destRegs ∨ groupsApart d op.destRegs b 1 := fun h => one_or_apart (destRegs_cases op) fun h2 => hdb h2 h
  have ha' : a = d ∧ op.sourceRegs = op.destRegs ∨ groupsApart d op.destRegs a op.sourceRegs := by
    rcases sourceRegs_cases op with h1 | ⟨h2, h1⟩
    · rw [h1]
      rw [h1] at hda
      exact one_or_apart (destRegs_cases op) fun h2 => hda (by omega)
    · exact .inr (hda (by omega))
  have hgroups : (VOp.int op d a (t.vSrc o.p o.ok o.b zero)).groupsOk (2 ^ t.csew) (8 * 2 ^ t.cnreg) = true :=
    groupsOk_int hd ha (all_vSrc_group fun h => Bool.and_eq_true_iff.mpr ⟨fits_of_groupAt (hb h), pairOk_of_one_or_apart (hb' h)⟩) hda
  have hc := commits_of_idle hidle (hi o) nofun hgroups (hok hsew)
  have hr : ∀ j, op.eval (8 * 2 ^ t.csew) (t.vGet t.cnreg a (op.sourceRegs * w) j) (laneB t o.p o.ok o.b zero j)
      (t.vGet t.cnreg d (op.destRegs * w) j) = r j ∧ (r j).1 < 2 ^ (op.destRegs * (8 * w)) := fun j =>
    hf _ _ _ (by rw [Nat.mul_left_comm]; exact vGet_lt _ _ _ _ _) (laneB_lt _ _ _ _ _ _) (by rw [Nat.mul_left_comm]; exact vGet_lt _ _ _ _ _)
  refine (performs_elementwise (d := d) (w := op.destRegs * w) (on := t.writes o.k) (val := fun j => (r j).1)
    (fl := fun j => if (r j).2 then flSAT else 0) hidle hc rfl (hbanked.dvd (destRegs_dvd hbanked.sew hsew)) fun n u hn hu => ?_).mono fun v hv => ?_
  · have hnone := lanesBelow_self (t.writes o.k) (fun j => (r j).1 % 2 ^ (8 * (op.destRegs * w))) n
    have hact : u.active o.k n = t.writes o.k n := (hu.active o.k n).trans (writes_of_lt hn o.k).symm
    have hsa : u.vGet t.cnreg a (op.sourceRegs * w) n = t.vGet t.cnreg a (op.sourceRegs * w) n :=
      (hu.vGet_source hbanked (destRegs_dvd hbanked.sew hsew) (sourceRegs_dvd hbanked.sew hsew) ha' hn hnone :)
    have hsb : u.opb t.cnreg (t.vSrc o.p o.ok o.b zero) w n = laneB t o.p o.ok o.b zero n :=
      (hu.opb_source hbanked (destRegs_dvd hbanked.sew hsew) hb' hn hnone :).trans (opb_vSrc hbanked.sew _ _ _ _ _)
    have hsd : u.vGet t.cnreg d (op.destRegs * w) n = t.vGet t.cnreg d (op.destRegs * w) n := by
      have h := hu.2.1 n hn
      rwa [hnone] at h
    have hval : op.eval (8 * 2 ^ t.csew) (u.vGet t.cnreg a (op.sourceRegs * w) n) (u.opb t.cnreg (t.vSrc o.p o.ok o.b zero) w n)
        (u.vGet t.cnreg d (op.destRegs * w) n) = r n := by
      rw [hsa, hsb, hsd]
      exact (hr n).1
    rw [hact]
    refine if_congr Iff.rfl ?_ rfl
    refine (elem_int u _ n rfl).trans ?_
    dsimp only [State.begun, State.newEntry]
    rw [hval, satFlag, Bool.cond_eq_ite]
  · have hmod : (fun j => (r j).1 % 2 ^ (8 * (op.destRegs * w))) = fun j => (r j).1 :=
      funext fun j => Nat.mod_eq_of_lt (by rw [Nat.mul_left_comm]; exact (hr j).2)
    rw [hmod, lanesBelow_writes] at hv
    exact hv

end Sys2Proof.Machine
end

section
/-! Values of the integer operations (R42, R43, R324, R325) -/

namespace Sys2Proof.Machine

theorem wrap_eq (w : Nat) (v : Int) : wrap w v = (BitVec.ofInt w v).toNat := (BitVec.toNat_ofInt ..).symm

theorem wrap_lt (w : Nat) (v : Int) : wrap w v < 2 ^ w := by rw [wrap_eq]; exact BitVec.isLt _

theorem wrap_mod (w : Nat) (v : Int) : wrap w v % 2 ^ w = (BitVec.ofInt w v).toNat := by rw [Nat.mod_eq_of_lt (wrap_lt w v), wrap_eq]

/-- A number below 2^w is what its own bits are. -/
theorem toNat_ofInt_toInt {w a : Nat} (h : a < 2 ^ w) : (BitVec.ofInt w (BitVec.ofNat w a).toInt).toNat = a := by
  rw [BitVec.ofInt_toInt, BitVec.toNat_ofNat, Nat.mod_eq_of_lt h]

theorem toNat_ofInt_natCast {w a : Nat} (h : a < 2 ^ w) : (BitVec.ofInt w (a : Int)).toNat = a := by
  rw [BitVec.ofInt_natCast, BitVec.toNat_ofNat, Nat.mod_eq_of_lt h]

/-- Adding the complement subtracts. -/
theorem add_complement_mod {w a b : Nat} (hb : b < 2 ^ w) : (a + (2 ^ w - b)) % 2 ^ w = (BitVec.ofInt w ((a : Int) - b)).toNat := by
  have hcast : ((a + (2 ^ w - b) : Nat) : Int) = (a : Int) - b + (2 ^ w : Nat) := by omega
  rw [BitVec.toNat_ofInt, ← Int.add_emod_right, ← hcast]
  rfl

/-- A range check that ends in one of its bounds is a maximum of a minimum. -/
theorem clamp_eq {w : Nat} {lo hi v : Int} (h : lo ≤ hi) :
    (if v < lo then (wrap w lo, true) else if hi < v then (wrap w hi, true) else (wrap w v, false)) =
      ((BitVec.ofInt w (max lo (min hi v))).toNat, decide (v < lo ∨ hi + 1 ≤ v)) := by
  split
  · next hlo => rw [min_eq_right (by omega), max_eq_left (by omega), wrap_eq, decide_eq_true (.inl hlo)]
  · next hlo =>
    split
    · next hhi => rw [min_eq_left (by omega), max_eq_right h, wrap_eq, decide_eq_true (.inr hhi)]
    · next hhi => rw [min_eq_right (by omega), max_eq_right (by omega), wrap_eq, decide_eq_false (by omega)]

theorem clampInt_signed (w : Nat) (v : Int) : clampInt w true v =
    ((BitVec.ofInt w (max (-2 ^ (w - 1)) (min (2 ^ (w - 1) - 1) v))).toNat, decide (v < -2 ^ (w - 1) ∨ 2 ^ (w - 1) ≤ v)) := by
  have hpos : (0 : Int) < 2 ^ (w - 1) := by positivity
  have h := clamp_eq (w := w) (v := v) (lo := -2 ^ (w - 1)) (hi := 2 ^ (w - 1) - 1) (by omega)
  rw [Int.sub_add_cancel] at h
  rw [← h, clampInt]
  push_cast
  rfl

theorem clampInt_unsigned (w : Nat) (v : Int) : clampInt w false v =
    ((BitVec.ofInt w (max 0 (min (2 ^ w - 1) v))).toNat, decide (v < 0 ∨ 2 ^ w ≤ v)) := by
  have hpos : (0 : Int) < 2 ^ w := by positivity
  have h := clamp_eq (w := w) (v := v) (lo := 0) (hi := 2 ^ w - 1) (by omega)
  rw [Int.sub_add_cancel] at h
  rw [← h, clampInt]
  push_cast
  rfl

/-- What an operation on elements of `w` bits is to give: a value that fits in its destination element, and its saturation. -/
def Evaluates (w : Nat) (op : VIntOp) (f : Nat → Nat → Nat → Nat × Bool) : Prop :=
  ∀ a b c, a < 2 ^ (op.sourceRegs * w) → b < 2 ^ w → c < 2 ^ (op.destRegs * w) →
    op.eval w a b c = f a b c ∧ (f a b c).1 < 2 ^ (op.destRegs * w)

/-- An operation that gives a number reduced to its width is one that fits and does not saturate. -/
theorem evaluates_plain {w : Nat} {op : VIntOp} {f : Nat → Nat → Nat} (hs : op.sourceRegs = 1) (hd : op.destRegs = 1)
    (h : ∀ a b c, a < 2 ^ w → b < 2 ^ w → op.eval w a b c = (f a b, false) ∧ f a b < 2 ^ w) : Evaluates w op (fun a b _ => (f a b, false)) := by
  intro a b c ha hb hc
  rw [hs, Nat.one_mul] at ha
  rw [hd, Nat.one_mul]
  exact h a b c ha hb

theorem evaluates_signed {w : Nat} {op : VIntOp} {v : Nat → Nat → Int} (hd : op.destRegs = 1)
    (h : ∀ a b c, op.eval w a b c = clampInt w true (v a b)) :
    Evaluates w op (fun a b _ => ((BitVec.ofInt w (max (-2 ^ (w - 1)) (min (2 ^ (w - 1) - 1) (v a b)))).toNat,
      decide (v a b < -2 ^ (w - 1) ∨ 2 ^ (w - 1) ≤ v a b))) := by
  intro a b c _ _ _
  rw [hd, Nat.one_mul]
  exact ⟨(h a b c).trans (clampInt_signed w _), BitVec.isLt _⟩

theorem evaluates_unsigned {w : Nat} {op : VIntOp} {v : Nat → Nat → Int} (hd : op.destRegs = 1)
    (h : ∀ a b c, op.eval w a b c = clampInt w false (v a b)) :
    Evaluates w op (fun a b _ => ((BitVec.ofInt w (max 0 (min (2 ^ w - 1) (v a b)))).toNat, decide (v a b < 0 ∨ 2 ^ w ≤ v a b))) := by
  intro a b c _ _ _
  rw [hd, Nat.one_mul]
  exact ⟨(h a b c).trans (clampInt_unsigned w _), BitVec.isLt _⟩

/-- A result that is an integer reduced to its width. -/
theorem evaluates_bits {w : Nat} {op : VIntOp} {v : Nat → Nat → Int} (hs : op.sourceRegs = 1) (hd : op.destRegs = 1)
    (h : ∀ a b c, a < 2 ^ w → b < 2 ^ w → op.eval w a b c = ((BitVec.ofInt w (v a b)).toNat, false)) :
    Evaluates w op (fun a b _ => ((BitVec.ofInt w (v a b)).toNat, false)) :=
  evaluates_plain hs hd fun a b c ha hb => ⟨h a b c ha hb, BitVec.isLt _⟩

theorem evaluates_double {w : Nat} {op : VIntOp} {v : Nat → Nat → Nat → Int} (hd : op.destRegs = 2)
    (h : ∀ a b c, op.eval w a b c = (wrap (2 * w) (v a b c), false)) :
    Evaluates w op (fun a b c => ((BitVec.ofInt (2 * w) (v a b c)).toNat, false)) := by
  intro a b c _ _ _
  rw [hd]
  exact ⟨(h a b c).trans (by rw [wrap_eq]), BitVec.isLt _⟩

/-! The value of each operation -/

section
variable (w : Nat)

theorem evaluates_add : Evaluates w .add (fun a b _ => ((a + b) % 2 ^ w, false)) :=
  evaluates_plain rfl rfl fun _ _ _ _ _ => ⟨rfl, Nat.mod_lt _ (Nat.two_pow_pos w)⟩

theorem evaluates_sub : Evaluates w .sub (fun a b _ => ((BitVec.ofInt w ((a : Int) - b)).toNat, false)) :=
  evaluates_bits rfl rfl fun _ _ _ _ hb => Prod.ext (add_complement_mod hb) rfl

theorem evaluates_rsub : Evaluates w .rsub (fun a b _ => ((BitVec.ofInt w ((b : Int) - a)).toNat, false)) :=
  evaluates_bits rfl rfl fun _ _ _ ha _ => Prod.ext (add_complement_mod ha) rfl

theorem evaluates_mul : Evaluates w .mul (fun a b _ => (a * b % 2 ^ w, false)) :=
  evaluates_plain rfl rfl fun _ _ _ _ _ => ⟨rfl, Nat.mod_lt _ (Nat.two_pow_pos w)⟩

theorem evaluates_mulhi : Evaluates w .mulhi (fun a b _ =>
    ((BitVec.ofInt w ((BitVec.ofNat w a).toInt * (BitVec.ofNat w b).toInt / 2 ^ w)).toNat, false)) :=
  evaluates_bits rfl rfl fun a b _ _ _ => Prod.ext (by
    rw [← sx_eq_toInt, ← sx_eq_toInt]
    refine (wrap_mod w _).trans ?_
    push_cast
    rfl) rfl

theorem evaluates_mulhiu : Evaluates w .mulhiu (fun a b _ => (a * b / 2 ^ w, false)) :=
  evaluates_plain rfl rfl fun a b _ ha hb => by
    have hlt : a * b / 2 ^ w < 2 ^ w := Nat.div_lt_of_lt_mul (Nat.mul_lt_mul'' ha hb)
    refine ⟨Prod.ext ?_ rfl, hlt⟩
    refine (wrap_mod w _).trans (Eq.trans ?_ (toNat_ofInt_natCast hlt))
    push_cast
    rfl

theorem evaluates_div : Evaluates w .div (fun a b _ =>
    (if b = 0 then 2 ^ w - 1 else (BitVec.ofInt w ((BitVec.ofNat w a).toInt.tdiv (BitVec.ofNat w b).toInt)).toNat, false)) :=
  evaluates_plain rfl rfl fun a b _ _ hb => by
    have hlt : (if b = 0 then 2 ^ w - 1 else (BitVec.ofInt w ((BitVec.ofNat w a).toInt.tdiv (BitVec.ofNat w b).toInt)).toNat) < 2 ^ w := by
      split
      · exact Nat.sub_lt (Nat.two_pow_pos w) Nat.one_pos
      · exact BitVec.isLt _
    refine ⟨Prod.ext ((Nat.mod_eq_of_lt (a := sdiv w a b) ?_).trans ?_) rfl, hlt⟩
    all_goals rw [sdiv, Nat.mod_eq_of_lt hb, sx_eq_toInt, sx_eq_toInt, wrap_eq]
    exact hlt

theorem evaluates_divu : Evaluates w .divu (fun a b _ => (if b = 0 then 2 ^ w - 1 else a / b, false)) :=
  evaluates_plain rfl rfl fun a b _ ha _ => by
    have hlt : udiv w a b < 2 ^ w := by
      unfold udiv
      split
      · exact Nat.sub_lt (Nat.two_pow_pos w) Nat.one_pos
      · exact (Nat.div_le_self a b).trans_lt ha
    exact ⟨Prod.ext (Nat.mod_eq_of_lt hlt) rfl, hlt⟩

theorem evaluates_rem : Evaluates w .rem (fun a b _ =>
    (if b = 0 then a else (BitVec.ofInt w ((BitVec.ofNat w a).toInt.tmod (BitVec.ofNat w b).toInt)).toNat, false)) :=
  evaluates_plain rfl rfl fun a b _ ha hb => by
    have hlt : (if b = 0 then a else (BitVec.ofInt w ((BitVec.ofNat w a).toInt.tmod (BitVec.ofNat w b).toInt)).toNat) < 2 ^ w := by
      split
      · exact ha
      · exact BitVec.isLt _
    refine ⟨Prod.ext ((Nat.mod_eq_of_lt (a := srem w a b) ?_).trans ?_) rfl, hlt⟩
    all_goals rw [srem, Nat.mod_eq_of_lt hb, sx_eq_toInt, sx_eq_toInt, wrap_eq]
    exact hlt

theorem evaluates_remu : Evaluates w .remu (fun a b _ => (if b = 0 then a else a % b, false)) :=
  evaluates_plain rfl rfl fun a b _ ha _ => by
    have hlt : urem a b < 2 ^ w := by
      unfold urem
      split
      · exact ha
      · exact (Nat.mod_le a b).trans_lt ha
    exact ⟨Prod.ext (Nat.mod_eq_of_lt hlt) rfl, hlt⟩

theorem evaluates_and : Evaluates w .and (fun a b _ => (a &&& b, false)) :=
  evaluates_plain rfl rfl fun a _ _ _ hb => ⟨Prod.ext (Nat.mod_eq_of_lt (Nat.and_lt_two_pow a hb)) rfl, Nat.and_lt_two_pow a hb⟩

theorem evaluates_or : Evaluates w .or (fun a b _ => (a ||| b, false)) :=
  evaluates_plain rfl rfl fun _ _ _ ha hb => ⟨Prod.ext (Nat.mod_eq_of_lt (Nat.or_lt_two_pow ha hb)) rfl, Nat.or_lt_two_pow ha hb⟩

theorem evaluates_xor : Evaluates w .xor (fun a b _ => (a ^^^ b, false)) :=
  evaluates_plain rfl rfl fun _ _ _ ha hb => ⟨Prod.ext (Nat.mod_eq_of_lt (Nat.xor_lt_two_pow ha hb)) rfl, Nat.xor_lt_two_pow ha hb⟩

theorem evaluates_sll : Evaluates w .sll (fun a b _ => (a * 2 ^ (b % w) % 2 ^ w, false)) :=
  evaluates_plain rfl rfl fun _ _ _ _ _ => ⟨rfl, Nat.mod_lt _ (Nat.two_pow_pos w)⟩

theorem evaluates_srl : Evaluates w .srl (fun a b _ => (a / 2 ^ (b % w), false)) :=
  evaluates_plain rfl rfl fun a b _ ha _ =>
    have hlt : a / 2 ^ (b % w) < 2 ^ w := (Nat.div_le_self _ _).trans_lt ha
    ⟨Prod.ext (Nat.mod_eq_of_lt hlt) rfl, hlt⟩

theorem evaluates_sra : Evaluates w .sra (fun a b _ => ((BitVec.ofInt w ((BitVec.ofNat w a).toInt / 2 ^ (b % w))).toNat, false)) :=
  evaluates_bits rfl rfl fun a b _ _ _ => Prod.ext (by
    rw [← sx_eq_toInt]
    refine (wrap_mod w _).trans ?_
    push_cast
    rfl) rfl

theorem evaluates_min : Evaluates w .min (fun a b _ =>
    ((BitVec.ofInt w (min (BitVec.ofNat w a).toInt (BitVec.ofNat w b).toInt)).toNat, false)) :=
  evaluates_bits rfl rfl fun a b _ ha hb => Prod.ext (by
    simp only [VIntOp.eval, sx_eq_toInt]
    split
    · next h => rw [min_eq_right h.le, toNat_ofInt_toInt hb, Nat.mod_eq_of_lt hb]
    · next h => rw [min_eq_left (not_lt.mp h), toNat_ofInt_toInt ha, Nat.mod_eq_of_lt ha]) rfl

theorem evaluates_max : Evaluates w .max (fun a b _ =>
    ((BitVec.ofInt w (max (BitVec.ofNat w a).toInt (BitVec.ofNat w b).toInt)).toNat, false)) :=
  evaluates_bits rfl rfl fun a b _ ha hb => Prod.ext (by
    simp only [VIntOp.eval, sx_eq_toInt]
    split
    · next h => rw [max_eq_right h.le, toNat_ofInt_toInt hb, Nat.mod_eq_of_lt hb]
    · next h => rw [max_eq_left (not_lt.mp h), toNat_ofInt_toInt ha, Nat.mod_eq_of_lt ha]) rfl

theorem evaluates_minu : Evaluates w .minu (fun a b _ => (min a b, false)) :=
  evaluates_plain rfl rfl fun a b _ ha hb => by
    have hmin : (if b < a then b else a) = min a b := by split <;> omega
    exact ⟨Prod.ext ((congrArg (· % 2 ^ w) hmin).trans (Nat.mod_eq_of_lt (by omega))) rfl, by omega⟩

theorem evaluates_maxu : Evaluates w .maxu (fun a b _ => (max a b, false)) :=
  evaluates_plain rfl rfl fun a b _ ha hb => by
    have hmax : (if a < b then b else a) = max a b := by split <;> omega
    exact ⟨Prod.ext ((congrArg (· % 2 ^ w) hmax).trans (Nat.mod_eq_of_lt (by omega))) rfl, by omega⟩

theorem evaluates_mulwu : Evaluates w .mulwu (fun a b _ => (a * b, false)) := by
  intro a b c ha hb _
  rw [show VIntOp.mulwu.sourceRegs = 1 from rfl, Nat.one_mul] at ha
  refine ⟨rfl, ?_⟩
  rw [show VIntOp.mulwu.destRegs = 2 from rfl, Nat.two_mul, pow_add]
  exact Nat.mul_lt_mul'' ha hb

end

/-! Rounding of a quotient by a power of two -/

/-- The rounded quotient is no further than half a divisor from the quotient, and even where it is that far. -/
theorem rneShift_nearest (v : Int) (n : Nat) : 2 * (v - rneShift v n * 2 ^ n).natAbs ≤ 2 ^ n ∧
    (2 * (v - rneShift v n * 2 ^ n).natAbs = 2 ^ n → rneShift v n % 2 = 0) := by
  have hpos : (0 : Int) < 2 ^ n := by positivity
  have hcast : ((2 ^ n : Nat) : Int) = 2 ^ n := by push_cast; rfl
  have hmod0 := Int.emod_nonneg v hpos.ne'
  have hmod1 := Int.emod_lt_of_pos v hpos
  have hdm := Int.emod_add_mul_ediv v (2 ^ n)
  have hgoal : 2 * (v - rneShift v n * 2 ^ n).natAbs ≤ (2 ^ n : Int) ∧
      (2 * (v - rneShift v n * 2 ^ n).natAbs = (2 ^ n : Int) → rneShift v n % 2 = 0) := by
    have hup : (v / 2 ^ n + 1) * 2 ^ n = 2 ^ n * (v / 2 ^ n) + 2 ^ n := by ring
    have hdown : v / 2 ^ n * 2 ^ n = 2 ^ n * (v / 2 ^ n) := Int.mul_comm _ _
    rw [rneShift]
    simp only [hcast]
    split
    · rw [hup]
      omega
    · rw [hdown]
      omega
  exact ⟨by exact_mod_cast hgoal.1, fun h => hgoal.2 (by exact_mod_cast h)⟩

/-- Settles O38: each operation writes its lanes by `vInt_performs`; its value is a fact about integers of one width. -/
theorem vectorIntegers : Obligations.VectorIntegers := by
  refine ⟨rneShift_nearest, fun s hidle => ?_⟩
  intro t w
  have lane : ∀ (op : VIntOp) {mk : OpV → Instr} {zero : Bool} {f : Nat → Nat → Nat → Nat × Bool},
      (∀ o, exec (mk o) s = vInt op anySew zero o s) → Evaluates (8 * w) op f → LaneForm s mk op.destRegs op.sourceRegs zero f :=
    fun op _ _ _ hi hf => vInt_performs hidle op hi (fun _ => rfl) hf
  have half : ∀ (op : VIntOp) {mk : OpV → Instr} {zero : Bool} {f : Nat → Nat → Nat → Nat × Bool},
      (∀ o, exec (mk o) s = vInt op halfSew zero o s) → op.destRegs = 2 ∨ op.sourceRegs = 2 → Evaluates (8 * w) op f →
      LaneForm s mk op.destRegs op.sourceRegs zero f :=
    fun op _ _ _ hi h2 hf => vInt_performs hidle op hi (fun h => decide_eq_true (h h2)) hf
  show EachLane (8 * w) (LaneForm s)
  rw [EachLane]
  refine ⟨lane .add (exec_vadd s) (evaluates_add _), lane .sub (exec_vsub s) (evaluates_sub _), lane .rsub (exec_vsubr s) (evaluates_rsub _),
    lane .mul (exec_vmul s) (evaluates_mul _), lane .mulhi (exec_vmulhi s) (evaluates_mulhi _),
    lane .mulhiu (exec_vmulhiu s) (evaluates_mulhiu _), lane .div (exec_vdiv s) (evaluates_div _),
    lane .divu (exec_vdivu s) (evaluates_divu _), lane .rem (exec_vrem s) (evaluates_rem _), lane .remu (exec_vremu s) (evaluates_remu _),
    lane .and (exec_vand s) (evaluates_and _), lane .or (exec_vor s) (evaluates_or _), lane .xor (exec_vxor s) (evaluates_xor _),
    lane .sll (exec_vsll s) (evaluates_sll _), lane .srl (exec_vsrl s) (evaluates_srl _), lane .sra (exec_vsra s) (evaluates_sra _),
    lane .min (exec_vmin s) (evaluates_min _), lane .max (exec_vmax s) (evaluates_max _), lane .minu (exec_vminu s) (evaluates_minu _),
    lane .maxu (exec_vmaxu s) (evaluates_maxu _), lane .addsat (exec_vaddsat s) (evaluates_signed rfl fun a b c => ?_),
    lane .addsatu (exec_vaddsatu s) (evaluates_unsigned rfl fun a b c => ?_),
    lane .subsat (exec_vsubsat s) (evaluates_signed rfl fun a b c => ?_), lane .subsatu (exec_vsubsatu s) (evaluates_unsigned rfl fun a b c => ?_),
    lane .mulq (exec_vmulq s) (evaluates_signed rfl fun a b c => ?_), half .mulw (exec_vmulw s) (.inl rfl) (evaluates_double rfl fun a b c => ?_),
    half .mulwu (exec_vmulwu s) (.inl rfl) (evaluates_mulwu _), half .macw (exec_vmacw s) (.inl rfl) (evaluates_double rfl fun a b c => ?_),
    half .narrows (exec_vnarrows s) (.inr rfl) (evaluates_signed rfl fun a b c => ?_),
    half .narrowu (exec_vnarrowu s) (.inr rfl) (evaluates_unsigned rfl fun a b c => ?_)⟩
  all_goals simp only [VIntOp.eval, sx_eq_toInt]

end Sys2Proof.Machine
end

section
/-! Vector permutes, assignments, random numbers and moves (R336 to R341, R345) -/

namespace Sys2Proof.Machine

/-! Destinations of one register, without flags -/

theorem raise_zero (t : Thread) : t.raise 0 = t := by
  rw [Thread.raise, Thread.flag, show t.fstat ||| 0 = t.fstat from BitVec.or_zero]

theorem lanesBelow_of_lt {on : Nat → Bool} {val : Nat → Nat} {n : Nat} (h : ∀ j, on j = true → j < n) :
    lanesBelow on val n = fun j => if on j then some (val j) else none := by
  funext j
  by_cases hj : on j = true
  · rw [lanesBelow, if_pos ⟨h j hj, hj⟩, if_pos hj]
  · rw [lanesBelow, if_neg (fun hc => hj hc.2), if_neg hj]

theorem lt_of_writes {t : Thread} {k j : Nat} (h : t.writes k j = true) : j < t.vl := by
  rw [Thread.writes, Bool.and_eq_true, decide_eq_true_eq] at h
  exact h.1

theorem groupsApart_of_ne {d a : Nat} (h : d ≠ a) : groupsApart d 1 a 1 := by
  rw [groupsApart]
  omega

section
variable {t u : Thread} {d : Nat} {val : Nat → Option Nat} {fl : FFlags}

/-- An element of another register reads as before while one register is written. -/
theorem Thread.Lanes.vGet_of_ne (hb : t.Banked) (h : t.Lanes u d (2 ^ t.csew) val fl) {a j : Nat} (hda : d ≠ a) (hj : j < t.mvl) :
    u.vGet t.cnreg a (2 ^ t.csew) j = t.vGet t.cnreg a (2 ^ t.csew) j := by
  have h8 : 1 * 2 ^ t.csew ∣ 8 := by rw [Nat.one_mul]; exact pow_dvd_pow 2 hb.sew
  have hone : t.Lanes u d (1 * 2 ^ t.csew) val fl := by rwa [Nat.one_mul]
  have hsrc := hone.vGet_of_groupsApart hb h8 h8 (groupsApart_of_ne hda) hj
  rwa [Nat.one_mul] at hsrc

/-- The second operand of an element that has not been written reads as before while one register is written. -/
theorem Thread.Lanes.opb_one (hb : t.Banked) (h : t.Lanes u d (2 ^ t.csew) val fl) {p : Option Modifier} {ok b : Nat} {zero : Bool} {j : Nat}
    (hj : j < t.vl) (hv : val j = none) : u.opb t.cnreg (t.vSrc p ok b zero) (2 ^ t.csew) j = laneB t p ok b zero j := by
  have h8 : 1 * 2 ^ t.csew ∣ 8 := by rw [Nat.one_mul]; exact pow_dvd_pow 2 hb.sew
  have hone : t.Lanes u d (1 * 2 ^ t.csew) val fl := by rwa [Nat.one_mul]
  refine (hone.opb_source hb h8 (fun _ => ?_) hj hv).trans (opb_vSrc hb.sew p ok b zero j)
  exact one_or_apart (.inl rfl) fun h2 => absurd h2 (by decide)

end

/-- What element `n` of an instruction that writes register `d` finds in a thread that has written the elements before it. -/
structure ReadsAs (t : Thread) (d n : Nat) (u : Thread) : Prop where
  vl : u.vl = t.vl
  mvl : u.mvl = t.mvl
  vGet : ∀ a j, d ≠ a → j < t.mvl → u.vGet t.cnreg a (2 ^ t.csew) j = t.vGet t.cnreg a (2 ^ t.csew) j
  opb : ∀ p ok b zero, u.opb t.cnreg (t.vSrc p ok b zero) (2 ^ t.csew) n = laneB t p ok b zero n

/-- An elementwise instruction of an idle thread that writes elements of one register, and raises no flag. -/
theorem performs_moves {i : Instr} {s : State} {p : Option Modifier} {k d : Nat} {op : Thread → VOp} {on : Nat → Bool}
    {val : Nat → Nat} {r : Nat → Option Nat} (hidle : Idle s) (hi : exec i s = vCommit p k anySew op none s)
    (hop : (op s.cur).elementwise = true) (hg : (op s.cur).groupsOk (2 ^ s.cur.csew) (8 * 2 ^ s.cur.cnreg) = true)
    (hon : ∀ j, on j = true → s.cur.writes k j = true) (hr : ∀ j, r j = if on j then some (val j % 2 ^ (8 * 2 ^ s.cur.csew)) else none)
    (hstep : ∀ rm n u, n < s.cur.vl → s.cur.writes k n = true → ReadsAs s.cur d n u →
      u.elem (s.begun (op s.cur) k rm) n = if on n then u.vPut s.cur.cnreg d (2 ^ s.cur.csew) n (val n) else u) :
    Performs i s (if p.isSome then 8 else 4) fun v => s.cur.Lanes v d (2 ^ s.cur.csew) r 0 := by
  have hbw : ∀ n scope target l, op s.cur ≠ .barWait n scope target l := by
    intro n scope target l h
    rw [h] at hop
    exact absurd hop Bool.false_ne_true
  have hb := hidle.banked
  have hdvd : 2 ^ s.cur.csew ∣ s.cur.regBytes s.cur.cnreg := (pow_dvd_pow 2 hb.sew).trans hb.words
  refine (performs_elementwise (d := d) (w := 2 ^ s.cur.csew) (on := on) (val := val) (fl := fun _ => 0) hidle
    (commits_of_idle hidle hi hbw hg rfl) hop hdvd fun n u hn hu => ?_).mono fun v hv => ?_
  · have hact : u.active k n = s.cur.writes k n := (hu.active k n).trans (writes_of_lt hn k).symm
    have hreads : ReadsAs s.cur d n (u.settledAs s.cur) :=
      ⟨by rw [hu.1], by rw [hu.1], fun a j hda hj => hu.vGet_of_ne hb hda hj, fun p ok b zero => hu.opb_one hb hn (lanesBelow_self _ _ _)⟩
    simp only [raise_zero]
    rw [hact]
    split
    · next hw => exact hstep _ n u hn hw ⟨hreads.vl, hreads.mvl, hreads.vGet, hreads.opb⟩
    · next hw => rw [if_neg (fun h => hw (hon n h))]
  · rw [flagsBelow_zero_flags, lanesBelow_of_lt (fun j h => lt_of_writes (hon j h)), ← funext hr] at hv
    exact hv

theorem groupsOk_permute {t : Thread} {op : VOp} {d a : Nat} {l : List VGrp} (hdst : op.dst (2 ^ t.csew) = [⟨d, 1, 2 ^ t.csew⟩])
    (hsrcs : op.srcs (2 ^ t.csew) = ⟨a, 1, 2 ^ t.csew⟩ :: l) (hd : groupAt t d 1) (ha : groupAt t a 1) (hda : d ≠ a)
    (hl : ∀ g ∈ l, g.fits (8 * 2 ^ t.cnreg) = true ∧ VGrp.pairOk true ⟨d, 1, 2 ^ t.csew⟩ g = true) (hs : ∀ g, op.strictFor g (2 ^ t.csew) = true) :
    op.groupsOk (2 ^ t.csew) (8 * 2 ^ t.cnreg) = true := by
  rw [VOp.groupsOk, hdst, hsrcs]
  simp only [hs, Bool.and_eq_true, List.all_eq_true, List.mem_append, List.mem_cons, List.not_mem_nil, or_false]
  constructor
  · rintro g (rfl | rfl | hg)
    · exact fits_of_groupAt hd
    · exact fits_of_groupAt ha
    · exact (hl g hg).1
  · rintro _ rfl g (rfl | hg)
    · exact pairOk_of_groupsApart _ (groupsApart_of_ne hda)
    · exact (hl g hg).2


/-- The groups of an operation that reads at most its second operand. -/
theorem groupsOk_assign {s : State} {op : VOp} {d b : Nat} {p : Option Modifier} {ok : Nat} (hdst : op.dst (2 ^ s.cur.csew) = [⟨d, 1, 2 ^ s.cur.csew⟩])
    (hsrcs : ∀ g ∈ op.srcs (2 ^ s.cur.csew), g ∈ (s.cur.vSrc p ok b false).group 1 (2 ^ s.cur.csew)) (hd : groupAt s.cur d 1)
    (hb : ok = 0 → groupAt s.cur (pB p b) 1) (hs : ∀ g, op.strictFor g (2 ^ s.cur.csew) = false) :
    op.groupsOk (2 ^ s.cur.csew) (8 * 2 ^ s.cur.cnreg) = true := by
  have hgroup : ((s.cur.vSrc p ok b false).group 1 (2 ^ s.cur.csew)).all
      (fun g => g.fits (8 * 2 ^ s.cur.cnreg) && VGrp.pairOk false ⟨d, 1, 2 ^ s.cur.csew⟩ g) = true :=
    all_vSrc_group fun h => Bool.and_eq_true_iff.mpr ⟨fits_of_groupAt (hb h), pairOk_one _ _ _⟩
  rw [List.all_eq_true] at hgroup
  simp only [Bool.and_eq_true] at hgroup
  rw [VOp.groupsOk, hdst]
  simp only [hs, Bool.and_eq_true, List.all_eq_true, List.mem_append, List.mem_singleton]
  constructor
  · rintro g (rfl | hg)
    · exact fits_of_groupAt hd
    · exact (hgroup g (hsrcs g hg)).1
  · rintro _ rfl g hg
    exact (hgroup g (hsrcs g hg)).2

/-! The instructions -/

section
variable {s : State} (hidle : Idle s)
include hidle

/-- VSHUP writes the elements from the count on, each with the one that stands the count below it. -/
theorem vshup_moves (o : OpV) (hd : groupAt s.cur (pD o.p o.d) 1) (ha : groupAt s.cur (pA o.p o.a) 1) (hda : pD o.p o.d ≠ pA o.p o.a) :
    Performs (.vshup o) s (if o.p.isSome then 8 else 4) fun v => s.cur.Lanes v (pD o.p o.d) (2 ^ s.cur.csew)
      (fun j => if s.cur.writes o.k j ∧ s.cur.vCount o.ok o.b ≤ j then
        some (s.cur.vGet s.cur.cnreg (pA o.p o.a) (2 ^ s.cur.csew) (j - s.cur.vCount o.ok o.b)) else none) 0 := by
  refine performs_moves (on := fun j => s.cur.writes o.k j && decide (s.cur.vCount o.ok o.b ≤ j))
    (val := fun j => s.cur.vGet s.cur.cnreg (pA o.p o.a) (2 ^ s.cur.csew) (j - s.cur.vCount o.ok o.b)) hidle (exec_vshup s o) rfl
    (groupsOk_permute rfl rfl hd ha hda (fun _ h => absurd h List.not_mem_nil) fun _ => rfl)
    (fun j hj => (Bool.and_eq_true_iff.mp hj).1) (fun j => ?_) fun rm n u hn hw hu => ?_
  · simp only [vGet_mod, Bool.and_eq_true, decide_eq_true_eq]
  · rw [hw, Bool.true_and, ← hu.vGet _ _ hda (by have := hidle.vl; omega)]
    simp only [Thread.elem, State.begun, State.newEntry, decide_eq_true_eq]
    split
    · next h => rw [if_neg (by omega)]
    · next h => rw [if_pos (by omega)]

/-- VSHDN writes each element with the one that stands the count above it, and 0 at and above VL. -/
theorem vshdn_moves (o : OpV) (hd : groupAt s.cur (pD o.p o.d) 1) (ha : groupAt s.cur (pA o.p o.a) 1) (hda : pD o.p o.d ≠ pA o.p o.a) :
    Performs (.vshdn o) s (if o.p.isSome then 8 else 4) fun v => s.cur.Lanes v (pD o.p o.d) (2 ^ s.cur.csew)
      (fun j => if s.cur.writes o.k j then some (if j + s.cur.vCount o.ok o.b < s.cur.vl then
        s.cur.vGet s.cur.cnreg (pA o.p o.a) (2 ^ s.cur.csew) (j + s.cur.vCount o.ok o.b) else 0) else none) 0 := by
  refine performs_moves (on := s.cur.writes o.k) (val := fun j => if j + s.cur.vCount o.ok o.b < s.cur.vl then
      s.cur.vGet s.cur.cnreg (pA o.p o.a) (2 ^ s.cur.csew) (j + s.cur.vCount o.ok o.b) else 0) hidle (exec_vshdn s o) rfl
    (groupsOk_permute rfl rfl hd ha hda (fun _ h => absurd h List.not_mem_nil) fun _ => rfl) (fun _ h => h) (fun j => ?_)
    fun rm n u hn hw hu => ?_
  · simp only [apply_ite (· % 2 ^ (8 * 2 ^ s.cur.csew)), vGet_mod, Nat.zero_mod]
  · rw [hw, if_pos rfl]
    simp only [Thread.elem, State.begun, State.newEntry, hu.vl]
    split
    · next h => rw [hu.vGet _ _ hda (by have := hidle.vl; omega)]
    · rfl

/-- VPICK by a value writes every element with the one that the value names, and 0 at and above MVL. -/
theorem vpick_moves_val (o : OpV) {x : Word} (hx : s.cur.vSrc o.p o.ok o.b true = .val x) (hd : groupAt s.cur (pD o.p o.d) 1)
    (ha : groupAt s.cur (pA o.p o.a) 1) (hda : pD o.p o.d ≠ pA o.p o.a) :
    Performs (.vpick o) s (if o.p.isSome then 8 else 4) fun v => s.cur.Lanes v (pD o.p o.d) (2 ^ s.cur.csew)
      (fun j => if s.cur.writes o.k j then some (if x.toNat < s.cur.mvl then
        s.cur.vGet s.cur.cnreg (pA o.p o.a) (2 ^ s.cur.csew) x.toNat else 0) else none) 0 := by
  refine performs_moves (on := s.cur.writes o.k) (val := fun _ => if x.toNat < s.cur.mvl then
      s.cur.vGet s.cur.cnreg (pA o.p o.a) (2 ^ s.cur.csew) x.toNat else 0) hidle (exec_vpick s o) rfl
    (groupsOk_permute rfl rfl hd ha hda (fun g h => ?_) fun _ => rfl) (fun _ h => h) (fun j => ?_) fun rm n u hn hw hu => ?_
  · rw [hx] at h
    exact absurd h List.not_mem_nil
  · simp only [apply_ite (· % 2 ^ (8 * 2 ^ s.cur.csew)), vGet_mod, Nat.zero_mod]
  · rw [hw, if_pos rfl]
    simp only [Thread.elem, State.begun, State.newEntry, hx, hu.mvl]
    split
    · next h => rw [hu.vGet _ _ hda h]
    · rfl

/-- VPICK by a register writes each element with the one that its element of that register names, and 0 at and above MVL. -/
theorem vpick_moves_reg (o : OpV) (hok : o.ok = 0) (hd : groupAt s.cur (pD o.p o.d) 1) (ha : groupAt s.cur (pA o.p o.a) 1)
    (hb : groupAt s.cur (pB o.p o.b) 1) (hda : pD o.p o.d ≠ pA o.p o.a) (hdb : pD o.p o.d ≠ pB o.p o.b) :
    Performs (.vpick o) s (if o.p.isSome then 8 else 4) fun v => s.cur.Lanes v (pD o.p o.d) (2 ^ s.cur.csew)
      (fun j => if s.cur.writes o.k j then some (if s.cur.vGet s.cur.cnreg (pB o.p o.b) (2 ^ s.cur.csew) j < s.cur.mvl then
        s.cur.vGet s.cur.cnreg (pA o.p o.a) (2 ^ s.cur.csew) (s.cur.vGet s.cur.cnreg (pB o.p o.b) (2 ^ s.cur.csew) j) else 0) else none) 0 := by
  have hsrc : s.cur.vSrc o.p o.ok o.b true = .reg (pB o.p o.b) := by rw [hok]; rfl
  refine performs_moves (on := s.cur.writes o.k) (val := fun j => if s.cur.vGet s.cur.cnreg (pB o.p o.b) (2 ^ s.cur.csew) j < s.cur.mvl then
      s.cur.vGet s.cur.cnreg (pA o.p o.a) (2 ^ s.cur.csew) (s.cur.vGet s.cur.cnreg (pB o.p o.b) (2 ^ s.cur.csew) j) else 0) hidle
    (exec_vpick s o) rfl (groupsOk_permute rfl rfl hd ha hda (fun g h => ?_) fun _ => rfl) (fun _ h => h) (fun j => ?_) fun rm n u hn hw hu => ?_
  · rw [hsrc] at h
    rw [List.mem_singleton.mp h]
    exact ⟨fits_of_groupAt hb, pairOk_of_groupsApart _ (groupsApart_of_ne hdb)⟩
  · simp only [apply_ite (· % 2 ^ (8 * 2 ^ s.cur.csew)), vGet_mod, Nat.zero_mod]
  · rw [hw, if_pos rfl]
    have hj := hu.vGet _ _ hdb (hn.trans_le hidle.vl)
    simp only [Thread.elem, State.begun, State.newEntry, hsrc, hu.mvl, hj]
    split
    · next h => rw [hu.vGet _ _ hda h]
    · rfl

theorem vassign_moves (o : OpVbd) (hd : groupAt s.cur (pD o.p o.d) 1) (hb : o.ok = 0 → groupAt s.cur (pB o.p o.b) 1) :
    Performs (.vassign o) s (if o.p.isSome then 8 else 4) fun v => s.cur.Lanes v (pD o.p o.d) (2 ^ s.cur.csew)
      (fun j => if s.cur.writes o.k j then some (laneB s.cur o.p o.ok o.b false j) else none) 0 := by
  refine performs_moves (on := s.cur.writes o.k) (val := fun j => laneB s.cur o.p o.ok o.b false j) hidle (exec_vassign s o) rfl
    (groupsOk_assign rfl (fun _ h => h) hd hb fun _ => rfl) (fun _ h => h) (fun j => ?_) fun rm n u hn hw hu => ?_
  · rw [Nat.mod_eq_of_lt (laneB_lt _ _ _ _ _ _)]
  · rw [hw, if_pos rfl, ← hu.opb]
    rfl

/-- VRAMP writes each element with its index added to a base; `x` is the base as the instruction takes it. -/
theorem vramp_moves (o : OpVbd) (hok : o.ok = 1 ∨ o.ok = 2) (hd : groupAt s.cur (pD o.p o.d) 1) :
    Performs (.vramp o) s (if o.p.isSome then 8 else 4) fun v => s.cur.Lanes v (pD o.p o.d) (2 ^ s.cur.csew)
      (fun j => if s.cur.writes o.k j then some ((laneB s.cur o.p o.ok o.b false 0 + j) % 2 ^ (8 * 2 ^ s.cur.csew)) else none) 0 := by
  have hbase : (if o.ok = 1 then s.cur.rx o.b else sextW 5 o.b).toNat % 2 ^ (8 * 2 ^ s.cur.csew) = laneB s.cur o.p o.ok o.b false 0 := by
    rw [← opb_vSrc hidle.sewRange]
    rcases hok with h | h <;> rw [h] <;> rfl
  refine performs_moves (on := s.cur.writes o.k)
    (val := fun j => ((if o.ok = 1 then s.cur.rx o.b else sextW 5 o.b).toNat + j) % 2 ^ (8 * 2 ^ s.cur.csew)) hidle (exec_vramp s o) rfl
    (groupsOk_assign (p := none) (ok := 1) (b := 0) rfl (fun _ h => absurd h List.not_mem_nil) hd (fun h => absurd h Nat.one_ne_zero) fun _ => rfl)
    (fun _ h => h) (fun j => ?_) fun rm n u hn hw hu => ?_
  · rw [← hbase, Nat.mod_add_mod, Nat.mod_mod]
  · rw [hw, if_pos rfl]
    rfl

theorem vrand_moves (o : OpVrand) (hd : groupAt s.cur (pD o.p o.d) 1) :
    let ctr := (s.cur.rx o.b).toNat + 2 ^ 64 * (s.cur.rx (o.b + 1)).toNat
    let r := fun (j : Nat) => philox (s.cur.rx o.a).toNat ((ctr + j) % 2 ^ 128)
    Performs (.vrand o) s (if o.p.isSome then 8 else 4) fun v => s.cur.Lanes v (pD o.p o.d) (2 ^ s.cur.csew)
      (fun j => if s.cur.writes o.k j then
        some ((if s.cur.csew = 3 then (r j).1 + 2 ^ 32 * (r j).2.1 else (r j).1) % 2 ^ (8 * 2 ^ s.cur.csew)) else none) 0 := by
  intro ctr r
  have hctr : (s.cur.rx o.b).toNat + (s.cur.rx (o.b + 1)).toNat * 2 ^ 64 = ctr := by rw [Nat.mul_comm]
  have hmod : ∀ j, (if s.cur.csew = 3 then (r j).1 + 2 ^ 32 * (r j).2.1 else (r j).1) % 2 ^ (8 * 2 ^ s.cur.csew) =
      randElem s.cur.csew (s.cur.rx o.a).toNat ctr j % 2 ^ (8 * 2 ^ s.cur.csew) := fun j => by
    rw [randElem]
    split
    · rfl
    · rw [Nat.mod_mod]
  refine performs_moves (on := s.cur.writes o.k) (val := fun j => randElem s.cur.csew (s.cur.rx o.a).toNat ctr j) hidle (exec_vrand s o) rfl
    (groupsOk_assign (p := none) (ok := 1) (b := 0) rfl (fun _ h => absurd h List.not_mem_nil) hd (fun h => absurd h Nat.one_ne_zero) fun _ => rfl)
    (fun _ h => h) (fun j => ?_) fun rm n u hn hw hu => ?_
  · rw [hmod]
  · rw [hw, if_pos rfl]
    exact congrArg (fun c => u.vPut s.cur.cnreg (pD o.p o.d) (2 ^ s.cur.csew) n (randElem s.cur.csew (s.cur.rx o.a).toNat c n)) hctr

end

/-! Instructions that deliver one value -/

/-- The instructions that deliver one value to a register of the scalar stream. -/
def VOp.delivers (o : VOp) : Bool :=
  match o with
  | .kcount _ _ | .kffs _ _ | .fold _ _ _ _ _ | .redmax _ _ _ | .getx _ _ _ | .getf _ _ _ => true
  | _ => false

theorem vTry_delivers {s : State} {h : Nat} {e : VEntry} (hbad : e.bad = false) (he : e.op.delivers = true) (hs : (s.thr h).vSound = true) :
    s.vTry h e = .done ((s.setThr h ((s.thr h).whole e)).countGroups h e 0 (e.op.passes (s.thr h).vl)) := by
  rw [State.vTry, hbad, if_neg Bool.false_ne_true]
  cases hop : e.op <;> rw [hop] at he
  case kcount | kffs | fold | redmax | getx | getf =>
    dsimp only
    rw [poisonStop_of_sound hs]
    rfl
  all_goals exact absurd he Bool.false_ne_true

theorem settledAs_wx (t c : Thread) (d : Nat) (v : Word) : (t.wx d v).settledAs c = (t.settledAs c).wx d v := by
  unfold Thread.wx
  split <;> rfl

theorem resultsIn_wx (t : Thread) (d : Nat) (v : Word) : t.ResultsIn (t.wx d v) := by
  rw [Thread.ResultsIn]
  unfold Thread.wx
  split <;> rfl

theorem resultsIn_raise {t u : Thread} (h : t.ResultsIn u) (f : FFlags) : t.ResultsIn (u.raise f) := by
  rw [Thread.ResultsIn] at h ⊢
  rw [Thread.raise, Thread.flag]
  rw [h]

/-- An instruction of an idle thread that delivers a value to X[d], with flags. -/
theorem performs_toX {i : Instr} {s : State} {len k rm d : Nat} {op : VOp} {rb : Option (Bool × Nat)} {x : Word} {fl : FFlags}
    (hidle : Idle s) (hc : VCommitsAs i s len s.cur op k rm rb) (hop : op.delivers = true)
    (hw : (s.started len op k rm rb).whole (s.begun op k rm) = ((s.started len op k rm rb).wx d x).raise fl) :
    Performs i s len fun v => { v with x := s.cur.x } = { s.cur with fstat := s.cur.fstat ||| fl } ∧ ∀ n, v.rx n = xAfter s.cur d x n := by
  refine performs_of_tries hidle hc fun q hq => ⟨_, _, _, vTry_delivers rfl hop (by rw [hq]; exact hidle.sound), ?_, ?_⟩
  · rw [hq, hw]
    exact resultsIn_raise (resultsIn_wx _ _ _) fl
  · have hset : (((s.started len op k rm rb).wx d x).raise fl).settledAs s.cur = (s.cur.wx d x).raise fl := by
      rw [← started_settledAs s len op k rm rb, ← settledAs_wx]
      rfl
    rw [hq, hw, hset]
    refine ⟨?_, fun n => (congrFun (xAfter_eq s.cur d x) n)⟩
    rw [Thread.raise, Thread.flag]
    unfold Thread.wx
    split <;> rfl

/-- An instruction of an idle thread that delivers a value to F[d], with flags. -/
theorem performs_toF {i : Instr} {s : State} {len k rm d : Nat} {op : VOp} {rb : Option (Bool × Nat)} {x : Word} {fl : FFlags}
    (hidle : Idle s) (hc : VCommitsAs i s len s.cur op k rm rb) (hop : op.delivers = true)
    (hw : (s.started len op k rm rb).whole (s.begun op k rm) = ((s.started len op k rm rb).wf d x).raise fl) :
    Performs i s len fun v => { v with f := s.cur.f } = { s.cur with fstat := s.cur.fstat ||| fl } ∧ ∀ n, v.rf n = fAfter s.cur d x n := by
  refine performs_of_tries hidle hc fun q hq => ⟨_, _, _, vTry_delivers rfl hop (by rw [hq]; exact hidle.sound), ?_, ?_⟩
  · rw [hq, hw]
    rfl
  · rw [hq, hw]
    exact ⟨rfl, fun n => congrFun (fAfter_eq s.cur d x) n⟩

theorem with_no_flags (t : Thread) : ({ t with fstat := t.fstat ||| 0 } : Thread) = t := by
  rw [show t.fstat ||| 0 = t.fstat from BitVec.or_zero]

theorem groupsOk_source {t : Thread} {op : VOp} {a : Nat} (hdst : op.dst (2 ^ t.csew) = []) (hsrcs : op.srcs (2 ^ t.csew) = [⟨a, 1, 2 ^ t.csew⟩])
    (ha : groupAt t a 1) : op.groupsOk (2 ^ t.csew) (8 * 2 ^ t.cnreg) = true := by
  rw [VOp.groupsOk, hdst, hsrcs]
  simpa using fits_of_groupAt ha

/-- The sign extension of 0 is 0. -/
theorem signExtend_zero (n : Nat) : (BitVec.ofNat n 0).signExtend 64 = 0#64 := by
  refine BitVec.eq_of_toInt_eq ?_
  rw [BitVec.toInt_signExtend]
  simp

theorem vgetx_performs {s : State} (hidle : Idle s) (o : OpVget) (ha : groupAt s.cur (pA o.p o.a) 1) :
    let x := if s.cur.vCount o.ok o.b < s.cur.mvl then s.cur.vGet s.cur.cnreg (pA o.p o.a) (2 ^ s.cur.csew) (s.cur.vCount o.ok o.b) else 0
    Performs (.vgetx o) s (if o.p.isSome then 8 else 4) fun v => { v with x := s.cur.x } = s.cur ∧
      ∀ m, v.rx m = xAfter s.cur o.d ((BitVec.ofNat (8 * 2 ^ s.cur.csew) x).signExtend 64) m := by
  intro x
  have hx : (if s.cur.vCount o.ok o.b < s.cur.mvl then
      sextW (8 * 2 ^ s.cur.csew) (s.cur.vGet s.cur.cnreg (pA o.p o.a) (2 ^ s.cur.csew) (s.cur.vCount o.ok o.b)) else 0) =
      (BitVec.ofNat (8 * 2 ^ s.cur.csew) x).signExtend 64 := by
    dsimp only [x]
    split
    · exact sextW_eq _ _
    · exact (signExtend_zero _).symm
  refine (performs_toX (d := o.d) (x := (BitVec.ofNat (8 * 2 ^ s.cur.csew) x).signExtend 64) (fl := 0) hidle
    (commits_of_idle hidle (exec_vgetx s o) nofun (groupsOk_source rfl rfl ha) rfl) rfl ?_).mono fun v hv => ?_
  · rw [raise_zero, ← hx]
    rfl
  · rwa [with_no_flags] at hv

theorem vgetf_performs {s : State} (hidle : Idle s) (o : OpVget) (ha : groupAt s.cur (pA o.p o.a) 1) :
    let x := if s.cur.vCount o.ok o.b < s.cur.mvl then s.cur.vGet s.cur.cnreg (pA o.p o.a) (2 ^ s.cur.csew) (s.cur.vCount o.ok o.b) else 0
    Performs (.vgetf o) s (if o.p.isSome then 8 else 4) fun v => { v with f := s.cur.f } = s.cur ∧
      ∀ m, v.rf m = fAfter s.cur o.d (BitVec.ofNat 64 x) m := by
  intro x
  have hx : (if s.cur.vCount o.ok o.b < s.cur.mvl then
      toW (s.cur.vGet s.cur.cnreg (pA o.p o.a) (2 ^ s.cur.csew) (s.cur.vCount o.ok o.b)) else 0) = BitVec.ofNat 64 x := by
    dsimp only [x]
    split <;> rfl
  refine (performs_toF (d := o.d) (x := BitVec.ofNat 64 x) (fl := 0) hidle
    (commits_of_idle hidle (exec_vgetf s o) nofun (groupsOk_source rfl rfl ha) rfl) rfl ?_).mono fun v hv => ?_
  · rw [raise_zero, ← hx]
    rfl
  · rwa [with_no_flags] at hv

/-! VCOMPACT -/

theorem forUp_congr {σ : Type} {lo n : Nat} {f g : Nat → σ → σ} (s : σ) (h : ∀ i s, lo ≤ i → i < lo + n → f i s = g i s) :
    forUp lo n f s = forUp lo n g s := by
  induction n generalizing lo s with
  | zero => rfl
  | succ n ih =>
    rw [forUp, forUp, h lo s le_rfl (by omega)]
    exact ih _ fun i s hlo hhi => h i s (by omega) (by omega)

/-- A fold that counts its steps is a loop over the places of its list. -/
theorem foldl_counting {σ : Type} (f : σ → Nat → Nat → σ) (l : List Nat) (s : σ) (m : Nat) :
    l.foldl (fun (p : σ × Nat) i => (f p.1 p.2 i, p.2 + 1)) (s, m) =
      (forUp m l.length (fun j s => f s j (l.getD (j - m) 0)) s, m + l.length) := by
  induction l generalizing s m with
  | nil => rfl
  | cons a l ih =>
    rw [List.foldl_cons, ih, List.length_cons, forUp, Nat.sub_self, List.getD_cons_zero]
    refine Prod.ext (forUp_congr _ fun j s hlo _ => ?_) (by simp only; omega)
    rw [show j - m = j - (m + 1) + 1 by omega, List.getD_cons_succ]

/-- The instructions that work on the whole vector and write elements of it. -/
def VOp.rewrites (o : VOp) : Bool :=
  match o with
  | .compact _ _ _ | .scan _ _ _ _ => true
  | _ => false

theorem vTry_rewrites {s : State} {h : Nat} {e : VEntry} (hbad : e.bad = false) (he : e.op.rewrites = true) (hs : (s.thr h).vSound = true)
    (hw : ((s.thr h).whole e).vSound = true) :
    s.vTry h e = .done ((s.setThr h ((s.thr h).whole e)).countGroups h e 0 (e.op.passes (s.thr h).vl)) := by
  rw [State.vTry, hbad, if_neg Bool.false_ne_true]
  cases hop : e.op <;> rw [hop] at he
  case compact | scan =>
    dsimp only
    rw [poisonStop_of_sound hs]
    simp only [VOp.elementwise, vHeal_of_sound hw]
    rfl
  all_goals exact absurd he Bool.false_ne_true

/-- An instruction of an idle thread that works on the whole vector and writes elements of it performs at once. -/
theorem performs_rewrites {i : Instr} {s : State} {len k rm d w : Nat} {op : VOp} {rb : Option (Bool × Nat)} {val : Nat → Option Nat} {fl : FFlags}
    (hidle : Idle s) (hc : VCommitsAs i s len s.cur op k rm rb) (hop : op.rewrites = true)
    (hl : (s.started len op k rm rb).Lanes ((s.started len op k rm rb).whole (s.begun op k rm)) d w val fl) :
    Performs i s len fun v => s.cur.Lanes v d w val fl := by
  refine performs_of_tries hidle hc fun q hq => ⟨_, _, _, vTry_rewrites rfl hop (by rw [hq]; exact hidle.sound) ?_, ?_, ?_⟩ <;> rw [hq]
  · exact hl.sound.trans hidle.sound
  · exact hl.resultsIn
  · exact hl.settled

theorem length_actives_le (t : Thread) (k : Nat) : (t.actives k).length ≤ t.vl :=
  (List.length_filter_le _ _).trans_eq List.length_range

theorem lt_of_mem_actives {t : Thread} {k i : Nat} (h : i ∈ t.actives k) : i < t.vl := List.mem_range.mp (List.mem_of_mem_filter h)

/-- VCOMPACT makes a loop over the elements of its destination. -/
theorem whole_compact {t : Thread} {e : VEntry} {d a b : Nat} (he : e.op = .compact d a b) :
    t.whole e = forUp 0 (t.actives b).length
      (fun j u => u.vPut e.nreg d (2 ^ e.sew) j (u.vGet e.nreg a (2 ^ e.sew) ((t.actives b).getD j 0))) t := by
  rw [Thread.whole, he]
  exact congrArg Prod.fst (foldl_counting (fun u j i => u.vPut e.nreg d (2 ^ e.sew) j (u.vGet e.nreg a (2 ^ e.sew) i)) (t.actives b) t 0)

theorem lanes_compact {t : Thread} (hb : t.Banked) {d a : Nat} (hda : d ≠ a) (b : Nat) :
    t.Lanes (forUp 0 (t.actives b).length
        (fun j u => u.vPut t.cnreg d (2 ^ t.csew) j (u.vGet t.cnreg a (2 ^ t.csew) ((t.actives b).getD j 0))) t) d (2 ^ t.csew)
      (fun j => ((t.actives b)[j]?).map (fun i => t.vGet t.cnreg a (2 ^ t.csew) i)) 0 := by
  have hdvd : 2 ^ t.csew ∣ t.regBytes t.cnreg := (pow_dvd_pow 2 hb.sew).trans hb.words
  have hmem : ∀ n, n < t.vl → (t.actives b).getD n 0 < t.mvl := fun n hn => by
    rw [List.getD_eq_getElem?_getD]
    cases h : (t.actives b)[n]? with
    | none => exact (Nat.zero_le n).trans_lt (hn.trans_le hb.vl)
    | some i => exact (lt_of_mem_actives (List.mem_of_getElem? h)).trans_le hb.vl
  have hlanes := lanes_forUp (d := d) (on := fun _ => true) (fl := fun _ => 0)
    (val := fun j => t.vGet t.cnreg a (2 ^ t.csew) ((t.actives b).getD j 0))
    (step := fun j u => u.vPut t.cnreg d (2 ^ t.csew) j (u.vGet t.cnreg a (2 ^ t.csew) ((t.actives b).getD j 0)))
    hb hdvd (fun n u hn hu => by
      simp only [raise_zero, if_true]
      exact congrArg _ (hu.vGet_of_ne hb hda (hmem n hn))) _ (length_actives_le t b)
  rw [flagsBelow_zero_flags] at hlanes
  refine (congrArg (fun r => t.Lanes _ d (2 ^ t.csew) r 0) (funext fun j => ?_)).mp hlanes
  simp only [lanesBelow, List.getD_eq_getElem?_getD, vGet_mod, and_true]
  split
  · next h => rw [List.getElem?_eq_getElem h]; rfl
  · next h => rw [List.getElem?_eq_none (by omega)]; rfl

/-- VCOMPACT writes the elements of its source that its mask names, in their order, from element 0 on. -/
theorem vcompact_moves {s : State} (hidle : Idle s) (o : OpVcompact) (hd : groupAt s.cur (pD o.p o.d) 1) (ha : groupAt s.cur (pA o.p o.a) 1)
    (hda : pD o.p o.d ≠ pA o.p o.a) :
    Performs (.vcompact o) s (if o.p.isSome then 8 else 4) fun v => s.cur.Lanes v (pD o.p o.d) (2 ^ s.cur.csew)
      (fun j => ((s.cur.actives o.b)[j]?).map (fun i => s.cur.vGet s.cur.cnreg (pA o.p o.a) (2 ^ s.cur.csew) i)) 0 := by
  refine performs_rewrites (op := .compact (pD o.p o.d) (pA o.p o.a) o.b) hidle (commits_of_idle hidle (exec_vcompact s o) nofun
    (groupsOk_permute rfl rfl hd ha hda (fun _ h => absurd h List.not_mem_nil) fun _ => rfl) rfl) rfl ?_
  rw [whole_compact rfl]
  exact lanes_compact (hidle.banked.started _ _ _ _ _) hda o.b

/-! The queue moves -/

/-- A fold over the active elements is a loop over all elements that passes over the others. -/
theorem foldl_actives {σ : Type} (t : Thread) (k : Nat) (f : σ → Nat → σ) (s : σ) :
    (t.actives k).foldl f s = forUp 0 t.vl (fun i s => if t.active k i then f s i else s) s := by
  rw [Thread.actives, List.foldl_filter, forUp_eq_foldl, List.range_eq_range']

theorem qPop_eq (t : Thread) (q : Nat) (r : List Word) : t.qPop q r = { t with q := (t.qPop q r).q, qbad := (t.qPop q r).qbad } := by
  rw [Thread.qPop]
  split <;> rfl

theorem q_qPop (t : Thread) (q : Nat) (r : List Word) : (t.qPop q r).q = tset t.q q r [] := by
  rw [Thread.qPop]
  split <;> rfl

theorem qbad_qPop (t : Thread) (q : Nat) (r : List Word) : (t.qPop q r).qbad =
    if t.qbad.isEmpty then t.qbad else tset t.qbad q ((tget t.qbad q []).filterMap (fun i => if i = 0 then none else some (i - 1))) [] := by
  rw [Thread.qPop]
  exact apply_ite _ _ _ _

theorem rq_qPop (t : Thread) (q : Nat) (r : List Word) (n : Nat) : (t.qPop q r).rq n = if n = q then r else t.rq n := by
  rw [← Thread.rq_wq, Thread.qPop]
  split <;> rfl

/-- Taking the head of a queue moves every error behind it one entry nearer. -/
theorem mem_qbad_qPop {t : Thread} {q : Nat} (r : List Word) (n j : Nat) :
    j ∈ tget (t.qPop q r).qbad n [] ↔ if n = q then j + 1 ∈ tget t.qbad n [] else j ∈ tget t.qbad n [] := by
  rw [Thread.qPop]
  split
  · next h =>
    have hnil : ∀ m, tget t.qbad m [] = [] := fun m => by rw [show t.qbad = [] from List.isEmpty_iff.mp h]; rfl
    have hwq : (t.wq q r).qbad = t.qbad := rfl
    rw [hwq, hnil]
    simp
  · rw [show (t.wq q r).qbad = t.qbad from rfl, tget_tset]
    by_cases hn : n = q
    · rw [if_pos hn, if_pos hn, hn, List.mem_filterMap]
      constructor
      · rintro ⟨i, hi, hij⟩
        split at hij
        · exact absurd hij nofun
        · rw [show j + 1 = i by have := Option.some.inj hij; omega]
          exact hi
      · exact fun hj => ⟨j + 1, hj, by simp⟩
    · rw [if_neg hn, if_neg hn]

/-- Lanes of a thread are lanes of it with other queues. -/
theorem Thread.Lanes.with_queues {t u : Thread} {d w : Nat} {val : Nat → Option Nat} {fl : FFlags} {q q' : Table (List Word)} {b b' : Table (List Nat)}
    (h : ({ t with q := q', qbad := b' } : Thread).Lanes u d w val fl) :
    ({ t with q := q, qbad := b } : Thread).Lanes { u with q := q, qbad := b } d w val fl := by
  obtain ⟨hrec, hval, hframe⟩ := h
  refine ⟨?_, hval, hframe⟩
  rw [hrec]

/-- The thread after a queue head has gone to every active element of register `d`. -/
def Thread.spread (t : Thread) (e : VEntry) (d q : Nat) (v : Word) (r : List Word) : Thread :=
  ((t.qPop q r).actives e.k).foldl (fun u i => u.vPut e.nreg d (2 ^ e.sew) i (v.toNat % 2 ^ (8 * 2 ^ e.sew))) (t.qPop q r)

theorem vTry_qget {s : State} {h : Nat} {e : VEntry} {d q : Nat} {v : Word} {r : List Word} (hbad : e.bad = false) (he : e.op = .qget d q)
    (hq : (s.thr h).rq q = v :: r) (hhead : (s.thr h).headBad q = false) (hs : ((s.thr h).spread e d q v r).vSound = true) :
    s.vTry h e = .done ((s.setThr h ((s.thr h).spread e d q v r)).countGroups h e 0 ((s.thr h).spread e d q v r).vl) := by
  rw [Thread.spread] at hs ⊢
  rw [State.vTry, hbad, if_neg Bool.false_ne_true, he]
  dsimp only
  rw [hq]
  dsimp only
  rw [hhead, if_neg Bool.false_ne_true, vHeal_of_sound hs]

theorem lanes_actives {t : Thread} (hb : t.Banked) {d x : Nat} (k : Nat) (hx : x < 2 ^ (8 * 2 ^ t.csew)) :
    t.Lanes ((t.actives k).foldl (fun u i => u.vPut t.cnreg d (2 ^ t.csew) i x) t) d (2 ^ t.csew)
      (fun j => if t.writes k j then some x else none) 0 := by
  have hlanes := lanes_forUp (d := d) (on := t.writes k) (fl := fun _ => 0) (val := fun _ => x)
    (step := fun i u => if t.active k i then u.vPut t.cnreg d (2 ^ t.csew) i x else u)
    hb ((pow_dvd_pow 2 hb.sew).trans hb.words) (fun n u hn _ => by rw [writes_of_lt hn, raise_zero]) t.vl le_rfl
  rw [flagsBelow_zero_flags, lanesBelow_of_lt fun j h => lt_of_writes h] at hlanes
  rw [foldl_actives]
  simpa only [Nat.mod_eq_of_lt hx] using hlanes

theorem Thread.Banked.qPop {t : Thread} (hb : t.Banked) (q : Nat) (r : List Word) : (t.qPop q r).Banked := by
  rw [qPop_eq]
  exact ⟨hb.small, hb.words, hb.sew, hb.fits, hb.vl⟩

/-- The queues that an instruction has taken from, and the elements that it has written. -/
theorem spread_lanes {s : State} (hb : s.cur.Banked) (len : Nat) (op : VOp) (k rm d q : Nat) (v : Word) (r : List Word) :
    let st := s.started len op k rm none
    let u := st.spread (s.begun op k rm) d q v r
    st.ResultsIn u ∧ u.vSound = st.vSound ∧ u.q = (s.cur.qPop q r).q ∧ u.qbad = (s.cur.qPop q r).qbad ∧
      s.cur.Lanes { u.settledAs s.cur with q := s.cur.q, qbad := s.cur.qbad } d (2 ^ s.cur.csew)
        (fun j => if s.cur.writes k j then some (v.toNat % 2 ^ (8 * 2 ^ s.cur.csew)) else none) 0 := by
  intro st u
  have hst : st.qPop q r = { st with q := (s.cur.qPop q r).q, qbad := (s.cur.qPop q r).qbad } := by
    rw [qPop_eq, q_qPop, qbad_qPop, q_qPop, qbad_qPop]
    rfl
  have hlanes : ({ st with q := (s.cur.qPop q r).q, qbad := (s.cur.qPop q r).qbad } : Thread).Lanes u d (2 ^ s.cur.csew)
      (fun j => if s.cur.writes k j then some (v.toNat % 2 ^ (8 * 2 ^ s.cur.csew)) else none) 0 := by
    have h := lanes_actives ((hb.started len op k rm none).qPop q r) (d := d) k (Nat.mod_lt v.toNat (Nat.two_pow_pos _))
    dsimp only [u]
    rw [Thread.spread, hst]
    rw [hst] at h
    exact h
  obtain ⟨hrec, -, -⟩ := id hlanes
  have hown : st.Lanes { u with q := s.cur.q, qbad := s.cur.qbad } d (2 ^ s.cur.csew)
      (fun j => if s.cur.writes k j then some (v.toNat % 2 ^ (8 * 2 ^ s.cur.csew)) else none) 0 := hlanes.with_queues
  refine ⟨?_, ?_, ?_, ?_, hown.settled⟩
  · rw [Thread.ResultsIn, hrec]
  · exact hlanes.sound
  · rw [hrec]
  · rw [hrec]

theorem vqget_performs {s : State} (hidle : Idle s) (o : OpVqget) {v : Word} {r : List Word} (hget : s.cur.qMayGet o.q 1 = true)
    (hq : s.cur.rq o.q = v :: r) (h0 : 0 ∉ tget s.cur.qbad o.q []) (hd : groupAt s.cur (pD o.p o.d) 1) :
    Performs (.vqget o) s (if o.p.isSome then 8 else 4) fun u =>
      (∀ n, u.rq n = if n = o.q then r else s.cur.rq n) ∧
      (∀ n j, j ∈ tget u.qbad n [] ↔ if n = o.q then j + 1 ∈ tget s.cur.qbad n [] else j ∈ tget s.cur.qbad n []) ∧
      s.cur.Lanes { u with q := s.cur.q, qbad := s.cur.qbad } (pD o.p o.d) (2 ^ s.cur.csew)
        (fun j => if s.cur.writes o.k j then some (v.toNat % 2 ^ (8 * 2 ^ s.cur.csew)) else none) 0 := by
  have hhead : s.cur.headBad o.q = false := by
    rw [Thread.headBad, shas, List.any_eq_false]
    exact fun i hi h => h0 (of_decide_eq_true h ▸ hi)
  refine performs_of_tries (op := .qget (pD o.p o.d) o.q) hidle (commits_of_idle hidle (exec_vqget s o) nofun
    (groupsOk_assign (p := none) (ok := 1) (b := 0) rfl (fun _ h => absurd h List.not_mem_nil) hd (fun h => absurd h Nat.one_ne_zero) fun _ => rfl)
    hget) fun q hst => ?_
  obtain ⟨hres, hsound, hqs, hbads, hlanes⟩ := spread_lanes hidle.banked (if o.p.isSome then 8 else 4) (.qget (pD o.p o.d) o.q) o.k
    (if (o.p.map (·.rm)).getD 7 = 7 then s.cur.frm else (o.p.map (·.rm)).getD 7) (pD o.p o.d) o.q v r
  refine ⟨_, _, _, vTry_qget (v := v) (r := r) rfl rfl (by rw [hst]; exact hq) (by rw [hst]; exact hhead)
    (by rw [hst]; exact hsound.trans hidle.sound), ?_, fun n => ?_, fun n j => ?_, ?_⟩ <;> rw [hst]
  · exact hres
  · exact (congrArg (fun x => tget x n []) hqs).trans (rq_qPop _ _ _ _)
  · exact (iff_of_eq (congrArg (fun x => j ∈ tget x n []) hbads)).trans (mem_qbad_qPop r n j)
  · exact hlanes

theorem vTry_qput {s : State} {h : Nat} {e : VEntry} {a j q : Nat} (hbad : e.bad = false) (he : e.op = .qput q a j)
    (hroom : ((s.thr h).rq q).length < 16) (hs : (s.thr h).vSound = true) :
    s.vTry h e = .done ((s.setThr h ((s.thr h).qPush q (if j < (s.thr h).mvl then toW ((s.thr h).vGet e.nreg a (2 ^ e.sew) j) else 0))).countGroups
      h e 0 (e.op.passes (s.thr h).vl)) := by
  rw [State.vTry, hbad, if_neg Bool.false_ne_true, he]
  dsimp only
  rw [if_neg (show ¬decide (16 ≤ _) = true by rw [decide_eq_true_eq]; omega), poisonStop_of_sound hs]
  rfl

theorem qPush_eq (t : Thread) (q : Nat) (v : Word) : t.qPush q v = { t with q := (t.qPush q v).q, event := (t.qPush q v).event } := by
  rw [Thread.qPush]
  split <;> rfl

theorem q_qPush (t : Thread) (q : Nat) (v : Word) : (t.qPush q v).q = tset t.q q (t.rq q ++ [v]) [] := by
  rw [Thread.qPush]
  split <;> rfl

theorem rq_qPush (t : Thread) (q : Nat) (v : Word) (n : Nat) : (t.qPush q v).rq n = if n = q then t.rq n ++ [v] else t.rq n := by
  have h : (t.qPush q v).rq n = (t.wq q (t.rq q ++ [v])).rq n := congrArg (fun x => tget x n []) (q_qPush t q v)
  rw [h, Thread.rq_wq]
  split
  · next hn => rw [hn]
  · rfl

theorem vqput_performs {s : State} (hidle : Idle s) (o : OpVqput) (hput : s.cur.qMayPut o.q 1 = true) (hroom : (s.cur.rq o.q).length < 16)
    (ha : groupAt s.cur (pA o.p o.a) 1) :
    let n := s.cur.vCount o.ok o.b
    Performs (.vqput o) s (if o.p.isSome then 8 else 4) fun u =>
      { u with q := s.cur.q, event := s.cur.event } = s.cur ∧
      (∀ m, u.rq m = if m = o.q then s.cur.rq m ++
        [BitVec.ofNat 64 (if n < s.cur.mvl then s.cur.vGet s.cur.cnreg (pA o.p o.a) (2 ^ s.cur.csew) n else 0)] else s.cur.rq m) := by
  intro n
  have hval : (if n < s.cur.mvl then toW (s.cur.vGet s.cur.cnreg (pA o.p o.a) (2 ^ s.cur.csew) n) else 0) =
      BitVec.ofNat 64 (if n < s.cur.mvl then s.cur.vGet s.cur.cnreg (pA o.p o.a) (2 ^ s.cur.csew) n else 0) := by
    split <;> rfl
  refine performs_of_tries (op := .qput o.q (pA o.p o.a) n) hidle (commits_of_idle hidle (exec_vqput s o) nofun
    (groupsOk_source rfl rfl ha) hput) fun q hst => ?_
  refine ⟨_, _, _, vTry_qput rfl rfl (by rw [hst]; exact hroom) (by rw [hst]; exact hidle.sound), ?_, ?_, fun m => ?_⟩ <;> rw [hst, qPush_eq]
  · rfl
  · rfl
  · rw [← hval, ← rq_qPush, Thread.rq, Thread.rq, q_qPush, Thread.settledAs, q_qPush]
    rfl

/-- Settles O41: each instruction by what it makes of an idle thread. -/
theorem vectorMoves : Obligations.VectorMoves := by
  unfold Obligations.VectorMoves
  intro s hidle
  refine ⟨fun o => ?_, fun o => ?_, fun o hd => ⟨?_, ?_⟩, fun o hd => ?_, fun o ha => ⟨?_, ?_⟩, fun o v r hget hq h0 hd => ?_,
    fun o hput hroom ha => ?_⟩
  · intro d a n hd ha hda
    refine ⟨vshup_moves hidle o hd ha hda, vshdn_moves hidle o hd ha hda, fun hok => ?_, fun hok hb hdb => ?_⟩
    · have hn : (s.cur.rx o.b).toNat = n := (if_pos hok).symm
      rw [← hn]
      exact vpick_moves_val hidle o (x := s.cur.rx o.b) (by rw [hok]; rfl) hd ha hda
    · exact vpick_moves_reg hidle o hok hd ha hb hda hdb
  · intro l hd ha hda
    exact vcompact_moves hidle o hd ha hda
  · exact vassign_moves hidle o hd
  · exact fun hok => vramp_moves hidle o hok hd
  · exact vrand_moves hidle o hd
  · exact vgetx_performs hidle o ha
  · exact vgetf_performs hidle o ha
  · exact vqget_performs hidle o hget hq h0 hd
  · exact vqput_performs hidle o hput hroom ha

end Sys2Proof.Machine
end

section
/-! Vector reductions and scans (R58, R59, R342 to R344) -/

namespace Sys2Proof.Machine

/-! Folds -/

theorem sextW_eq_ofInt (w n : Nat) : sextW w n = BitVec.ofInt 64 (sx w n) := toW_wrap _

/-- The least of two numbers as signed words of `w` bits, the first where they are equal. -/
def minSx (w a b : Nat) : Nat := if sx w b < sx w a then b else a

theorem sx_minSx (w a b : Nat) : sx w (minSx w a b) = min (sx w a) (sx w b) := by
  unfold minSx
  split <;> omega

theorem minSx_assoc (w a b c : Nat) : minSx w (minSx w a b) c = minSx w a (minSx w b c) := by
  unfold minSx
  grind

theorem sx_foldl_minSx (w s : Nat) (l : List Nat) : sx w (l.foldl (minSx w) s) = (l.map (sx w)).foldl min (sx w s) := by
  induction l generalizing s with
  | nil => rfl
  | cons a l ih => rw [List.foldl_cons, ih, List.map_cons, List.foldl_cons, sx_minSx]

theorem addMod_assoc (m a b c : Nat) : ((a + b) % m + c) % m = (a + (b + c) % m) % m := by
  rw [Nat.mod_add_mod, Nat.add_mod_mod, Nat.add_assoc]

/-- The elements of register `a` that a fold takes. -/
def Thread.taken (t : Thread) (a k : Nat) : List Nat := (t.actives k).map (fun j => t.vGet t.cnreg a (2 ^ t.csew) j)

/-- What a fold makes of its thread. -/
theorem whole_fold {t : Thread} {e : VEntry} {op d a : Nat} {x : Word} {fp : Bool} (he : e.op = .fold op d a x fp) (hn : e.nreg = t.cnreg)
    (hs : e.sew = t.csew) {r : Nat × FFlags}
    (hr : foldTree (foldOp op t.csew e.rm fp) (x.toNat % 2 ^ (8 * 2 ^ t.csew)) (t.taken a e.k) (t.taken a e.k).length = r) :
    t.whole e = (if fp then t.wf d (toW r.1) else t.wx d (sextW (8 * 2 ^ t.csew) r.1)).raise r.2 := by
  rw [Thread.whole, he, hn, hs, ← hr]
  rfl

section
variable {i : Instr} {s : State} {op : Nat} {o : OpV} (hidle : Idle s) (hi : exec i s = vFold op o s) (ha : groupAt s.cur (pA o.p o.a) 1)
include hidle hi ha

/-- A fold of integers by an associative function delivers the fold of its elements. -/
theorem vfold_performs_int {g : Nat → Nat → Nat} (hok : o.ok = 1) (hop : ∀ rm, foldOp op s.cur.csew rm false = fun a b => (g a b, 0))
    (hg : ∀ a b c, g (g a b) c = g a (g b c)) {x : Word}
    (hx : sextW (8 * 2 ^ s.cur.csew) ((s.cur.taken (pA o.p o.a) o.k).foldl g ((s.cur.rx o.b).toNat % 2 ^ (8 * 2 ^ s.cur.csew))) = x) :
    Performs i s (if o.p.isSome then 8 else 4) fun v => { v with x := s.cur.x } = s.cur ∧ ∀ n, v.rx n = xAfter s.cur o.d x n := by
  rw [vFold, hok] at hi
  refine (performs_toX (d := o.d) (x := x) (fl := 0) hidle
    (commits_of_idle hidle hi nofun (groupsOk_source rfl rfl ha) rfl) rfl ?_).mono fun v hv => ?_
  · rw [← hx]
    refine whole_fold (fp := false) (x := s.cur.rx o.b) (a := pA o.p o.a) rfl rfl rfl
      (r := ((s.cur.taken (pA o.p o.a) o.k).foldl g ((s.cur.rx o.b).toNat % 2 ^ (8 * 2 ^ s.cur.csew)), 0)) ?_
    exact (congrArg (fun f => foldTree f _ _ _) (hop _)).trans (foldTree_assoc hg _ _ _ Nat.lt_two_pow_self.le)
  · rwa [with_no_flags] at hv

/-- A fold of floating-point elements delivers their tree, with its flags. -/
theorem vfold_performs_float (hok : o.ok = 3) (hsew : s.cur.csew ≠ 0) :
    let rm := if (o.p.map (·.rm)).getD 7 = 7 then s.cur.frm else (o.p.map (·.rm)).getD 7
    let r := foldTree (foldOp op s.cur.csew rm true) ((s.cur.rf o.b).toNat % 2 ^ (8 * 2 ^ s.cur.csew)) (s.cur.taken (pA o.p o.a) o.k)
      (s.cur.taken (pA o.p o.a) o.k).length
    Performs i s (if o.p.isSome then 8 else 4) fun v => { v with f := s.cur.f } = { s.cur with fstat := s.cur.fstat ||| r.2 } ∧
      ∀ n, v.rf n = fAfter s.cur o.d (BitVec.ofNat 64 r.1) n := by
  intro rm r
  rw [vFold, hok] at hi
  refine performs_toF (d := o.d) (x := BitVec.ofNat 64 r.1) (fl := r.2) hidle
    (commits_of_idle hidle hi nofun (groupsOk_source rfl rfl ha) (decide_eq_true hsew)) rfl ?_
  exact whole_fold (fp := true) (x := s.cur.rf o.b) (a := pA o.p o.a) (r := r) rfl rfl rfl rfl

end

theorem sextW_foldl_add (w s : Nat) (l : List Nat) :
    sextW w (l.foldl (fun a b => (a + b) % 2 ^ w) s) = (BitVec.ofNat w (s + l.sum)).signExtend 64 := by
  rw [sextW_eq, ofNat_foldl_add, BitVec.ofNat_add]

theorem sx_eq (w : Nat) : sx w = fun x => (BitVec.ofNat w x).toInt := funext (sx_eq_toInt w)

theorem sextW_foldl_minSx (w s : Nat) (l : List Nat) :
    sextW w (l.foldl (minSx w) s) = BitVec.ofInt 64 ((l.map fun x => (BitVec.ofNat w x).toInt).foldl min (BitVec.ofNat w s).toInt) := by
  rw [sextW_eq_ofInt, sx_foldl_minSx, sx_eq]

theorem sextW_foldl_maxSx (w s : Nat) (l : List Nat) :
    sextW w (l.foldl (maxSx w) s) = BitVec.ofInt 64 ((l.map fun x => (BitVec.ofNat w x).toInt).foldl max (BitVec.ofNat w s).toInt) := by
  rw [sextW_eq_ofInt, sx_foldl_maxSx, sx_eq]

/-! The index of the greatest element -/

/-- Whether VREDMAXI takes element `i` in place of element `j`. -/
def Thread.beats (t : Thread) (a : Nat) (fp : Bool) (i j : Nat) : Bool :=
  let x := t.vGet t.cnreg a (2 ^ t.csew) j
  let y := t.vGet t.cnreg a (2 ^ t.csew) i
  let f := sewFmt t.csew
  if fp then (isNan (f.decode x) && !isNan (f.decode y)) || valLt true (f.decode x) (f.decode y)
  else decide (sx (8 * 2 ^ t.csew) x < sx (8 * 2 ^ t.csew) y)

theorem redBetter_some {t : Thread} {e : VEntry} (hn : e.nreg = t.cnreg) (hs : e.sew = t.csew) (a : Nat) (fp : Bool) (j i : Nat) :
    t.redBetter e a fp (some j) i = if t.beats a fp i j then some i else some j := by
  rw [Thread.redBetter, hn, hs]
  rfl

theorem redBetter_none (t : Thread) (e : VEntry) (a : Nat) (fp : Bool) (i : Nat) : t.redBetter e a fp none i = some i := rfl

/-- The active elements are those below one of them, itself, and those above it. -/
theorem actives_split {t : Thread} {k i : Nat} (hi : t.writes k i = true) : ∃ l r, t.actives k = l ++ i :: r ∧
    (∀ j ∈ l, t.writes k j = true ∧ j < i) ∧ ∀ j ∈ r, t.writes k j = true ∧ i < j := by
  have hlt := lt_of_writes hi
  have hact : ∀ j, j < t.vl → t.active k j = true → t.writes k j = true := fun j hj h => (writes_of_lt hj k).trans h
  obtain ⟨m, hm⟩ : ∃ m, t.vl = i + (m + 1) := ⟨t.vl - i - 1, by omega⟩
  refine ⟨(List.range i).filter fun j => t.active k j, ((List.range m).map fun j => i + (j + 1)).filter fun j => t.active k j, ?_,
    fun j hj => ?_, fun j hj => ?_⟩
  · have hkeep : t.active k i = true := (writes_of_lt hlt k).symm.trans hi
    rw [Thread.actives, hm, List.range_add, List.range_succ_eq_map, List.filter_append, List.map_cons, List.map_map, Nat.add_zero,
      List.filter_cons_of_pos hkeep]
    rfl
  · obtain ⟨hj, ha⟩ := List.mem_filter.mp hj
    have := List.mem_range.mp hj
    exact ⟨hact j (by omega) ha, this⟩
  · obtain ⟨hj, ha⟩ := List.mem_filter.mp hj
    obtain ⟨x, hx, rfl⟩ := List.mem_map.mp hj
    have := List.mem_range.mp hx
    exact ⟨hact _ (by omega) ha, by omega⟩

section
variable {t : Thread} {e : VEntry} (hn : e.nreg = t.cnreg) (hs : e.sew = t.csew) {a : Nat} {fp : Bool}
include hn hs

/-- What VREDMAXI keeps of a list is an element of it. -/
theorem foldl_redBetter_mem (l : List Nat) (b : Option Nat) :
    l.foldl (t.redBetter e a fp) b = b ∨ ∃ i ∈ l, l.foldl (t.redBetter e a fp) b = some i := by
  induction l generalizing b with
  | nil => exact .inl rfl
  | cons i l ih =>
    rw [List.foldl_cons]
    have hstep : t.redBetter e a fp b i = b ∨ t.redBetter e a fp b i = some i := by
      cases b with
      | none => exact .inr rfl
      | some j =>
        rw [redBetter_some hn hs]
        split
        · exact .inr rfl
        · exact .inl rfl
    rcases ih (t.redBetter e a fp b i) with h | ⟨j, hj, h⟩
    · rw [h]
      exact hstep.imp id fun hi => ⟨i, List.mem_cons_self, hi⟩
    · exact .inr ⟨j, List.mem_cons_of_mem _ hj, h⟩

/-- An element that no later one beats is kept. -/
theorem foldl_redBetter_keep {l : List Nat} {i : Nat} (h : ∀ j ∈ l, t.beats a fp j i = false) :
    l.foldl (t.redBetter e a fp) (some i) = some i := by
  induction l with
  | nil => rfl
  | cons j l ih =>
    rw [List.foldl_cons, redBetter_some hn hs, h j List.mem_cons_self, if_neg Bool.false_ne_true]
    exact ih fun k hk => h k (List.mem_cons_of_mem _ hk)

/-- VREDMAXI keeps an element that beats every active one before it, and that none after it beats. -/
theorem foldl_redBetter_actives {k i : Nat} (hi : t.writes k i = true) (hbefore : ∀ j, t.writes k j = true → j < i → t.beats a fp i j = true)
    (hafter : ∀ j, t.writes k j = true → i < j → t.beats a fp j i = false) :
    (t.actives k).foldl (t.redBetter e a fp) none = some i := by
  obtain ⟨l, r, hsplit, hl, hr⟩ := actives_split hi
  have hgets : t.redBetter e a fp (l.foldl (t.redBetter e a fp) none) i = some i := by
    rcases foldl_redBetter_mem hn hs (a := a) (fp := fp) l none with h | ⟨j, hj, h⟩
    · rw [h, redBetter_none]
    · rw [h, redBetter_some hn hs, hbefore j (hl j hj).1 (hl j hj).2, if_pos rfl]
  rw [hsplit, List.foldl_append, List.foldl_cons, hgets]
  exact foldl_redBetter_keep hn hs fun j hj => hafter j (hr j hj).1 (hr j hj).2

end

/-- The index that VREDMAXI delivers for what it has kept. -/
def indexWord (b : Option Nat) : Word :=
  match b with
  | some i => toW i
  | none => BitVec.allOnes 64

theorem flagsBelow_any (on p : Nat → Bool) (c : FFlags) (n : Nat) :
    flagsBelow on (fun j => if p j then c else 0) n = cond ((List.range n).any fun j => on j && p j) c 0 := by
  induction n with
  | zero => rfl
  | succ n ih =>
    rw [flagsBelow_succ, ih, List.range_succ, List.any_append]
    cases hon : on n <;> cases hp : p n <;> cases (List.range n).any fun j => on j && p j <;> simp [hon, hp]

theorem actives_eq (t : Thread) (k : Nat) : t.actives k = (List.range t.vl).filter (fun j => t.writes k j) :=
  List.filter_congr fun _ hj => (writes_of_lt (List.mem_range.mp hj) k).symm

theorem laneFlags_any (t : Thread) (k : Nat) (p : Nat → Bool) (c : FFlags) :
    t.laneFlags k (fun j => if p j then c else 0) = cond ((t.actives k).any p) c 0 := by
  rw [actives_eq, List.any_filter]
  exact flagsBelow_any (t.writes k) p c t.vl

theorem laneFlags_zero (t : Thread) (k : Nat) : t.laneFlags k (fun _ => 0) = 0 := flagsBelow_zero_flags _ _

theorem sewOf_of_fp {t : Thread} {ok : Nat} {fp : Bool} (hfp : decide (ok = 3) = fp) (hsew : fp = true → t.csew ≠ 0) : sewOf ok t = true := by
  rw [sewOf, hfp, fpSew]
  cases fp
  · rfl
  · exact decide_eq_true (hsew rfl)

/-- VREDMAXI delivers the index that it keeps, and the invalid flag where a floating-point element is a signalling NaN. -/
theorem vredmaxi_performs {s : State} (hidle : Idle s) (o : OpVad) {fp : Bool} (hfp : decide (o.ok = 3) = fp) (hsew : fp = true → s.cur.csew ≠ 0)
    (ha : groupAt s.cur (pA o.p o.a) 1) {b : Option Nat}
    (hb : ∀ e : VEntry, e.nreg = s.cur.cnreg → e.sew = s.cur.csew → (s.cur.actives o.k).foldl (s.cur.redBetter e (pA o.p o.a) fp) none = b) :
    let signalling := fun j => decide ((sewFmt s.cur.csew).decode (s.cur.vGet s.cur.cnreg (pA o.p o.a) (2 ^ s.cur.csew) j) = .nan true)
    let fl := if fp then s.cur.laneFlags o.k (fun j => if signalling j then flNV else 0) else 0
    Performs (.vredmaxi o) s (if o.p.isSome then 8 else 4) fun v =>
      { v with x := s.cur.x } = { s.cur with fstat := s.cur.fstat ||| fl } ∧ ∀ n, v.rx n = xAfter s.cur o.d (indexWord b) n := by
  intro signalling fl
  have hex := exec_vredmaxi s o
  rw [execVredmaxi, hfp] at hex
  have hfl : fl = cond (fp && (s.cur.actives o.k).any signalling) flNV 0 := by
    dsimp only [fl]
    rw [laneFlags_any]
    cases fp <;> rfl
  refine performs_toX (d := o.d) (x := indexWord b) (fl := fl) hidle (commits_of_idle hidle hex nofun (groupsOk_source rfl rfl ha) ?_) rfl ?_
  · exact sewOf_of_fp hfp hsew
  · rw [hfl, ← hb (s.begun (.redmax o.d (pA o.p o.a) fp) o.k _) rfl rfl]
    rfl

/-! Scans -/

theorem forUp_succ_last {σ : Type} (n : Nat) (f : Nat → σ → σ) (s : σ) : forUp 0 (n + 1) f s = f n (forUp 0 n f s) := by
  rw [forUp_eq_foldl, forUp_eq_foldl, ← List.range_eq_range', ← List.range_eq_range', List.range_succ, List.foldl_concat]

/-- A loop that writes the elements of its destination one after another, and carries a value from each to the next. -/
theorem lanes_running {σ : Type} {t : Thread} {d w : Nat} {on : Nat → Bool} {val : Nat → Nat} {fl : Nat → FFlags}
    {step : Thread × σ → Nat → Thread × σ} {acc : Nat → σ} (hb : t.Banked) (hw : w ∣ t.regBytes t.cnreg)
    (hstep : ∀ n u, n < t.vl → t.Lanes u d w (lanesBelow on (fun j => val j % 2 ^ (8 * w)) n) (flagsBelow on fl n) →
      step (u, acc n) n = (if on n then (u.vPut t.cnreg d w n (val n)).raise (fl n) else u, acc (n + 1))) :
    t.Lanes ((List.range t.vl).foldl step (t, acc 0)).1 d w (lanesBelow on (fun j => val j % 2 ^ (8 * w)) t.vl) (flagsBelow on fl t.vl) := by
  have hlanes := lanes_forUp (step := fun n u => (step (u, acc n) n).1) hb hw (fun n u hn hu => by rw [hstep n u hn hu])
  have hfold : ∀ n, n ≤ t.vl → (List.range n).foldl step (t, acc 0) = (forUp 0 n (fun n u => (step (u, acc n) n).1) t, acc n) := fun n hn => by
    induction n with
    | zero => rfl
    | succ n ih =>
      rw [List.range_succ, List.foldl_concat, ih (by omega), forUp_succ_last, hstep n _ (by omega) (hlanes n (by omega))]
  rw [hfold _ le_rfl]
  exact hlanes _ le_rfl

/-- A scan writes every active element with the running value `acc` after it, and raises the flags of its steps. -/
theorem lanes_scan {t : Thread} {e : VEntry} {d a : Nat} {x : Word} {fp : Bool} (hb : t.Banked) (he : e.op = .scan d a x fp)
    (hn : e.nreg = t.cnreg) (hs : e.sew = t.csew) (hda : d ≠ a) {acc : Nat → Nat} (h0 : acc 0 = x.toNat % 2 ^ (8 * 2 ^ t.csew)) {r : Nat → Nat × FFlags}
    (hr : ∀ j, r j = foldOp 0 t.csew e.rm fp (acc j) (t.vGet t.cnreg a (2 ^ t.csew) j))
    (hacc : ∀ j, j < t.vl → acc (j + 1) = if t.writes e.k j then (r j).1 else acc j) :
    t.Lanes (t.whole e) d (2 ^ t.csew) (fun j => if t.writes e.k j then some ((r j).1 % 2 ^ (8 * 2 ^ t.csew)) else none)
      (t.laneFlags e.k fun j => (r j).2) := by
  have hlanes := lanes_running (d := d) (on := t.writes e.k) (val := fun j => (r j).1) (fl := fun j => (r j).2) (acc := acc)
    (step := fun p i => if t.active e.k i then
      (fun r : Nat × FFlags => ((p.1.vPut t.cnreg d (2 ^ t.csew) i r.1).raise r.2, r.1))
        (foldOp 0 t.csew e.rm fp p.2 (p.1.vGet t.cnreg a (2 ^ t.csew) i)) else p)
    hb ((pow_dvd_pow 2 hb.sew).trans hb.words) fun n u hlt hu => ?_
  · rw [lanesBelow_of_lt fun j h => lt_of_writes h, h0] at hlanes
    rw [Thread.whole, he, hn, hs, Thread.actives]
    dsimp only
    rw [List.foldl_filter]
    exact hlanes
  · dsimp only
    rw [hacc n hlt, writes_of_lt hlt, hu.vGet_of_ne hb hda (hlt.trans_le hb.vl), ← hr]
    split <;> rfl

section
variable {s : State} (hidle : Idle s) (o : OpV) (hd : groupAt s.cur (pD o.p o.d) 1) (ha : groupAt s.cur (pA o.p o.a) 1)
  (hda : pD o.p o.d ≠ pA o.p o.a)
include hidle hd ha hda

theorem vscan_performs {fp : Bool} (hfp : decide (o.ok = 3) = fp) (hsew : fp = true → s.cur.csew ≠ 0) {acc : Nat → Nat}
    (h0 : acc 0 = (s.cur.vStart o.ok o.b).toNat % 2 ^ (8 * 2 ^ s.cur.csew)) {r : Nat → Nat × FFlags}
    (hr : ∀ j, r j = foldOp 0 s.cur.csew (if (o.p.map (·.rm)).getD 7 = 7 then s.cur.frm else (o.p.map (·.rm)).getD 7) fp (acc j)
      (s.cur.vGet s.cur.cnreg (pA o.p o.a) (2 ^ s.cur.csew) j))
    (hacc : ∀ j, j < s.cur.vl → acc (j + 1) = if s.cur.writes o.k j then (r j).1 else acc j) :
    Performs (.vscan o) s (if o.p.isSome then 8 else 4) fun v => s.cur.Lanes v (pD o.p o.d) (2 ^ s.cur.csew)
      (fun j => if s.cur.writes o.k j then some ((r j).1 % 2 ^ (8 * 2 ^ s.cur.csew)) else none) (s.cur.laneFlags o.k fun j => (r j).2) := by
  have hex := exec_vscan s o
  rw [execVscan, hfp] at hex
  refine performs_rewrites (op := .scan (pD o.p o.d) (pA o.p o.a) (s.cur.vStart o.ok o.b) fp) hidle (commits_of_idle hidle hex nofun
    (groupsOk_permute rfl rfl hd ha hda (fun _ h => absurd h List.not_mem_nil) fun _ => rfl) ?_) rfl ?_
  · exact sewOf_of_fp hfp hsew
  · exact lanes_scan (hidle.banked.started _ _ _ _ _) rfl rfl rfl hda h0 hr hacc

end

/-- The elements below `n` that an instruction takes, in their order. -/
def Thread.scanned (t : Thread) (a k n : Nat) : List Nat :=
  ((List.range n).filter (fun j => t.writes k j)).map (fun j => t.vGet t.cnreg a (2 ^ t.csew) j)

theorem scanned_succ (t : Thread) (a k n : Nat) :
    t.scanned a k (n + 1) = if t.writes k n then t.scanned a k n ++ [t.vGet t.cnreg a (2 ^ t.csew) n] else t.scanned a k n := by
  rw [Thread.scanned, List.range_succ, List.filter_append, List.filter_singleton, List.map_append]
  split
  · next h => rw [h]; rfl
  · next h => rw [Bool.eq_false_of_not_eq_true h]; exact List.append_nil _

section
variable {s : State} (hidle : Idle s) (o : OpV) (hd : groupAt s.cur (pD o.p o.d) 1) (ha : groupAt s.cur (pA o.p o.a) 1)
  (hda : pD o.p o.d ≠ pA o.p o.a)
include hidle hd ha hda

theorem vscan_performs_int (hok : o.ok = 1) :
    Performs (.vscan o) s (if o.p.isSome then 8 else 4) fun v => s.cur.Lanes v (pD o.p o.d) (2 ^ s.cur.csew)
      (fun j => if s.cur.writes o.k j then
        some (((s.cur.rx o.b).toNat + (s.cur.scanned (pA o.p o.a) o.k (j + 1)).sum) % 2 ^ (8 * 2 ^ s.cur.csew)) else none) 0 := by
  have hstart : s.cur.vStart o.ok o.b = s.cur.rx o.b := if_pos hok
  have hstep : ∀ j, s.cur.writes o.k j = true →
      ((s.cur.rx o.b).toNat + (s.cur.scanned (pA o.p o.a) o.k (j + 1)).sum) % 2 ^ (8 * 2 ^ s.cur.csew) =
        (((s.cur.rx o.b).toNat + (s.cur.scanned (pA o.p o.a) o.k j).sum) % 2 ^ (8 * 2 ^ s.cur.csew) +
          s.cur.vGet s.cur.cnreg (pA o.p o.a) (2 ^ s.cur.csew) j) % 2 ^ (8 * 2 ^ s.cur.csew) := fun j hj => by
    rw [scanned_succ, if_pos hj, List.sum_append, List.sum_singleton, Nat.mod_add_mod, Nat.add_assoc]
  have h := vscan_performs hidle o hd ha hda (fp := false) (by rw [hok]; rfl) (fun h => absurd h Bool.false_ne_true)
    (acc := fun j => ((s.cur.rx o.b).toNat + (s.cur.scanned (pA o.p o.a) o.k j).sum) % 2 ^ (8 * 2 ^ s.cur.csew))
    (by rw [hstart]; rfl) (fun _ => rfl) fun j _ => ?_
  · rw [show (s.cur.laneFlags o.k fun j => (foldOp 0 s.cur.csew _ false _ _).2) = 0 from laneFlags_zero _ _] at h
    refine h.mono fun v hv => (congrArg (fun val => s.cur.Lanes v _ _ val 0) (funext fun j => ?_)).mp hv
    split
    · next hj =>
      rw [hstep j hj]
      exact congrArg some (Nat.mod_mod _ _)
    · rfl
  · split
    · next hj => exact hstep j hj
    · next hj => rw [scanned_succ, if_neg hj]

theorem vscan_performs_float (hok : o.ok = 3) (hsew : s.cur.csew ≠ 0) :
    let add := (sewFmt s.cur.csew).add (if (o.p.map (·.rm)).getD 7 = 7 then s.cur.frm else (o.p.map (·.rm)).getD 7)
    let before := fun (j : Nat) => (s.cur.scanned (pA o.p o.a) o.k j).foldl (fun x y => (add x y).1)
      ((s.cur.rf o.b).toNat % 2 ^ (8 * 2 ^ s.cur.csew))
    let el := fun (j : Nat) => s.cur.vGet s.cur.cnreg (pA o.p o.a) (2 ^ s.cur.csew) j
    Performs (.vscan o) s (if o.p.isSome then 8 else 4) fun v => s.cur.Lanes v (pD o.p o.d) (2 ^ s.cur.csew)
      (fun j => if s.cur.writes o.k j then some ((add (before j) (el j)).1 % 2 ^ (8 * 2 ^ s.cur.csew)) else none)
      (s.cur.laneFlags o.k fun j => (add (before j) (el j)).2) := by
  intro add before el
  have hstart : s.cur.vStart o.ok o.b = s.cur.rf o.b := if_neg (by omega)
  refine vscan_performs hidle o hd ha hda (fp := true) (by rw [hok]; rfl) (fun _ => hsew) (acc := before) (by rw [hstart]; rfl)
    (r := fun j => add (before j) (el j)) (fun _ => rfl) fun j _ => ?_
  dsimp only [before]
  rw [scanned_succ]
  split
  · exact List.foldl_concat _ _ _ _
  · rfl

end

/-- Among integers, an element that is not below another one is not beaten by it. -/
theorem beats_int (t : Thread) (a i j : Nat) : t.beats a false i j = decide
    ((BitVec.ofNat (8 * 2 ^ t.csew) (t.vGet t.cnreg a (2 ^ t.csew) j)).toInt < (BitVec.ofNat (8 * 2 ^ t.csew) (t.vGet t.cnreg a (2 ^ t.csew) i)).toInt) := by
  rw [Thread.beats, sx_eq_toInt, sx_eq_toInt]
  rfl

theorem beats_float (t : Thread) (a i j : Nat) : t.beats a true i j =
    ((isNan ((sewFmt t.csew).decode (t.vGet t.cnreg a (2 ^ t.csew) j)) && !isNan ((sewFmt t.csew).decode (t.vGet t.cnreg a (2 ^ t.csew) i))) ||
      valLt true ((sewFmt t.csew).decode (t.vGet t.cnreg a (2 ^ t.csew) j)) ((sewFmt t.csew).decode (t.vGet t.cnreg a (2 ^ t.csew) i))) := rfl

theorem valLt_nan_left {x y : FVal} (h : isNan x = true) : valLt true x y = false := by
  cases x with
  | nan => rfl
  | inf => exact absurd h Bool.false_ne_true
  | fin => exact absurd h Bool.false_ne_true

theorem valLt_nan_right {x y : FVal} (h : isNan y = true) : valLt true x y = false := by
  cases y with
  | nan => cases x <;> rfl
  | inf => exact absurd h Bool.false_ne_true
  | fin => exact absurd h Bool.false_ne_true

theorem actives_of_none {t : Thread} {k : Nat} (h : ∀ j, t.writes k j = false) : t.actives k = [] := by
  rw [actives_eq, List.filter_eq_nil_iff]
  exact fun j _ => by rw [h j]; exact Bool.false_ne_true

theorem sewFmt_eq (n : Nat) : sewFmt n = if n = 1 then f16 else if n = 2 then f32 else f64 := by
  rw [sewFmt.eq_def]
  split
  · rfl
  · rfl
  · next h1 h2 => rw [if_neg h1, if_neg h2]

section
variable {s : State} (hidle : Idle s) (o : OpVad) (ha : groupAt s.cur (pA o.p o.a) 1)
include hidle ha

/-- VREDMAXI of integers. -/
theorem vredmaxi_performs_int (hok : o.ok = 1) {b : Option Nat}
    (hb : ∀ e : VEntry, e.nreg = s.cur.cnreg → e.sew = s.cur.csew → (s.cur.actives o.k).foldl (s.cur.redBetter e (pA o.p o.a) false) none = b) :
    Performs (.vredmaxi o) s (if o.p.isSome then 8 else 4) fun v =>
      { v with x := s.cur.x } = s.cur ∧ ∀ n, v.rx n = xAfter s.cur o.d (indexWord b) n := by
  refine (vredmaxi_performs hidle o (fp := false) (by rw [hok]; rfl) (fun h => absurd h Bool.false_ne_true) ha hb).mono fun v hv => ?_
  rwa [if_neg Bool.false_ne_true, with_no_flags] at hv

/-- VREDMAXI of floating-point elements. -/
theorem vredmaxi_performs_float (hok : o.ok = 3) (hsew : s.cur.csew ≠ 0) {b : Option Nat}
    (hb : ∀ e : VEntry, e.nreg = s.cur.cnreg → e.sew = s.cur.csew → (s.cur.actives o.k).foldl (s.cur.redBetter e (pA o.p o.a) true) none = b) :
    let fl := fun j => if (sewFmt s.cur.csew).decode (s.cur.vGet s.cur.cnreg (pA o.p o.a) (2 ^ s.cur.csew) j) = .nan true then flNV else 0
    Performs (.vredmaxi o) s (if o.p.isSome then 8 else 4) fun v =>
      { v with x := s.cur.x } = { s.cur with fstat := s.cur.fstat ||| s.cur.laneFlags o.k fl } ∧
      ∀ n, v.rx n = xAfter s.cur o.d (indexWord b) n := by
  intro fl
  have h := vredmaxi_performs hidle o (fp := true) (by rw [hok]; rfl) (fun _ => hsew) ha hb
  simp only [if_true, decide_eq_true_eq] at h
  exact h

end

/-- Settles O42: folds by the tree of R58, VREDMAXI by the element that every other one yields to, scans by the running value. -/
theorem vectorReductions : Obligations.VectorReductions := by
  unfold Obligations.VectorReductions
  intro s hidle t w f len rm sgn at' toX toF
  have hf : sewFmt s.cur.csew = f := sewFmt_eq _
  refine ⟨fun o hok ha => ⟨?_, ?_, ?_⟩, fun o hok hsew ha => ?_, fun o hok ha => ⟨fun hnone => ?_, fun i hi hmax => ?_⟩,
    fun o hok hsew ha => ⟨fun hnone => ?_, fun i hi hnan hleast => ?_, fun i hi hmax => ?_⟩, fun o hd ha hda => ⟨fun hok => ?_, fun hok hsew => ?_⟩⟩
  · exact vfold_performs_int hidle (exec_vfoldadd s o) ha hok (fun _ => rfl) (addMod_assoc _) (sextW_foldl_add _ _ _)
  · exact vfold_performs_int hidle (exec_vfoldmin s o) ha hok (fun _ => rfl) (minSx_assoc _) (sextW_foldl_minSx _ _ _)
  · exact vfold_performs_int hidle (exec_vfoldmax s o) ha hok (fun _ => rfl) (maxSx_assoc _) (sextW_foldl_maxSx _ _ _)
  · rw [← hf]
    have hadd := vfold_performs_float hidle (exec_vfoldadd s o) ha hok hsew
    have hmin := vfold_performs_float hidle (exec_vfoldmin s o) ha hok hsew
    have hmax := vfold_performs_float hidle (exec_vfoldmax s o) ha hok hsew
    exact ⟨hadd, hmin, hmax⟩
  · exact vredmaxi_performs_int hidle o ha hok (b := none) fun e hn hs => by rw [actives_of_none hnone]; rfl
  · refine vredmaxi_performs_int hidle o ha hok (b := some i) fun e hn hs => foldl_redBetter_actives hn hs hi (fun j hj hlt => ?_) fun j hj _ => ?_
    · rw [beats_int]
      exact decide_eq_true ((hmax j hj).2 hlt)
    · rw [beats_int]
      exact decide_eq_false (not_lt.mpr (hmax j hj).1)
  · rw [← hf]
    exact vredmaxi_performs_float hidle o ha hok hsew (b := none) fun e hn hs => by rw [actives_of_none hnone]; rfl
  · rw [← hf] at hnan ⊢
    have hnans : ∀ j, t.writes o.k j = true → isNan ((sewFmt s.cur.csew).decode (t.vGet t.cnreg (pA o.p o.a) (2 ^ t.csew) j)) = true := fun j hj => by
      simpa [hj] using hnan j
    refine vredmaxi_performs_float hidle o ha hok hsew (b := some i) fun e hn hs => foldl_redBetter_actives hn hs hi (fun j hj hlt => ?_) fun j hj _ => ?_
    · exact absurd hj (by rw [hleast j hlt]; exact Bool.false_ne_true)
    · rw [beats_float, hnans j hj, valLt_nan_left (hnans i hi), Bool.not_true, Bool.and_false]
      rfl
  · rw [← hf] at hi hmax ⊢
    obtain ⟨hon, hnum⟩ := hi
    refine vredmaxi_performs_float hidle o ha hok hsew (b := some i) fun e hn hs => foldl_redBetter_actives hn hs hon (fun j hj hlt => ?_) fun j hj _ => ?_
    · rw [beats_float, hnum]
      cases hnan : isNan ((sewFmt t.csew).decode (t.vGet t.cnreg (pA o.p o.a) (2 ^ t.csew) j)) with
      | true => rfl
      | false => exact (hmax j ⟨hj, hnan⟩).2 hlt
    · rw [beats_float, hnum, Bool.false_and, Bool.false_or]
      cases hnan : isNan ((sewFmt t.csew).decode (t.vGet t.cnreg (pA o.p o.a) (2 ^ t.csew) j)) with
      | true => exact valLt_nan_right hnan
      | false => exact (hmax j ⟨hj, hnan⟩).1
  · exact vscan_performs_int hidle o hd ha hda hok
  · rw [← hf]
    exact vscan_performs_float hidle o hd ha hda hok hsew

end Sys2Proof.Machine
end

section
/-! Vector floating point: arithmetic, functions of one operand, and conversions (R316, R317, R326 to R331) -/

namespace Sys2Proof.Machine

/-- The rounding mode of a vector instruction: that of its modifier word, or of FMODE (R47). -/
def Thread.rounding (t : Thread) (p : Option Modifier) : Nat := if (p.map (·.rm)).getD 7 = 7 then t.frm else (p.map (·.rm)).getD 7

/-- An elementwise instruction of an idle thread that writes every active element, and raises flags. -/
theorem performs_lanes {i : Instr} {s : State} {p : Option Modifier} {k d w : Nat} {ok : Thread → Bool} {op : Thread → VOp}
    {r : Nat → Nat × FFlags} (hidle : Idle s) (hi : exec i s = vCommit p k ok op none s) (hop : (op s.cur).elementwise = true)
    (hok : ok s.cur = true) (hg : (op s.cur).groupsOk (2 ^ s.cur.csew) (8 * 2 ^ s.cur.cnreg) = true) (hw : w ∣ 8)
    (hstep : ∀ (n : Nat) (u : Thread) (val : Nat → Option Nat) (fl : FFlags), n < s.cur.vl →
      s.cur.Lanes (u.settledAs s.cur) d w val fl → val n = none →
      u.elem (s.begun (op s.cur) k (s.cur.rounding p)) n = (u.vPut s.cur.cnreg d w n (r n).1).raise (r n).2) :
    Performs i s (if p.isSome then 8 else 4) fun v => s.cur.Lanes v d w
      (fun j => if s.cur.writes k j then some ((r j).1 % 2 ^ (8 * w)) else none) (s.cur.laneFlags k fun j => (r j).2) := by
  have hbw : ∀ n scope target l, op s.cur ≠ .barWait n scope target l := by
    intro n scope target l h
    rw [h] at hop
    exact absurd hop Bool.false_ne_true
  refine (performs_elementwise (d := d) (w := w) (on := s.cur.writes k) (val := fun j => (r j).1) (fl := fun j => (r j).2) hidle
    (commits_of_idle hidle hi hbw hg hok) hop (hw.trans hidle.banked.words) fun n u hn hu => ?_).mono fun v hv => ?_
  · have hact : u.active k n = s.cur.writes k n := (hu.active k n).trans (writes_of_lt hn k).symm
    rw [hact]
    exact if_congr Iff.rfl (hstep n u _ _ hn hu (lanesBelow_self _ _ n)) rfl
  · rw [lanesBelow_writes] at hv
    exact hv

theorem sewFmt_width {n : Nat} (h0 : n ≠ 0) (h3 : n ≤ 3) : (sewFmt n).width = 8 * 2 ^ n := by
  obtain rfl | rfl | rfl : n = 1 ∨ n = 2 ∨ n = 3 := by omega
  all_goals rfl

/-- The groups of an operation with one destination group. -/
theorem groupsOk_of_dst {op : VOp} {w c : Nat} {g : VGrp} (hdst : op.dst w = [g]) (hg : g.fits c = true)
    (hsrcs : ∀ x ∈ op.srcs w, x.fits c = true ∧ VGrp.pairOk (op.strictFor x w) g x = true) : op.groupsOk w c = true := by
  rw [VOp.groupsOk, hdst]
  simp only [Bool.and_eq_true, List.all_eq_true, List.mem_append, List.mem_singleton]
  constructor
  · rintro x (rfl | hx)
    · exact hg
    · exact (hsrcs x hx).1
  · rintro _ rfl x hx
    exact (hsrcs x hx).2

theorem groupsOk_flt {t : Thread} {op : VFltOp} {d a b : Nat} {p : Option Modifier} {ok : Nat} (hd : groupAt t d 1) (ha : groupAt t a 1)
    (hb : ok = 0 → groupAt t (pB p b) 1) : (VOp.flt op d a (t.vSrc p ok b false)).groupsOk (2 ^ t.csew) (8 * 2 ^ t.cnreg) = true := by
  refine groupsOk_of_dst (g := ⟨d, 1, 2 ^ t.csew⟩) rfl (fits_of_groupAt hd) fun x hx => ?_
  have hone : ∀ r, groupAt t r 1 → (⟨r, 1, 2 ^ t.csew⟩ : VGrp).fits (8 * 2 ^ t.cnreg) = true ∧
      VGrp.pairOk false ⟨d, 1, 2 ^ t.csew⟩ ⟨r, 1, 2 ^ t.csew⟩ = true := fun r hr => ⟨fits_of_groupAt hr, pairOk_one _ _ _⟩
  have hgroup := all_vSrc_group (t := t) (p := p) (ok := ok) (b := b) (w := 2 ^ t.csew) (zero := false)
    (f := fun g => g.fits (8 * 2 ^ t.cnreg) && VGrp.pairOk false ⟨d, 1, 2 ^ t.csew⟩ g) fun h => Bool.and_eq_true_iff.mpr (hone _ (hb h))
  have hcases : x = ⟨d, 1, 2 ^ t.csew⟩ ∨ x = ⟨a, 1, 2 ^ t.csew⟩ ∨ x ∈ (t.vSrc p ok b false).group 1 (2 ^ t.csew) := by
    cases op <;> simp only [VOp.srcs, List.mem_cons] at hx <;> tauto
  rcases hcases with rfl | rfl | h
  · exact hone d hd
  · exact hone a ha
  · exact Bool.and_eq_true_iff.mp (List.all_eq_true.mp hgroup x h)

/-- While one register is written, an element that has not been written reads as before in every register. -/
theorem Thread.Lanes.reads_one {t u : Thread} {d j : Nat} {val : Nat → Option Nat} {fl : FFlags} (hb : t.Banked)
    (h : t.Lanes u d (2 ^ t.csew) val fl) (hj : j < t.vl) (hv : val j = none) (a : Nat) :
    u.vGet t.cnreg a (2 ^ t.csew) j = t.vGet t.cnreg a (2 ^ t.csew) j := by
  by_cases hda : d = a
  · rw [← hda, h.2.1 j hj, hv]
    rfl
  · exact h.vGet_of_ne hb hda (hj.trans_le hb.vl)

/-- A floating-point operation writes the values of its function, where that is what the model evaluates. -/
theorem vFlt_performs {s : State} (hidle : Idle s) {i : Instr} {op : VFltOp} {o : OpV} (hi : exec i s = vFlt op o s) (hsew : s.cur.csew ≠ 0)
    (hd : groupAt s.cur (pD o.p o.d) 1) (ha : groupAt s.cur (pA o.p o.a) 1) (hb : o.ok = 0 → groupAt s.cur (pB o.p o.b) 1)
    {g : Nat → Nat → Nat → Nat × FFlags} (hg : ∀ a b c, op.eval (sewFmt s.cur.csew) (s.cur.rounding o.p) a b c = g a b c) :
    let r := fun (j : Nat) => g (s.cur.vGet s.cur.cnreg (pA o.p o.a) (2 ^ s.cur.csew) j) (laneB s.cur o.p o.ok o.b false j)
      (s.cur.vGet s.cur.cnreg (pD o.p o.d) (2 ^ s.cur.csew) j)
    Performs i s (if o.p.isSome then 8 else 4) fun v => s.cur.Lanes v (pD o.p o.d) (2 ^ s.cur.csew)
      (fun j => if s.cur.writes o.k j then some ((r j).1 % 2 ^ (8 * 2 ^ s.cur.csew)) else none) (s.cur.laneFlags o.k fun j => (r j).2) := by
  intro r
  have hbk := hidle.banked
  refine performs_lanes hidle hi rfl (decide_eq_true hsew) (groupsOk_flt hd ha hb) (pow_dvd_pow 2 hbk.sew) fun n u val fl hn hu hv => ?_
  have hreads : ∀ a, u.vGet s.cur.cnreg a (2 ^ s.cur.csew) n = s.cur.vGet s.cur.cnreg a (2 ^ s.cur.csew) n := (hu.reads_one hbk hn hv :)
  have hopb : u.opb s.cur.cnreg (s.cur.vSrc o.p o.ok o.b false) (2 ^ s.cur.csew) n = laneB s.cur o.p o.ok o.b false n := (hu.opb_one hbk hn hv :)
  have hval : op.eval (sewFmt s.cur.csew) (s.cur.rounding o.p) (u.vGet s.cur.cnreg (pA o.p o.a) (2 ^ s.cur.csew) n)
      (u.opb s.cur.cnreg (s.cur.vSrc o.p o.ok o.b false) (2 ^ s.cur.csew) n) (u.vGet s.cur.cnreg (pD o.p o.d) (2 ^ s.cur.csew) n) = r n := by
    rw [hreads, hreads, hopb, hg]
  rw [← hval]
  rfl

theorem vFun_performs {s : State} (hidle : Idle s) {i : Instr} {op : VFunOp} {o : OpVun} (hi : exec i s = vFun op o s) (hsew : s.cur.csew ≠ 0)
    (hd : groupAt s.cur (pD o.p o.d) 1) (ha : groupAt s.cur (pA o.p o.a) 1) :
    let r := fun (j : Nat) => vfun op (sewFmt s.cur.csew) (s.cur.rounding o.p) (s.cur.vGet s.cur.cnreg (pA o.p o.a) (2 ^ s.cur.csew) j)
    Performs i s (if o.p.isSome then 8 else 4) fun v => s.cur.Lanes v (pD o.p o.d) (2 ^ s.cur.csew)
      (fun j => if s.cur.writes o.k j then some ((r j).1 % 2 ^ (8 * 2 ^ s.cur.csew)) else none) (s.cur.laneFlags o.k fun j => (r j).2) := by
  intro r
  have hbk := hidle.banked
  have hgroups : (VOp.fun1 op (pD o.p o.d) (pA o.p o.a)).groupsOk (2 ^ s.cur.csew) (8 * 2 ^ s.cur.cnreg) = true :=
    groupsOk_of_dst rfl (fits_of_groupAt hd) fun x hx => by
      rw [List.mem_singleton.mp hx]
      exact ⟨fits_of_groupAt ha, pairOk_one _ _ _⟩
  refine performs_lanes hidle hi rfl (decide_eq_true hsew) hgroups (pow_dvd_pow 2 hbk.sew) fun n u val fl hn hu hv => ?_
  have hread : u.vGet s.cur.cnreg (pA o.p o.a) (2 ^ s.cur.csew) n = s.cur.vGet s.cur.cnreg (pA o.p o.a) (2 ^ s.cur.csew) n :=
    (hu.reads_one hbk hn hv (pA o.p o.a) :)
  dsimp only [r]
  rw [← hread]
  rfl

/-! Conversions -/

theorem cvtWidth_eq (c : Nat) : ∃ n, n ≤ 3 ∧ cvtWidth c = 8 * 2 ^ n := by
  have h : cvtWidth c = 8 * 2 ^ 0 ∨ cvtWidth c = 8 * 2 ^ 1 ∨ cvtWidth c = 8 * 2 ^ 2 ∨ cvtWidth c = 8 * 2 ^ 3 := by
    unfold cvtWidth
    split <;> simp
  rcases h with h | h | h | h
  · exact ⟨0, by omega, h⟩
  · exact ⟨1, by omega, h⟩
  · exact ⟨2, by omega, h⟩
  · exact ⟨3, by omega, h⟩

/-- Registers of one side of a conversion (R329). -/
def Thread.sideRegs (t : Thread) (c : Nat) : Nat := cvtWidth c / (8 * 2 ^ t.csew)

/-- One side of a conversion is a whole number of registers wide, and its elements have at most 8 bytes. -/
theorem sideRegs_spec {t : Thread} {c : Nat} (h : 8 * 2 ^ t.csew ≤ cvtWidth c) :
    cvtWidth c / 8 = t.sideRegs c * 2 ^ t.csew ∧ t.sideRegs c * 2 ^ t.csew ∣ 8 := by
  obtain ⟨m, hm, hc⟩ := cvtWidth_eq c
  have hnm : t.csew ≤ m := by
    rw [hc] at h
    exact (Nat.pow_le_pow_iff_right (by omega)).mp (Nat.le_of_mul_le_mul_left h (by omega))
  obtain ⟨k, hk⟩ := Nat.exists_eq_add_of_le hnm
  have hregs : t.sideRegs c = 2 ^ k := by
    rw [Thread.sideRegs, hc, hk, pow_add, ← Nat.mul_assoc, Nat.mul_div_cancel_left _ (by have := Nat.two_pow_pos t.csew; omega)]
  rw [hregs, hc, Nat.mul_div_cancel_left _ (by omega), ← pow_add, Nat.add_comm k, ← hk]
  exact ⟨rfl, pow_dvd_pow 2 hm⟩

theorem cvtGroup_eq {t : Thread} {c : Nat} (h14 : c ≠ 14) (h : 8 * 2 ^ t.csew ≤ cvtWidth c) (r : Nat) :
    cvtGroup c r (2 ^ t.csew) = ⟨r, t.sideRegs c, t.sideRegs c * 2 ^ t.csew⟩ := by
  rw [cvtGroup, if_neg h14, (sideRegs_spec h).1]
  rfl

/-- An element of a conversion between formats other than e2m1. -/
theorem cvtElem_scalar {t : Thread} {e : VEntry} {dst src : Nat} (hdst : dst ≠ 14) (hsrc : src ≠ 14) (d a u i : Nat) (sat : Bool) :
    t.cvtElem e dst src d a u i sat =
      let r := cvtScalar dst src e.rm sat u (t.vGet e.nreg a (cvtWidth src / 8) i)
      (t.vPut e.nreg d (cvtWidth dst / 8) i r.1).raise r.2 := by
  rw [Thread.cvtElem, if_neg hdst, if_neg hsrc]

/-- The result of a conversion: in each active element the conversion of the element of its source, with the random bits `u`. -/
def ConvertsTo (i : Instr) (s : State) (p : Option Modifier) (dst src d a k : Nat) (u : Nat → Nat) : Prop :=
  let t := s.cur
  let r := fun (j : Nat) => cvtScalar dst src (t.rounding p) (pSat p) (u j) (t.vGet t.cnreg a (t.sideRegs src * 2 ^ t.csew) j)
  Performs i s (if p.isSome then 8 else 4) fun v => t.Lanes v d (t.sideRegs dst * 2 ^ t.csew)
    (fun j => if t.writes k j then some ((r j).1 % 2 ^ (8 * (t.sideRegs dst * 2 ^ t.csew))) else none) (t.laneFlags k fun j => (r j).2)

theorem vfcvt_converts {s : State} (hidle : Idle s) (o : OpVcvt) (hsew : 8 * 2 ^ s.cur.csew = min (cvtWidth o.t) (cvtWidth o.src)) (ht : o.t ≠ 14)
    (hsrc : o.src ≠ 14) (hd : groupAt s.cur (pD o.p o.d) (s.cur.sideRegs o.t)) (ha : groupAt s.cur (pA o.p o.a) (s.cur.sideRegs o.src))
    (hda : s.cur.sideRegs o.t ≠ s.cur.sideRegs o.src ∨ pD o.p o.d ≠ pA o.p o.a →
      groupsApart (pD o.p o.d) (s.cur.sideRegs o.t) (pA o.p o.a) (s.cur.sideRegs o.src)) :
    ConvertsTo (.vfcvt o) s o.p o.t o.src (pD o.p o.d) (pA o.p o.a) o.k fun _ => 0 := by
  unfold ConvertsTo
  intro t r
  obtain ⟨hwd, hnd⟩ := sideRegs_spec (t := s.cur) (c := o.t) (by omega)
  obtain ⟨hws, hna⟩ := sideRegs_spec (t := s.cur) (c := o.src) (by omega)
  have hsame : (pA o.p o.a = pD o.p o.d ∧ s.cur.sideRegs o.src = s.cur.sideRegs o.t) ∨
      groupsApart (pD o.p o.d) (s.cur.sideRegs o.t) (pA o.p o.a) (s.cur.sideRegs o.src) := by
    by_cases h : pA o.p o.a = pD o.p o.d ∧ s.cur.sideRegs o.src = s.cur.sideRegs o.t
    · exact .inl h
    · exact .inr (hda (by omega))
  have hgroups : (VOp.cvt o.t o.src (pD o.p o.d) (pA o.p o.a) (pSat o.p)).groupsOk (2 ^ s.cur.csew) (8 * 2 ^ s.cur.cnreg) = true := by
    refine groupsOk_of_dst (congrArg (fun g => [g]) (cvtGroup_eq ht (by omega) _)) (fits_of_groupAt hd) fun x hx => ?_
    rw [List.mem_singleton.mp hx, cvtGroup_eq hsrc (by omega)]
    refine ⟨fits_of_groupAt ha, ?_⟩
    rcases hsame with ⟨h1, h2⟩ | h
    · rw [h1, h2]
      exact Bool.or_eq_true_iff.mpr (.inr (Bool.and_eq_true_iff.mpr ⟨rfl, decide_eq_true rfl⟩))
    · exact pairOk_of_groupsApart _ h
  refine performs_lanes hidle (exec_vfcvt s o) rfl (decide_eq_true hsew) hgroups hnd fun n u val fl hn hu hv => ?_
  have hread : u.vGet s.cur.cnreg (pA o.p o.a) (s.cur.sideRegs o.src * 2 ^ s.cur.csew) n =
      s.cur.vGet s.cur.cnreg (pA o.p o.a) (s.cur.sideRegs o.src * 2 ^ s.cur.csew) n :=
    (hu.vGet_source hidle.banked hnd hna hsame hn hv :)
  refine (cvtElem_scalar ht hsrc _ _ _ _ _).trans ?_
  rw [hws, hwd]
  dsimp only [r, t]
  rw [← hread]
  rfl

theorem vfcvtRs_converts {s : State} (hidle : Idle s) (o : OpVcvtRs) (hsew : 8 * 2 ^ s.cur.csew = min (cvtWidth o.t) (cvtWidth (rsSrc o.ok)))
    (ht : o.t ≠ 14) (hw : 2 ^ s.cur.csew ≤ 4) (hd : groupAt s.cur (pD (some o.p) o.d) (s.cur.sideRegs o.t))
    (ha : groupAt s.cur (pA (some o.p) o.a) (s.cur.sideRegs (rsSrc o.ok))) (hb : groupAt s.cur (pB (some o.p) o.b) (4 / 2 ^ s.cur.csew))
    (hda : groupsApart (pD (some o.p) o.d) (s.cur.sideRegs o.t) (pA (some o.p) o.a) (s.cur.sideRegs (rsSrc o.ok)))
    (hdb : groupsApart (pD (some o.p) o.d) (s.cur.sideRegs o.t) (pB (some o.p) o.b) (4 / 2 ^ s.cur.csew)) :
    ConvertsTo (.vfcvtRs o) s (some o.p) o.t (rsSrc o.ok) (pD (some o.p) o.d) (pA (some o.p) o.a) o.k
      fun j => s.cur.vGet s.cur.cnreg (pB (some o.p) o.b) 4 j % 2 ^ 16 := by
  unfold ConvertsTo
  intro t r
  have hsrc : rsSrc o.ok ≠ 14 := by
    unfold rsSrc
    split <;> decide
  have h4 : 4 / 2 ^ s.cur.csew * 2 ^ s.cur.csew = 4 := Nat.div_mul_cancel (by
    have hle : s.cur.csew ≤ 2 := (Nat.pow_le_pow_iff_right (a := 2) (by omega)).mp hw
    exact pow_dvd_pow 2 hle)
  obtain ⟨hwd, hnd⟩ := sideRegs_spec (t := s.cur) (c := o.t) (by omega)
  obtain ⟨hws, hna⟩ := sideRegs_spec (t := s.cur) (c := rsSrc o.ok) (by omega)
  have hgroups : (VOp.cvtRs o.t (rsSrc o.ok) (pD (some o.p) o.d) (pA (some o.p) o.a) (pB (some o.p) o.b) (pSat (some o.p))).groupsOk
      (2 ^ s.cur.csew) (8 * 2 ^ s.cur.cnreg) = true := by
    refine groupsOk_of_dst (congrArg (fun g => [g]) (cvtGroup_eq ht (by omega) _)) (fits_of_groupAt hd) fun x hx => ?_
    rcases List.mem_cons.mp hx with h | h
    · rw [h, cvtGroup_eq hsrc (by omega)]
      exact ⟨fits_of_groupAt ha, pairOk_of_groupsApart _ hda⟩
    · rw [List.mem_singleton.mp h]
      exact ⟨fits_of_groupAt hb, pairOk_of_groupsApart _ hdb⟩
  refine performs_lanes hidle (exec_vfcvtRs s o) rfl (decide_eq_true hsew) hgroups hnd fun n u val fl hn hu hv => ?_
  have hread : u.vGet s.cur.cnreg (pA (some o.p) o.a) (s.cur.sideRegs (rsSrc o.ok) * 2 ^ s.cur.csew) n =
      s.cur.vGet s.cur.cnreg (pA (some o.p) o.a) (s.cur.sideRegs (rsSrc o.ok) * 2 ^ s.cur.csew) n :=
    (hu.vGet_source hidle.banked hnd hna (.inr hda) hn hv :)
  have hrandom : u.vGet s.cur.cnreg (pB (some o.p) o.b) 4 n = s.cur.vGet s.cur.cnreg (pB (some o.p) o.b) 4 n := by
    have h := hu.vGet_source (m := 4 / 2 ^ s.cur.csew) hidle.banked hnd (by rw [h4]; decide) (.inr hdb) hn hv
    rw [h4] at h
    exact h
  refine (cvtElem_scalar ht hsrc _ _ _ _ _).trans ?_
  rw [hws, hwd]
  dsimp only [r, t]
  rw [← hread, ← hrandom]
  rfl

/-- The value of an element of e2m1 blocks under the scale of its block (R46). -/
theorem mxVal_mxGet (t : Thread) (nreg r i scale : Nat) : mxVal scale (t.mxGet nreg r i) = if scale = 255 then .nan false
    else match e2m1.decode (t.vGet nreg r 1 (i / 2) / 16 ^ (i % 2) % 16) with
      | .fin n m e => .fin n m (e + (scale : Int) - 127)
      | v => v := by
  rw [mxVal, Thread.mxGet, Nat.mod_mod] <;> rfl

/-- While elements of `size` bytes are written over byte elements, a byte of a register that the destination does not share reads as before. -/
theorem Thread.Lanes.vGet_byte {t u : Thread} {d size r j : Nat} {val : Nat → Option Nat} {fl : FFlags} (hb : t.Banked) (h0 : t.csew = 0)
    (h : t.Lanes u d size val fl) (hs : size ∣ 8) (hap : groupsApart d size r 1) (hj : j < t.mvl) : u.vGet t.cnreg r 1 j = t.vGet t.cnreg r 1 j := by
  have hone : ∀ n, n * 2 ^ t.csew = n := fun n => by rw [h0, pow_zero, Nat.mul_one]
  have hl : t.Lanes u d (size * 2 ^ t.csew) val fl := by rwa [hone]
  have hread := hl.vGet_of_groupsApart (m := 1) hb (by rwa [hone]) (by rw [hone]; decide) hap hj
  rwa [hone] at hread

theorem vfcvt_from_blocks {s : State} (hidle : Idle s) (o : OpVcvt) (hsew : s.cur.csew = 0) (hsrc : o.src = 14) {size : Nat}
    (ht : o.t = 12 ∧ size = 4 ∨ o.t = 13 ∧ size = 8) (hd : groupAt s.cur (pD o.p o.d) size) (ha : groupAt s.cur (pA o.p o.a) 2)
    (hda : groupsApart (pD o.p o.d) size (pA o.p o.a) 2) :
    let t := s.cur
    let r := fun (j : Nat) => (cvtFmt o.t).deliver (t.rounding o.p) (pSat o.p) 0
      (mxVal (t.vGet t.cnreg (pA o.p o.a + 1) 1 (j / 32)) (t.mxGet t.cnreg (pA o.p o.a) j))
    Performs (.vfcvt o) s (if o.p.isSome then 8 else 4) fun v => t.Lanes v (pD o.p o.d) size
      (fun j => if t.writes o.k j then some ((r j).1 % 2 ^ (8 * size)) else none) (t.laneFlags o.k fun j => (r j).2) := by
  intro t r
  have hw : size ∣ 8 := by
    rcases ht with ⟨-, rfl⟩ | ⟨-, rfl⟩ <;> decide
  have hwidth : cvtWidth o.t / 8 = size := by
    rcases ht with ⟨h, h'⟩ | ⟨h, h'⟩ <;> rw [h, h'] <;> rfl
  have ht14 : o.t ≠ 14 := by omega
  have hgroups : (VOp.cvt o.t o.src (pD o.p o.d) (pA o.p o.a) (pSat o.p)).groupsOk (2 ^ s.cur.csew) (8 * 2 ^ s.cur.cnreg) = true := by
    rw [hsew, hsrc]
    refine groupsOk_of_dst (g := ⟨pD o.p o.d, size, size⟩) ?_ (fits_of_groupAt hd) fun x hx => ?_
    · rw [← hwidth]
      exact congrArg (fun g => [g]) (if_neg ht14)
    · rw [List.mem_singleton.mp hx]
      exact ⟨fits_of_groupAt ha, pairOk_of_groupsApart _ hda⟩
  refine performs_lanes hidle (exec_vfcvt s o) rfl ?_ hgroups hw fun n u val fl hn hu hv => ?_
  · rw [cvtSew, hsew, hsrc]
    rcases ht with ⟨h, -⟩ | ⟨h, -⟩ <;> rw [h] <;> rfl
  · have hmvl : n < s.cur.mvl := hn.trans_le hidle.vl
    have hlow : groupsApart (pD o.p o.d) size (pA o.p o.a) 1 := hda.imp id fun h => (Nat.le_succ _).trans h
    have hhigh : groupsApart (pD o.p o.d) size (pA o.p o.a + 1) 1 := hda.imp (fun h => h.trans (Nat.le_succ _)) id
    have hscale : u.vGet s.cur.cnreg (pA o.p o.a + 1) 1 (n / 32) = s.cur.vGet s.cur.cnreg (pA o.p o.a + 1) 1 (n / 32) :=
      (hu.vGet_byte (r := pA o.p o.a + 1) (j := n / 32) hidle.banked hsew hw hhigh (by omega) :)
    have hcode : u.mxGet s.cur.cnreg (pA o.p o.a) n = s.cur.mxGet s.cur.cnreg (pA o.p o.a) n := by
      have h : u.vGet s.cur.cnreg (pA o.p o.a) 1 (n / 2) = s.cur.vGet s.cur.cnreg (pA o.p o.a) 1 (n / 2) :=
        (hu.vGet_byte (r := pA o.p o.a) (j := n / 2) hidle.banked hsew hw hlow (by omega) :)
      rw [Thread.mxGet, h, Thread.mxGet]
    have helem : u.elem (s.begun (.cvt o.t o.src (pD o.p o.d) (pA o.p o.a) (pSat o.p)) o.k (s.cur.rounding o.p)) n =
        u.cvtElem (s.begun (.cvt o.t o.src (pD o.p o.d) (pA o.p o.a) (pSat o.p)) o.k (s.cur.rounding o.p)) o.t o.src (pD o.p o.d) (pA o.p o.a) 0 n
          (pSat o.p) := rfl
    rw [helem, Thread.cvtElem, if_neg ht14, if_pos hsrc, hwidth]
    dsimp only [r, t]
    rw [← hscale, ← hcode]
    rfl

end Sys2Proof.Machine
end

section
/-! Conversions to e2m1 blocks (R46, R53, R330) -/

namespace Sys2Proof.Machine

/-! Bytes and nibbles of the v registers -/

theorem vGet_one (t : Thread) (nreg r j : Nat) : t.vGet nreg r 1 j = (tget t.v (t.vKey nreg r j) 0).toNat := by
  rw [Thread.vGet, Nat.mul_one, readV, readV, Nat.mul_zero, Nat.add_zero]

theorem tget_vPut_one (t : Thread) (nreg r j x y : Nat) :
    tget (t.vPut nreg r 1 j x).v y 0 = if y = t.vKey nreg r j then BitVec.ofNat 8 x else tget t.v y 0 := by
  rw [tget_vPut, Nat.mul_one]
  by_cases h : y = t.vKey nreg r j
  · rw [if_pos (by omega), if_pos h, h, Nat.sub_self, pow_zero, Nat.div_one]
  · rw [if_neg (by omega), if_neg h]

/-- A byte with one of its two nibbles replaced. -/
def withNibble (i b c : Nat) : Nat := if i % 2 = 0 then b / 16 * 16 + c else b % 16 + 16 * c

theorem withNibble_lt {i b c : Nat} (hb : b < 256) (hc : c < 16) : withNibble i b c < 256 := by
  unfold withNibble
  split <;> omega

/-- The nibble of a byte at an index. -/
def nibble (i b : Nat) : Nat := b / 16 ^ (i % 2) % 16

theorem nibble_of_even {i : Nat} (h : i % 2 = 0) (b : Nat) : nibble i b = b % 16 := by rw [nibble, h, pow_zero, Nat.div_one]

theorem nibble_of_odd {i : Nat} (h : i % 2 = 1) (b : Nat) : nibble i b = b / 16 % 16 := by rw [nibble, h, pow_one]

theorem nibble_withNibble {i j b c : Nat} (hc : c < 16) :
    nibble j (withNibble i b c) = if j % 2 = i % 2 then c else nibble j b := by
  unfold withNibble
  rcases Nat.mod_two_eq_zero_or_one i with hi | hi <;> rcases Nat.mod_two_eq_zero_or_one j with hj | hj <;> rw [hi, hj]
  · rw [if_pos rfl, if_pos rfl, nibble_of_even hj]
    omega
  · rw [if_pos rfl, if_neg (by decide), nibble_of_odd hj, nibble_of_odd hj]
    omega
  · rw [if_neg (by decide), if_neg (by decide), nibble_of_even hj, nibble_of_even hj]
    omega
  · rw [if_neg (by decide), if_pos rfl, nibble_of_odd hj]
    omega

theorem mxGet_eq (t : Thread) (nreg r i : Nat) : t.mxGet nreg r i = nibble i (t.vGet nreg r 1 (i / 2)) := rfl

theorem mxPut_eq (t : Thread) (nreg r i c : Nat) : t.mxPut nreg r i c = t.vPut nreg r 1 (i / 2) (withNibble i (t.vGet nreg r 1 (i / 2)) c) := rfl

/-- Keys of bytes within their registers are equal for one byte only. -/
theorem vKey_inj {t : Thread} (hb : t.Banked) {r r' o o' : Nat} (ho : o < t.regBytes t.cnreg) (ho' : o' < t.regBytes t.cnreg)
    (h : t.vKey t.cnreg r o = t.vKey t.cnreg r' o') : r = r' ∧ o = o' := by
  have hsmall := hb.small
  rw [Thread.vKey, Thread.vKey, Nat.div_eq_of_lt ho, Nat.div_eq_of_lt ho', Nat.mod_eq_of_lt ho, Nat.mod_eq_of_lt ho'] at h
  omega

/-- A byte below MVL lies within its register. -/
theorem Thread.Banked.byte_lt {t : Thread} (hb : t.Banked) {j : Nat} (hj : j < t.mvl) : j < t.regBytes t.cnreg :=
  hj.trans_le ((Nat.le_mul_of_pos_right _ (Nat.two_pow_pos _)).trans hb.fits)

/-! Blocks written one element after another -/

/-- `u` is `t` after the elements below `n` of a conversion to the e2m1 pair at `d` have been written: code, scale and flags of element `j` are
`code j`, `scale (j / 32)` and `fl j`. -/
structure Blocks (t u : Thread) (d k : Nat) (code scale : Nat → Nat) (fl : Nat → FFlags) (n : Nat) : Prop where
  frame : u = { t with v := u.v, wrote := u.wrote, fstat := t.fstat ||| flagsBelow (t.writes k) fl n }
  codes : ∀ j, j < t.mvl → u.mxGet t.cnreg d j = if j < n ∧ t.writes k j = true then code j else t.mxGet t.cnreg d j
  scales : ∀ j, j < n → t.writes k j = true → u.vGet t.cnreg (d + 1) 1 (j / 32) = scale (j / 32)
  others : ∀ y, (∀ j, j < n → t.writes k j = true → y ≠ t.vKey t.cnreg d (j / 2) ∧ y ≠ t.vKey t.cnreg (d + 1) (j / 32)) →
    tget u.v y 0 = tget t.v y 0

/-- What a conversion does for one element. -/
def Thread.putBlock (u : Thread) (nreg d i c sc : Nat) (f : FFlags) : Thread := ((u.mxPut nreg d i c).vPut nreg (d + 1) 1 (i / 32) sc).raise f

theorem tget_putBlock (u : Thread) (nreg d i c sc : Nat) (f : FFlags) (y : Nat) : tget (u.putBlock nreg d i c sc f).v y 0 =
    if y = u.vKey nreg (d + 1) (i / 32) then BitVec.ofNat 8 sc
    else if y = u.vKey nreg d (i / 2) then BitVec.ofNat 8 (withNibble i (u.vGet nreg d 1 (i / 2)) c) else tget u.v y 0 := by
  have hraise : (u.putBlock nreg d i c sc f).v = ((u.mxPut nreg d i c).vPut nreg (d + 1) 1 (i / 32) sc).v := rfl
  rw [hraise, tget_vPut_one, mxPut_eq, tget_vPut_one, vKey_vPut]

section
variable {t u : Thread} {d k n : Nat} {code scale : Nat → Nat} {fl : Nat → FFlags}

theorem Blocks.refl : Blocks t t d k code scale fl 0 where
  frame := by rw [show t.fstat ||| flagsBelow (t.writes k) fl 0 = t.fstat from BitVec.or_zero]
  codes _ _ := by rw [if_neg (fun h => absurd h.1 (Nat.not_lt_zero _))]
  scales _ h := absurd h (Nat.not_lt_zero _)
  others _ _ := rfl

theorem Blocks.vKey (h : Blocks t u d k code scale fl n) (nreg r o : Nat) : u.vKey nreg r o = t.vKey nreg r o := by rw [h.frame]; rfl

/-- A byte of the pair after one more element. -/
theorem Blocks.vGet_put (h : Blocks t u d k code scale fl n) (r j c sc : Nat) (f : FFlags) : (u.putBlock t.cnreg d n c sc f).vGet t.cnreg r 1 j =
    if t.vKey t.cnreg r j = t.vKey t.cnreg (d + 1) (n / 32) then sc % 256
    else if t.vKey t.cnreg r j = t.vKey t.cnreg d (n / 2) then withNibble n (u.vGet t.cnreg d 1 (n / 2)) c % 256 else u.vGet t.cnreg r 1 j := by
  have hkey : (u.putBlock t.cnreg d n c sc f).vKey t.cnreg r j = t.vKey t.cnreg r j := h.vKey _ _ _
  rw [vGet_one _ _ r j, hkey, tget_putBlock, h.vKey, h.vKey]
  split
  · rw [BitVec.toNat_ofNat]
  · split
    · rw [BitVec.toNat_ofNat]
    · rw [vGet_one, h.vKey]

theorem Blocks.step (hb : t.Banked) (h : Blocks t u d k code scale fl n) (hn : n < t.vl) (hw : t.writes k n = true) (hc : code n < 16)
    (hs : scale (n / 32) < 256) : Blocks t (u.putBlock t.cnreg d n (code n) (scale (n / 32)) (fl n)) d k code scale fl (n + 1) := by
  have hbyte : ∀ j m, j < t.mvl → j / m < t.regBytes t.cnreg := fun j m hj => hb.byte_lt ((Nat.div_le_self j m).trans_lt hj)
  have hnm : n < t.mvl := hn.trans_le hb.vl
  refine ⟨?_, fun j hj => ?_, fun j hj hjw => ?_, fun y hy => ?_⟩
  · have hfstat : u.fstat = t.fstat ||| flagsBelow (t.writes k) fl n := by rw [h.frame]
    have hf : u.fstat ||| fl n = t.fstat ||| flagsBelow (t.writes k) fl (n + 1) := by
      rw [flagsBelow_succ, if_pos hw, hfstat, BitVec.or_assoc]
    rw [← hf]
    exact congrArg (fun x : Thread => { x with v := (u.putBlock t.cnreg d n (code n) (scale (n / 32)) (fl n)).v
                                               wrote := (u.putBlock t.cnreg d n (code n) (scale (n / 32)) (fl n)).wrote
                                               fstat := u.fstat ||| fl n }) h.frame
  · have hold : withNibble n (u.vGet t.cnreg d 1 (n / 2)) (code n) % 256 = withNibble n (u.vGet t.cnreg d 1 (n / 2)) (code n) :=
      Nat.mod_eq_of_lt (withNibble_lt (vGet_lt _ _ _ _ _) hc)
    rw [mxGet_eq, h.vGet_put, if_neg fun hk => by have := (vKey_inj hb (hbyte j 2 hj) (hbyte n 32 hnm) hk).1; omega, hold]
    by_cases hpair : j / 2 = n / 2
    · rw [if_pos (by rw [hpair]), nibble_withNibble hc]
      split
      · have hjn : j = n := by omega
        rw [if_pos ⟨by omega, hjn ▸ hw⟩, hjn]
      · rw [← hpair, ← mxGet_eq, h.codes j hj]
        exact if_congr (and_congr_left fun _ => by omega) rfl rfl
    · rw [if_neg fun hk => hpair (vKey_inj hb (hbyte j 2 hj) (hbyte n 2 hnm) hk).2, ← mxGet_eq, h.codes j hj]
      exact if_congr (and_congr_left fun _ => by omega) rfl rfl
  · have hjm : j < t.mvl := by omega
    rw [h.vGet_put]
    by_cases hblock : j / 32 = n / 32
    · rw [if_pos (by rw [hblock]), hblock, Nat.mod_eq_of_lt hs]
    · rw [if_neg fun hk => hblock (vKey_inj hb (hbyte j 32 hjm) (hbyte n 32 hnm) hk).2,
        if_neg fun hk => by have := (vKey_inj hb (hbyte j 32 hjm) (hbyte n 2 hnm) hk).1; omega]
      exact h.scales j (by omega) hjw
  · obtain ⟨hcode, hscale⟩ := hy n (Nat.lt_succ_self n) hw
    rw [tget_putBlock, h.vKey, h.vKey, if_neg hscale, if_neg hcode]
    exact h.others y fun j hj => hy j (hj.trans (Nat.lt_succ_self n))

theorem Blocks.skip (h : Blocks t u d k code scale fl n) (hw : ¬ t.writes k n = true) : Blocks t u d k code scale fl (n + 1) := by
  have hlt : ∀ j, t.writes k j = true → j < n + 1 → j < n := fun j hj hlt => by
    rcases Nat.lt_succ_iff_lt_or_eq.mp hlt with h | h
    · exact h
    · exact absurd (h ▸ hj) hw
  refine ⟨?_, fun j hj => ?_, fun j hj hjw => h.scales j (hlt j hjw hj) hjw, fun y hy => h.others y fun j hj => hy j (hj.trans (Nat.lt_succ_self n))⟩
  · rw [flagsBelow_succ, if_neg hw]
    exact h.frame
  · rw [h.codes j hj]
    exact if_congr ⟨fun hc => ⟨hc.1.trans (Nat.lt_succ_self n), hc.2⟩, fun hc => ⟨hlt j hc.2 hc.1, hc.2⟩⟩ rfl rfl

/-- A source that shares no register with the pair reads as before. -/
theorem Blocks.vGet_source (hb : t.Banked) (h0 : t.csew = 0) (h : Blocks t u d k code scale fl n) {a m j : Nat} (hm : m ∣ 8)
    (hap : groupsApart d 2 a m) (hj : j < t.mvl) : u.vGet t.cnreg a m j = t.vGet t.cnreg a m j := by
  have hpos := hb.pos hj
  have hbyte : ∀ i x, i < t.mvl → i / x < t.regBytes t.cnreg := fun i x hi => hb.byte_lt ((Nat.div_le_self i x).trans_lt hi)
  have hone : m * 2 ^ t.csew = m := by rw [h0, pow_zero, Nat.mul_one]
  rw [Thread.vGet, Thread.vGet, h.vKey]
  refine readV_congr fun x hx => h.others _ fun i hi hw => ?_
  have him : i < t.mvl := (lt_of_writes hw).trans_le hb.vl
  have hlt : j * m + x < m * t.regBytes t.cnreg := by
    have he := hb.element_lt (n := m) (x := x) hj (by rwa [hone])
    rwa [hone] at he
  have hplace : ∀ o, o < 2 * t.regBytes t.cnreg → t.place t.cnreg a (j * m + x) ≠ t.place t.cnreg d o := fun o ho =>
    place_ne_of_groupsApart hap ho hlt
  have hne : ∀ r o, t.place t.cnreg a (j * m + x) ≠ t.place t.cnreg r o → t.vKey t.cnreg a (j * m) + x ≠ t.vKey t.cnreg r o := fun r o hp => by
    have hk := vKey_ne_of_places (r := a) (j := j) (r' := r) (j' := o) (w := m) (w' := 1) (x := x) (x' := 0) hb hpos (hm.trans hb.words)
      (one_dvd _) hx Nat.one_pos (by rwa [Nat.mul_one, Nat.add_zero])
    rwa [Nat.mul_one, Nat.add_zero] at hk
  have hlow := hbyte i 2 him
  have hhigh := hbyte i 32 him
  refine ⟨hne d (i / 2) (hplace _ (by omega)), hne (d + 1) (i / 32) ?_⟩
  have hsecond : t.place t.cnreg (d + 1) (i / 32) = t.place t.cnreg d (t.regBytes t.cnreg + i / 32) := by
    rw [Thread.place, Thread.place, Nat.succ_mul, Nat.add_assoc]
  rw [hsecond]
  exact hplace _ (by omega)

end

/-! Scales and codes of a block -/

theorem round_e2m1_lt (rm u : Nat) (neg : Bool) (m : Nat) (e : Int) : (e2m1.round rm false u neg m e false).1 < 16 := by
  have hsign : e2m1.signBit neg ≤ 8 := by cases neg <;> decide
  have hmax : e2m1.maxBits = 7 := rfl
  have hover : e2m1.overflow rm neg false = e2m1.signBit neg + e2m1.maxBits := by
    unfold FFmt.overflow
    rfl
  rw [FFmt.round]
  split
  · omega
  · have hfst : ∀ (bits : Nat) (f g : FFlags),
        (if e2m1.maxBits < bits then (e2m1.overflow rm neg false, f) else (e2m1.signBit neg + bits, g)).1 < 16 := fun bits f g => by
      split <;> dsimp only <;> omega
    exact hfst _ _ _

theorem mxCode_lt (rm u : Nat) (e : Int) (v : FVal) : (mxCode rm u e v).1 < 16 := by
  cases v with
  | nan => exact Nat.zero_lt_succ _
  | inf => exact Nat.zero_lt_succ _
  | fin n m x => exact round_e2m1_lt _ _ _ _ _

/-- Whether a value is a number. -/
def FVal.isFinite (v : FVal) : Bool :=
  match v with
  | .fin _ _ _ => true
  | _ => false

/-- The exponent of a block after one more of its elements (R53). -/
def maxExp (e : Int) (v : FVal) : Int :=
  match v with
  | .fin _ m x => if m = 0 then e else max e (min (max ((Nat.log2 m : Int) + x - 2) (-127)) 127)
  | _ => e

theorem maxExp_bounds {e : Int} (v : FVal) (h : -127 ≤ e ∧ e ≤ 127) : -127 ≤ maxExp e v ∧ maxExp e v ≤ 127 := by
  cases v with
  | nan => exact h
  | inf => exact h
  | fin n m x =>
    rw [maxExp]
    split <;> omega

theorem foldl_maxExp_bounds (l : List FVal) (e : Int) (h : -127 ≤ e ∧ e ≤ 127) : -127 ≤ l.foldl maxExp e ∧ l.foldl maxExp e ≤ 127 := by
  induction l generalizing e with
  | nil => exact h
  | cons v l ih => exact ih _ (maxExp_bounds v h)

/-- One step of the shared exponent. -/
def expStep (acc : Option Int) (v : FVal) : Option Int :=
  match acc, v with
  | some e, .fin _ m x => if m = 0 then some e else some (max e (min (max ((Nat.log2 m : Int) + x - 2) (-127)) 127))
  | _, _ => none

theorem mxExp_eq_foldl (l : List FVal) : mxExp l = l.foldl expStep (some (-127)) := by
  rw [mxExp]
  refine congrArg (fun f => l.foldl f _) (funext fun acc => funext fun v => ?_)
  cases acc <;> cases v <;> rfl

theorem foldl_expStep_none (l : List FVal) : l.foldl expStep none = none := by
  induction l with
  | nil => rfl
  | cons v l ih => exact ih

theorem expStep_some (e : Int) (v : FVal) : expStep (some e) v = if v.isFinite then some (maxExp e v) else none := by
  cases v with
  | nan => rfl
  | inf => rfl
  | fin n m x => exact (apply_ite some _ _ _).symm

theorem foldl_expStep (l : List FVal) (e : Int) :
    l.foldl expStep (some e) = if l.all FVal.isFinite then some (l.foldl maxExp e) else none := by
  induction l generalizing e with
  | nil => rfl
  | cons v l ih =>
    rw [List.foldl_cons, expStep_some, List.all_cons]
    cases v.isFinite with
    | true => exact ih _
    | false => exact foldl_expStep_none l

/-- The shared exponent exists where all elements are numbers, and is their fold. -/
theorem mxExp_eq (l : List FVal) : mxExp l = if l.all FVal.isFinite then some (l.foldl maxExp (-127)) else none :=
  (mxExp_eq_foldl l).trans (foldl_expStep l _)

/-! Blocks of a thread -/

/-- The values of block `b` of a conversion: those of its active elements, and 0 for the others. -/
def Thread.blockVals (t : Thread) (src a k b : Nat) : List FVal := (List.range 32).map fun x =>
  if t.writes k (32 * b + x) then (cvtFmt src).decode (t.vGet t.cnreg a (cvtWidth src / 8) (32 * b + x)) else .fin false 0 0

/-- The code, the scale and the flags of an element under the shared exponent of its block. -/
def blockCode (rm u : Nat) (e : Option Int) (v : FVal) : Nat :=
  match e with
  | none => 0
  | some x => (mxCode rm u x v).1

def blockScale (e : Option Int) : Nat :=
  match e with
  | none => 255
  | some x => (x + 127).toNat

def blockFlags (rm u : Nat) (e : Option Int) (v : FVal) : FFlags :=
  match e with
  | none => flNV
  | some x => (mxCode rm u x v).2

theorem blockCode_lt (rm u : Nat) (e : Option Int) (v : FVal) : blockCode rm u e v < 16 := by
  cases e with
  | none => exact Nat.zero_lt_succ _
  | some x => exact mxCode_lt _ _ _ _

theorem blockScale_lt (l : List FVal) : blockScale (mxExp l) < 256 := by
  rw [mxExp_eq]
  split
  · have h := foldl_maxExp_bounds l (-127) (by omega)
    rw [blockScale]
    omega
  · rw [blockScale]
    omega

theorem mxElem_of_block {t : Thread} {e : VEntry} {src a i : Nat} {x : Option Int} (hx : t.mxBlock e src a (i / 32) t.vl = x) (d u : Nat) :
    t.mxElem e src d a u i = t.putBlock e.nreg d i (blockCode e.rm u x ((cvtFmt src).decode (t.vGet e.nreg a (cvtWidth src / 8) i))) (blockScale x)
      (blockFlags e.rm u x ((cvtFmt src).decode (t.vGet e.nreg a (cvtWidth src / 8) i))) := by
  unfold Thread.mxElem
  dsimp only
  rw [hx]
  clear hx
  cases x with
  | none => rfl
  | some x =>
    generalize (cvtFmt src).decode (t.vGet e.nreg a (cvtWidth src / 8) i) = v
    unfold blockCode blockFlags blockScale
    dsimp only
    generalize mxCode e.rm u x v = r
    rfl

/-! The loop of a conversion -/

/-- An elementwise instruction of an idle thread keeps an invariant of the elements that it has gone through. -/
theorem performs_loop {i : Instr} {s : State} {len k rm : Nat} {op : VOp} {I : Nat → Thread → Prop} (hidle : Idle s)
    (hc : VCommitsAs i s len s.cur op k rm none) (hop : op.elementwise = true) (h0 : I 0 (s.started len op k rm none))
    (hstep : ∀ n u, n < s.cur.vl → I n u → I (n + 1) (if u.active k n then u.elem (s.begun op k rm) n else u))
    (hres : ∀ n u, I n u → u.vSound = (s.started len op k rm none).vSound ∧ (s.started len op k rm none).ResultsIn u) :
    Performs i s len fun v => ∃ u, I s.cur.vl u ∧ v = u.settledAs s.cur := by
  have hloop : ∀ n, n ≤ s.cur.vl →
      I n (forUp 0 n (fun i t => if t.active k i then t.elem (s.begun op k rm) i else t) (s.started len op k rm none)) := fun n hn => by
    induction n with
    | zero => exact h0
    | succ n ih =>
      rw [forUp_succ_last]
      exact hstep n _ (by omega) (ih (by omega))
  have hend := hloop s.cur.vl le_rfl
  obtain ⟨hsame, hresults⟩ := hres _ _ hend
  have helems := elems_of_sound (t := s.started len op k rm none) (e := s.begun op k rm) s.cur.vl (hsame.trans hidle.sound)
  refine performs_of_tries hidle hc fun q hq => ⟨_, _, _, vTry_elementwise rfl hop (by rw [hq]; exact hidle.sound), ?_, _, hend, ?_⟩ <;> rw [hq]
  · exact helems ▸ hresults
  · exact congrArg (fun u : Thread => u.settledAs s.cur) helems

/-- The shared exponent of block `b` of a conversion. -/
def Thread.blockExp (t : Thread) (src a k b : Nat) : Option Int := mxExp (t.blockVals src a k b)

/-- The value of element `j` of a conversion. -/
def Thread.cvtVal (t : Thread) (src a j : Nat) : FVal := (cvtFmt src).decode (t.vGet t.cnreg a (cvtWidth src / 8) j)

/-- The code and the flags of element `j` of a conversion to e2m1 blocks, and the scale of block `b`. -/
def Thread.mxCodes (t : Thread) (src a k rm : Nat) (rnd : Nat → Nat) (j : Nat) : Nat :=
  blockCode rm (rnd j) (t.blockExp src a k (j / 32)) (t.cvtVal src a j)

def Thread.mxFlags (t : Thread) (src a k rm : Nat) (rnd : Nat → Nat) (j : Nat) : FFlags :=
  blockFlags rm (rnd j) (t.blockExp src a k (j / 32)) (t.cvtVal src a j)

def Thread.mxScales (t : Thread) (src a k b : Nat) : Nat := blockScale (t.blockExp src a k b)

section
variable {t u : Thread} {d a k n src : Nat} (hb : t.Banked) (h0 : t.csew = 0) (hw : cvtWidth src / 8 ∣ 8) (hda : groupsApart d 2 a (cvtWidth src / 8))
include hb h0 hw hda

/-- Blocks of the source keep their shared exponents while codes are written. -/
theorem Blocks.mxBlock {code scale : Nat → Nat} {fl : Nat → FFlags} {e : VEntry} (h : Blocks t u d k code scale fl n) (hn : e.nreg = t.cnreg)
    (hk : e.k = k) (b : Nat) : u.mxBlock e src a b u.vl = t.blockExp src a k b := by
  have hvl : u.vl = t.vl := by rw [h.frame]
  have hact : ∀ j, u.active k j = t.active k j := fun j => by rw [h.frame]; rfl
  rw [Thread.mxBlock, Thread.blockExp, Thread.blockVals]
  refine congrArg mxExp (List.map_congr_left fun x _ => ?_)
  dsimp only
  rw [hvl, hn, hk, hact, show (decide (32 * b + x < t.vl) && t.active k (32 * b + x)) = t.writes k (32 * b + x) from rfl]
  by_cases hwr : t.writes k (32 * b + x) = true
  · rw [if_pos hwr, if_pos hwr, h.vGet_source hb h0 hw hda ((lt_of_writes hwr).trans_le hb.vl)]
  · rw [if_neg hwr, if_neg hwr]

/-- One more element of a conversion is written. -/
theorem Blocks.mxElem {e : VEntry} {rnd : Nat → Nat} (hn : e.nreg = t.cnreg) (hk : e.k = k)
    (h : Blocks t u d k (t.mxCodes src a k e.rm rnd) (t.mxScales src a k) (t.mxFlags src a k e.rm rnd) n) (hlt : n < t.vl)
    (hwr : t.writes k n = true) :
    Blocks t (u.mxElem e src d a (rnd n) n) d k (t.mxCodes src a k e.rm rnd) (t.mxScales src a k) (t.mxFlags src a k e.rm rnd) (n + 1) := by
  have hval : (cvtFmt src).decode (u.vGet e.nreg a (cvtWidth src / 8) n) = t.cvtVal src a n := by
    rw [hn, h.vGet_source hb h0 hw hda (hlt.trans_le hb.vl), Thread.cvtVal]
  have hstep := h.step hb hlt hwr (blockCode_lt _ _ _ _) (blockScale_lt _)
  rw [mxElem_of_block (h.mxBlock hb h0 hw hda hn hk (n / 32)), hval, hn]
  exact hstep

end

/-- Blocks of the thread while its instruction runs are blocks of the thread before it. -/
theorem Blocks.settled {s : State} {len k rm d k' n : Nat} {op : VOp} {rb : Option (Bool × Nat)} {u : Thread} {code scale : Nat → Nat}
    {fl : Nat → FFlags} (h : Blocks (s.started len op k rm rb) u d k' code scale fl n) : Blocks s.cur (u.settledAs s.cur) d k' code scale fl n := by
  obtain ⟨hframe, hcodes, hscales, hothers⟩ := h
  refine ⟨?_, hcodes, hscales, hothers⟩
  rw [hframe]
  rfl

/-- What a conversion to e2m1 blocks makes of an idle thread, `rnd` being the random bits of its elements. -/
theorem blocks_performs {i : Instr} {s : State} {len k rm d a src : Nat} {op : VOp} {rnd : Nat → Nat} (hidle : Idle s) (h0 : s.cur.csew = 0)
    (hc : VCommitsAs i s len s.cur op k rm none) (hop : op.elementwise = true) (hw : cvtWidth src / 8 ∣ 8)
    (hda : groupsApart d 2 a (cvtWidth src / 8))
    (helem : ∀ (n : Nat) (u : Thread), n < s.cur.vl →
      (∀ r m, m ∣ 8 → groupsApart d 2 r m → u.vGet s.cur.cnreg r m n = s.cur.vGet s.cur.cnreg r m n) →
      u.elem (s.begun op k rm) n = u.mxElem (s.begun op k rm) src d a (rnd n) n) :
    Performs i s len fun v => Blocks s.cur v d k (s.cur.mxCodes src a k rm rnd) (s.cur.mxScales src a k) (s.cur.mxFlags src a k rm rnd) s.cur.vl := by
  have hb := hidle.banked.started len op k rm none
  refine (performs_loop (I := fun n u => Blocks (s.started len op k rm none) u d k ((s.started len op k rm none).mxCodes src a k rm rnd)
    ((s.started len op k rm none).mxScales src a k) ((s.started len op k rm none).mxFlags src a k rm rnd) n)
    hidle hc hop Blocks.refl (fun n u hn h => ?_) fun n u h => ⟨?_, ?_⟩).mono fun v hv => ?_
  · have hact : u.active k n = (s.started len op k rm none).writes k n := by
      rw [writes_of_lt (t := s.started len op k rm none) hn, h.frame]
      rfl
    rw [hact]
    by_cases hwr : (s.started len op k rm none).writes k n = true
    · rw [if_pos hwr, helem n u hn fun r m hm hap => h.vGet_source hb h0 hm hap (hn.trans_le hidle.vl)]
      exact h.mxElem hb h0 hw hda (e := s.begun op k rm) rfl rfl hn hwr
    · rw [if_neg hwr]
      exact h.skip hwr
  · rw [h.frame]
    rfl
  · rw [Thread.ResultsIn, h.frame]
  · obtain ⟨u, hu, rfl⟩ := hv
    exact hu.settled

theorem blockExp_eq (t : Thread) (src a k b : Nat) : t.blockExp src a k b =
    if (t.blockVals src a k b).all FVal.isFinite then some ((t.blockVals src a k b).foldl maxExp (-127)) else none := mxExp_eq _

/-- Whether the code of a value is not the value itself. -/
def codeInexact (rm u : Nat) (e : Int) (v : FVal) : Bool :=
  match v with
  | .fin n m x => decide ((e2m1.round rm false u n m (x - e) false).2 ≠ 0)
  | _ => false

theorem mxCode_flags (rm u : Nat) (e : Int) (v : FVal) : (if codeInexact rm u e v then flNX else 0) = (mxCode rm u e v).2 := by
  cases v with
  | nan => rfl
  | inf => rfl
  | fin n m x => simp only [codeInexact, mxCode, decide_eq_true_eq, ne_eq, ite_not]

/-- The codes, scales and flags of `Blocks` are those that a conversion to e2m1 blocks has to give. -/
theorem toBlocks_of_blocks {i : Instr} {s : State} {len src d a k rm : Nat} {rnd : Nat → Nat} (hsrc : src = 12 ∨ src = 13)
    (h : Performs i s len fun v =>
      Blocks s.cur v d k (s.cur.mxCodes src a k rm rnd) (s.cur.mxScales src a k) (s.cur.mxFlags src a k rm rnd) s.cur.vl) :
    ToBlocks i s len src d a k rm rnd := by
  unfold ToBlocks
  intro t val block finite exp code inexact
  have hval : ∀ j, val j = t.cvtVal src a j := fun j => by
    rcases hsrc with rfl | rfl <;> rfl
  have hfinite : finite = FVal.isFinite := funext fun v => by cases v <;> rfl
  have hblock : ∀ b, block b = t.blockVals src a k b := fun b => by
    rcases hsrc with rfl | rfl <;> rfl
  have hexp : ∀ b, exp b = (t.blockVals src a k b).foldl maxExp (-127) := fun b => by
    rw [← hblock]
    refine congrArg (fun f => (block b).foldl f (-127)) (funext fun e => funext fun v => ?_)
    cases v <;> rfl
  have hcode : ∀ j, (if (block (j / 32)).all finite then code j else 0) = t.mxCodes src a k rm rnd j := fun j => by
    rw [Thread.mxCodes, blockExp_eq, ← hblock, ← hfinite, ← hval]
    split
    · rw [hblock, ← hexp]
      dsimp only [code, blockCode]
      cases val j <;> rfl
    · rfl
  have hflags : ∀ j, (if (block (j / 32)).all finite then (if inexact j then flNX else 0) else flNV) = t.mxFlags src a k rm rnd j := fun j => by
    rw [Thread.mxFlags, blockExp_eq, ← hblock, ← hfinite, ← hval]
    split
    · rw [hblock, ← hexp]
      have hinexact : inexact j = codeInexact rm (rnd j) (exp (j / 32)) (val j) := by
        dsimp only [inexact]
        cases val j <;> rfl
      rw [hinexact]
      exact mxCode_flags _ _ _ _
    · rfl
  have hscale : ∀ b, (if (block b).all finite then (exp b + 127).toNat else 255) = t.mxScales src a k b := fun b => by
    rw [Thread.mxScales, blockExp_eq, ← hblock, ← hfinite]
    split
    · rw [hblock, ← hexp]
      rfl
    · rfl
  refine h.mono fun v hv => ⟨?_, fun j hj => ?_, fun b ⟨x, hx, hw⟩ => ?_, fun y hy => hv.others y fun j _ hj => hy j hj⟩
  · rw [funext hflags]
    exact hv.frame
  · rw [hcode, hv.codes j hj]
    exact if_congr ⟨fun h => h.2, fun h => ⟨lt_of_writes h, h⟩⟩ rfl rfl
  · have hs := hv.scales _ (lt_of_writes hw) hw
    rw [hscale]
    rwa [show (32 * b + x) / 32 = b by omega] at hs

/-! The instructions -/

theorem size_of_source {src : Nat} (h : src = 12 ∨ src = 13) : cvtWidth src / 8 = if src = 12 then 4 else 8 := by
  rcases h with rfl | rfl <;> rfl

theorem source_dvd {src : Nat} (h : src = 12 ∨ src = 13) : cvtWidth src / 8 ∣ 8 := by
  rcases h with rfl | rfl <;> decide

theorem cvtGroup_source {src : Nat} (h : src = 12 ∨ src = 13) (r : Nat) : cvtGroup src r (2 ^ 0) = ⟨r, cvtWidth src / 8, cvtWidth src / 8⟩ := by
  rcases h with rfl | rfl <;> rfl

theorem vfcvt_toBlocks {s : State} (hidle : Idle s) (o : OpVcvt) (h0 : s.cur.csew = 0) (ht : o.t = 14) (hsrc : o.src = 12 ∨ o.src = 13)
    (hd : groupAt s.cur (pD o.p o.d) 2) (ha : groupAt s.cur (pA o.p o.a) (cvtWidth o.src / 8))
    (hda : groupsApart (pD o.p o.d) 2 (pA o.p o.a) (cvtWidth o.src / 8)) :
    ToBlocks (.vfcvt o) s (if o.p.isSome then 8 else 4) o.src (pD o.p o.d) (pA o.p o.a) o.k (s.cur.rounding o.p) fun _ => 0 := by
  have hgroups : (VOp.cvt o.t o.src (pD o.p o.d) (pA o.p o.a) (pSat o.p)).groupsOk (2 ^ s.cur.csew) (8 * 2 ^ s.cur.cnreg) = true := by
    rw [h0, ht]
    refine groupsOk_of_dst rfl (fits_of_groupAt hd) fun x hx => ?_
    rw [List.mem_singleton.mp hx, cvtGroup_source hsrc]
    exact ⟨fits_of_groupAt ha, pairOk_of_groupsApart _ hda⟩
  have hok : cvtSew o.t o.src s.cur = true := by
    rw [cvtSew, h0, ht]
    rcases hsrc with h | h <;> rw [h] <;> rfl
  refine toBlocks_of_blocks hsrc (blocks_performs hidle h0 (commits_of_idle hidle (exec_vfcvt s o) nofun hgroups hok) rfl (source_dvd hsrc) hda
    fun n u _ _ => ?_)
  exact if_pos ht

theorem rsSrc_cases (ok : Nat) : rsSrc ok = 12 ∨ rsSrc ok = 13 := by
  unfold rsSrc
  split
  · exact .inl rfl
  · exact .inr rfl

theorem vfcvtRs_toBlocks {s : State} (hidle : Idle s) (o : OpVcvtRs) (h0 : s.cur.csew = 0) (ht : o.t = 14)
    (hd : groupAt s.cur (pD (some o.p) o.d) 2) (ha : groupAt s.cur (pA (some o.p) o.a) (cvtWidth (rsSrc o.ok) / 8))
    (hb : groupAt s.cur (pB (some o.p) o.b) 4) (hda : groupsApart (pD (some o.p) o.d) 2 (pA (some o.p) o.a) (cvtWidth (rsSrc o.ok) / 8))
    (hdb : groupsApart (pD (some o.p) o.d) 2 (pB (some o.p) o.b) 4) :
    ToBlocks (.vfcvtRs o) s 8 (rsSrc o.ok) (pD (some o.p) o.d) (pA (some o.p) o.a) o.k (s.cur.rounding (some o.p))
      fun j => s.cur.vGet s.cur.cnreg (pB (some o.p) o.b) 4 j % 2 ^ 16 := by
  have hsrc := rsSrc_cases o.ok
  have hgroups : (VOp.cvtRs o.t (rsSrc o.ok) (pD (some o.p) o.d) (pA (some o.p) o.a) (pB (some o.p) o.b) (pSat (some o.p))).groupsOk
      (2 ^ s.cur.csew) (8 * 2 ^ s.cur.cnreg) = true := by
    rw [h0, ht]
    refine groupsOk_of_dst rfl (fits_of_groupAt hd) fun x hx => ?_
    rcases List.mem_cons.mp hx with h | h
    · rw [h, cvtGroup_source hsrc]
      exact ⟨fits_of_groupAt ha, pairOk_of_groupsApart _ hda⟩
    · rw [List.mem_singleton.mp h]
      exact ⟨fits_of_groupAt hb, pairOk_of_groupsApart _ hdb⟩
  have hok : cvtSew o.t (rsSrc o.ok) s.cur = true := by
    rw [cvtSew, h0, ht]
    rcases hsrc with h | h <;> rw [h] <;> rfl
  refine toBlocks_of_blocks hsrc (blocks_performs hidle h0 (commits_of_idle (p := some o.p) hidle (exec_vfcvtRs s o) nofun hgroups hok) rfl
    (source_dvd hsrc) hda fun n u _ hread => ?_)
  rw [← hread _ 4 (by decide) hdb]
  exact if_pos ht

end Sys2Proof.Machine
end

section
/-! The floating-point vector instructions (R326 to R331) -/

namespace Sys2Proof.Machine

section
variable {f : FFmt} {n : Nat} (hf : f.width = n)
include hf

theorem signOp_copy (a b : Nat) : f.signOp 0 a b = a % 2 ^ (n - 1) + (if b.testBit (n - 1) then 2 ^ (n - 1) else 0) := by
  rw [FFmt.signOp, FFmt.signBit, FFmt.sign, Bool.cond_eq_ite, hf]

theorem signOp_inverse (a b : Nat) : f.signOp 1 a b = a % 2 ^ (n - 1) + (if b.testBit (n - 1) then 0 else 2 ^ (n - 1)) := by
  rw [FFmt.signOp, FFmt.signBit, FFmt.sign, Bool.cond_eq_ite, hf]
  simp only [Bool.not_eq_eq_eq_not, Bool.not_true, ← Bool.not_eq_true, ite_not]

theorem signOp_xor (a b : Nat) :
    f.signOp 2 a b = a % 2 ^ (n - 1) + (if a.testBit (n - 1) ^^ b.testBit (n - 1) then 2 ^ (n - 1) else 0) := by
  change a % 2 ^ (f.width - 1) + f.signBit (f.sign a != f.sign b) = _
  rw [FFmt.signBit, FFmt.sign, FFmt.sign, Bool.cond_eq_ite, hf]

end

/-- What the obligation asks of one floating-point operation of an idle thread. -/
def FltForm (s : State) (x : (OpV → Instr) × (Option Modifier → Nat → Nat → Nat → Nat × FFlags)) : Prop := ∀ o : OpV,
  let t := s.cur
  let w := 2 ^ t.csew
  let r := fun (j : Nat) => x.2 o.p (t.vGet t.cnreg (pA o.p o.a) w j) (laneB t o.p o.ok o.b false j) (t.vGet t.cnreg (pD o.p o.d) w j)
  t.csew ≠ 0 → groupAt t (pD o.p o.d) 1 → groupAt t (pA o.p o.a) 1 → (o.ok = 0 → groupAt t (pB o.p o.b) 1) →
    Performs (x.1 o) s (if o.p.isSome then 8 else 4) fun v => t.Lanes v (pD o.p o.d) w
      (fun j => if t.writes o.k j then some ((r j).1 % 2 ^ (8 * w)) else none) (t.laneFlags o.k fun j => (r j).2)

/-- What the obligation asks of one function of an idle thread. -/
def FunForm (s : State) (x : (OpVun → Instr) × VFunOp) : Prop := ∀ o : OpVun,
  let t := s.cur
  let w := 2 ^ t.csew
  let r := fun (j : Nat) => vfun x.2 (sewFmt t.csew) (t.rounding o.p) (t.vGet t.cnreg (pA o.p o.a) w j)
  t.csew ≠ 0 → groupAt t (pD o.p o.d) 1 → groupAt t (pA o.p o.a) 1 →
    Performs (x.1 o) s (if o.p.isSome then 8 else 4) fun v => t.Lanes v (pD o.p o.d) w
      (fun j => if t.writes o.k j then some ((r j).1 % 2 ^ (8 * w)) else none) (t.laneFlags o.k fun j => (r j).2)

theorem fltForm_of_eval {s : State} (hidle : Idle s) {x : (OpV → Instr) × (Option Modifier → Nat → Nat → Nat → Nat × FFlags)} {op : VFltOp}
    (hi : ∀ o, exec (x.1 o) s = vFlt op o s)
    (hg : s.cur.csew ≠ 0 → ∀ p a b c, op.eval (sewFmt s.cur.csew) (s.cur.rounding p) a b c = x.2 p a b c) : FltForm s x :=
  fun o hsew hd ha hb => vFlt_performs hidle (hi o) hsew hd ha hb (hg hsew o.p)

theorem funForm_of_exec {s : State} (hidle : Idle s) {x : (OpVun → Instr) × VFunOp} (hi : ∀ o, exec (x.1 o) s = vFun x.2 o s) : FunForm s x :=
  fun o hsew hd ha => vFun_performs hidle (hi o) hsew hd ha

/-- Settles O39: operations of a lane by `vFlt_performs` and `vFun_performs`, conversions by their two elements, and e2m1 blocks by the
codes and scales that stand after each element. -/
theorem vectorFloats : Obligations.VectorFloats := by
  unfold Obligations.VectorFloats
  intro s hidle t w f len rm sat writes
  have hf : sewFmt s.cur.csew = f := sewFmt_eq _
  have hsat : sat = pSat := funext fun p => (pSat_eq p).symm
  have hwidth : t.csew ≠ 0 → (sewFmt s.cur.csew).width = 8 * w := fun hsew => sewFmt_width hsew hidle.sewRange
  refine ⟨?_, ?_, fun o => ?_, fun o => ?_, fun o h0 => ?_, fun o h0 ht => ?_⟩
  · rw [← hf]
    change ∀ x ∈ _, FltForm s x
    simp only [List.forall_mem_cons]
    refine ⟨fltForm_of_eval hidle (exec_vfadd s) fun _ _ _ _ _ => rfl, fltForm_of_eval hidle (exec_vfsub s) fun _ _ _ _ _ => rfl,
      fltForm_of_eval hidle (exec_vfrsub s) fun _ _ _ _ _ => rfl, fltForm_of_eval hidle (exec_vfmul s) fun _ _ _ _ _ => rfl,
      fltForm_of_eval hidle (exec_vfdiv s) fun _ _ _ _ _ => rfl, fltForm_of_eval hidle (exec_vfmin s) fun _ _ _ _ _ => rfl,
      fltForm_of_eval hidle (exec_vfmax s) fun _ _ _ _ _ => rfl, fltForm_of_eval hidle (exec_vfma s) fun _ _ _ _ _ => rfl,
      fltForm_of_eval hidle (exec_vfnma s) fun hsew _ a _ _ => ?_, fltForm_of_eval hidle (exec_vfsgcpy s) fun hsew _ a b _ => ?_,
      fltForm_of_eval hidle (exec_vfsginv s) fun hsew _ a b _ => ?_, fltForm_of_eval hidle (exec_vfsgxor s) fun hsew _ a b _ => ?_,
      fun _ h => absurd h List.not_mem_nil⟩
    · rw [VFltOp.eval, FFmt.neg, hwidth hsew]
      rfl
    · exact congrArg (·, 0) (signOp_copy (hwidth hsew) a b)
    · exact congrArg (·, 0) (signOp_inverse (hwidth hsew) a b)
    · exact congrArg (·, 0) (signOp_xor (hwidth hsew) a b)
  · rw [← hf]
    change ∀ x ∈ _, FunForm s x
    simp only [List.forall_mem_cons]
    exact ⟨funForm_of_exec hidle (exec_vfsqrt s), funForm_of_exec hidle (exec_vfexp2 s), funForm_of_exec hidle (exec_vflog2 s),
      funForm_of_exec hidle (exec_vfrcp s), funForm_of_exec hidle (exec_vfrsqrt s), fun _ h => absurd h List.not_mem_nil⟩
  · intro nd na hsew ht hsrc hd ha hda
    rw [hsat]
    exact vfcvt_converts hidle o hsew ht hsrc hd ha hda
  · intro p src nd na nb hsew ht hw hd ha hb hda hdb
    rw [hsat]
    exact vfcvtRs_converts hidle o hsew ht hw hd ha hb hda hdb
  · intro d a size
    refine ⟨fun ht hsrc hd ha hda => ?_, fun hsrc ht hd ha hda => ?_⟩
    · have hsize : cvtWidth o.src / 8 = size o.src := size_of_source hsrc
      rw [← hsize] at ha hda
      exact vfcvt_toBlocks hidle o h0 ht hsrc hd ha hda
    · have hcases : o.t = 12 ∧ size o.t = 4 ∨ o.t = 13 ∧ size o.t = 8 := by
        rcases ht with h | h <;> rw [h]
        · exact .inl ⟨rfl, rfl⟩
        · exact .inr ⟨rfl, rfl⟩
      have hfmt : cvtFmt o.t = if o.t = 12 then f32 else f64 := by
        rcases ht with h | h <;> rw [h] <;> rfl
      have hfrom := vfcvt_from_blocks hidle o h0 hsrc hcases hd ha hda
      simp only [hfmt, mxVal_mxGet] at hfrom
      rw [hsat]
      exact hfrom
  · intro p src na hd ha hb hda hdb
    have hsize : cvtWidth (rsSrc o.ok) / 8 = na := by
      dsimp only [na]
      unfold rsSrc
      split <;> rfl
    rw [← hsize] at ha hda
    exact vfcvtRs_toBlocks hidle o h0 ht hd ha hb hda hdb

end Sys2Proof.Machine
end

section
/-! Entry into the handler and return from it (R79, R229, R246, R309) -/

namespace Sys2Proof.Machine

/-- A scalar trap that is routed to the handler enters it where one is named and none runs. -/
theorem takeTrap_enters {s : State} {h : Nat} {t : Thread} {p : Pend} (ht : s.thr h = t) (pc : Word) (hsrc : p.src = 0)
    (hroute : s.route t.owner p.code = 0) (hvec : t.tvec ≠ 0) (hhnd : t.hnd = false) : s.takeTrap h p pc = s.setThr h (t.enter p pc) := by
  subst ht
  rw [takeTrap_handler pc hroute hvec hhnd, show s.stopFor h p = s from if_pos hsrc]

/-- What a scalar trap writes of its thread. -/
theorem enter_of_scalar (t : Thread) {p : Pend} (hsrc : p.src = 0) (pc : Word) :
    t.enter p pc = ({ t with hnd := true, tsrc := 0, tcode := p.code, tepc := pc, tval := p.tval, tvpc := 0, tpos := 0, nkeep := 0
                             tstart := 0 } : Thread).goneTo t.tvec := by
  simp only [Thread.enter, hsrc, Nat.zero_ne_one, if_false]
  rfl

@[simp] theorem retire_hart (s : State) (len : Nat) : (s.retire len).hart = s.hart := rfl

/-- SYSCALL and BREAK: an instruction that completes and then enters the handler. -/
theorem trapAfter_leaves {i : Instr} {s : State} {code imm : Nat} (hi : exec i s = s.trapAfter code imm)
    (hroute : s.route s.cur.owner code = 0) (hvec : s.cur.tvec ≠ 0) (hhnd : s.cur.hnd = false) :
    Leaves i s s.cur.tvec { s.cur with
      hnd := true, tsrc := 0, tcode := code, tepc := s.cur.pc + 4, tval := BitVec.ofNat 64 imm, tvpc := 0, tpos := 0, nkeep := 0, tstart := 0 } := by
  have hcur : (s.retire 4).thr s.hart = s.cur.ended (s.cur.pc + 4) := retireTo_cur s _
  have henter := takeTrap_enters (p := Pend.plain 0 code (toW imm)) hcur (s.cur.pc + 4) rfl hroute hvec hhnd
  have hretired := retire_retired (s := s) (Thread.like_refl s.cur) rfl 4
  rw [retire_setCur_cur] at hretired
  refine ⟨(s.retire 4).setThr s.hart ((s.cur.ended (s.cur.pc + 4)).enter (Pend.plain 0 code (toW imm)) (s.cur.pc + 4)), ?_, ?_, rfl, rfl,
      fun h hne => ?_,
    ⟨hretired.counted.counters, hretired.counted.owners, hretired.counted.timelines⟩⟩
  · rw [hi, State.trapAfter, if_neg (by simp [hroute])]
    dsimp only
    rw [show (s.retire 4).cur = s.cur.ended (s.cur.pc + 4) from hcur]
    exact congrArg _ henter
  · rw [State.cur, State.setThr_hart, retire_hart, State.thr_setThr_self, enter_of_scalar _ rfl]
    rfl
  · exact (State.thr_setThr_ne _ _ _ hne).trans (hretired.others h hne)

/-- Settles O25: SYSCALL, BREAK and a precise trap enter the handler by `takeTrap_enters`; a drain discards the trap. -/
theorem trapEntry : Obligations.TrapEntry := by
  intro s enters hvec hhnd
  refine ⟨fun o hr => trapAfter_leaves (exec_syscall s o) hr hvec hhnd, fun o hr => trapAfter_leaves (exec_breakTrap s o) hr hvec hhnd,
    fun p hsrc hroute hdrops => ?_, fun p hdrops => if_pos hdrops⟩
  rw [State.precise, if_neg (by simp [hdrops]), if_neg (by simp [hroute]), takeTrap_enters rfl _ hsrc hroute hvec hhnd, enter_of_scalar _ hsrc]
  rfl

end Sys2Proof.Machine
end

section
namespace Sys2Proof.Machine

theorem tget_map {α β : Type} (t : Table α) (f : Nat → α → β) (k : Nat) (d : α) :
    tget (t.map fun p => (p.1, f p.1 p.2)) k (f k d) = f k (tget t k d) := by
  induction t with
  | nil => rfl
  | cons p r ih =>
    rw [List.map_cons, tget, tget]
    split
    · next h => rw [h]
    · exact ih

/-- A bobbin after the return from a trap: one that is frozen resumes once its trap has been entered (R233). -/
def Thread.resumed (t : Thread) (n : Nat) (b : Bobbin) : Bobbin :=
  if b.stat.state = 2 ∧ !(t.pend.any (fun p => decide (p.src = 3) && decide (p.cmd = n))) then { b with stat := { b.stat with state := 1 } } else b

theorem resumeBobbins_bobbin (t : Thread) (n : Nat) : t.resumeBobbins.bobbin n = t.resumed n (t.bobbin n) := by
  have hmap : t.resumeBobbins.bob = t.bob.map fun p => (p.1, t.resumed p.1 p.2) :=
    List.map_congr_left fun p _ => by rw [Thread.resumed, ← apply_ite (Prod.mk p.1)]
  rw [Thread.bobbin, hmap]
  exact tget_map t.bob t.resumed n Bobbin.reset

/-- ERET of a handler, with no trace ring: the thread returns, and the instruction counts as retired. -/
theorem eret_returns {s : State} (h : s.cur.hnd = true) (hr : s.traceRings = []) : exec .eret s =
    .next ((s.count s.cur.taskid 1 1).setCur { s.cur.resumeBobbins with hnd := false, pc := s.cur.tepc, wait := .none }) := by
  have htrace : ∀ (bs : List Nat) (u : State), u.traceRings = [] →
      bs.foldl (fun s' b => if ((s'.thr s.hart).bobbin b).stat.state = 1 then s'.trace s.hart 5 (2 + b)
            ((s'.thr s.hart).rwm b).toNat else s') u = u := by
    intro bs u hu
    induction bs with
    | nil => rfl
    | cons b bs ih => rw [List.foldl_cons, trace_of_no_rings hu, ite_self, ih]
  rw [exec_eret, execEret, if_pos h]
  exact congrArg _ (htrace _ _ hr)

/-- Settles O27: ERET returns by `eret_returns`; each bobbin is as `resumeBobbins_bobbin` says. -/
theorem trapReturn : Obligations.TrapReturn := by
  intro s
  refine ⟨fun hh hr => ⟨_, eret_returns hh hr, ?_, fun n => ?_, rfl, rfl, fun h hne => State.thr_setCur_ne _ _ hne, ?_⟩, fun hh => ?_⟩
  · rw [State.cur_setCur]
    rfl
  · rw [State.cur_setCur]
    refine (resumeBobbins_bobbin s.cur n).trans (if_congr (and_congr_right fun _ => ?_) rfl rfl)
    simp
  · have hcount := countedOne_count (s := s) rfl s rfl
    exact ⟨hcount.counters, hcount.owners, hcount.timelines⟩
  · rw [Illegal, Traps, exec_eret, execEret, if_neg (by simp [hh])]
    rfl

end Sys2Proof.Machine
end

section
/-! CPYABORT and CPYSTAT (R79, R203, R213, R395) -/

namespace Sys2Proof.Machine

/-- A retirement of a machine that differs from `s` in its executing thread only, and not in the number of its task. -/
theorem retire_of_onlyThread {s t : State} {u : Thread} (h : OnlyThread s t s.hart u) (htask : u.taskid = s.cur.taskid)
    (hpc : u.pc = s.cur.pc) (len : Nat) : (t.retire len).cur = u.goneTo (s.cur.pc + toW len) ∧ (t.retire len).hart = s.hart ∧
      SameElsewhere s (t.retire len) ∧ SameOthers s (t.retire len) ∧ CountedOne s (t.retire len) := by
  have hhart : t.hart = s.hart := congrArg (·.hart) h.rest
  have hcur : t.cur = u := by rw [State.cur, hhart, h.thread]
  refine ⟨?_, hhart, ?_, fun j hj => ?_, ?_⟩
  · rw [State.retire, retireTo_cur, hcur, hpc]
    rfl
  · exact congrArg (fun x : State => { x with tasks := s.tasks }) h.rest
  · rw [State.retire, State.retireTo, State.count_thr, State.thr_setCur_ne _ _ (by rw [hhart]; exact hj)]
    exact h.others j hj
  · rw [State.retire, State.retireTo, hcur]
    exact countedOne_count htask _ (congrArg (·.tasks) h.rest)

/-- A bobbin after its abort. -/
def Bobbin.aborted (b : Bobbin) : Bobbin := { queue := [], stat := { b.stat with abt := true, state := 0 } }

/-- The number of the last command of a bobbin. -/
def lastNum (q : List BCmd) : Nat := q.foldl (fun n x => max n x.num) 0

/-- The watermark of a bobbin after its abort: the count of a command that has started, with the abort flag. -/
def Thread.abortMark (t : Thread) (bn : Nat) (started : Bool) : Word := toW ((if started then tlCount (t.rwm bn) else 0) + 2 ^ 63)

/-- The thread after the abort of a bobbin, before its timeline advances. -/
def Thread.abortedAt (t : Thread) (bn : Nat) (mark : Word) : Thread := (t.wwm bn mark).setBobbin bn (t.bobbin bn).aborted

/-- The timelines after one is raised with the flag E. -/
theorem rtl_advance_err (t : Thread) (i n j : Nat) : (t.advance i n true).rtl j =
    if j = i then BitVec.ofNat 64 (max ((t.rtl j).toNat % 2 ^ 63) n + 2 ^ 63) else t.rtl j := by
  rw [rtl_advance]
  split
  · next h => rw [h, tlRaise, Bool.or_true, cond_true, tlCount, toW]
  · rfl

/-- The thread after the abort of a bobbin whose last command has the number `n`. -/
def Thread.abort (t : Thread) (bn : Nat) (mark : Word) (n : Nat) : Thread := (t.abortedAt bn mark).advance (2 + bn) n true

section
variable (t : Thread) (bn : Nat) (mark : Word) (n : Nat)

theorem abort_eq : t.abort bn mark n = { t with
    wm := (t.abortedAt bn mark).wm, bob := (t.abortedAt bn mark).bob, tl := (t.abort bn mark n).tl, event := (t.abort bn mark n).event } :=
  advance_eq (t.abortedAt bn mark) (2 + bn) n true

theorem rtl_abort (j : Nat) : (t.abort bn mark n).rtl j =
    if j = 2 + bn then BitVec.ofNat 64 (max ((t.rtl j).toNat % 2 ^ 63) n + 2 ^ 63) else t.rtl j :=
  rtl_advance_err (t.abortedAt bn mark) (2 + bn) n j

theorem rwm_abort (j : Nat) : (t.abort bn mark n).rwm j = if j = bn then mark else t.rwm j := by
  rw [abort_eq]
  exact Thread.rwm_wwm t bn j mark

theorem bobbin_abort (j : Nat) : (t.abort bn mark n).bobbin j = if j = bn then (t.bobbin bn).aborted else t.bobbin j := by
  rw [abort_eq]
  exact bobbin_setBobbin (t.wwm bn mark) bn j (t.bobbin bn).aborted

end

/-- The abort of a bobbin that holds commands changes its thread only. -/
theorem bobAbort_onlyThread {s : State} {h bn : Nat} {q : BCmd} {r : List BCmd} (hq : ((s.thr h).bobbin bn).queue = q :: r)
    (hr : s.traceRings = []) :
    OnlyThread s (s.bobAbort h bn) h ((s.thr h).abort bn ((s.thr h).abortMark bn q.started) (lastNum (q :: r))) := by
  have hstate : s.bobAbort h bn = (s.setThr h ((s.thr h).abortedAt bn ((s.thr h).abortMark bn q.started))).advance h (2 + bn)
      (lastNum (q :: r)) true := by
    unfold State.bobAbort
    simp only [hq]
    rw [trace_of_no_rings (by exact hr), State.setBob, State.setThr_setThr, State.thr_setThr_self]
    rfl
  have hadv := onlyThread_advance (s := s.setThr h ((s.thr h).abortedAt bn ((s.thr h).abortMark bn q.started))) hr h (2 + bn) (lastNum (q :: r)) true
  rw [State.thr_setThr_self] at hadv
  rw [hstate]
  exact ⟨hadv.thread, fun j hj => (hadv.others j hj).trans (State.thr_setThr_ne _ _ _ hj),
    congrArg (fun x : State => { x with threads := s.threads }) hadv.rest⟩

/-- CPYABORT of a bobbin with commands, none of which awaits an answer. -/
theorem cpyabort_aborts {s : State} {o : OpBob} {q : BCmd} {r : List BCmd} (hq : (s.cur.bobbin o.bn).queue = q :: r)
    (hsent : ∀ x ∈ q :: r, x.sent = [] ∧ x.io = none) : exec (.cpyabort o) s = .next ((s.bobAbort s.hart o.bn).retire 4) := by
  have hwaits : s.cur.abortWaits o.bn = false := by
    rw [Thread.abortWaits, hq, List.any_eq_false]
    intro x hx
    obtain ⟨h1, h2⟩ := hsent x hx
    simp [h1, h2]
  exact if_neg (by simp [hwaits])

theorem cpyabort_idle {s : State} {o : OpBob} (hq : (s.cur.bobbin o.bn).queue = []) : GoesTo (.cpyabort o) s (s.cur.pc + 4) := by
  obtain ⟨t, ht, hret⟩ := regOp_id s 4
  have hwaits : s.cur.abortWaits o.bn = false := by rw [Thread.abortWaits, hq, List.any_nil]
  have habort : s.bobAbort s.hart o.bn = s := by
    rw [State.bobAbort, show ((s.thr s.hart).bobbin o.bn).queue = [] from hq]
  refine ⟨t, ?_, hret⟩
  rw [exec_cpyabort, execCpyabort, hwaits, if_neg Bool.false_ne_true, habort, ← ht, regOp, id, retire_setCur_cur]

/-- Settles O46: an abort changes its thread as `bobAbort_onlyThread` says; CPYSTAT writes `bstat`. -/
theorem bobbinControl : Obligations.BobbinControl := by
  intro s t
  refine ⟨fun o hq => cpyabort_idle hq, fun o q r hq hsent hr => ?_, fun o => ?_⟩
  · have hon : OnlyThread s (s.bobAbort s.hart o.bn) s.hart _ := bobAbort_onlyThread hq hr
    obtain ⟨hcur, hrest⟩ := retire_of_onlyThread hon (by rw [abort_eq]; rfl) (by rw [abort_eq]; rfl) 4
    refine ⟨_, cpyabort_aborts hq hsent, fun n => ?_, fun n => ?_, fun n => ?_, ?_, hrest⟩
    · rw [hcur]
      exact rtl_abort t o.bn _ _ n
    · rw [hcur]
      refine (rwm_abort t o.bn _ _ n).trans (if_ctx_congr Iff.rfl (fun hn => ?_) (fun _ => rfl))
      rw [hn]
      rfl
    · rw [hcur]
      exact bobbin_abort t o.bn _ _ n
    · rw [hcur, abort_eq]
      rfl
  · change WritesX _ _ _ _ (BitVec.ofNat 64 _)
    rw [← bstat_eq]
    exact writesX_of_regOp rfl

end Sys2Proof.Machine
end

section
/-! Queue registers of the scalar stream (R73, R80, R240, R314) -/

namespace Sys2Proof.Machine

/-- A queue is on when QCFG names two streams for it, one of each end. -/
theorem qOff_eq_false_iff (t : Thread) (q : Nat) :
    t.qOff q = false ↔ t.qProd q ≠ t.qCons q ∧ t.qProd q ≠ 3 ∧ t.qCons q ≠ 3 := by
  simp [Thread.qOff, and_assoc]

theorem qMayPut_iff (t : Thread) (q n : Nat) :
    t.qMayPut q n = true ↔ (t.qProd q ≠ t.qCons q ∧ t.qProd q ≠ 3 ∧ t.qCons q ≠ 3) ∧ t.qProd q = n := by
  rw [Thread.qMayPut, Bool.and_eq_true, Bool.not_eq_true', qOff_eq_false_iff, decide_eq_true_iff]

theorem qMayGet_iff (t : Thread) (q n : Nat) :
    t.qMayGet q n = true ↔ (t.qProd q ≠ t.qCons q ∧ t.qProd q ≠ 3 ∧ t.qCons q ≠ 3) ∧ t.qCons q = n := by
  rw [Thread.qMayGet, Bool.and_eq_true, Bool.not_eq_true', qOff_eq_false_iff, decide_eq_true_iff]

theorem headBad_iff (t : Thread) (q : Nat) : t.headBad q = true ↔ 0 ∈ tget t.qbad q [] := by
  simp [Thread.headBad, shas]

/-- `u` is `t` but for its queues and x registers. -/
def Thread.QueuesOf (u t : Thread) : Prop := { u with q := t.q, qbad := t.qbad, x := t.x } = t

theorem Thread.QueuesOf.refl (t : Thread) : t.QueuesOf t := rfl

theorem Thread.QueuesOf.pc {u t : Thread} (h : u.QueuesOf t) : u.pc = t.pc := by
  have := congrArg Thread.pc h
  exact this

theorem Thread.QueuesOf.taskid {u t : Thread} (h : u.QueuesOf t) : u.taskid = t.taskid := by
  have := congrArg Thread.taskid h
  exact this

theorem Thread.QueuesOf.wx {u t : Thread} (h : u.QueuesOf t) (d : Nat) (v : Word) : (u.wx d v).QueuesOf t := by
  unfold Thread.wx
  split
  · exact h
  · exact h

/-- An instruction of the scalar stream that has read or written queue `q`: the thread's queues, unreadable entries and x registers are those
given, and nothing else has changed. -/
def QueueMoved (i : Instr) (s : State) (q : Nat) (l : List Word) (x : Nat → Word) (bad : Nat → Nat → Prop) : Prop :=
  ∃ u, exec i s = .next u ∧ (∀ n, u.cur.rq n = if n = q then l else s.cur.rq n) ∧ (∀ n, u.cur.rx n = x n) ∧
    (∀ n j, j ∈ tget u.cur.qbad n [] ↔ bad n j) ∧
    { u.cur with q := s.cur.q, qbad := s.cur.qbad, x := s.cur.x } = s.cur.goneTo (s.cur.pc + 4) ∧ u.hart = s.hart ∧
    SameElsewhere s u ∧ SameOthers s u ∧ CountedOne s u

theorem queueMoved_of_regOp {i : Instr} {s : State} {f : Thread → Thread} {q : Nat} {l : List Word} {x : Nat → Word}
    {bad : Nat → Nat → Prop} (hi : exec i s = regOp 4 s f)
    (hf : (f s.cur).QueuesOf s.cur)
    (hq : ∀ n, (f s.cur).rq n = if n = q then l else s.cur.rq n) (hx : ∀ n, (f s.cur).rx n = x n)
    (hbad : ∀ n j, j ∈ tget (f s.cur).qbad n [] ↔ bad n j) : QueueMoved i s q l x bad := by
  obtain ⟨u, hu, hcur, hhart, helse, hothers, hcount⟩ := leaves_of_retire (len := 4) hi hf.pc hf.taskid
  refine ⟨u, hu, ?_, ?_, ?_, ?_, hhart, helse, hothers, hcount⟩
  · rw [hcur]; exact hq
  · rw [hcur]; exact hx
  · rw [hcur]; exact hbad
  · rw [hcur]; exact congrArg (fun t : Thread => t.goneTo (s.cur.pc + 4)) hf

/-- Where QCFG names the scalar stream as the producer, and there is room. -/
theorem qput_moves {s : State} {o : OpQput} (hmay : s.cur.qMayPut o.q 0 = true) (hroom : (s.cur.rq o.q).length < 16) :
    QueueMoved (.qput o) s o.q (s.cur.rq o.q ++ [s.cur.rx o.a]) s.cur.rx fun n j => j ∈ tget s.cur.qbad n [] := by
  obtain ⟨⟨hne, -, -⟩, hprod⟩ := (qMayPut_iff _ _ _).mp hmay
  have hpush : s.cur.qPush o.q (s.cur.rx o.a) = s.cur.wq o.q (s.cur.rq o.q ++ [s.cur.rx o.a]) := if_neg fun h => hne (hprod.trans h.symm)
  refine queueMoved_of_regOp (f := fun t => t.qPush o.q (t.rx o.a)) ?_ ?_ (fun n => ?_) (fun n => ?_) (fun n j => ?_)
  · rw [exec_qput, execQput, if_neg (by simp [hmay]), if_neg (by omega)]
  all_goals rw [hpush]
  · rfl
  · exact Thread.rq_wq _ _ _ _
  · rfl
  · rfl

/-- QGET and QPEEK where QCFG names the scalar stream as the consumer and the queue has a head: the head is delivered unless its word cannot
be read. -/
theorem qget_head {s : State} {o : OpQget} {v : Word} {r : List Word} (hmay : s.cur.qMayGet o.q 0 = true) (hq : s.cur.rq o.q = v :: r) :
    exec (.qget o) s = (if s.cur.headBad o.q then .next (s.precise (s.queueTrap 0)) else regOp 4 s (fun t => (t.qPop o.q r).wx o.d v)) ∧
    exec (.qpeek o) s = if s.cur.headBad o.q then .next (s.precise (s.queueTrap 0)) else regOp 4 s (fun t => t.wx o.d v) := by
  constructor
  · rw [exec_qget, execQget, if_neg (by simp [hmay]), hq]
  · rw [exec_qpeek, execQpeek, if_neg (by simp [hmay]), hq]

theorem qget_moves {s : State} {o : OpQget} {v : Word} {r : List Word} (hmay : s.cur.qMayGet o.q 0 = true) (hq : s.cur.rq o.q = v :: r)
    (hgood : s.cur.headBad o.q = false) : QueueMoved (.qget o) s o.q r (xAfter s.cur o.d v)
      fun n j => if n = o.q then j + 1 ∈ tget s.cur.qbad o.q [] else j ∈ tget s.cur.qbad n [] := by
  have hpop := qPop_eq s.cur o.q r
  refine queueMoved_of_regOp ((qget_head hmay hq).1.trans (if_neg (by simp [hgood]))) ?_ (fun n => ?_) (fun n => ?_) (fun n j => ?_)
  · refine Thread.QueuesOf.wx ?_ o.d v
    rw [hpop]
    rfl
  · rw [Thread.rq, Thread.wx_q]
    exact rq_qPop _ _ _ _
  · have hx : (s.cur.qPop o.q r).rx = s.cur.rx := by rw [hpop]; rfl
    rw [Thread.rx_wx, hx, ← Thread.rx_wx, xAfter_eq]
  · rw [Thread.wx_qbad]
    refine (mem_qbad_qPop r n j).trans ?_
    split
    · next h => rw [h]
    · rfl

theorem qpeek_moves {s : State} {o : OpQget} {v : Word} {r : List Word} (hmay : s.cur.qMayGet o.q 0 = true) (hq : s.cur.rq o.q = v :: r)
    (hgood : s.cur.headBad o.q = false) : QueueMoved (.qpeek o) s o.q (v :: r) (xAfter s.cur o.d v) fun n j => j ∈ tget s.cur.qbad n [] := by
  refine queueMoved_of_regOp ((qget_head hmay hq).2.trans (if_neg (by simp [hgood]))) ?_ (fun n => ?_) (fun n => ?_) (fun n j => ?_)
  · exact (Thread.QueuesOf.refl _).wx o.d v
  · rw [Thread.rq, Thread.wx_q]
    split
    · next h => rw [h]; exact hq
    · rfl
  · rw [xAfter_eq]
  · rw [Thread.wx_qbad]

/-- Settles O29: the accesses by `qput_moves`, `qget_moves` and `qpeek_moves`; the others end in a wait or in a trap. -/
theorem queueRegisters : Obligations.QueueRegisters := by
  intro s t cons prod used leaves
  have put : ∀ {q}, used q → prod q = 0 → t.qMayPut q 0 = true := fun hu hp => (qMayPut_iff _ _ _).mpr ⟨hu, hp⟩
  have get : ∀ {q}, used q → cons q = 0 → t.qMayGet q 0 = true := fun hu hc => (qMayGet_iff _ _ _).mpr ⟨hu, hc⟩
  have noPut : ∀ {q}, ¬ (used q ∧ prod q = 0) → t.qMayPut q 0 = false :=
    fun h => Bool.eq_false_iff.mpr fun hm => h ((qMayPut_iff _ _ _).mp hm)
  have noGet : ∀ {q}, ¬ (used q ∧ cons q = 0) → t.qMayGet q 0 = false :=
    fun h => Bool.eq_false_iff.mpr fun hm => h ((qMayGet_iff _ _ _).mp hm)
  refine ⟨fun o => ⟨fun hu hp hroom => ?_, fun hu hp hfull => ?_, fun hno => ?_⟩,
    fun o => ⟨fun v r hu hc hq hgood => ?_, fun v r hu hc hq hbad => ?_, fun hu hc hq => ⟨?_, ?_⟩, fun hno => ⟨?_, ?_⟩⟩⟩
  · simpa only [QueueMoved, leaves, Bool.false_eq_true, false_and, if_false] using qput_moves (put hu hp) hroom
  · rw [Waits, exec_qput, execQput, if_neg (by simp [t, put hu hp]), if_pos hfull]
    rfl
  · rw [Illegal, Traps, exec_qput, execQput, if_pos (by simp [t, noPut hno])]
    rfl
  · have hhead : t.headBad o.q = false := Bool.eq_false_iff.mpr fun h => hgood ((headBad_iff _ _).mp h)
    constructor
    · simpa only [QueueMoved, leaves, true_and] using qget_moves (get hu hc) hq hhead
    · simpa only [QueueMoved, leaves, Bool.false_eq_true, false_and, if_false] using qpeek_moves (get hu hc) hq hhead
  · have hhead : t.headBad o.q = true := (headBad_iff _ _).mpr hbad
    obtain ⟨hget, hpeek⟩ := qget_head (get hu hc) hq
    exact ⟨s.queueTrap 0, rfl, rfl, hget.trans (if_pos hhead), hpeek.trans (if_pos hhead)⟩
  · rw [Waits, exec_qget, execQget, if_neg (by simp [t, get hu hc]), show s.cur.rq o.q = [] from hq]
    rfl
  · rw [Waits, exec_qpeek, execQpeek, if_neg (by simp [t, get hu hc]), show s.cur.rq o.q = [] from hq]
    rfl
  · rw [Illegal, Traps, exec_qget, execQget, if_pos (by simp [t, noGet hno])]
    rfl
  · rw [Illegal, Traps, exec_qpeek, execQpeek, if_pos (by simp [t, noGet hno])]
    rfl

end Sys2Proof.Machine
end

section
/-! TLADV (R74, R125, R202, R310, R393) -/

namespace Sys2Proof.Machine

theorem State.Stored.threads {s t : State} (h : s.Stored t) : t.threads = s.threads := h.accessed.threads
theorem State.Stored.tasks {s t : State} (h : s.Stored t) : t.tasks = s.tasks := by obtain ⟨_, _, _, _, rfl⟩ := h; rfl
theorem State.Stored.hart {s t : State} (h : s.Stored t) : t.hart = s.hart := by obtain ⟨_, _, _, _, rfl⟩ := h; rfl
theorem State.Stored.traceRings {s t : State} (h : s.Stored t) : t.traceRings = s.traceRings := by obtain ⟨_, _, _, _, rfl⟩ := h; rfl

theorem State.Stored.thr {s t : State} (h : s.Stored t) (j : Nat) : t.thr j = s.thr j := by rw [State.thr, h.threads, State.thr]
theorem State.Stored.cur {s t : State} (h : s.Stored t) : t.cur = s.cur := by rw [State.cur, h.hart, h.thr, State.cur]

theorem State.Stored.countedOne {s r u : State} (h : s.Stored r) (hc : CountedOne r u) : CountedOne s u := by
  have hw : ∀ k, r.words k = s.words k := fun k => by rw [State.words, h.tasks, State.words]
  refine ⟨fun k n => ?_, fun k => (hc.owners k).trans (by rw [hw]), fun k => (hc.timelines k).trans (by rw [hw])⟩
  rw [hc.counters, h.cur, State.counter, hw, State.counter]

/-- What TLADV waits for (R125, R393). -/
theorem covering_eq_false_iff (t : Thread) : t.covering = false ↔ t.viq = [] ∧ ∀ e ∈ t.win, e.complete = true := by
  simp [Thread.covering]

/-- A timeline and the event flag after an advance. -/
theorem event_advance (t : Thread) (i n : Nat) (err : Bool) :
    (t.advance i n err).event = (t.event || decide (tlRaise (t.rtl i) n err ≠ t.rtl i)) := by
  by_cases h : tlRaise (t.rtl i) n err = t.rtl i
  · rw [advance_of_eq h, decide_eq_false (not_not_intro h), Bool.or_false]
  · rw [advance_of_ne h, decide_eq_true h, Bool.or_true]

theorem tlRaise_eq (w v : Word) : tlRaise w (v.toNat % 2 ^ 63) (v.toNat.testBit 63) = BitVec.ofNat 64
    (max (w.toNat % 2 ^ 63) (v.toNat % 2 ^ 63) + if w.toNat.testBit 63 || v.toNat.testBit 63 then 2 ^ 63 else 0) := by
  rw [tlRaise, tlCount, tlErr, Bool.cond_eq_ite, toW]

/-- TLADV of a task's own timeline whose accesses have performed: the release, the advance, and the end of the instruction. -/
theorem tladv_advances {s : State} {o : OpTladv} (htl : 10 ≤ o.tl) (hc : s.cur.covering = false) (hd : s.dirtyClosed = false) :
    exec (.tladv o) s = .next ((s.release.advance s.hart o.tl ((s.cur.rx o.b).toNat % 2 ^ 63) ((s.cur.rx o.b).toNat.testBit 63)).retire 4) := by
  have hhart : s.release.hart = s.hart := (stored_l1WriteBackThread s _ _).hart
  rw [exec_tladv, execTladv, if_neg (by omega), if_neg (by simp [hc]), if_neg (by simp [hd])]
  dsimp only
  rw [hhart]

/-- Settles O33: TLADV advances by `tladv_advances`; it waits while it covers an access, and tl0 to tl9 are illegal. -/
theorem timelineAdvance : Obligations.TimelineAdvance := by
  intro s o t v old new r
  refine ⟨fun htl hviq hwin hd hr => ?_, fun htl hout => ?_, fun htl => ?_⟩
  · have hst : s.Stored r := stored_l1WriteBackThread s _ _
    have hnew : tlRaise (t.rtl o.tl) (v % 2 ^ 63) (v.testBit 63) = new := tlRaise_eq _ _
    have hon : OnlyThread r (r.advance s.hart o.tl (v % 2 ^ 63) (v.testBit 63)) r.hart (t.advance o.tl (v % 2 ^ 63) (v.testBit 63)) := by
      have h := onlyThread_advance (s := r) (hst.traceRings.trans hr) s.hart o.tl (v % 2 ^ 63) (v.testBit 63)
      rw [hst.thr] at h
      rw [hst.hart]
      exact h
    have hadv := advance_eq t o.tl (v % 2 ^ 63) (v.testBit 63)
    have hrtl := rtl_advance t o.tl (v % 2 ^ 63) (v.testBit 63)
    have hev := event_advance t o.tl (v % 2 ^ 63) (v.testBit 63)
    rw [hnew] at hrtl hev
    obtain ⟨hcur, -, helse, hothers, hcount⟩ := retire_of_onlyThread hon (by rw [hst.cur, hadv]) (by rw [hst.cur, hadv]) 4
    rw [hst.cur] at hcur
    refine ⟨(r.advance s.hart o.tl (v % 2 ^ 63) (v.testBit 63)).retire 4, tladv_advances htl ((covering_eq_false_iff t).mpr ⟨hviq, hwin⟩) hd,
        fun n => ?_, ?_, ?_, helse, fun h hne => ?_,
      hst.countedOne hcount⟩
    · rw [hcur]
      exact hrtl n
    · rw [hcur]
      exact hev
    · rw [hcur, hadv]
      rfl
    · exact (hothers h (hst.hart ▸ hne)).trans (hst.thr h)
  · have hcov : s.cur.covering = true := Bool.not_eq_false _ ▸ fun h => by
      obtain ⟨h1, h2⟩ := (covering_eq_false_iff _).mp h
      rcases hout with hv | ⟨e, he, hc⟩
      · exact hv h1
      · exact Bool.false_ne_true (hc.symm.trans (h2 e he))
    rw [Waits, exec_tladv, execTladv, if_neg (by omega), if_pos hcov]
    rfl
  · rw [Illegal, Traps, exec_tladv, execTladv, if_pos htl]
    rfl

end Sys2Proof.Machine
end

section
/-! Scalar loads from the scratchpad window (R63, R82, R104, R296) -/

namespace Sys2Proof.Machine

/-- The bytes of a range, one after another. -/
theorem bytesAt_eq_map (n : Nat) (f : Nat → Byte) (a : Nat) : bytesAt n f a = (List.range n).map fun i => f (a + i) := by
  induction n generalizing a with
  | zero => rfl
  | succ n ih =>
    rw [bytesAt, ih, List.range_succ_eq_map, List.map_cons, List.map_map, Nat.add_zero]
    exact congrArg _ (List.map_congr_left fun i _ => congrArg f (by simp only [Nat.succ_eq_add_one]; omega))

theorem leNat_spadRead (s : State) (off n : Nat) : leNat (s.spadRead s.cur.owner (coreOf s.hart) off n) = s.spadValue off n := by
  rw [State.spadRead, bytesAt_eq_map, State.spadValue]

/-- A request that reaches an arbiter changes the queues before the banks only. -/
theorem arrive_eq (s : State) (p input pa o : Nat) (r : MemReq) (reply : ReplyTo) :
    ∃ B Q L, s.arrive p input pa o r reply = { s with banks := B, spadQueue := Q, l2Queue := L } := by
  unfold State.arrive State.arriveAs
  split
  · exact ⟨_, _, _, rfl⟩
  · exact ⟨_, _, _, rfl⟩
  · exact ⟨_, _, _, rfl⟩

/-- What a load makes of its thread when the bytes read are `v`: its x and f registers, and nothing else. -/
structure Delivers (t : Thread) (wr : Thread → Nat → Thread) (x f : Nat → Nat → Word) : Prop where
  like : ∀ v, (wr t v).Like t
  pc : ∀ v, (wr t v).pc = t.pc
  x : ∀ v, (wr t v).rx = x v
  f : ∀ v, (wr t v).rf = f v
  fstat : ∀ v, (wr t v).fstat = t.fstat

theorem delivers_toXs (t : Thread) (d n : Nat) :
    Delivers t (toXs d n) (fun v => xAfter t d ((BitVec.ofNat (8 * n) v).signExtend 64)) (fun _ => t.rf) where
  like _ := t.like_wx _ _
  pc _ := Thread.wx_pc _ _ _
  x v := by rw [toXs, sextW_eq, xAfter_eq]
  f v := funext fun m => Thread.rf_wx t d m _
  fstat _ := Thread.wx_fstat _ _ _

theorem delivers_toXz (t : Thread) (d : Nat) : Delivers t (toXz d) (fun v => xAfter t d (BitVec.ofNat 64 v)) (fun _ => t.rf) where
  like _ := t.like_wx _ _
  pc _ := Thread.wx_pc _ _ _
  x v := by rw [toXz, xAfter_eq, toW]
  f v := funext fun m => Thread.rf_wx t d m _
  fstat _ := Thread.wx_fstat _ _ _

theorem delivers_toF (t : Thread) (d : Nat) : Delivers t (toF d) (fun _ => t.rx) (fun v => fAfter t d (BitVec.ofNat 64 v)) where
  like _ := t.like_wf _ _
  pc _ := rfl
  x _ := rfl
  f v := by rw [toF, fAfter_eq, toW]
  fstat _ := rfl

/-- What the obligation asks of one load. -/
def SpadLoad (s : State) (off : Nat) (i : Instr) (va : Word) (n len : Nat) (x f : Nat → Nat → Word) : Prop :=
  let completes := fun (v : Nat) => ∃ t, exec i s = .next t ∧ Retired s t (s.cur.pc + toW len) (x v) (f v) s.cur.fstat
  (s.travel = false → SpadAccess s va n off → completes (s.spadValue off n)) ∧
  (s.travel = true → SpadAccess s va n off → s.cur.remote = none → exec i s = .next (s.sent off (.read n))) ∧
  (∀ v, Answered s (.spad off) v → completes v)

section
variable {i : Instr} {s : State} {len n off : Nat} {va : Word} {word : Bool} {wr : Thread → Nat → Thread} {x f : Nat → Nat → Word}

/-- A load whose access answers `v` writes its register and completes. -/
theorem loadTo_completes {v : Nat} (hi : exec i s = loadTo len va n 0 word wr s) (hd : Delivers s.cur wr x f)
    (hl : s.load va n 0 word = .ok s v) :
    ∃ t, exec i s = .next t ∧ Retired s t (s.cur.pc + toW len) (x v) (f v) s.cur.fstat := by
  refine ⟨(s.setCur (wr s.cur v)).retire len, by rw [hi, loadTo, hl]; rfl, ?_⟩
  have h := retire_retired (hd.like v) (hd.pc v) len
  rwa [hd.x, hd.f, hd.fstat] at h

/-- While accesses perform in place, the load reads the bytes. -/
theorem load_spad (ht : s.travel = false) (ha : SpadAccess s va n off) (hn : 0 < n) : s.load va n 0 word = .ok s (s.spadValue off n) := by
  rw [State.load, ha.access hn .sload ⟨nofun, nofun, nofun⟩ _, ← leNat_spadRead]
  simp [Out.bind, ht]

/-- While accesses travel, the answer that has come back is the value. -/
theorem load_answered {v : Nat} (h : Answered s (.spad off) v) : s.load va n 0 word = .ok s v := by
  obtain ⟨ht, ha, hr⟩ := h
  simp [State.load, State.access, State.place, State.journey, Out.bind, ht, ha, hr]

/-- While accesses travel, the load goes to its bank first. -/
theorem loadTo_sends (hi : exec i s = loadTo len va n 0 word wr s) (ht : s.travel = true) (ha : SpadAccess s va n off) (hn : 0 < n)
    (hr : s.cur.remote = none) : exec i s = .next (s.sent off (.read n)) := by
  obtain ⟨B, Q, L, harr⟩ := arrive_eq s (pillarOf (coreOf s.hart)) (35 + s.hart % 4) (0x10000000000 + coreOf s.hart * 2 ^ 24 + off)
    s.cur.owner (.read n) (.scalar s.hart)
  have hj : s.journey (.spad off) (.read n) 1 = .wait .remote (({ s with banks := B, spadQueue := Q, l2Queue := L } : State).depart (.spad off)) := by
    rw [State.journey, hr, ha.away, ← harr]
    rfl
  have hl : s.load va n 0 word = .wait .remote (({ s with banks := B, spadQueue := Q, l2Queue := L } : State).depart (.spad off)) := by
    rw [State.load, ha.access hn .sload ⟨nofun, nofun, nofun⟩ _]
    simp only [Out.bind, ht, ne_eq, not_true_eq_false, false_and, if_false, if_true, hj]
  rw [hi, loadTo, hl, State.sent, harr]
  change Host.Outcome.next ((State.depart _ _).waiting .remote) = _
  rw [State.depart, waiting_setCur _ _ (by decide)]
  rfl

theorem loadTo_spad (hi : exec i s = loadTo len va n 0 word wr s) (hn : 0 < n) (hd : Delivers s.cur wr x f) :
    SpadLoad s off i va n len x f :=
  ⟨fun ht ha => loadTo_completes hi hd (load_spad ht ha hn), fun ht ha hr => loadTo_sends hi ht ha hn hr,
    fun _ h => loadTo_completes hi hd (load_answered h)⟩

end

theorem ea_eq (t : Thread) (a imm : Nat) : t.ea a imm = t.rx a + (BitVec.ofNat 12 imm).signExtend 64 := by
  rw [Thread.ea, imm12_eq]

/-- Settles O10: every load is `loadTo` of its width and register, and `loadTo_spad` says what that does. -/
theorem loadsFromScratchpad : Obligations.LoadsFromScratchpad := by
  intro s off
  change EachLoad s.cur (SpadLoad s off)
  refine ⟨fun o => ?_, fun o => ?_⟩
  · intro va len signed zero float
    have hva : va = s.cur.ea o.a o.imm := (ea_eq _ _ _).symm
    rw [hva]
    exact ⟨loadTo_spad (exec_ldI8 s o) (by decide) (delivers_toXs _ _ _), loadTo_spad (exec_ldI16 s o) (by decide) (delivers_toXs _ _ _),
      loadTo_spad (exec_ldI32 s o) (by decide) (delivers_toXs _ _ _), loadTo_spad (exec_ldI64 s o) (by decide) (delivers_toXz _ _),
      loadTo_spad (exec_ldN8 s o) (by decide) (delivers_toXz _ _), loadTo_spad (exec_ldN16 s o) (by decide) (delivers_toXz _ _),
      loadTo_spad (exec_ldN32 s o) (by decide) (delivers_toXz _ _), loadTo_spad (exec_ldF16 s o) (by decide) (delivers_toF _ _),
      loadTo_spad (exec_ldF32 s o) (by decide) (delivers_toF _ _), loadTo_spad (exec_ldF64 s o) (by decide) (delivers_toF _ _)⟩
  · exact ⟨loadTo_spad (exec_cLdI32 s o) (by decide) (delivers_toXs _ _ _), loadTo_spad (exec_cLdI64 s o) (by decide) (delivers_toXz _ _),
      loadTo_spad (exec_cLdF64 s o) (by decide) (delivers_toF _ _)⟩

end Sys2Proof.Machine
end

section
/-! Vector compares and mask operations (R65, R333 to R335) -/

namespace Sys2Proof.Machine

/-! One bit of a mask -/

/-- A written bit set, by its bits above the written one, that bit, and the bits below it. -/
theorem setBit_eq (s i : Nat) (b : Bool) : setBit s i b = 2 ^ i * (2 * (s / 2 ^ i / 2) + b.toNat) + s % 2 ^ i := by
  have hs : 2 ^ i * (s / 2 ^ i) + s % 2 ^ i = s := Nat.div_add_mod s (2 ^ i)
  have hq := Nat.div_add_mod (s / 2 ^ i) 2
  have hbit : s.testBit i = decide (s / 2 ^ i % 2 = 1) := Nat.testBit_eq_decide_div_mod_eq
  have hold : ∀ c, s / 2 ^ i % 2 = c → s = 2 ^ i * (2 * (s / 2 ^ i / 2)) + 2 ^ i * c + s % 2 ^ i := fun c hc => by
    rw [← Nat.mul_add, ← hc, hq, hs]
  rw [setBit, hbit, Nat.mul_add]
  rcases Nat.mod_two_eq_zero_or_one (s / 2 ^ i) with h | h <;> have := hold _ h <;> cases b <;> simp [h] <;> omega

theorem testBit_setBit (s i j : Nat) (b : Bool) : (setBit s i b).testBit j = if j = i then b else s.testBit j := by
  have hlow : s % 2 ^ i < 2 ^ i := Nat.mod_lt _ (Nat.two_pow_pos i)
  rw [setBit_eq, Nat.testBit_two_pow_mul_add _ hlow]
  rcases lt_trichotomy j i with h | rfl | h
  · rw [if_pos h, if_neg h.ne, Nat.testBit_mod_two_pow, decide_eq_true h, Bool.true_and]
  · rw [if_neg (lt_irrefl j), if_pos rfl, Nat.sub_self]
    cases b <;> simp [Nat.testBit_zero]
  · obtain ⟨n, rfl⟩ : ∃ n, j = i + (n + 1) := ⟨j - i - 1, by omega⟩
    have hhalf : (2 * (s / 2 ^ i / 2) + b.toNat) / 2 = s / 2 ^ i / 2 := by
      have := b.toNat_lt
      omega
    rw [if_neg (by omega), if_neg (by omega), Nat.add_sub_cancel_left, Nat.testBit_succ, hhalf, Nat.add_comm i, Nat.testBit_add,
      Nat.testBit_succ]

theorem rk_wk (t : Thread) (d i m j : Nat) (b : Bool) : (t.wk d i b).rk m j = if m = d ∧ d ≠ 0 ∧ j = i then b else t.rk m j := by
  unfold Thread.wk
  by_cases hd : d = 0
  · rw [if_pos hd, if_neg fun h => h.2.1 hd]
  · rw [if_neg hd]
    unfold Thread.rk
    dsimp only
    rw [tget_tset]
    by_cases hm : m = d
    · subst hm
      rw [if_neg hd, if_neg hd, if_pos rfl, testBit_setBit]
      simp [hd]
    · rw [if_neg hm, if_neg (c := _ ∧ _) fun h => hm h.1]

/-! The masks that an instruction writes, one element after another -/

/-- `u` is `t` after the elements below `n` have written their bits of mask `d` and raised their flags. -/
structure Masked (t u : Thread) (d k : Nat) (val : Nat → Bool) (fl : Nat → FFlags) (n : Nat) : Prop where
  frame : u = { t with k := u.k, fstat := t.fstat ||| flagsBelow (t.writes k) fl n }
  bits : ∀ m j, u.rk m j = if m = d ∧ d ≠ 0 ∧ t.writes k j = true ∧ j < n then val j else t.rk m j

section
variable {t u : Thread} {d k n : Nat} {val : Nat → Bool} {fl : Nat → FFlags}

theorem Masked.refl : Masked t t d k val fl 0 :=
  ⟨(with_no_flags t).symm, fun m j => by rw [if_neg fun h => Nat.not_lt_zero j h.2.2.2]⟩

/-- An element whose mask bit is not yet written reads it as it was before. -/
theorem Masked.rk_self (h : Masked t u d k val fl n) (m : Nat) : u.rk m n = t.rk m n := by
  rw [h.bits, if_neg fun h => lt_irrefl n h.2.2.2]

theorem Masked.vGet (h : Masked t u d k val fl n) (nreg r w j : Nat) : u.vGet nreg r w j = t.vGet nreg r w j := by
  rw [h.frame]
  rfl

theorem Masked.opb (h : Masked t u d k val fl n) (nreg : Nat) (b : VSrc) (w j : Nat) : u.opb nreg b w j = t.opb nreg b w j := by
  rw [h.frame]
  rfl

theorem Masked.step (h : Masked t u d k val fl n) (hw : t.writes k n = true) :
    Masked t ((u.wk d n (val n)).raise (fl n)) d k val fl (n + 1) := by
  refine ⟨?_, fun m j => ?_⟩
  · rw [flagsBelow_succ, if_pos hw, ← BitVec.or_assoc]
    conv_lhs => rw [h.frame]
    unfold Thread.raise Thread.flag Thread.wk
    split <;> rfl
  · change (u.wk d n (val n)).rk m j = _
    rw [rk_wk, h.bits]
    by_cases hj : j = n
    · subst hj
      simp [hw]
    · simp only [hj, and_false, if_false, show j < n + 1 ↔ j < n by omega]

theorem Masked.skip (h : Masked t u d k val fl n) (hw : ¬ t.writes k n = true) : Masked t u d k val fl (n + 1) := by
  refine ⟨?_, fun m j => ?_⟩
  · rw [flagsBelow_succ, if_neg hw]
    exact h.frame
  · rw [h.bits]
    refine if_congr ?_ rfl rfl
    have : t.writes k j = true → j ≠ n := fun hj hn => hw (hn ▸ hj)
    grind

end

/-- Masks of the thread while its instruction runs are masks of the thread before it. -/
theorem Masked.settled {s : State} {len k rm d k' n : Nat} {op : VOp} {rb : Option (Bool × Nat)} {u : Thread} {val : Nat → Bool}
    {fl : Nat → FFlags} (h : Masked (s.started len op k rm rb) u d k' val fl n) : Masked s.cur (u.settledAs s.cur) d k' val fl n := by
  refine ⟨?_, h.bits⟩
  rw [h.frame]
  rfl

/-- What the obligation asks of an instruction that writes mask `d`. -/
def SetsMask (i : Instr) (s : State) (len d k : Nat) (val : Nat → Bool) (fl : FFlags) : Prop := Performs i s len fun v =>
  { v with k := s.cur.k } = { s.cur with fstat := s.cur.fstat ||| fl } ∧
  ∀ n j, v.rk n j = if n = d ∧ d ≠ 0 ∧ s.cur.writes k j = true then val j else s.cur.rk n j

/-- An elementwise instruction of an idle thread whose every element writes its bit of mask `d`. -/
theorem setsMask_of_elem {i : Instr} {s : State} {len k rm d : Nat} {op : VOp} {val : Nat → Bool} {fl : Nat → FFlags} (hidle : Idle s)
    (hc : VCommitsAs i s len s.cur op k rm none) (hop : op.elementwise = true)
    (helem : ∀ n u, Masked (s.started len op k rm none) u d k val fl n → u.elem (s.begun op k rm) n = (u.wk d n (val n)).raise (fl n)) :
    SetsMask i s len d k val (s.cur.laneFlags k fl) := by
  refine (performs_loop (I := fun n u => Masked (s.started len op k rm none) u d k val fl n) hidle hc hop Masked.refl (fun n u hn h => ?_)
    fun n u h => ⟨?_, ?_⟩).mono fun v ⟨u, hu, hv⟩ => ?_
  · have hact : u.active k n = (s.started len op k rm none).writes k n := by
      rw [writes_of_lt (t := s.started len op k rm none) hn]
      exact h.rk_self k
    rw [hact]
    split
    · next hw => rw [helem n u h]; exact h.step hw
    · next hw => exact h.skip hw
  · rw [h.frame]
    rfl
  · rw [h.frame]
    rfl
  · obtain ⟨hframe, hbits⟩ := hu.settled
    subst hv
    refine ⟨?_, fun m j => ?_⟩
    · rw [hframe]
      rfl
    · rw [hbits]
      exact if_congr (and_congr_right fun _ => and_congr_right fun _ => and_iff_left_of_imp fun h => lt_of_writes h) rfl rfl

/-! The instructions -/

theorem groupsOk_cmp {t : Thread} {op : CmpOp} {d a b : Nat} {p : Option Modifier} {ok : Nat} (ha : groupAt t a 1)
    (hb : ok = 0 → groupAt t (pB p b) 1) : (VOp.cmp op d a (t.vSrc p ok b false)).groupsOk (2 ^ t.csew) (8 * 2 ^ t.cnreg) = true := by
  have hgroup := all_vSrc_group (t := t) (p := p) (ok := ok) (b := b) (w := 2 ^ t.csew) (zero := false)
    (f := fun g => g.fits (8 * 2 ^ t.cnreg)) fun h => fits_of_groupAt (hb h)
  have hfits : VGrp.fits (8 * 2 ^ t.cnreg) ⟨a, 1, 2 ^ t.csew⟩ = true := fits_of_groupAt ha
  rw [VOp.groupsOk]
  change (([] ++ _ :: _ : List VGrp).all _ && [].all _) = true
  rw [List.nil_append, List.all_cons, hfits, hgroup]
  rfl

/-- A compare of an idle thread. -/
theorem vCmp_sets {i : Instr} {s : State} {op : CmpOp} {ok : Thread → Bool} {o : OpVcmp} (hidle : Idle s) (hi : exec i s = vCmp op ok o s)
    (hok : ok s.cur = true) (ha : groupAt s.cur (pA o.p o.a) 1) (hb : o.ok = 0 → groupAt s.cur (pB o.p o.b) 1) :
    let r := fun j => op.eval s.cur.csew (s.cur.vGet s.cur.cnreg (pA o.p o.a) (2 ^ s.cur.csew) j) (laneB s.cur o.p o.ok o.b false j)
    SetsMask i s (if o.p.isSome then 8 else 4) o.d o.k (fun j => (r j).1) (s.cur.laneFlags o.k fun j => (r j).2) := by
  intro r
  refine setsMask_of_elem (op := .cmp op o.d (pA o.p o.a) (s.cur.vSrc o.p o.ok o.b false)) hidle
    (commits_of_idle hidle hi nofun (groupsOk_cmp ha hb) hok) rfl fun n u hu => ?_
  have hr : op.eval s.cur.csew (u.vGet s.cur.cnreg (pA o.p o.a) (2 ^ s.cur.csew) n)
      (u.opb s.cur.cnreg (s.cur.vSrc o.p o.ok o.b false) (2 ^ s.cur.csew) n) = r n := by
    rw [hu.vGet, hu.opb]
    exact congrArg (op.eval _ _) (opb_vSrc hidle.sewRange _ _ _ _ _)
  rw [← hr]
  rfl

/-- What the obligation asks of an integer compare, and of a floating-point compare. -/
def CmpForm (s : State) (x : (OpVcmp → Instr) × (Nat → Nat → Bool)) : Prop := ∀ o : OpVcmp,
  groupAt s.cur (pA o.p o.a) 1 → (o.ok = 0 → groupAt s.cur (pB o.p o.b) 1) →
    SetsMask (x.1 o) s (if o.p.isSome then 8 else 4) o.d o.k
      (fun j => x.2 (s.cur.vGet s.cur.cnreg (pA o.p o.a) (2 ^ s.cur.csew) j) (laneB s.cur o.p o.ok o.b false j)) 0

def FcmpForm (s : State) (x : (OpVcmp → Instr) × (Nat → Nat → Bool × FFlags)) : Prop := ∀ o : OpVcmp,
  let r := fun j => x.2 (s.cur.vGet s.cur.cnreg (pA o.p o.a) (2 ^ s.cur.csew) j) (laneB s.cur o.p o.ok o.b false j)
  s.cur.csew ≠ 0 → groupAt s.cur (pA o.p o.a) 1 → (o.ok = 0 → groupAt s.cur (pB o.p o.b) 1) →
    SetsMask (x.1 o) s (if o.p.isSome then 8 else 4) o.d o.k (fun j => (r j).1) (s.cur.laneFlags o.k fun j => (r j).2)

/-- What the obligation asks of a mask operation. -/
def LogicForm (s : State) (x : (OpKlogic → Instr) × (Bool → Bool → Bool)) : Prop := ∀ o : OpKlogic,
  SetsMask (x.1 o) s (if o.p.isSome then 8 else 4) o.d o.k (fun j => x.2 (s.cur.rk o.a j) (s.cur.rk o.b j)) 0

theorem cmpForm_of_eval {s : State} (hidle : Idle s) {x : (OpVcmp → Instr) × (Nat → Nat → Bool)} {op : CmpOp}
    (hi : ∀ o, exec (x.1 o) s = vCmp op anySew o s) (hx : ∀ a b, op.eval s.cur.csew a b = (x.2 a b, 0)) : CmpForm s x := fun o ha hb => by
  have h := vCmp_sets hidle (hi o) rfl ha hb
  simp only [hx, laneFlags_zero] at h
  exact h

theorem fcmpForm_of_eval {s : State} (hidle : Idle s) {x : (OpVcmp → Instr) × (Nat → Nat → Bool × FFlags)} {op : CmpOp}
    (hi : ∀ o, exec (x.1 o) s = vCmp op fpSew o s) (hx : ∀ a b, op.eval s.cur.csew a b = x.2 a b) : FcmpForm s x := fun o hsew ha hb => by
  have h := vCmp_sets hidle (hi o) (decide_eq_true hsew) ha hb
  simp only [hx] at h
  exact h

theorem logicForm_of_kOp {s : State} (hidle : Idle s) {x : (OpKlogic → Instr) × (Bool → Bool → Bool)} {n : Nat}
    (hi : ∀ o, exec (x.1 o) s = vLogic n o s) (hx : ∀ a b, kOp n a b = x.2 a b) : LogicForm s x := fun o => by
  have h := setsMask_of_elem (op := .klogic n o.d o.a o.b) (d := o.d) (val := fun j => x.2 (s.cur.rk o.a j) (s.cur.rk o.b j)) (fl := fun _ => 0)
    hidle (commits_of_idle hidle (hi o) nofun (groupsOk_of_no_groups rfl rfl) rfl) rfl fun m u hu => ?_
  · rwa [laneFlags_zero] at h
  · have hbit : kOp n (u.rk o.a m) (u.rk o.b m) = x.2 (s.cur.rk o.a m) (s.cur.rk o.b m) := by
      rw [hx, hu.rk_self, hu.rk_self]
      rfl
    rw [raise_zero, ← hbit]
    rfl

/-- The elements that KCOUNT counts and of which KFFS finds the first. -/
theorem actives_filter (t : Thread) (k a : Nat) :
    (t.actives k).filter (fun j => t.rk a j) = (List.range t.vl).filter (fun j => t.rk k j && t.rk a j) := by
  rw [Thread.actives, List.filter_filter]
  exact List.filter_congr fun j _ => Bool.and_comm _ _

/-- An instruction of an idle thread that delivers a value made of masks to X[d]. -/
theorem maskToX {i : Instr} {s : State} {p : Option Modifier} {k d : Nat} {op : VOp} {rb : Option (Bool × Nat)} {x : Word} (hidle : Idle s)
    (hi : exec i s = vCommit p k anySew (fun _ => op) rb s) (hbw : ∀ n scope target l, op ≠ .barWait n scope target l)
    (hdst : op.dst (2 ^ s.cur.csew) = []) (hsrcs : op.srcs (2 ^ s.cur.csew) = []) (hop : op.delivers = true)
    (hw : ∀ len rm, (s.started len op k rm rb).whole (s.begun op k rm) = (s.started len op k rm rb).wx d x) :
    Performs i s (if p.isSome then 8 else 4) fun v => { v with x := s.cur.x } = s.cur ∧ ∀ n, v.rx n = xAfter s.cur d x n := by
  refine (performs_toX (d := d) (x := x) (fl := 0) hidle (commits_of_idle hidle hi hbw (groupsOk_of_no_groups hdst hsrcs) rfl) hop ?_).mono
    fun v hv => ?_
  · rw [raise_zero]
    exact hw _ _
  · rwa [with_no_flags] at hv

/-- Settles O40: every element writes its bit of the mask by `setsMask_of_elem`; counts read the bits of the active elements. -/
theorem vectorMasks : Obligations.VectorMasks := by
  unfold Obligations.VectorMasks
  intro s hidle t w f sgn len sets
  have hf : sewFmt s.cur.csew = f := sewFmt_eq _
  have hsgn : sx (8 * w) = sgn := sx_eq _
  refine ⟨?_, ?_, ?_, fun o => ?_⟩
  · change ∀ x ∈ _, CmpForm s x
    rw [← hsgn]
    simp only [List.forall_mem_cons]
    exact ⟨cmpForm_of_eval hidle (exec_vcmpeq s) fun _ _ => rfl,
      cmpForm_of_eval hidle (exec_vcmpne s) fun a b => congrArg (·, 0) (decide_not (p := a = b)).symm,
      cmpForm_of_eval hidle (exec_vcmplt s) fun _ _ => rfl, cmpForm_of_eval hidle (exec_vcmple s) fun _ _ => rfl,
      cmpForm_of_eval hidle (exec_vcmpltu s) fun _ _ => rfl, cmpForm_of_eval hidle (exec_vcmpleu s) fun _ _ => rfl,
      fun _ h => absurd h List.not_mem_nil⟩
  · change ∀ x ∈ _, FcmpForm s x
    rw [← hf]
    simp only [List.forall_mem_cons]
    exact ⟨fcmpForm_of_eval hidle (exec_vfcmpeq s) fun _ _ => rfl, fcmpForm_of_eval hidle (exec_vfcmpne s) fun _ _ => rfl,
      fcmpForm_of_eval hidle (exec_vfcmplt s) fun _ _ => rfl, fcmpForm_of_eval hidle (exec_vfcmple s) fun _ _ => rfl,
      fun _ h => absurd h List.not_mem_nil⟩
  · change ∀ x ∈ _, LogicForm s x
    simp only [List.forall_mem_cons]
    exact ⟨logicForm_of_kOp hidle (exec_kand s) fun _ _ => rfl, logicForm_of_kOp hidle (exec_kor s) fun _ _ => rfl,
      logicForm_of_kOp hidle (exec_kxor s) fun _ _ => rfl, logicForm_of_kOp hidle (exec_kandinv s) fun _ _ => rfl,
      fun _ h => absurd h List.not_mem_nil⟩
  · intro hits gives
    constructor
    · refine maskToX hidle (exec_kcount s o) nofun rfl rfl rfl fun len rm => ?_
      change (s.started _ _ _ _ _).wx o.d (toW ((s.cur.actives o.k).countP fun j => s.cur.rk o.a j)) = _
      rw [List.countP_eq_length_filter, actives_filter]
      rfl
    · refine maskToX hidle (exec_kffs s o) nofun rfl rfl rfl fun len rm => ?_
      change (s.started _ _ _ _ _).wx o.d (match (s.cur.actives o.k).find? (fun j => s.cur.rk o.a j) with
        | some i => toW i
        | none => toW (2 ^ 64 - 1)) = _
      rw [← List.head?_filter, actives_filter]
      change _ = (s.started _ _ _ _ _).wx o.d (match hits with
        | [] => BitVec.allOnes 64
        | j :: _ => BitVec.ofNat 64 j)
      change (s.started _ _ _ _ _).wx o.d (match hits.head? with
        | some i => toW i
        | none => toW (2 ^ 64 - 1)) = _
      cases hits <;> rfl

end Sys2Proof.Machine
end

section
/-! The vector configuration (R64 to R66, R322, R323) -/

namespace Sys2Proof.Machine

/-! The only entry of the VIQ completes -/

/-- The streams of a thread whose one entry completes at its first try complete it, and end: the thread is as the try leaves it, but for its
queues and the timeline of the vector stream. -/
theorem pump_completes {s d : State} {h : Nat} {e e' : VEntry} (hl : s.lockstep = true) (hr : s.traceRings = [])
    (hviq : (s.thr h).viq = [e]) (hwin : (s.thr h).win = []) (hbob : (s.thr h).bob = []) (hb : e.began = false) (hmay : (s.thr h).vMay e = true)
    (htry : (s.setThr h { s.thr h with viq := [{ e with began := true }] }).vTry h { e with began := true } = .done d)
    (hdr : d.traceRings = []) (hverr : (d.thr h).verr = []) (hdviq : (d.thr h).viq = [e']) (hcmd : e'.cmd = e.cmd)
    (hrbq : ∀ r ∈ (d.thr h).rbq, r.cmd = e.cmd) (hdwin : (d.thr h).win = []) (hdbob : (d.thr h).bob = []) :
    ∃ t, s.pump h = t.collectTiles h ∧ OnlyThread d t h (({ d.thr h with viq := [], rbq := [] } : Thread).advance 0 e.cmd false) := by
  obtain ⟨t, ht, hcomplete⟩ := vComplete_alone (e := { e with began := true }) hdr hverr hdviq hcmd hrbq
  have hthr : (t.collectTiles h).thr h = ({ d.thr h with viq := [], rbq := [] } : Thread).advance 0 e.cmd false := ht.thread
  refine ⟨t, pump_alone hl hviq hwin hbob ?_ ?_ ?_ ?_, ht⟩
  · rw [State.vStep, hviq]
    dsimp only
    rw [hmay, vBegin_alone hr hviq hb]
    simp only [Bool.not_true, Bool.false_eq_true, if_false]
    rw [htry]
    exact Prod.ext hcomplete rfl
  · rw [hthr, advance_eq]
  · rw [hthr, advance_eq]
    exact hdwin
  · rw [hthr, advance_eq]
    exact hdbob

/-! The tasks of an owner that are live -/

theorem mem_of_tfind {α : Type} {t : Table α} {k : Nat} {v : α} (h : tfind t k = some v) : (k, v) ∈ t := by
  induction t with
  | nil => exact absurd h (Option.some_ne_none v).symm
  | cons a r ih =>
    obtain ⟨x, y⟩ := a
    rw [tfind] at h
    split at h
    · next hx =>
      rw [Option.some.injEq] at h
      rw [hx, h]
      exact List.mem_cons_self
    · exact List.mem_cons_of_mem _ (ih h)

theorem ownerLive_of_thr {s : State} {h : Nat} (hs : (s.thr h).slot ≠ .free) : s.ownerLive (s.thr h).owner = true := by
  have hmem : (h, s.thr h) ∈ s.threads := by
    cases hf : tfind s.threads h with
    | none =>
      rw [State.thr, tget_eq_getD, hf] at hs
      exact absurd rfl hs
    | some t =>
      rw [State.thr, tget_eq_getD, hf]
      exact mem_of_tfind hf
  rw [State.ownerLive, Bool.or_eq_true, List.any_eq_true]
  exact .inl ⟨_, hmem, by rw [decide_eq_false hs, decide_eq_true rfl]; rfl⟩

/-- A thread that keeps its task and owner makes no owner live. -/
theorem ownerLive_setThr {s : State} {h o : Nat} {t : Thread} (hslot : t.slot = (s.thr h).slot) (howner : t.owner = (s.thr h).owner)
    (hl : (s.setThr h t).ownerLive o = true) : s.ownerLive o = true := by
  rw [State.ownerLive, Bool.or_eq_true, List.any_eq_true] at hl
  rcases hl with ⟨p, hp, hlive⟩ | hsaved
  · rcases mem_tput hp with rfl | hold
    · rw [Bool.and_eq_true, Bool.not_eq_true', decide_eq_false_iff_not, decide_eq_true_eq] at hlive
      obtain ⟨hs, rfl⟩ := hlive
      rw [howner]
      exact ownerLive_of_thr (by rw [← hslot]; exact hs)
    · rw [State.ownerLive, Bool.or_eq_true, List.any_eq_true]
      exact .inl ⟨p, hold, hlive⟩
  · rw [State.ownerLive, Bool.or_eq_true]
    exact .inr hsaved

/-- The thread of the vector instruction that the executing thread, made `t` by its scalar stream, has committed, when that is tried. -/
def State.trying (s : State) (t : Thread) (len : Nat) (op : VOp) (k rm : Nat) : Thread :=
  { t.goneTo (s.cur.pc + toW len) with viq := [s.begun op k rm], rbq := [], cmds := tput s.cur.cmds 0 (s.cur.nextCmd 0) }

/-- `q` is `s` after the commit of a vector instruction of `len` bytes, its entry begun, the thread being `u`. -/
structure Committed (s q : State) (u : Thread) : Prop where
  thread : q.thr s.hart = u
  hart : q.hart = s.hart
  others : SameOthers s q
  rest : { q with threads := s.threads, tasks := s.tasks, cores := s.cores } = s
  cores : ∀ c, { q.core c with commits := (s.core c).commits } = s.core c
  counters : ∀ k n, q.counter k n = s.counter k n + (if k = s.cur.taskid ∧ n = 1 then 1 else 0)
  live : ∀ o, q.ownerLive o = true → s.ownerLive o = true

/-- `u` is `t` but for registers, and for the configuration. -/
def Thread.ConfiguredIn (t u : Thread) : Prop :=
  u = { t with x := u.x, v := u.v, k := u.k, vl := u.vl, mvl := u.mvl, sew := u.sew, nreg := u.nreg, csew := u.csew, cnreg := u.cnreg
               cmvl := u.cmvl, reqLen := u.reqLen }

/-- What is left of a vector instruction of an idle thread that its first try completes, leaving the machine as `d`. -/
structure TryLeaves (s d : State) (op : VOp) (k rm : Nat) : Prop where
  rings : d.traceRings = []
  verr : (d.thr s.hart).verr = []
  viq : ∃ e, (d.thr s.hart).viq = [e] ∧ e.cmd = s.cur.nextCmd 0
  rbq : (d.thr s.hart).rbq = []
  win : (d.thr s.hart).win = []
  bob : (d.thr s.hart).bob = []

/-- A vector instruction without a read-back entry that an idle thread commits: the machine when it is tried, and what is left when that
completes it. -/
theorem commit_tries {i : Instr} {s : State} {f : Thread → Thread} {len k rm : Nat} {op : VOp} (hidle : Idle s)
    (hi : exec i s = s.commitVWith f len op k rm none) (hbw : ∀ n scope target l, op ≠ .barWait n scope target l)
    (hf : s.cur.ConfiguredIn (f s.cur)) : ∃ q, Committed s q (s.trying (f s.cur) len op k rm) ∧
      ∀ d, q.vTry s.hart (s.begun op k rm) = .done d → TryLeaves s d op k rm →
        ∃ t, exec i s = .next (t.collectTiles s.hart) ∧
          OnlyThread d t s.hart (({ d.thr s.hart with viq := [], rbq := [] } : Thread).advance 0 (s.cur.nextCmd 0) false) := by
  have hexec := hi.trans (commitVWith_eq f len k rm hbw hidle.handler hidle.numbers ⟨by rw [hidle.viq]; decide, fun h => absurd rfl h⟩)
  obtain ⟨⟨hcur, hhart, hrest, hothers, hcores⟩, hcount⟩ := queued_retire (v := f s.cur) len op k rm none (by rw [hf]) (by rw [hf])
  have hlive : ∀ o, ((s.newOrder.1.setCur (s.queued (f s.cur) op k rm none)).retire len).ownerLive o = true → s.ownerLive o = true := fun o ho => by
    have hset : (s.newOrder.1.setCur (s.queued (f s.cur) op k rm none)).ownerLive o = true :=
      ownerLive_setThr (t := { (s.newOrder.1.setCur (s.queued (f s.cur) op k rm none)).cur with
        pc := (s.newOrder.1.setCur (s.queued (f s.cur) op k rm none)).cur.pc + toW len, wait := .none, freed := false, remote := none, away := none
        shoot := none, wfeSince := none }) rfl rfl ho
    exact ownerLive_setThr (s := s.newOrder.1) (t := s.queued (f s.cur) op k rm none) (by rw [hf]; rfl) (by rw [hf]; rfl) hset
  generalize (s.newOrder.1.setCur (s.queued (f s.cur) op k rm none)).retire len = u at hexec hcur hhart hrest hothers hcores hcount hlive
  have hthr : u.thr s.hart = { s.trying (f s.cur) len op k rm with viq := [s.newEntry op k rm] } := by
    rw [← hhart]
    refine hcur.trans ?_
    rw [hidle.viq, Thread.newReadBack, hidle.rbq]
    rfl
  have hbegun : ({ u.thr s.hart with viq := [s.begun op k rm] } : Thread) = s.trying (f s.cur) len op k rm := by
    rw [hthr]
    rfl
  obtain ⟨hrings, hlock⟩ : u.traceRings = [] ∧ u.lockstep = true :=
    ⟨(congrArg (·.traceRings) hrest).trans hidle.traces, (congrArg (·.lockstep) hrest).trans hidle.lockstep⟩
  obtain ⟨hwin, hbob, hmay⟩ : (u.thr s.hart).win = [] ∧ (u.thr s.hart).bob = [] ∧ (u.thr s.hart).vMay (s.newEntry op k rm) = true := by
    rw [hthr, State.trying, hf]
    exact ⟨hidle.win, hidle.bob, vMay_alone _ hidle.handler hidle.stopReq (fun h => nomatch h) hidle.pend hidle.win hidle.bob⟩
  refine ⟨u.setThr s.hart (s.trying (f s.cur) len op k rm), ⟨State.thr_setThr_self _ _ _, hhart, fun h hne => ?_, hrest, fun c => ?_,
      fun k n => hcount.counters k n, fun o ho => hlive o (ownerLive_setThr (by rw [hthr]) (by rw [hthr]) ho)⟩,
    fun d htry hd => ?_⟩
  · exact (State.thr_setThr_ne _ _ _ hne).trans (hothers h hne)
  · have hc : (u.setThr s.hart (s.trying (f s.cur) len op k rm)).core c = u.core c := rfl
    rw [hc, hcores]
    split
    · next h => rw [h]
    · rfl
  · obtain ⟨e, hviq, hcmd⟩ := hd.viq
    obtain ⟨t, hpump, hon⟩ := pump_completes (e := s.newEntry op k rm) hlock hrings (by rw [hthr]) hwin hbob rfl hmay
      (by rw [← hbegun] at htry; exact htry) hd.rings hd.verr hviq hcmd (by rw [hd.rbq]; exact fun r hr => absurd hr List.not_mem_nil)
      hd.win hd.bob
    exact ⟨t, by rw [hexec, hpump], hon⟩

/-- The thread after the completion of a vector instruction that has left it as `u`. -/
theorem trying_settled {s : State} {u : Thread} (hidle : Idle s) (len : Nat)
    (hu : u = { u with pc := s.cur.pc + toW len, wait := .none, freed := false, remote := none, away := none, shoot := none, wfeSince := none
                       cmds := tput s.cur.cmds 0 (s.cur.nextCmd 0) }) (cmd : Nat) :
    let c := ({ u with viq := [], rbq := [] } : Thread).advance 0 cmd false
    c = { u.settledAs s.cur with pc := s.cur.pc + toW len, wait := .none, freed := false, remote := none, away := none, shoot := none
                                 wfeSince := none, cmds := tput s.cur.cmds 0 (s.cur.nextCmd 0), tl := c.tl, event := c.event } := by
  intro c
  have hc : c = { ({ u with viq := [], rbq := [] } : Thread) with tl := c.tl, event := c.event } := advance_eq _ _ _ _
  generalize c = c at hc ⊢
  refine hc.trans ?_
  rw [Thread.settledAs, hidle.viq, hidle.rbq]
  conv_lhs => rw [hu]

/-! Mask bits above the vector length -/

theorem tget_trimmed (k : Table Nat) (n b : Nat) : tget (k.map fun p => (p.1, p.2 % 2 ^ b)) n 0 = tget k n 0 % 2 ^ b := by
  have h := tget_map k (fun _ x => x % 2 ^ b) n 0
  rwa [Nat.zero_mod] at h

theorem rk_kTrim (t : Thread) (b n j : Nat) : (t.kTrim b).rk n j = if n ≠ 0 ∧ b ≤ j then false else t.rk n j := by
  unfold Thread.rk Thread.kTrim
  by_cases hn : n = 0
  · rw [if_pos hn, if_neg fun h => h.1 hn]
    exact (if_pos hn).symm
  · dsimp only
    rw [if_neg hn, tget_trimmed, Nat.testBit_mod_two_pow]
    by_cases hb : b ≤ j
    · rw [if_pos ⟨hn, hb⟩, decide_eq_false (by omega), Bool.false_and]
    · rw [if_neg fun h => hb h.2, if_neg hn, decide_eq_true (by omega), Bool.true_and]

/-- The masks of a thread whose MVL becomes `m` (R65). -/
def Thread.masked (t : Thread) (m : Nat) : Thread := if m = t.mvl then t else t.kTrim (min m t.mvl)

theorem rk_masked (t : Thread) (m n j : Nat) :
    (t.masked m).rk n j = if n ≠ 0 ∧ m ≠ t.mvl ∧ min m t.mvl ≤ j then false else t.rk n j := by
  unfold Thread.masked
  split
  · next h => rw [if_neg fun hc => hc.2.1 h]
  · next h =>
    rw [rk_kTrim]
    exact if_congr (by simp [h]) rfl rfl

theorem masked_eq (t : Thread) (m : Nat) : t.masked m = { t with k := (t.masked m).k } := by
  unfold Thread.masked
  split <;> rfl

/-! A configuration performs as it commits -/

/-- The configurations. -/
def VOp.configures (o : VOp) : Bool :=
  match o with
  | .setl _ _ | .cfg _ _ => true
  | _ => false

theorem vTry_configures {s : State} {h : Nat} {e : VEntry} (hbad : e.bad = false) (he : e.op.configures = true) (hs : (s.thr h).vSound = true) :
    s.vTry h e = .done (s.setThr h ((s.thr h).whole e)) := by
  rw [State.vTry, hbad, if_neg Bool.false_ne_true]
  cases hop : e.op <;> rw [hop] at he
  case setl | cfg =>
    dsimp only
    rw [poisonStop_of_sound hs]
    rfl
  all_goals exact absurd he Bool.false_ne_true

/-- A configuration of an idle thread. -/
theorem performs_configuration {i : Instr} {s : State} {f : Thread → Thread} {op : VOp} {g w : Thread} (hidle : Idle s)
    (hi : exec i s = s.commitVWith f 4 op 0 0 none) (hop : op.configures = true) (hf : f s.cur = g) (hg : s.cur.ConfiguredIn g)
    (hw : (s.trying g 4 op 0 0).whole (s.begun op 0 0) = w) (hcw : (s.trying g 4 op 0 0).ConfiguredIn w)
    {R : Thread → Prop} (hR : R (w.settledAs s.cur)) : Performs i s 4 R := by
  have hbw : ∀ n scope target l, op ≠ .barWait n scope target l := fun n scope target l h => by
    rw [h] at hop
    exact absurd hop Bool.false_ne_true
  obtain ⟨q, ⟨hthread, hhart, hothers, hrest, hcores, hcounters⟩, hdone⟩ := commit_tries hidle hi hbw (hf ▸ hg)
  rw [hf] at hthread
  have hsound : s.cur.verr = [] := by
    have h := hidle.sound
    rw [Thread.vSound, Bool.and_eq_true, List.isEmpty_iff, List.isEmpty_iff] at h
    exact h.2
  have hw' : (q.setThr s.hart w).thr s.hart = w := State.thr_setThr_self _ _ _
  have hframe : w = { s.cur with
      x := w.x, v := w.v, k := w.k, vl := w.vl, mvl := w.mvl, sew := w.sew, nreg := w.nreg, csew := w.csew, cnreg := w.cnreg, cmvl := w.cmvl
      reqLen := w.reqLen, pc := s.cur.pc + toW 4, wait := .none, freed := false, remote := none, away := none, shoot := none, wfeSince := none
      cmds := tput s.cur.cmds 0 (s.cur.nextCmd 0), viq := [s.begun op 0 0], rbq := [] } := by
    rw [Thread.ConfiguredIn, State.trying, hg] at hcw
    exact hcw
  obtain ⟨t, hexec, hon⟩ := hdone (q.setThr s.hart w) (by
      rw [vTry_configures rfl hop (by rw [hthread, State.trying, hg]; exact hidle.sound), hthread, hw]) ⟨
    (congrArg (·.traceRings) hrest).trans hidle.traces, by rw [hw', hframe]; exact hsound, ⟨_, by rw [hw', hframe], rfl⟩, by rw [hw', hframe],
    by rw [hw', hframe]; exact hidle.win, by rw [hw', hframe]; exact hidle.bob⟩
  rw [hw'] at hon
  have hharts : (t.collectTiles s.hart).hart = s.hart := (congrArg (·.hart) hon.rest).trans hhart
  have hcurs : (t.collectTiles s.hart).cur = ({ w with viq := [], rbq := [] } : Thread).advance 0 (s.cur.nextCmd 0) false := by
    rw [State.cur, hharts]
    exact hon.thread
  refine ⟨t.collectTiles s.hart, w.settledAs s.cur, hexec, hR, ?_, fun n => ?_, hharts, fun h hne => ?_, ?_, fun c => ?_, fun k n hn => ?_⟩
  · rw [hcurs]
    exact trying_settled hidle 4 (by rw [hframe]) _
  · rw [hcurs, rtl_advance, hframe]
    rfl
  · exact ((hon.others h hne).trans (State.thr_setThr_ne _ _ _ hne)).trans (hothers h hne)
  · exact (congrArg (fun x : State => { x with threads := s.threads, tasks := s.tasks, cores := s.cores }) hon.rest).trans hrest
  · have hc : t.core c = q.core c := State.core_congr (congrArg (·.cores) hon.rest) c
    obtain ⟨T, hT⟩ := collectTiles_eq t s.hart
    rw [hT, State.core_setCore, ← hcores c, ← hc]
    split
    · next h => rw [h]
    · rfl
  · refine Eq.trans ?_ (hcounters k n)
    have htasks : (t.collectTiles s.hart).tasks = q.tasks := congrArg (·.tasks) hon.rest
    rw [State.counter, State.words, htasks]
    rfl

/-! VSETL and VCFG -/

theorem whole_setl (t : Thread) (e : VEntry) {v sew : Nat} (he : e.op = .setl v sew) :
    let m := mvlOf t.vgrant sew t.nreg
    t.whole e = { t with k := (t.masked m).k, sew := sew, mvl := m, vl := min v m } := by
  intro m
  rw [Thread.whole, he]
  change ({ t.masked m with sew := sew, mvl := m, vl := min v m } : Thread) = _
  rw [masked_eq]

theorem vClear_of_sound {t : Thread} (hs : t.vpoison = [] ∧ t.verr = []) : t.vClear = { t with v := [] } := by
  obtain ⟨hp, he⟩ := hs
  cases t
  subst hp he
  rfl

theorem whole_cfg (t : Thread) (e : VEntry) {sew nreg : Nat} (he : e.op = .cfg sew nreg) (hs : t.vpoison = [] ∧ t.verr = []) :
    let m := mvlOf t.vgrant sew nreg
    t.whole e = { t with k := (t.masked m).k, sew := sew, nreg := nreg, mvl := m, vl := if nreg = t.nreg then min t.vl m else 0
                         v := if nreg = t.nreg then t.v else [] } := by
  intro m
  have hmask : (if m = t.mvl then t else t.kTrim (min m t.mvl)) = { t with k := (t.masked m).k } := masked_eq t m
  rw [Thread.whole, he]
  dsimp only
  rw [hmask]
  split
  · next h => rw [← h]
  · rw [vClear_of_sound (t := { t with k := (t.masked m).k }) hs]

/-- The write of an x register, as an exchange of the registers. -/
theorem wx_eq (t : Thread) (d : Nat) (v : Word) : t.wx d v = { t with x := (t.wx d v).x } := by
  unfold Thread.wx
  split <;> rfl

theorem vlAhead_idle {s : State} (hidle : Idle s) : s.cur.vlAhead = s.cur.vl := by
  rw [Thread.vlAhead, hidle.viq]
  rfl

theorem not_trimming_idle {s : State} (hidle : Idle s) : (!s.cur.hnd && s.cur.trimming) = false := by
  rw [Thread.trimming, hidle.viq]
  exact Bool.and_false _

/-- The masks of `v` are those of `t`, which its new MVL has trimmed (R65). -/
def Thread.MasksAt (t v : Thread) (m : Nat) : Prop := ∀ n j, v.rk n j = if n ≠ 0 ∧ m ≠ t.mvl ∧ min m t.mvl ≤ j then false else t.rk n j

section
variable {s : State} (hidle : Idle s)
include hidle

theorem vsetl_performs (o : OpVsetl) :
    let t := s.cur
    let m := mvlOf t.vgrant o.sew t.cnreg
    let l := min (t.rx o.a).toNat m
    Performs (.vsetl o) s 4 fun v => t.MasksAt v m ∧ (∀ n, v.rx n = xAfter t o.d (toW l) n) ∧
      { v with x := t.x, k := t.k } = { t with csew := o.sew, cmvl := m, reqLen := t.rx o.a, sew := o.sew, mvl := m, vl := l } := by
  intro t m l
  have hex : exec (.vsetl o) s =
      s.commitVWith (fun t => { t.wx o.d (toW l) with csew := o.sew, cmvl := m, reqLen := t.rx o.a }) 4 (.setl l o.sew) 0 0 none := by
    rw [exec_vsetl, execVsetl]
    exact if_neg (by rw [not_trimming_idle hidle]; exact Bool.false_ne_true)
  have hl : min l m = l := min_eq_left (min_le_right _ _)
  have hmvl : mvlOf t.vgrant o.sew t.nreg = m := by rw [hidle.nreg]
  refine performs_configuration (g := { t with x := (t.wx o.d (toW l)).x, csew := o.sew, cmvl := m, reqLen := t.rx o.a }) hidle hex rfl
    (congrArg (fun u : Thread => { u with csew := o.sew, cmvl := m, reqLen := t.rx o.a }) (wx_eq _ _ _)) rfl
    (whole_setl _ _ rfl) rfl ⟨fun n j => ?_, fun n => congrFun (xAfter_eq t o.d (toW l)) n, ?_⟩
  · exact (rk_masked _ _ n j).trans (by rw [← hmvl]; rfl)
  · change ({ t with csew := o.sew, cmvl := m, reqLen := t.rx o.a, sew := o.sew, mvl := mvlOf t.vgrant o.sew t.nreg
                     vl := min l (mvlOf t.vgrant o.sew t.nreg) } : Thread) = _
    rw [hmvl, hl]

theorem vcfg_performs (o : OpVcfg) (hok : o.nreg ≠ s.cur.cnreg ∨ s.cur.vl ≤ mvlOf s.cur.vgrant o.sew o.nreg) :
    let t := s.cur
    let m := mvlOf t.vgrant o.sew o.nreg
    Performs (.vcfg o) s 4 fun v => t.MasksAt v m ∧ (∀ n, v.rx n = xAfter t o.d (toW m) n) ∧
      { v with x := t.x, k := t.k } =
        { t with csew := o.sew, cnreg := o.nreg, cmvl := m, sew := o.sew, nreg := o.nreg, mvl := m
                 vl := if o.nreg = t.cnreg then t.vl else 0, v := if o.nreg = t.cnreg then t.v else [] } := by
  intro t m
  have hlegal : ¬ (o.nreg = t.cnreg ∧ m < t.vlAhead) := by
    rw [vlAhead_idle hidle]
    rintro ⟨h, h'⟩
    exact hok.elim (fun hc => hc h) (fun hc => absurd h' (not_lt.mpr hc))
  have hex : exec (.vcfg o) s =
      s.commitVWith (fun t => { t.wx o.d (toW m) with csew := o.sew, cnreg := o.nreg, cmvl := m }) 4 (.cfg o.sew o.nreg) 0 0 none := by
    rw [exec_vcfg, execVcfg]
    exact (if_neg (by rw [not_trimming_idle hidle]; exact Bool.false_ne_true)).trans (if_neg hlegal)
  have hsound : t.vpoison = [] ∧ t.verr = [] := by
    have h := hidle.sound
    rwa [Thread.vSound, Bool.and_eq_true, List.isEmpty_iff, List.isEmpty_iff] at h
  have hvl : (if o.nreg = t.nreg then min t.vl m else 0) = if o.nreg = t.cnreg then t.vl else 0 := by
    rw [show t.nreg = t.cnreg from hidle.nreg]
    split
    · next h => exact min_eq_left (hok.resolve_left (not_not_intro h))
    · rfl
  refine performs_configuration (g := { t with x := (t.wx o.d (toW m)).x, csew := o.sew, cnreg := o.nreg, cmvl := m }) hidle hex rfl
    (congrArg (fun u : Thread => { u with csew := o.sew, cnreg := o.nreg, cmvl := m }) (wx_eq _ _ _)) rfl
    (whole_cfg _ _ rfl hsound) rfl ⟨fun n j => ?_, fun n => congrFun (xAfter_eq t o.d (toW m)) n, ?_⟩
  · exact (rk_masked _ _ n j).trans rfl
  · change ({ t with csew := o.sew, cnreg := o.nreg, cmvl := m, sew := o.sew, nreg := o.nreg, mvl := m
                     vl := if o.nreg = t.nreg then min t.vl m else 0, v := if o.nreg = t.nreg then t.v else [] } : Thread) = _
    rw [hvl, show t.nreg = t.cnreg from hidle.nreg]

theorem vcfg_illegal (o : OpVcfg) (hn : o.nreg = s.cur.cnreg) (hm : mvlOf s.cur.vgrant o.sew o.nreg < s.cur.vl) : Illegal (.vcfg o) s := by
  rw [Illegal, Traps, exec_vcfg, execVcfg]
  exact (if_neg (by rw [not_trimming_idle hidle]; exact Bool.false_ne_true)).trans (if_pos ⟨hn, by rw [vlAhead_idle hidle]; exact hm⟩)

end

/-- A configuration waits for a VLDFF of its thread, and is illegal in a handler. -/
theorem vsetl_held (s : State) (o : OpVsetl) : (s.cur.hnd = false → s.cur.trimming = true → Waits (.vsetl o) s .vectorDone) ∧
    (s.cur.hnd = true → Illegal (.vsetl o) s) := by
  refine ⟨fun hh ht => ?_, fun hh => ?_⟩
  · rw [Waits, exec_vsetl, execVsetl]
    exact if_pos (by rw [hh, ht]; rfl)
  · rw [Illegal, Traps, exec_vsetl, execVsetl]
    exact (if_neg (by rw [hh]; exact Bool.false_ne_true)).trans (commitVWith_illegal _ _ _ _ _ _ hh)

theorem vcfg_held (s : State) (o : OpVcfg) : (s.cur.hnd = false → s.cur.trimming = true → Waits (.vcfg o) s .vectorDone) ∧
    (s.cur.hnd = true → Illegal (.vcfg o) s) := by
  refine ⟨fun hh ht => ?_, fun hh => ?_⟩
  · rw [Waits, exec_vcfg, execVcfg]
    exact if_pos (by rw [hh, ht]; rfl)
  · rw [Illegal, Traps, exec_vcfg, execVcfg]
    refine (if_neg (by rw [hh]; exact Bool.false_ne_true)).trans ?_
    dsimp only
    split
    · rfl
    · exact commitVWith_illegal _ _ _ _ _ _ hh

/-- Settles O43: a configuration that an idle thread commits completes at its first try, by `performs_configuration`. -/
theorem vectorConfiguration : Obligations.VectorConfiguration := by
  unfold Obligations.VectorConfiguration
  intro s t masks
  refine ⟨fun o => ⟨fun hidle => vsetl_performs hidle o, vsetl_held s o⟩, fun o => ?_⟩
  exact ⟨fun hidle hok => vcfg_performs hidle o hok, fun hidle hn hm => vcfg_illegal hidle o hn hm, vcfg_held s o⟩

end Sys2Proof.Machine
end

section
/-! The course of a vector memory instruction of an idle thread (R237, R352 to R364) -/

namespace Sys2Proof.Machine

/-! What a vector memory instruction may change -/

/-- `u` is `s` but for what vector memory accesses of the executing thread change: its own results, the event flags, the memories, the L2s,
L1 data caches, TLBs and tiles, and the counters of element groups and requests. -/
structure Around (s u : State) : Prop where
  rest : { u with threads := s.threads, tasks := s.tasks, cores := s.cores, pillars := s.pillars, mem := s.mem, keys := s.keys, spad := s.spad
                  spadOwner := s.spadOwner, spadFull := s.spadFull } = s
  others : ∀ h, h ≠ s.hart → { u.thr h with event := (s.thr h).event } = s.thr h
  cores : ∀ c, { u.core c with
    commits := (s.core c).commits, tiles := (s.core c).tiles, l1d := (s.core c).l1d, tlb := (s.core c).tlb } = s.core c
  counters : ∀ k n, n ≠ 2 → n ≠ 10 → u.counter k n = s.counter k n

section
variable {s u v : State}

theorem Around.hart (h : Around s u) : u.hart = s.hart := (congrArg (·.hart) h.rest).trans rfl
theorem Around.travel (h : Around s u) : u.travel = s.travel := (congrArg (·.travel) h.rest).trans rfl
theorem Around.rings (h : Around s u) : u.traceRings = s.traceRings := (congrArg (·.traceRings) h.rest).trans rfl

theorem Around.width (h : Around s u) (c : Nat) : u.width c = s.width c := by
  have hcut : u.cutwork = s.cutwork := (congrArg (·.cutwork) h.rest).trans rfl
  have hdef : u.defects = s.defects := (congrArg (·.defects) h.rest).trans rfl
  rw [State.width, State.width, State.cut, State.cut, hcut, hdef]

theorem Around.trans (h : Around s u) (g : Around u v) : Around s v := by
  refine ⟨?_, fun n hn => ?_, fun c => ?_, fun k n h2 h10 => (g.counters k n h2 h10).trans (h.counters k n h2 h10)⟩
  · rw [← h.rest]
    conv_rhs => rw [← g.rest]
  · have hg := g.others n (by rw [h.hart]; exact hn)
    rw [← h.others n hn]
    conv_rhs => rw [← hg]
  · rw [← h.cores c]
    conv_rhs => rw [← g.cores c]

theorem around_self (s : State) : Around s s := ⟨rfl, fun _ _ => rfl, fun _ => rfl, fun _ _ _ _ => rfl⟩

theorem around_setThr (s : State) (t : Thread) : Around s (s.setThr s.hart t) :=
  ⟨rfl, fun h hn => by rw [State.thr_setThr_ne _ _ _ hn], fun _ => rfl, fun _ _ _ _ => rfl⟩

theorem around_count {i : Nat} (hi : i = 2 ∨ i = 10) (s : State) (task n : Nat) : Around s (s.count task i n) :=
  ⟨rfl, fun _ _ => rfl, fun _ => rfl, fun k j h2 h10 => by
    rw [State.counter_count, if_neg (by rintro ⟨-, rfl⟩; exact hi.elim h2 h10), Nat.add_zero]⟩

theorem around_countGroups (s : State) (h : Nat) (e : VEntry) (lo hi : Nat) : Around s (s.countGroups h e lo hi) := by
  unfold State.countGroups
  dsimp only
  split
  · exact around_self s
  · exact around_count (.inl rfl) _ _ _

/-- A change of one core's L1 data cache and TLB. -/
theorem around_setCore (s : State) (c : Nat) (l : Table L1Line) (t : Tlb) : Around s (s.setCore c { s.core c with l1d := l, tlb := t }) := by
  refine ⟨rfl, fun _ _ => rfl, fun d => ?_, fun _ _ _ _ => rfl⟩
  rw [State.core_setCore]
  split
  · next h => rw [h]
  · rfl

theorem around_pinPages (s : State) (h cmd : Nat) (pages : List (Nat × Nat)) : Around s (s.pinPages h cmd pages) := around_setCore s _ _ _

theorem around_unpinCmd (s : State) (h cmd : Nat) : Around s (s.unpinCmd h cmd) := around_setCore s _ _ _

theorem around_l1DropClean (s : State) (c : Nat) : Around s (s.l1DropClean c) := around_setCore s _ _ _

theorem around_spanDone (s : State) (h : Nat) (e : VEntry) : Around s (s.spanDone h e) := by
  unfold State.spanDone
  dsimp only
  split
  · exact around_self s
  · exact around_setCore s _ _ _

/-- A change of memory, of the L2s or of the scratchpads. -/
theorem around_stores (s : State) (m : List Host.Cell) (k : Table Nat) (p : Table Pillar) (a : Table Byte) (b : Table Nat) (f : List Nat) :
    Around s { s with mem := m, keys := k, pillars := p, spad := a, spadOwner := b, spadFull := f } :=
  ⟨rfl, fun _ _ => rfl, fun _ => rfl, fun _ _ _ _ => rfl⟩

end

/-! The executing thread on its way -/

/-- The thread without its ksel (R67). -/
def Thread.noKsel (t : Thread) : Thread := { t with k := tdel t.k 8 }

/-- The executing thread while its only vector instruction, of `len` bytes, runs: its results are those of `w`, its entry is `e`. -/
def State.running (s : State) (len : Nat) (w : Thread) (event : Bool) (e : VEntry) : Thread :=
  { w with pc := s.cur.pc + toW len, wait := .none, freed := false, remote := none, away := none, shoot := none, wfeSince := none
           viq := [e], rbq := [], cmds := tput s.cur.cmds 0 (s.cur.nextCmd 0), event := event }

/-- The machine `u`, on the way from `q`, with the executing thread of `s` on its way and its results those of `w`. -/
structure Runs (s q u : State) (len : Nat) (w : Thread) : Prop where
  around : Around q u
  thread : ∃ event e, e.cmd = s.cur.nextCmd 0 ∧ u.thr s.hart = s.running len w event e
  hart : q.hart = s.hart

section
variable {s q u u' : State} {len : Nat} {w : Thread}

/-- A step that leaves the executing thread as it is. -/
theorem Runs.of_thr (h : Runs s q u len w) (ha : Around u u') (ht : u'.thr s.hart = u.thr s.hart) : Runs s q u' len w := by
  obtain ⟨hq, ⟨ev, e, hcmd, hthr⟩, hh⟩ := h
  exact ⟨hq.trans ha, ⟨ev, e, hcmd, ht.trans hthr⟩, hh⟩

theorem Runs.hart_eq (h : Runs s q u len w) : u.hart = s.hart := h.around.hart.trans h.hart

theorem Runs.setThr (h : Runs s q u len w) {w' : Thread} {ev : Bool} {e : VEntry} (he : e.cmd = s.cur.nextCmd 0) :
    Runs s q (u.setThr s.hart (s.running len w' ev e)) len w' :=
  ⟨h.around.trans (by rw [← h.hart_eq]; exact around_setThr u _), ⟨ev, e, he, State.thr_setThr_self _ _ _⟩, h.hart⟩

theorem Runs.count (h : Runs s q u len w) {i : Nat} (hi : i = 2 ∨ i = 10) (task n : Nat) : Runs s q (u.count task i n) len w :=
  h.of_thr (around_count hi u task n) rfl

theorem Runs.countGroups (h : Runs s q u len w) (e : VEntry) (lo hi : Nat) : Runs s q (u.countGroups s.hart e lo hi) len w := by
  refine h.of_thr (around_countGroups u s.hart e lo hi) ?_
  obtain ⟨K, hK, -⟩ := countGroups_eq u s.hart e lo hi
  rw [hK]
  rfl

theorem Runs.setHead (h : Runs s q u len w) {e : VEntry} (he : e.cmd = s.cur.nextCmd 0) : Runs s q (u.setHead s.hart e) len w := by
  obtain ⟨ev, e', hcmd, hthr⟩ := h.thread
  have hhead : u.setHead s.hart e = u.setThr s.hart (s.running len w ev e) := by
    rw [State.setHead]
    dsimp only
    rw [hthr]
    refine congrArg (u.setThr s.hart) ?_
    have hmap : [e'].map (fun x : VEntry => if x.cmd = e.cmd then e else x) = [e] := by simp [hcmd, he]
    exact congrArg (fun l => ({ s.running len w ev e' with viq := l } : Thread)) hmap
  rw [hhead]
  exact h.setThr he

end

/-! What leaves the memories alone -/

/-- `v` is `u` but for threads, tasks and cores. -/
def Beside (u v : State) : Prop := ∃ T K D, v = { u with threads := T, tasks := K, cores := D }

section
variable {u v x : State}

theorem beside_self (u : State) : Beside u u := ⟨_, _, _, rfl⟩

theorem Beside.trans (h : Beside u v) (g : Beside v x) : Beside u x := by
  obtain ⟨_, _, _, rfl⟩ := h
  obtain ⟨_, _, _, rfl⟩ := g
  exact ⟨_, _, _, rfl⟩

theorem beside_setThr (u : State) (h : Nat) (t : Thread) : Beside u (u.setThr h t) := ⟨_, _, _, rfl⟩
theorem beside_setCore (u : State) (c : Nat) (t : Core) : Beside u (u.setCore c t) := ⟨_, _, _, rfl⟩
theorem beside_count (u : State) (task i n : Nat) : Beside u (u.count task i n) := ⟨_, _, _, rfl⟩
theorem beside_setHead (u : State) (h : Nat) (e : VEntry) : Beside u (u.setHead h e) := ⟨_, _, _, rfl⟩

theorem beside_countGroups (u : State) (h : Nat) (e : VEntry) (lo hi : Nat) : Beside u (u.countGroups h e lo hi) := by
  obtain ⟨K, hK, -⟩ := countGroups_eq u h e lo hi
  exact ⟨_, _, _, hK⟩

theorem beside_spanDone (u : State) (h : Nat) (e : VEntry) : Beside u (u.spanDone h e) := by
  unfold State.spanDone
  dsimp only
  split
  · exact beside_self u
  · exact beside_setCore _ _ _

end

end Sys2Proof.Machine
end

section
/-! The sections of a vector memory instruction of an idle thread (R237, R352) -/

namespace Sys2Proof.Machine

/-! The elements that an instruction accesses -/

/-- The accessed elements from `n` on, below `N`. -/
def elemsFrom (acts : Nat → Bool) (el : Nat → VElem) (n N : Nat) : List VElem := ((List.range' n (N - n)).filter acts).map el

section
variable {acts : Nat → Bool} {el : Nat → VElem}

theorem elemsFrom_end {n N : Nat} (h : N ≤ n) : elemsFrom acts el n N = [] := by
  rw [elemsFrom, Nat.sub_eq_zero_of_le h]
  rfl

theorem elemsFrom_step {n N : Nat} (h : n < N) :
    elemsFrom acts el n N = if acts n then el n :: elemsFrom acts el (n + 1) N else elemsFrom acts el (n + 1) N := by
  rw [elemsFrom, show N - n = (N - (n + 1)) + 1 by omega, List.range'_succ, List.filter_cons]
  split <;> rfl

theorem mem_elemsFrom {n N : Nat} {y : VElem} (h : y ∈ elemsFrom acts el n N) : ∃ j, n ≤ j ∧ j < N ∧ acts j = true ∧ y = el j := by
  obtain ⟨j, hj, rfl⟩ := List.mem_map.mp h
  obtain ⟨hr, ha⟩ := List.mem_filter.mp hj
  rw [List.mem_range'_1] at hr
  exact ⟨j, by omega, by omega, ha, rfl⟩

end

theorem mem_elemsFrom_of {acts : Nat → Bool} {el : Nat → VElem} {n j N : Nat} (h1 : n ≤ j) (h2 : j < N) (ha : acts j = true) :
    el j ∈ elemsFrom acts el n N :=
  List.mem_map_of_mem (List.mem_filter.mpr ⟨List.mem_range'_1.mpr (by omega), ha⟩)

/-- `e` is the entry of the access `m` that the executing thread has committed, somewhere on its way. -/
def VEntry.Issues (s : State) (m : VMem) (k : Nat) (e : VEntry) : Prop :=
  e = { s.begun (.mem m) k 0 with start := e.start, grp := e.grp, sect := e.sect }

/-- A vector memory instruction that performs at once: `C n` holds when the elements below `n` have performed, and each of those below `N`
takes it one further. -/
structure Course (s q : State) (len : Nat) (m : VMem) (k N : Nat) (el : Nat → VElem) (C : Nat → State → Thread → Prop) : Prop where
  index : ∀ j, (el j).i = j
  near : ∀ j, s.cur.writes k j = true → (el j).far = false
  carry : ∀ {n u v w}, Beside u v → C n u w → C n v w
  results : ∀ {n u w}, C n u w → w = { s.cur.noKsel with v := w.v, wrote := w.wrote, fstat := w.fstat, vl := N }
  skip : ∀ {n u w}, s.cur.writes k n = false → C n u w → C (n + 1) u w
  step : ∀ {n u w}, Runs s q u len w → C n u w → n < N → s.cur.writes k n = true → ∀ e : VEntry, e.Issues s m k →
    ∃ w', Runs s q (u.vElem s.hart (coreOf s.hart) e m (el n)) len w' ∧ C (n + 1) (u.vElem s.hart (coreOf s.hart) e m (el n)) w'
  passes : ∀ {n u w} j, Runs s q u len w → C n u w → n ≤ j → s.cur.writes k j = true → u.vSkips (coreOf s.hart) m (el j) = false
  ready : ∀ {n u w} j, Runs s q u len w → C n u w → n ≤ j → j < N → s.cur.writes k j = true → ∀ e : VEntry, e.Issues s m k →
    u.vWaits s.hart (coreOf s.hart) e m (el j) = false
  sound : ∀ {n u w} j, Runs s q u len w → C n u w → n ≤ j → s.cur.writes k j = true → ∀ e : VEntry, e.Issues s m k →
    u.vError s.hart e m (el j) = none
  unshut : ∀ {n u w} j, Runs s q u len w → C n u w → n ≤ j → s.cur.writes k j = true → ∀ pa t p, (el j).at' = .phys pa t p →
    u.shutAt pa = false

/-- An element that need not wait performs as it is issued. -/
theorem vIssueOne_performs {u : State} {h c : Nat} {e : VEntry} {m : VMem} {sec : VSect} {x : VElem} (ht : u.travel = false)
    (hl : sec.late = []) (ho : ∀ pa t p, x.at' = .phys pa t p → u.shutAt pa = false) :
    u.vIssueOne h c e m sec x = (u.vElem h c e m x, sec) := by
  rw [State.vIssueOne, State.vTravels, ht, hl]
  cases hx : x.at' with
  | spad off => simp
  | phys pa t p => simp [ho pa t p hx]

section
variable {s q : State} {len k N : Nat} {m : VMem} {el : Nat → VElem} {C : Nat → State → Thread → Prop} (hidle : Idle s)
  (htravel : s.travel = false) (hq : Committed s q (s.trying s.cur len (.mem m) k 0)) (hcourse : Course s q len m k N el C)

theorem Runs.travel {u : State} {w : Thread} (hq : Committed s q (s.trying s.cur len (.mem m) k 0)) (h : Runs s q u len w) :
    u.travel = s.travel := h.around.travel.trans ((congrArg (·.travel) hq.rest).trans rfl)

include hcourse

theorem Course.skips {n i : Nat} {u : State} {w : Thread} (hni : n ≤ i) (hC : C n u w) (hnone : ∀ j, n ≤ j → j < i → s.cur.writes k j = false) :
    C i u w := by
  induction i, hni using Nat.le_induction with
  | base => exact hC
  | succ i hi ih => exact hcourse.skip (hnone i hi (by omega)) (ih fun j h1 h2 => hnone j h1 (by omega))

/-- The first of the elements left performs. -/
theorem Course.next {n : Nat} {u : State} {w : Thread} {x : VElem} {r : List VElem} (hr : Runs s q u len w) (hC : C n u w) (hn : n ≤ N)
    (hl : elemsFrom (s.cur.writes k) el n N = x :: r) {e : VEntry} (he : e.Issues s m k) :
    ∃ i w', x = el i ∧ s.cur.writes k i = true ∧ i < N ∧ C i u w ∧ r = elemsFrom (s.cur.writes k) el (i + 1) N ∧
      Runs s q (u.vElem s.hart (coreOf s.hart) e m x) len w' ∧ C (i + 1) (u.vElem s.hart (coreOf s.hart) e m x) w' := by
  induction hd : N - n generalizing n with
  | zero =>
    rw [elemsFrom_end (by omega)] at hl
    exact absurd hl (List.cons_ne_nil _ _).symm
  | succ d ih =>
    rw [elemsFrom_step (by omega)] at hl
    by_cases ha : s.cur.writes k n = true
    · rw [if_pos ha, List.cons.injEq] at hl
      obtain ⟨rfl, rfl⟩ := hl
      obtain ⟨w', hr', hC'⟩ := hcourse.step hr hC (by omega) ha e he
      exact ⟨n, w', rfl, ha, by omega, hC, rfl, hr', hC'⟩
    · rw [if_neg ha] at hl
      exact ih (hcourse.skip (Bool.eq_false_of_not_eq_true ha) hC) (by omega) hl (by omega)

include htravel hq

/-- Elements issued one after another perform, in order. -/
theorem Course.issues {e : VEntry} (he : e.Issues s m k) {sec : VSect} (hlate : sec.late = []) {l r : List VElem} :
    ∀ {n : Nat} {u : State} {w : Thread}, Runs s q u len w → C n u w → n ≤ N → elemsFrom (s.cur.writes k) el n N = l ++ r →
      ∃ n' u' w', Runs s q u' len w' ∧ C n' u' w' ∧ n' ≤ N ∧ elemsFrom (s.cur.writes k) el n' N = r ∧
        l.foldl (fun (a : State × VSect) y => if a.1.vSkips (coreOf s.hart) m y then (a.1.setThr s.hart ((a.1.thr s.hart).wk 8 y.i true), a.2)
          else a.1.vIssueOne s.hart (coreOf s.hart) e m a.2 y) (u, sec) = (u', sec) := by
  induction l with
  | nil => exact fun {n u w} hr hC hn hl => ⟨n, u, w, hr, hC, hn, hl, rfl⟩
  | cons x l ih =>
    intro n u w hr hC hn hl
    obtain ⟨i, w', rfl, ha, hi, hCi, hrest, hr', hC'⟩ := hcourse.next hr hC hn hl he
    obtain ⟨n', u', w'', hr'', hC'', hn', hl', hfold⟩ := ih hr' hC' (by omega) hrest.symm
    refine ⟨n', u', w'', hr'', hC'', hn', hl', ?_⟩
    rw [List.foldl_cons]
    dsimp only
    rw [if_neg (by rw [hcourse.passes i hr hCi le_rfl ha]; exact Bool.false_ne_true), vIssueOne_performs ((hr.travel hq).trans htravel) hlate
      (hcourse.unshut i hr hCi le_rfl ha)]
    exact hfold

end

end Sys2Proof.Machine
end

section
/-! A section issues its elements (R181, R237) -/

namespace Sys2Proof.Machine

/-- No element that lives in the package is sent to another. -/
theorem toSend_near {u : State} {c : Nat} {e : VEntry} {m : VMem} {xs : List VElem} (h : ∀ y ∈ xs, y.far = false) : u.toSend c e m xs = [] := by
  rw [State.toSend, List.filter_eq_nil_iff]
  intro y hy
  have hmem : y ∈ xs.filter (fun x => !u.vSkips c m x) := by
    split at hy
    · split at hy
      · exact absurd hy List.not_mem_nil
      · exact (List.takeWhile_sublist _).subset hy
    · exact hy
  rw [h y (List.mem_of_mem_filter hmem)]
  exact Bool.false_ne_true

theorem VEntry.Issues.with {s : State} {m : VMem} {k : Nat} {e : VEntry} (h : e.Issues s m k) (a g : Nat) (x : Option VSect) :
    ({ e with start := a, grp := g, sect := x } : VEntry).Issues s m k := by
  unfold VEntry.Issues at *
  rw [h]

theorem VEntry.Issues.cmd {s : State} {m : VMem} {k : Nat} {e : VEntry} (h : e.Issues s m k) : e.cmd = s.cur.nextCmd 0 := by rw [h]; rfl

section
variable {s q : State} {len k N : Nat} {m : VMem} {el : Nat → VElem} {C : Nat → State → Thread → Prop} (hidle : Idle s)
  (htravel : s.travel = false) (hq : Committed s q (s.trying s.cur len (.mem m) k 0)) (hcourse : Course s q len m k N el C)

theorem Course.ends (hcourse : Course s q len m k N el C) {n : Nat} {u : State} {w : Thread} (hC : C n u w) (hn : n ≤ N)
    (hl : elemsFrom (s.cur.writes k) el n N = []) : C N u w :=
  hcourse.skips hn hC fun j h1 h2 => by
    by_contra ha
    exact List.ne_nil_of_mem (mem_elemsFrom_of (el := el) h1 h2 (Bool.eq_true_of_not_eq_false ha)) hl

/-- The destination of an access that has performed holds no poisoned word. -/
theorem Course.heals (hidle : Idle s) (hcourse : Course s q len m k N el C) {n : Nat} {u : State} {w : Thread} (hC : C n u w) (ev : Bool)
    (e : VEntry) (l : List VGrp) (f : Thread → VGrp → Nat → Bool) (nreg a b : Nat) :
    l.foldl (fun t d => t.vHeal nreg d.r d.w a b (f t d)) (s.running len w ev e) = s.running len w ev e := by
  have hsound : (s.running len w ev e).vSound = true := by
    rw [hcourse.results hC]
    exact hidle.sound
  induction l with
  | nil => rfl
  | cons d l ih => rw [List.foldl_cons, vHeal_of_sound hsound, ih]

include hidle htravel hq hcourse

theorem Course.vIssue (per : Nat) : ∀ (fuel : Nat) {n : Nat} {u : State} {w : Thread} {e : VEntry} {sec : VSect}, Runs s q u len w → C n u w → n ≤ N →
    e.Issues s m k → sec.todo = elemsFrom (s.cur.writes k) el n N → sec.late = [] → sec.halt = false → sec.todo.length < fuel →
    ∃ u' w' e', Runs s q u' len w' ∧ C N u' w' ∧ e'.Issues s m k ∧ e'.sect = none ∧ sec.stop ≤ e'.start ∧
      u.vIssue s.hart (coreOf s.hart) m per e sec fuel = .on u' e'
  | 0, _, _, _, _, _, _, _, _, _, _, _, _, hf => absurd hf (Nat.not_lt_zero _)
  | fuel + 1, n, u, w, e, sec, hr, hC, hn, he, htodo, hlate, hhalt, hf => by
    have hmem : ∀ y ∈ sec.todo, ∃ j, n ≤ j ∧ j < N ∧ s.cur.writes k j = true ∧ y = el j := fun y hy => mem_elemsFrom (htodo ▸ hy)
    unfold State.vIssue
    cases hl : sec.todo with
    | nil =>
      rw [hl] at htodo
      dsimp only
      rw [hlate]
      refine ⟨(u.countGroups s.hart e e.start sec.stop).unpinCmd s.hart e.cmd, w, { e with start := max e.start sec.stop, sect := none },
        (hr.countGroups e e.start sec.stop).of_thr (around_unpinCmd _ _ _) rfl,
        hcourse.carry ((beside_countGroups _ _ _ _ _).trans (beside_setCore _ _ _)) (hcourse.ends hC hn htodo.symm), he.with _ _ _, rfl,
        le_max_right _ _, rfl⟩
    | cons x r =>
      rw [hl] at hmem htodo hf
      have hfar : u.toSend (coreOf s.hart) e m (x :: r) = [] := toSend_near fun y hy => by
        obtain ⟨j, -, -, ha, rfl⟩ := hmem y hy
        exact hcourse.near j ha
      have hfirst : (!m.o || decide (x.package = x.package)) = true := by simp
      have hgo : ¬ (sec.halt || decide (e.sent ≠ 0) || (m.o && !sec.late.isEmpty)) = true := by
        rw [hhalt, hlate, show e.sent = 0 by rw [he]; rfl]
        simp
      dsimp only
      rw [hfar, if_neg hgo, show e.answer.err = none by rw [he]; rfl]
      dsimp only
      have hnow : ∃ rest, x :: r = List.takeWhile (fun y => decide (y.i / per = x.i / per) && (!m.o || decide (y.package = x.package)))
          (x :: r) ++ rest :=
        ⟨_, List.takeWhile_append_dropWhile.symm⟩
      have hne : 0 < (List.takeWhile (fun y => decide (y.i / per = x.i / per) && (!m.o || decide (y.package = x.package))) (x :: r)).length := by
        rw [List.takeWhile_cons_of_pos (by simp)]
        exact Nat.succ_pos _
      generalize List.takeWhile (fun y => decide (y.i / per = x.i / per) && (!m.o || decide (y.package = x.package))) (x :: r) = now at hnow hne
      obtain ⟨rest, hsplit⟩ := hnow
      have hin : ∀ y ∈ now, ∃ j, n ≤ j ∧ j < N ∧ s.cur.writes k j = true ∧ y = el j := fun y hy =>
        hmem y (by rw [hsplit]; exact List.mem_append_left _ hy)
      rw [if_neg ?noWait]
      case noWait =>
        rw [Bool.not_eq_true, List.any_eq_false]
        intro y hy
        obtain ⟨j, h1, h2, ha, rfl⟩ := hin y (List.mem_of_mem_filter hy)
        rw [hcourse.ready j hr hC h1 h2 ha e he, hcourse.near j ha]
        simp
      rw [if_neg (by simp)]
      have herr : (List.filter (fun y => !u.vSkips (coreOf s.hart) m y) now).findSome? (fun y => u.vError s.hart e m y) = none := by
        rw [List.findSome?_eq_none_iff]
        intro y hy
        obtain ⟨j, h1, -, ha, rfl⟩ := hin y (List.mem_of_mem_filter hy)
        exact hcourse.sound j hr hC h1 ha e he
      rw [herr]
      dsimp only
      rw [hsplit, List.drop_left]
      obtain ⟨n', u', w', hr', hC', hn', hrest, hfold⟩ := hcourse.issues htravel hq he
        (sec := { sec with todo := rest, gone := now.map (·.i) ++ sec.gone, stuck := false }) hlate hr hC hn (htodo.symm.trans hsplit)
      rw [hfold]
      dsimp only
      obtain ⟨ev, e', hcmd, hthr⟩ := hr'.thread
      rw [hthr, hcourse.heals hidle hC']
      generalize min sec.stop _ = stop
      refine Course.vIssue per fuel (w := w') (sec := { sec with todo := rest, gone := now.map (·.i) ++ sec.gone, stuck := false })
        (((hr'.setThr hcmd).countGroups e e.start stop).count (.inr rfl) _ _)
        (hcourse.carry ((beside_setThr _ _ _).trans ((beside_countGroups _ _ _ _ _).trans (beside_count _ _ _ _))) hC') hn' (he.with _ _ _)
        hrest.symm hlate hhalt ?_
      rw [hsplit, List.length_append] at hf
      change rest.length < fuel
      omega

end

end Sys2Proof.Machine
end

section
/-! The end of an access (R237, R352) -/

namespace Sys2Proof.Machine

/-! The first of some elements -/

theorem firstUp_none {p : Nat → Bool} {n lo : Nat} (h : firstUp lo n p = none) {j : Nat} (h1 : lo ≤ j) (h2 : j < lo + n) : p j = false := by
  induction n generalizing lo with
  | zero => omega
  | succ n ih =>
    rw [firstUp] at h
    split at h
    · exact absurd h (Option.some_ne_none _)
    · next hp =>
      by_cases hj : j = lo
      · rw [hj]; exact Bool.eq_false_of_not_eq_true hp
      · exact ih h (by omega) (by omega)

theorem firstUp_some {p : Nat → Bool} {n lo i : Nat} (h : firstUp lo n p = some i) :
    lo ≤ i ∧ i < lo + n ∧ p i = true ∧ ∀ j, lo ≤ j → j < i → p j = false := by
  induction n generalizing lo with
  | zero => exact absurd h (Option.some_ne_none _).symm
  | succ n ih =>
    rw [firstUp] at h
    split at h
    · next hp =>
      rw [Option.some.injEq] at h
      subst h
      exact ⟨le_rfl, by omega, hp, fun j h1 h2 => by omega⟩
    · next hp =>
      obtain ⟨h1, h2, h3, h4⟩ := ih h
      refine ⟨by omega, by omega, h3, fun j hj hji => ?_⟩
      by_cases hj' : j = lo
      · rw [hj']; exact Bool.eq_false_of_not_eq_true hp
      · exact h4 j (by omega) hji

theorem firstUp_congr {p p' : Nat → Bool} {n lo : Nat} (h : ∀ j, lo ≤ j → j < lo + n → p j = p' j) : firstUp lo n p = firstUp lo n p' := by
  induction n generalizing lo with
  | zero => rfl
  | succ n ih => rw [firstUp, firstUp, h lo le_rfl (by omega), ih fun j h1 h2 => h j (by omega) (by omega)]

/-- Where there is one, the first is no later. -/
theorem firstUp_of {p : Nat → Bool} {n b : Nat} (hb : b < n) (hp : p b = true) :
    ∃ i, firstUp 0 n p = some i ∧ i ≤ b ∧ p i = true ∧ ∀ j, j < i → p j = false := by
  cases hf : firstUp 0 n p with
  | none =>
    rw [firstUp_none hf (Nat.zero_le b) (by omega)] at hp
    exact absurd hp Bool.false_ne_true
  | some i =>
    obtain ⟨-, -, hi, hbefore⟩ := firstUp_some hf
    refine ⟨i, rfl, ?_, hi, fun j hj => hbefore j (Nat.zero_le j) hj⟩
    by_contra hlt
    rw [hbefore b (Nat.zero_le b) (by omega)] at hp
    exact absurd hp Bool.false_ne_true

section
variable {s q : State} {len k N : Nat} {m : VMem} {el : Nat → VElem} {C : Nat → State → Thread → Prop} (hidle : Idle s)
  (htravel : s.travel = false) (hq : Committed s q (s.trying s.cur len (.mem m) k 0))

theorem Runs.vl {u : State} {w : Thread} (h : Runs s q u len w) : (u.thr s.hart).vl = w.vl := by
  obtain ⟨ev, e, -, hthr⟩ := h.thread
  rw [hthr]
  rfl

/-- Past the last element, the instruction is complete. -/
theorem vRun_ends {u : State} {w : Thread} {e : VEntry} (hr : Runs s q u len w) (he : e.Issues s m k) (hsect : e.sect = none)
    (hend : ∀ j, e.start ≤ j → j < w.vl → (u.thr s.hart).todo e j = false) (fuel : Nat) :
    ∃ u' e', u.vRun s.hart (coreOf s.hart) m e (fuel + 1) = .on u' e' ∧ Runs s q u' len w ∧ Beside u u' ∧ e'.Issues s m k := by
  have hnone : firstUp e.start ((u.thr s.hart).vl - e.start) ((u.thr s.hart).todo e) = none := by
    cases hf : firstUp e.start ((u.thr s.hart).vl - e.start) ((u.thr s.hart).todo e) with
    | none => rfl
    | some i =>
      obtain ⟨h1, h2, h3, -⟩ := firstUp_some hf
      rw [hr.vl] at h2
      rw [hend i h1 (by omega)] at h3
      exact absurd h3 Bool.false_ne_true
  refine ⟨_, _, ?_, hr.countGroups e e.start (u.thr s.hart).vl, beside_countGroups _ _ _ _ _, he.with (max e.start (u.thr s.hart).vl) e.grp e.sect⟩
  rw [State.vRun, hsect]
  dsimp only
  rw [hnone]

include hidle htravel hq in
/-- The section of the elements from `n` on performs, and the instruction is complete. -/
theorem Course.vRun_section (hcourse : Course s q len m k N el C) {n : Nat} {u : State} {w : Thread} {e : VEntry} {sec : VSect}
    (hr : Runs s q u len w) (hC : C n u w) (hn : n ≤ N) (he : e.Issues s m k) (hsect : e.sect = some sec)
    (htodo : sec.todo = elemsFrom (s.cur.writes k) el n N) (hlate : sec.late = []) (hhalt : sec.halt = false) (hstop : N ≤ sec.stop)
    (fuel : Nat) : ∃ u' w' e', u.vRun s.hart (coreOf s.hart) m e (fuel + 2) = .on u' e' ∧ Runs s q u' len w' ∧ C N u' w' ∧ e'.Issues s m k := by
  have hsec : { sec with late := [] } = sec := by rw [← hlate]
  have hhead := hr.setHead (e := { e with sect := some sec }) he.cmd
  obtain ⟨u1, w1, e1, hr1, hC1, he1, hs1, hstart, hissue⟩ := hcourse.vIssue hidle htravel hq
    ((u.setHead s.hart { e with sect := some sec }).sectPer (coreOf s.hart) e sec) (sec.todo.length + 1) hhead
    (hcourse.carry (beside_setHead _ _ _) hC) hn he htodo hlate hhalt (Nat.lt_succ_self _)
  have hvl : w1.vl = N := by rw [hcourse.results hC1]
  obtain ⟨u2, e2, hrun, hr2, hb2, he2⟩ := vRun_ends hr1 he1 hs1 (fun j h1 h2 => by omega) fuel
  refine ⟨u2, w1, e2, ?_, hr2, hcourse.carry hb2 hC1, he2⟩
  rw [State.vRun, hsect]
  dsimp only
  have hl : u.vLate s.hart (coreOf s.hart) e m sec = (u, sec) := by
    rw [State.vLate, hlate, List.foldl_nil, hsec]
  rw [hl]
  dsimp only
  rw [if_neg (by rw [hhalt]; exact Bool.false_ne_true), hissue]
  exact hrun

end

end Sys2Proof.Machine
end

section
/-! From the commit of an access to its completion (R67, R352) -/

namespace Sys2Proof.Machine

section
variable {s q : State} {len k : Nat} {m : VMem}

/-- What of `u` vector memory accesses leave alone, in the frame of `s`. -/
def State.framed (s u : State) : State :=
  { u with threads := s.threads, tasks := s.tasks, cores := s.cores, pillars := s.pillars, mem := s.mem, keys := s.keys, spad := s.spad
           spadOwner := s.spadOwner, spadFull := s.spadFull }

/-- The same of a core. -/
def Core.framed (k j : Core) : Core := { j with commits := k.commits, tiles := k.tiles, l1d := k.l1d, tlb := k.tlb }

/-- The machine when the access `m` of an idle thread has cleared ksel (R67). -/
def State.unmasked (s q : State) (len : Nat) (m : VMem) (k : Nat) : State :=
  q.setThr s.hart (s.running len s.cur.noKsel s.cur.event (s.begun (.mem m) k 0))

theorem runs_unmasked (hq : Committed s q (s.trying s.cur len (.mem m) k 0)) : Runs s q (s.unmasked q len m k) len s.cur.noKsel :=
  ⟨by rw [State.unmasked, ← hq.hart]; exact around_setThr q _, ⟨_, _, rfl, State.thr_setThr_self _ _ _⟩, hq.hart⟩

/-- An access that has performed completes. -/
theorem vTry_performed (hq : Committed s q (s.trying s.cur len (.mem m) k 0)) {u : State} {w : Thread} {e : VEntry}
    (hrun : (s.unmasked q len m k).vRun s.hart (coreOf s.hart) m (s.begun (.mem m) k 0) (2 * s.cur.vl + 2) = .on u e)
    (he : e.Issues s m k) (hr : Runs s q (u.fillWritten s.hart e (u.thr s.hart).vl) len w) :
    ∃ d, q.vTry s.hart (s.begun (.mem m) k 0) = .done d ∧ Runs s q d len w ∧ Beside (u.fillWritten s.hart e (u.thr s.hart).vl) d := by
  have htry : q.vTry s.hart (s.begun (.mem m) k 0) = q.vMem s.hart (s.begun (.mem m) k 0) m := by
    rw [State.vTry, if_neg (show ¬ (s.begun (.mem m) k 0).bad = true from Bool.false_ne_true)]
    rfl
  have hstart : (q.setThr s.hart { q.thr s.hart with k := tdel (q.thr s.hart).k 8 }) = s.unmasked q len m k := by
    rw [hq.thread]
    rfl
  have hvl : ((s.unmasked q len m k).thr s.hart).vl = s.cur.vl := (runs_unmasked hq).vl
  have hhead := hr.setHead he.cmd
  rw [htry, State.vMem]
  dsimp only
  rw [if_pos ⟨rfl, rfl⟩, hstart, hvl, hrun]
  dsimp only
  generalize u.fillWritten s.hart e (u.thr s.hart).vl = f at hhead ⊢
  split
  · exact ⟨_, rfl, (hhead.of_thr (around_l1DropClean _ _) rfl).of_thr (around_spanDone _ _ _) (by unfold State.spanDone; dsimp only; split <;> rfl),
      ((beside_setHead _ _ _).trans (beside_setCore _ _ _)).trans (beside_spanDone _ _ _)⟩
  · exact ⟨_, rfl, hhead.of_thr (around_spanDone _ _ _) (by unfold State.spanDone; dsimp only; split <;> rfl),
      (beside_setHead _ _ _).trans (beside_spanDone _ _ _)⟩

/-- What is left of an access of an idle thread that performs at its first try. -/
theorem performsMem_of_runs {i : Instr} {R : State → Thread → Prop} (hidle : Idle s) (hi : exec i s = s.commitV len (.mem m) k 0 none)
    (hR : ∀ {a b v}, Beside a b → R a v → R b v)
    (hrun : ∀ q, Committed s q (s.trying s.cur len (.mem m) k 0) → ∃ d w, q.vTry s.hart (s.begun (.mem m) k 0) = .done d ∧ Runs s q d len w ∧
      w = { s.cur.noKsel with v := w.v, wrote := w.wrote, fstat := w.fstat, vl := w.vl } ∧ R d w) : PerformsMem i s len R := by
  obtain ⟨q, hq, hdone⟩ := commit_tries (f := id) hidle hi nofun rfl
  obtain ⟨d, w, htry, ⟨haround, ⟨ev, e, hcmd, hthr⟩, -⟩, hw, hRd⟩ := hrun q hq
  have hsound : s.cur.verr = [] := by
    have h := hidle.sound
    rw [Thread.vSound, Bool.and_eq_true, List.isEmpty_iff, List.isEmpty_iff] at h
    exact h.2
  obtain ⟨hverr, hwin, hbob, hviq, hrbq⟩ : w.verr = [] ∧ w.win = [] ∧ w.bob = [] ∧ w.viq = [] ∧ w.rbq = [] := by
    rw [hw]
    exact ⟨hsound, hidle.win, hidle.bob, hidle.viq, hidle.rbq⟩
  obtain ⟨t, hexec, hon⟩ := hdone d htry ⟨haround.rings.trans ((congrArg (·.traceRings) hq.rest).trans hidle.traces), by rw [hthr]; exact hverr,
    ⟨e, by rw [hthr]; rfl, hcmd⟩, by rw [hthr]; rfl, by rw [hthr]; exact hwin, by rw [hthr]; exact hbob⟩
  rw [hthr] at hon
  obtain ⟨T, hT⟩ := collectTiles_eq t s.hart
  have hbeside : Beside d (t.collectTiles s.hart) := by
    refine Beside.trans (v := t) ⟨t.threads, d.tasks, d.cores, ?_⟩ (by rw [hT]; exact beside_setCore _ _ _)
    conv_rhs => rw [← hon.rest]
  have htd : { t with threads := d.threads } = d := hon.rest
  have hharts : (t.collectTiles s.hart).hart = s.hart := (congrArg (·.hart) htd).trans (haround.hart.trans hq.hart)
  have hcurs : (t.collectTiles s.hart).cur =
      ({ s.running len w ev e with viq := [], rbq := [] } : Thread).advance 0 (s.cur.nextCmd 0) false := by
    rw [State.cur, hharts]
    exact hon.thread
  refine ⟨t.collectTiles s.hart, w, hexec, hR hbeside hRd, ?_, fun n => ?_, hharts, fun h hne => ?_, ?_, fun c => ?_, fun k n h2 h10 => ?_⟩
  · rw [hcurs]
    refine (advance_eq _ _ _ _).trans ?_
    generalize ({ s.running len w ev e with viq := [], rbq := [] } : Thread).advance 0 (s.cur.nextCmd 0) false = c
    rw [State.running, ← hviq, ← hrbq]
  · rw [hcurs, rtl_advance, State.running, hw]
    rfl
  · have hth : (t.collectTiles s.hart).thr h = d.thr h := hon.others h hne
    rw [hth, ← hq.others h hne]
    exact haround.others h (by rw [hq.hart]; exact hne)
  · rw [hT]
    have h1 := congrArg s.framed htd
    have h2 := congrArg s.framed haround.rest
    have h3 := congrArg s.framed hq.rest
    exact h1.trans (h2.trans h3)
  · have hc : (s.core c).framed (t.core c) = s.core c := by
      have h1 : t.core c = d.core c := State.core_congr (congrArg (·.cores) htd) c
      have h2 := congrArg (s.core c).framed (haround.cores c)
      have h3 := congrArg (s.core c).framed (hq.cores c)
      rw [h1]
      exact h2.trans h3
    rw [hT, State.core_setCore]
    split
    · next h => rw [← h]; exact hc
    · exact hc
  · have htasks : (t.collectTiles s.hart).tasks = d.tasks := congrArg (·.tasks) htd
    rw [State.counter, State.words, htasks]
    exact (haround.counters k n h2 h10).trans (hq.counters k n)

end

end Sys2Proof.Machine
end

section
/-! The probe, and accesses of the scratchpad (R107, R179, R353) -/

namespace Sys2Proof.Machine

/-- The section of a probe. -/
def Probe.sectionTo (p : Probe) (first stop : Nat) : VSect :=
  { first := first, stop := stop, pages := p.pages, todo := p.elems, late := [], stuck := false, halt := false }

/-- A probe that has found elements begins their section; VLDFF ends VL at an element above its lowest that fails (R357). -/
theorem vRun_begins {u u1 : State} {h c : Nat} {m : VMem} {e : VEntry} {p : Probe} {i0 stop fuel : Nat} (hsect : e.sect = none)
    (hstart : e.start = 0) (hafter : e.after = none) (hfrozen : e.frozenAt = none)
    (hfirst : firstUp 0 (u.thr h).vl ((u.thr h).todo e) = some i0)
    (hp : u.probe h c e m i0 ((u.thr h).vl - i0) ((u.thr h).pinned e.cmd) [] [] = p)
    (hmiss : p.miss = false) (hne : p.elems ≠ []) (hin : ∀ x ∈ p.elems, x.i < stop)
    (hend : (p.fail = none ∧ stop = p.stop ∧ u1 = p.s) ∨ ∃ ea x, p.fail = some (stop, ea, x) ∧ x.code ≠ 64 ∧ m.first = true ∧
      (u.thr h).lowest e ≠ some stop ∧ u1 = p.s.setThr h { p.s.thr h with vl := stop }) :
    u.vRun h c m e (fuel + 1) = (u1.pinPages h e.cmd p.pages).vRun h c m { e with sect := some (p.sectionTo i0 stop) } fuel := by
  have hfilter : p.elems.filter (fun x => decide (x.i < stop)) = p.elems := List.filter_eq_self.mpr fun x hx => decide_eq_true (hin x hx)
  have hgo : ¬ (p.miss || (p.elems.isEmpty && p.fail.isNone)) = true := by
    rw [hmiss, List.isEmpty_eq_false_iff.mpr hne]
    simp
  cases e
  dsimp only at hsect hstart hafter hfrozen hp hfirst hend ⊢
  subst hsect hstart hafter hfrozen
  rw [State.vRun]
  dsimp only
  rw [Nat.sub_zero, hfirst]
  dsimp only
  rw [if_neg (by simp), hp, if_neg hgo]
  rcases hend with ⟨hf, rfl, rfl⟩ | ⟨ea, x, hf, hcode, hm, hlow, rfl⟩
  · rw [hf]
    dsimp only
    rw [hfilter]
    rfl
  · rw [hf]
    dsimp only
    rw [if_neg hcode, if_pos (by rw [hm, decide_eq_false hlow]; rfl), hfilter]
    rfl

/-! Probes -/

theorem probe_end (u : State) (h c : Nat) (e : VEntry) (m : VMem) (i : Nat) (held pages : List (Nat × Nat)) (acc : List VElem) :
    u.probe h c e m i 0 held pages acc = { s := u, stop := i, elems := acc.reverse, pages := pages, fail := none, miss := false } := rfl

/-- No index word is poisoned in a sound thread. -/
theorem no_bad_index {t : Thread} (h : t.vSound = true) (l : List VGrp) (nreg i : Nat) : l.any (fun g => t.vBad nreg g.r g.w i) = false := by
  rw [List.any_eq_false]
  intro g _
  rw [Thread.vBad, h]
  exact Bool.false_ne_true

section
variable {u : State} {h c : Nat} {e : VEntry} {m : VMem} {acts : Nat → Bool} {el : Nat → VElem}

/-- Elements that are not accessed are not probed (R179). -/
theorem probe_skips (held : List (Nat × Nat)) (r : Nat) {N : Nat} (hidle : ∀ j, j < N → (u.thr h).todo e j = acts j) :
    ∀ (n i : Nat) (pages : List (Nat × Nat)) (acc : List VElem), i + n ≤ N → (∀ j, i ≤ j → j < i + n → acts j = false) →
      u.probe h c e m i (n + r) held pages acc = u.probe h c e m (i + n) r held pages acc
  | 0, i, pages, acc, _, _ => by rw [Nat.zero_add, Nat.add_zero]
  | n + 1, i, pages, acc, hN, hn => by
    rw [show n + 1 + r = (n + r) + 1 by omega, State.probe]
    dsimp only
    rw [hidle i (by omega), hn i le_rfl (by omega), if_pos (by rfl), probe_skips held r hidle n (i + 1) pages acc (by omega) fun j h1 h2 =>
        hn j (by omega) (by omega),
      show i + 1 + n = i + (n + 1) by omega]

/-- Elements that lie in the scratchpad are probed one after another. -/
theorem probe_pad (held pages : List (Nat × Nat)) (r : Nat) {N : Nat} (hidle : ∀ j, j < N → (u.thr h).todo e j = acts j)
    (hs : (u.thr h).vSound = true)
    (hel : ∀ j, (el j).i = j ∧ (el j).ea = (u.thr h).eaOf e.nreg m j) :
    ∀ (n i : Nat) (acc : List VElem), i + n ≤ N → (∀ j, i ≤ j → j < i + n → acts j = true → ∃ off, (el j).at' = .spad off ∧
        u.vCheck c (u.thr h).owner m e.sew (el j).ea j = .ok u (.spad off)) →
      u.probe h c e m i (n + r) held pages acc = u.probe h c e m (i + n) r held pages ((elemsFrom acts el i (i + n)).reverse ++ acc)
  | 0, i, acc, _, _ => by rw [Nat.zero_add, Nat.add_zero, elemsFrom_end le_rfl]; rfl
  | n + 1, i, acc, hN, hn => by
    have ih := probe_pad held pages r hidle hs hel n (i + 1)
    rw [show n + 1 + r = (n + r) + 1 by omega, State.probe, elemsFrom_step (by omega)]
    dsimp only
    by_cases ha : acts i = true
    · obtain ⟨off, hat, hcheck⟩ := hn i le_rfl (by omega) ha
      rw [(hel i).2] at hcheck
      have helem : ({ i := i, ea := (u.thr h).eaOf e.nreg m i, at' := .spad off } : VElem) = el i := by
        have heta : el i = VElem.mk (el i).i (el i).ea (el i).at' := rfl
        rw [heta, (hel i).1, (hel i).2, hat]
      rw [hidle i (by omega), if_neg (by rw [ha]; exact Bool.false_ne_true), no_bad_index hs, if_neg Bool.false_ne_true, hcheck, if_pos ha]
      dsimp only
      rw [helem, ih _ (by omega) fun j h1 h2 => hn j (by omega) (by omega),
          show i + 1 + n = i + (n + 1) by omega, List.reverse_cons, List.append_assoc]
      rfl
    · rw [hidle i (by omega), if_pos (by rw [Bool.eq_false_of_not_eq_true ha]; rfl), if_neg ha, ih _ (by omega) fun j h1 h2 => hn j (by omega)
          (by omega),
        show i + 1 + n = i + (n + 1) by omega]

/-- The check of an element in the scratchpad (R107, R353). -/
theorem vCheck_pad {owner sew va : Nat} (hshaft : m.shaft = false) (hg : u.width c ≤ 4) (hal : va % 2 ^ sew = 0)
    (hin : 0x00FFFF0000000000 ≤ va ∧ va + 2 ^ sew ≤ 0x00FFFF0000000000 + u.width c * 2 ^ 22) (i : Nat) :
    u.vCheck c owner m sew va i = .ok u (.spad (va - 0x00FFFF0000000000)) := by
  have hpos := Nat.two_pow_pos sew
  have hwin : inWindow va = true := by
    rw [inWindow, Bool.and_eq_true, decide_eq_true_eq, decide_eq_true_eq, spadBase]
    omega
  have hacc : m.acc ≠ .fetch ∧ m.acc ≠ .shaftLoad ∧ m.acc ≠ .shaftStore := by
    rw [VMem.acc, hshaft]
    cases m.kind <;> exact ⟨nofun, nofun, nofun⟩
  have htrans : u.translate (some c) owner m.acc va (2 ^ sew) = .ok u (.spad (va - 0x00FFFF0000000000)) := by
    rw [State.translate, if_pos hwin]
    exact if_pos ⟨by rw [spadBase]; omega, hacc⟩
  rw [State.vCheck, hwin, if_pos rfl, if_neg (by rw [decide_eq_true_eq, spadBase]; omega), if_neg (by rw [hal]; exact not_not_intro rfl), htrans]

/-- An element of the window that is misaligned, or lies beyond the gang, fails (R107). -/
theorem vCheck_outside {owner sew va : Nat}
    (hout : (va % 2 ^ sew ≠ 0 ∧ 0x00FFFF0000000000 ≤ va ∧ va < 0x00FFFF0000000000 + 2 ^ 24) ∨
      (0x00FFFF0000000000 + u.width c * 2 ^ 22 ≤ va ∧ va < 0x00FFFF0000000000 + 2 ^ 24)) (i : Nat) :
    inWindow va = true ∧ ∃ x, u.vCheck c owner m sew va i = .err u x ∧ x.code ≠ 64 := by
  have hwin : inWindow va = true := by
    rw [inWindow, Bool.and_eq_true, decide_eq_true_eq, decide_eq_true_eq, spadBase]
    omega
  refine ⟨hwin, ?_⟩
  rw [State.vCheck, hwin, if_pos rfl]
  by_cases hb : u.width c * 2 ^ 22 ≤ va - spadBase
  · exact ⟨{ code := 5 }, by rw [if_pos (decide_eq_true hb)], by decide⟩
  · have hal : va % 2 ^ sew ≠ 0 := by
      rw [spadBase] at hb
      rcases hout with h | h
      · exact h.1
      · omega
    exact ⟨{ code := 4 }, by rw [if_neg (by rw [decide_eq_true_eq]; exact hb), if_pos hal], by decide⟩

end

section
variable {s q : State} {len k : Nat} {m : VMem}

/-- The address of element `j` of the access `m` of the executing thread. -/
def State.eaAt (s : State) (m : VMem) (j : Nat) : Nat := s.cur.eaOf s.cur.cnreg m j

/-- Element `j` of an access whose elements lie in the scratchpad. -/
def State.padElem (s : State) (m : VMem) (j : Nat) : VElem :=
  { i := j, ea := s.eaAt m j, at' := .spad (s.eaAt m j - 0x00FFFF0000000000) }

/-- The machine as the access is first tried: its thread, and what is still to do. -/
theorem thr_unmasked (s q : State) (len : Nat) (m : VMem) (k : Nat) :
    (s.unmasked q len m k).thr s.hart = s.running len s.cur.noKsel s.cur.event (s.begun (.mem m) k 0) := State.thr_setThr_self _ _ _

theorem rk_noKsel (t : Thread) {k : Nat} (hk : k < 8) (j : Nat) : t.noKsel.rk k j = t.rk k j := by
  unfold Thread.rk Thread.noKsel
  dsimp only
  rw [tget_tdel, if_neg (show ¬ k = 8 by omega)]

theorem todo_unmasked (hk : k < 8) {j : Nat} (hj : j < s.cur.vl) :
    ((s.unmasked q len m k).thr s.hart).todo (s.begun (.mem m) k 0) j = s.cur.writes k j := by
  rw [thr_unmasked, Thread.todo, writes_of_lt hj]
  exact (Bool.and_true _).trans (rk_noKsel s.cur hk j)

theorem firstUp_unmasked (hk : k < 8) :
    firstUp 0 s.cur.vl (((s.unmasked q len m k).thr s.hart).todo (s.begun (.mem m) k 0)) = firstUp 0 s.cur.vl (s.cur.writes k) :=
  firstUp_congr fun j _ hj => todo_unmasked hk (by omega)

theorem elemsFrom_index {acts : Nat → Bool} {el : Nat → VElem} (hi : ∀ j, (el j).i = j) {n N : Nat} : ∀ x ∈ elemsFrom acts el n N, x.i < N :=
  fun x hx => by
    obtain ⟨j, -, h, -, rfl⟩ := mem_elemsFrom hx
    rw [hi]
    exact h

theorem width_unmasked (hq : Committed s q (s.trying s.cur len (.mem m) k 0)) (c : Nat) : (s.unmasked q len m k).width c = s.width c := by
  rw [(runs_unmasked hq).around.width]
  have hcut : q.cutwork = s.cutwork := (congrArg (·.cutwork) hq.rest).trans rfl
  have hdef : q.defects = s.defects := (congrArg (·.defects) hq.rest).trans rfl
  rw [State.width, State.width, State.cut, State.cut, hcut, hdef]

variable {C : Nat → State → Thread → Prop} (hidle : Idle s) (htravel : s.travel = false) (hk : k < 8)
  (hq : Committed s q (s.trying s.cur len (.mem m) k 0))

include hk hq in
/-- An access none of whose elements is taken is complete at once. -/
theorem Course.run_none {N : Nat} {el : Nat → VElem} (hcourse : Course s q len m k N el C) (hC : C 0 (s.unmasked q len m k) s.cur.noKsel)
    (hN : N = s.cur.vl) (hnone : ∀ j, j < s.cur.vl → s.cur.writes k j = false) : ∃ u w e,
      (s.unmasked q len m k).vRun s.hart (coreOf s.hart) m (s.begun (.mem m) k 0) (2 * s.cur.vl + 2) = .on u e ∧ Runs s q u len w ∧ C N u w ∧
      e.Issues s m k := by
  obtain ⟨u, e, hrun, hr, hb, he⟩ := vRun_ends (runs_unmasked hq) (e := s.begun (.mem m) k 0) rfl rfl
    (fun j _ hj => (todo_unmasked hk hj).trans (hnone j hj)) (2 * s.cur.vl + 1)
  exact ⟨u, s.cur.noKsel, e, hrun, hr, hcourse.carry hb (hcourse.skips (Nat.zero_le _) hC fun j _ hj => hnone j (hN ▸ hj)), he⟩

include hidle htravel hq in
/-- The section that a probe has found performs its elements, and the access is complete. -/
theorem Course.run_from {N n stop : Nat} {el : Nat → VElem} (hcourse : Course s q len m k N el C) {u : State} {w : Thread}
    (pages : List (Nat × Nat)) (hr : Runs s q u len w) (hC : C n u w) (hn : n < N) (hN : N ≤ stop) (hvl : N ≤ s.cur.vl) : ∃ u' w' e,
      (u.pinPages s.hart (s.cur.nextCmd 0) pages).vRun s.hart (coreOf s.hart) m { s.begun (.mem m) k 0 with
        sect := some { first := n, stop := stop, pages := pages, todo := elemsFrom (s.cur.writes k) el n N, late := [], stuck := false
                       halt := false } } (2 * s.cur.vl + 1) = .on u' e ∧ Runs s q u' len w' ∧ C N u' w' ∧ e.Issues s m k := by
  have hfuel : 2 * s.cur.vl + 1 = 2 * s.cur.vl - 1 + 2 := by omega
  rw [hfuel]
  exact hcourse.vRun_section hidle htravel hq (hr.of_thr (around_pinPages _ _ _ _) rfl) (hcourse.carry (beside_setCore _ _ _) hC) hn.le
    (VEntry.Issues.with (e := s.begun (.mem m) k 0) rfl 0 1 (some _)) rfl rfl rfl rfl hN (2 * s.cur.vl - 1)

include hidle htravel hk hq in
/-- An access whose elements all lie in the scratchpad performs them all. -/
theorem Course.run_pad (hcourse : Course s q len m k s.cur.vl (s.padElem m) C) (hC : C 0 (s.unmasked q len m k) s.cur.noKsel)
    (hpad : PadElements s k (2 ^ s.cur.csew) s.cur.vl (s.eaAt m)) (hshaft : m.shaft = false) : ∃ u w e,
      (s.unmasked q len m k).vRun s.hart (coreOf s.hart) m (s.begun (.mem m) k 0) (2 * s.cur.vl + 2) = .on u e ∧ Runs s q u len w ∧ C s.cur.vl u w ∧
      e.Issues s m k := by
  have hvl : ((s.unmasked q len m k).thr s.hart).vl = s.cur.vl := (runs_unmasked hq).vl
  have hwidth := width_unmasked (len := len) (k := k) (m := m) hq (coreOf s.hart)
  have hfirst := firstUp_unmasked (s := s) (q := q) (len := len) (m := m) hk
  by_cases hnone : ∀ j, j < s.cur.vl → s.cur.writes k j = false
  · exact hcourse.run_none hk hq hC rfl hnone
  · obtain ⟨b, hb, hact⟩ : ∃ b, b < s.cur.vl ∧ s.cur.writes k b = true := by
      simpa only [not_forall, exists_prop, Bool.not_eq_false] using hnone
    obtain ⟨i0, hi0, hle, hact0, hbefore⟩ := firstUp_of hb hact
    have hprobe := probe_pad (u := s.unmasked q len m k) (h := s.hart) (c := coreOf s.hart) (e := s.begun (.mem m) k 0) (m := m)
      (el := s.padElem m) (((s.unmasked q len m k).thr s.hart).pinned (s.cur.nextCmd 0)) [] 0 (fun j hj => todo_unmasked hk hj)
      (by rw [thr_unmasked]; exact hidle.sound) (fun j => ⟨rfl, by rw [thr_unmasked]; rfl⟩) (s.cur.vl - i0) i0 [] (by omega)
      (fun j _ hj ha => ⟨_, rfl, vCheck_pad hshaft (by rw [hwidth]; exact hpad.gang) (hpad.aligned j (by omega) ha)
        (by rw [hwidth]; exact hpad.inside j (by omega) ha) j⟩)
    rw [Nat.add_zero, show i0 + (s.cur.vl - i0) = s.cur.vl by omega, List.append_nil, probe_end, List.reverse_reverse] at hprobe
    have hbegin := vRun_begins (u := s.unmasked q len m k) (c := coreOf s.hart) (e := s.begun (.mem m) k 0) (stop := s.cur.vl)
      (p := { s := s.unmasked q len m k, stop := s.cur.vl, elems := elemsFrom (s.cur.writes k) (s.padElem m) i0 s.cur.vl, pages := []
              fail := none, miss := false }) (fuel := 2 * s.cur.vl + 1) rfl rfl rfl rfl (by rw [hvl, hfirst]; exact hi0)
      (by rw [hvl]; exact hprobe) rfl (List.ne_nil_of_mem (mem_elemsFrom_of le_rfl (by omega) hact0)) (elemsFrom_index fun _ => rfl)
      (.inl ⟨rfl, rfl, rfl⟩)
    obtain ⟨u, w, e, hrun, hdone⟩ := hcourse.run_from hidle htravel hq [] (runs_unmasked hq)
      (hcourse.skips (Nat.zero_le _) hC fun j _ hj => hbefore j hj) (n := i0) (by omega) le_rfl le_rfl
    exact ⟨u, w, e, hbegin.trans hrun, hdone⟩

end

end Sys2Proof.Machine
end

section
/-! Accesses of the scratchpad (R107, R110, R355, R356) -/

namespace Sys2Proof.Machine

/-! Guards -/

/-- Whether a bobbin of the thread guards a byte that it has not yet reached (R212). -/
def Thread.guards (t : Thread) (a : Nat) : Bool :=
  t.live && t.bob.any (fun b => b.2.queue.any (fun x => match x.guardIndex a with
    | some i => decide (t.markOf b.1 x ≤ i)
    | none => false))

theorem guardedByte_eq (s : State) (c a : Nat) : s.guardedByte c none a = (threadsOf c).any (fun h => (s.thr h).guards a) := by
  unfold State.guardedByte
  congr 1
  funext h
  rw [State.thr, tget_eq_getD]
  cases tfind s.threads h with
  | none => rfl
  | some t => rfl

section
variable {s q u : State} {len k : Nat} {m : VMem} {w : Thread}

/-- A guard of another thread stands while the access runs. -/
theorem Runs.guarded (hidle : Idle s) (hq : Committed s q (s.trying s.cur len (.mem m) k 0)) (hr : Runs s q u len w) (hw : w.bob = s.cur.bob)
    (c a n : Nat) : u.guarded c none a n = s.guarded c none a n := by
  have hnone : ∀ (t : Thread) (b : Nat), t.bob = [] → t.guards b = false := fun t b h => by
    rw [Thread.guards, h, List.any_nil, Bool.and_false]
  have hthr : ∀ h b, (u.thr h).guards b = (s.thr h).guards b := fun h b => by
    by_cases hh : h = s.hart
    · obtain ⟨ev, e, -, hrun⟩ := hr.thread
      rw [hh, hnone (u.thr s.hart) b (by rw [hrun]; exact hw.trans hidle.bob)]
      exact (hnone s.cur b hidle.bob).symm
    · rw [← hq.others h hh, ← hr.around.others h (by rw [hq.hart]; exact hh)]
      rfl
  rw [State.guarded, State.guarded]
  congr 1
  funext i
  rw [guardedByte_eq, guardedByte_eq]
  congr 1
  funext h
  exact hthr h _

end

/-! The memories on the way -/

/-- The memories of the package are as they were. -/
def SameMemory (s u : State) : Prop := u.mem = s.mem ∧ u.keys = s.keys ∧ u.pillars = s.pillars

/-- The bytes and the owners of the scratchpads are as they were. -/
def SamePadBytes (s u : State) : Prop := u.spad = s.spad ∧ u.spadOwner = s.spadOwner

section
variable {s q u v : State} {len k : Nat} {m : VMem} {w : Thread}

theorem SameMemory.carry (hb : Beside u v) (h : SameMemory s u) : SameMemory s v := by
  obtain ⟨T, K, D, rfl⟩ := hb
  exact h

theorem SamePadBytes.carry (hb : Beside u v) (h : SamePadBytes s u) : SamePadBytes s v := by
  obtain ⟨T, K, D, rfl⟩ := hb
  exact h

/-- A byte that reads by the clock where it has no owner reads the same on the way. -/
theorem Runs.clock (hq : Committed s q (s.trying s.cur len (.mem m) k 0)) (hr : Runs s q u len w) :
    u.spadLoose = s.spadLoose ∧ u.tick = s.tick := by
  have h1 : u.spadLoose = q.spadLoose := (congrArg (·.spadLoose) hr.around.rest).trans rfl
  have h2 : u.tick = q.tick := (congrArg (·.tick) hr.around.rest).trans rfl
  have h3 : q.spadLoose = s.spadLoose := (congrArg (·.spadLoose) hq.rest).trans rfl
  have h4 : q.tick = s.tick := (congrArg (·.tick) hq.rest).trans rfl
  exact ⟨h1.trans h3, h2.trans h4⟩

theorem Runs.spadByte (hq : Committed s q (s.trying s.cur len (.mem m) k 0)) (hr : Runs s q u len w) (hp : SamePadBytes s u) (o c a : Nat) :
    u.spadByte o c a = s.spadByte o c a := by
  obtain ⟨hloose, htick⟩ := hr.clock hq
  exact spadByte_congr (by rw [hp.2]) (by rw [hp.1]) hloose htick

theorem Runs.spadRead (hq : Committed s q (s.trying s.cur len (.mem m) k 0)) (hr : Runs s q u len w) (hp : SamePadBytes s u) (off n : Nat) :
    leNat (u.spadRead s.cur.owner (coreOf s.hart) off n) = s.spadValue off n := by
  rw [← leNat_spadRead, State.spadRead, State.spadRead, show u.spadByte s.cur.owner (coreOf s.hart) = s.spadByte s.cur.owner (coreOf s.hart) from
    funext fun a => hr.spadByte hq hp _ _ a]

theorem spadValue_lt (s : State) (off n : Nat) : s.spadValue off n < 2 ^ (8 * n) := by
  rw [State.spadValue, ← two_pow_bytes]
  exact (leNat_lt _).trans_eq (by rw [List.length_map, List.length_range])

/-- An instruction whose elements lie in the scratchpad. -/
theorem Course.of_pad {N : Nat} {C : Nat → State → Thread → Prop} (hidle : Idle s) (hq : Committed s q (s.trying s.cur len (.mem m) k 0))
    (hguard : ∀ j, j < N → s.cur.writes k j = true → s.guarded (coreOf s.hart) none (s.eaAt m j) (2 ^ s.cur.csew) = false)
    (hcarry : ∀ {n u v w}, Beside u v → C n u w → C n v w)
    (hresults : ∀ {n u w}, C n u w → w = { s.cur.noKsel with v := w.v, wrote := w.wrote, fstat := w.fstat, vl := N })
    (hskip : ∀ {n u w}, s.cur.writes k n = false → C n u w → C (n + 1) u w)
    (hstep : ∀ {n u w}, Runs s q u len w → C n u w → n < N → s.cur.writes k n = true → ∀ e : VEntry, e.Issues s m k →
      ∃ w', Runs s q (u.vElem s.hart (coreOf s.hart) e m (s.padElem m n)) len w' ∧
        C (n + 1) (u.vElem s.hart (coreOf s.hart) e m (s.padElem m n)) w')
    (hfull : ∀ {n u w} j, Runs s q u len w → C n u w → n ≤ j → j < N → s.cur.writes k j = true → ∀ e : VEntry, e.Issues s m k →
      m.kind = .load → m.fe = 1 ∨ m.fe = 2 → u.isFull s.cur.owner (coreOf s.hart) (s.eaAt m j - 0x00FFFF0000000000) = true ∨
        m.fe = 2 ∧ (u.thr s.hart).takenBelow e m j (s.eaAt m j) = true) : Course s q len m k N (s.padElem m) C where
  index _ := rfl
  near _ _ := rfl
  carry := hcarry
  results := hresults
  skip := hskip
  step := hstep
  passes _ _ _ _ _ := by
    rw [State.vSkips]
    cases m.kind <;> simp [State.padElem, State.homedInside]
  ready := fun {n u w} j hr hC hnj hjN ha e he => by
    have hw := hresults hC
    have howner : (u.thr s.hart).owner = s.cur.owner := by
      obtain ⟨ev, e', -, hthr⟩ := hr.thread
      rw [hthr, State.running, hw]
      rfl
    have hsew : e.sew = s.cur.csew := by rw [he]; rfl
    rw [State.vWaits, hsew]
    change (u.guarded (coreOf s.hart) none (s.eaAt m j) (2 ^ s.cur.csew) || ((decide (m.fe = 1) || decide (m.fe = 2)) && decide (m.kind = .load) &&
      !u.isFull (u.thr s.hart).owner (coreOf s.hart) (s.eaAt m j - 0x00FFFF0000000000) &&
      !(decide (m.fe = 2) && (u.thr s.hart).takenBelow e m j (s.eaAt m j)))) = false
    rw [hr.guarded hidle hq (by rw [hw]; rfl), hguard j hjN ha, Bool.false_or, howner]
    by_cases hkind : m.kind = .load
    · by_cases hfe : m.fe = 1 ∨ m.fe = 2
      · rcases hfull j hr hC hnj hjN ha e he hkind hfe with h | ⟨h1, h2⟩
        · rw [h]; simp
        · rw [h1, h2]; simp
      · rw [not_or] at hfe
        simp [hfe]
    · simp [hkind]
  sound := fun {n u w} j hr hC _ ha e he => by
    have hsound : (u.thr s.hart).vSound = true := by
      obtain ⟨ev, e', -, hthr⟩ := hr.thread
      rw [hthr, State.running, hresults hC]
      exact hidle.sound
    have hbad : ∀ r i, (u.thr s.hart).vBad e.nreg r (2 ^ e.sew) i = false := fun r i => by
      rw [Thread.vBad, hsound]
      rfl
    rw [State.vError]
    cases m.kind <;> simp [hbad, State.padElem]
  unshut _ _ _ _ _ _ _ _ h := absurd h nofun

end

end Sys2Proof.Machine
end

section
/-! Loads from the scratchpad, and VLDFF (R355, R357) -/

namespace Sys2Proof.Machine

section
variable {s q u : State} {len k N n : Nat} {m : VMem} {w : Thread} {e : VEntry}

/-- The thread of an access that ends at VL `N`, before its results. -/
def State.before (s : State) (N : Nat) : Thread := { s.cur.noKsel with vl := N }

theorem banked_before (hidle : Idle s) (hN : N ≤ s.cur.vl) : (s.before N).Banked :=
  ⟨hidle.banked.small, hidle.banked.words, hidle.banked.sew, hidle.banked.fits, hN.trans hidle.banked.vl⟩

theorem width_dvd (hidle : Idle s) : 2 ^ s.cur.csew ∣ s.cur.regBytes s.cur.cnreg := (pow_dvd_pow 2 hidle.banked.sew).trans hidle.banked.words

/-- The thread after the elements of a destination have been written, in the frame of the thread before. -/
theorem Thread.Lanes.before {d x : Nat} {val : Nat → Option Nat} {fl : FFlags} (h : (s.before N).Lanes w d x val fl) :
    w = { s.cur.noKsel with v := w.v, wrote := w.wrote, fstat := w.fstat, vl := N } := by
  rw [h.1]
  rfl

/-- Offset in the scratchpad of element `j`. -/
def State.padAt (s : State) (m : VMem) (j : Nat) : Nat := s.eaAt m j - 0x00FFFF0000000000

/-- The value in the scratchpad at element `j`. -/
def State.padOld (s : State) (m : VMem) (j : Nat) : Nat := s.spadValue (s.padAt m j) (2 ^ s.cur.csew)

/-- A load takes the value of one element. -/
theorem vTake_load (hkind : m.kind = .load) (he : e.Issues s m k) {ev : Bool} {e' : VEntry} (hthr : u.thr s.hart = s.running len w ev e')
    (x : VElem) (v : Nat) : u.vTake s.hart e m x v = u.setThr s.hart (s.running len
      (w.vPut s.cur.cnreg m.d (2 ^ s.cur.csew) x.i (v % 2 ^ (8 * 2 ^ s.cur.csew))) ev e') := by
  rw [State.vTake, hkind, hthr, show e.sew = s.cur.csew by rw [he]; rfl, show e.nreg = s.cur.cnreg by rw [he]; rfl]
  rfl

/-- After the elements below `n` of a load: their values stand in the destination, and the memories are as they were. -/
def Loading (s : State) (m : VMem) (k N n : Nat) (u : State) (w : Thread) : Prop :=
  (s.before N).Lanes w m.d (2 ^ s.cur.csew) (lanesBelow (s.cur.writes k) (s.padOld m) n) 0 ∧ SameMemory s u ∧ SamePadBytes s u ∧
    u.spadFull = s.spadFull

theorem lanesBelow_zero (on : Nat → Bool) (val : Nat → Nat) : lanesBelow on val 0 = fun _ => none := funext fun _ => if_neg (by omega)

theorem lanesBelow_skip {on : Nat → Bool} (val : Nat → Nat) (h : on n = false) : lanesBelow on val (n + 1) = lanesBelow on val n := by
  rw [lanesBelow_succ, if_neg (by rw [h]; exact Bool.false_ne_true)]

/-- One more value of a load is put into the destination. -/
theorem Thread.Lanes.load {d : Nat} {on : Nat → Bool} {val : Nat → Nat} (hidle : Idle s) (hN : N ≤ s.cur.vl)
    (h : (s.before N).Lanes w d (2 ^ s.cur.csew) (lanesBelow on val n) 0) (hn : n < N) (hon : on n = true)
    (hlt : val n < 2 ^ (8 * 2 ^ s.cur.csew)) :
    (s.before N).Lanes (w.vPut s.cur.cnreg d (2 ^ s.cur.csew) n (val n % 2 ^ (8 * 2 ^ s.cur.csew))) d (2 ^ s.cur.csew)
          (lanesBelow on val (n + 1)) 0 := by
  have hput := h.vPut (banked_before hidle hN) (width_dvd hidle) (j := n) hn (val n) 0
  rw [raise_zero, Nat.mod_eq_of_lt hlt, show (0 : FFlags) ||| 0 = 0 from rfl] at hput
  rw [Nat.mod_eq_of_lt hlt, lanesBelow_succ, if_pos hon]
  exact hput

theorem Loading.start (hq : Committed s q (s.trying s.cur len (.mem m) k 0)) {K : Nat} :
    Loading s m k s.cur.vl 0 (s.unmasked q len m K) s.cur.noKsel := by
  obtain ⟨h1, h2, h3, h4, h5, h6⟩ : q.mem = s.mem ∧ q.keys = s.keys ∧ q.pillars = s.pillars ∧ q.spad = s.spad ∧ q.spadOwner = s.spadOwner ∧
      q.spadFull = s.spadFull := by
    rw [← hq.rest]
    exact ⟨rfl, rfl, rfl, rfl, rfl, rfl⟩
  refine ⟨?_, ⟨h1, h2, h3⟩, ⟨h4, h5⟩, h6⟩
  rw [lanesBelow_zero]
  exact Thread.Lanes.refl _ _ _

/-- A load from the scratchpad, of any elements but those that .take takes. -/
theorem course_load (hidle : Idle s) (hq : Committed s q (s.trying s.cur len (.mem m) k 0)) (hN : N ≤ s.cur.vl)
    (hpad : PadElements s k (2 ^ s.cur.csew) N (s.eaAt m)) (hkind : m.kind = .load) (hfe : m.fe ≠ 2)
    (hfull : m.fe = 1 → ∀ j, s.cur.writes k j = true → s.isFull s.cur.owner (coreOf s.hart) (s.padAt m j) = true) :
    Course s q len m k N (s.padElem m) (Loading s m k N) := by
  refine .of_pad hidle hq hpad.guard (fun hb h => ?_) (fun h => h.1.before) (fun ha h => ?_) (fun {n u w} hr h hn ha e he => ?_)
    fun {n u w} j hr h _ _ ha _ _ _ hfe' => ?_
  · obtain ⟨hl, hm, hp, hf⟩ := h
    refine ⟨hl, hm.carry hb, hp.carry hb, ?_⟩
    obtain ⟨T, K, D, rfl⟩ := hb
    exact hf
  · obtain ⟨hl, hm, hp, hf⟩ := h
    exact ⟨by rw [lanesBelow_skip _ ha]; exact hl, hm, hp, hf⟩
  · obtain ⟨hl, hm, hp, hf⟩ := h
    obtain ⟨ev, e', hcmd, hthr⟩ := hr.thread
    have hrun : u.vElem s.hart (coreOf s.hart) e m (s.padElem m n) = u.setThr s.hart (s.running len
        (w.vPut s.cur.cnreg m.d (2 ^ s.cur.csew) n (s.padOld m n % 2 ^ (8 * 2 ^ s.cur.csew))) ev e') := by
      have howner : (u.thr s.hart).owner = s.cur.owner := by rw [hthr, State.running, hl.before]; rfl
      have hread := hr.spadRead hq hp (s.padAt m n) (2 ^ s.cur.csew)
      rw [State.vElem, if_neg (show ¬ (s.padElem m n).far = true from Bool.false_ne_true), hkind]
      change (if m.fe = 2 then _ else u.vTake s.hart e m (s.padElem m n)
        (leNat (u.spadRead (u.thr s.hart).owner (coreOf s.hart) (s.padAt m n) (2 ^ e.sew)))) = _
      rw [if_neg hfe, vTake_load hkind he hthr, howner, show e.sew = s.cur.csew by rw [he]; rfl, hread]
      rfl
    rw [hrun]
    exact ⟨_, hr.setThr hcmd, hl.load hidle hN hn ha (spadValue_lt _ _ _), hm, hp, hf⟩
  · left
    rw [State.isFull, h.2.2.2, h.2.2.1.2]
    exact hfull (hfe'.resolve_right hfe) j ha

end

end Sys2Proof.Machine
end

section
/-! Stores to the scratchpad, one element after another (R105, R110, R356) -/

namespace Sys2Proof.Machine

section
variable {s u : State} {o c n w : Nat} {el : Nat → Nat} {put : Nat → Option Nat}

/-- Whether a store below `n` reaches the line of byte `a`. -/
def Reaches (n : Nat) (el : Nat → Nat) (put : Nat → Option Nat) (a : Nat) : Prop := ∃ j, j < n ∧ put j ≠ none ∧ el j / 64 = a / 64

/-- The owners of the lines after the stores below `n`. -/
def PadOwned (s u : State) (o c n : Nat) (el : Nat → Nat) (put : Nat → Option Nat) : Prop := ∀ c' a, a < 2 ^ 24 →
  (c' = c → Reaches n el put a → tfind u.spadOwner (spadKey c' a / 64) = some o) ∧
  (¬ (c' = c ∧ Reaches n el put a) → tfind u.spadOwner (spadKey c' a / 64) = tfind s.spadOwner (spadKey c' a / 64))

/-- An element of at most 8 bytes, aligned, lies in one line of the scratchpad. -/
structure InLine (w a : Nat) : Prop where
  pos : 0 < w
  line : a % 64 + w ≤ 64
  top : a + w ≤ 2 ^ 24

theorem spadWrite_owner (bs : List Byte) : ∀ {s : State} {off : Nat}, bs ≠ [] → InLine bs.length off → ∀ c' a, a < 2 ^ 24 →
    tfind (s.spadWrite o c off bs).spadOwner (spadKey c' a / 64) =
      if c' = c ∧ a / 64 = off / 64 then some o else tfind s.spadOwner (spadKey c' a / 64) := by
  induction bs with
  | nil => exact fun h => absurd rfl h
  | cons b r ih =>
    intro s off _ ⟨_, hline, htop⟩ c' a ha
    rw [List.length_cons] at hline htop
    have hput : tfind (s.spadPut o c off b).spadOwner (spadKey c' a / 64) =
        if c' = c ∧ a / 64 = off / 64 then some o else tfind s.spadOwner (spadKey c' a / 64) := by
      rw [spadPut_owner]
      exact if_congr (spadKey_line ha (by omega)) rfl rfl
    by_cases hr : r = []
    · subst hr
      exact hput
    · have hlen := List.length_pos_iff.mpr hr
      have hrest := ih (s := s.spadPut o c off b) (off := off + 1) hr ⟨hlen, by omega, by omega⟩ c' a ha
      rw [show (off + 1) / 64 = off / 64 by omega, hput] at hrest
      refine hrest.trans ?_
      split <;> rfl

/-- A store to a line that is the owner's changes no full/empty bit and no owner. -/
theorem spadWrite_owned (bs : List Byte) : ∀ {s : State} {off : Nat}, off % 64 + bs.length ≤ 64 → off + bs.length ≤ 2 ^ 24 →
    tfind s.spadOwner (spadKey c off / 64) = some o → (s.spadWrite o c off bs).spadFull = s.spadFull := by
  induction bs with
  | nil => exact fun _ _ _ => rfl
  | cons b r ih =>
    intro s off hline htop ho
    rw [List.length_cons] at hline htop
    have hput : s.spadPut o c off b = { s with spad := tset s.spad (spadKey c off) b 0 } := by
      rw [State.spadPut, State.spadTag, if_pos ho]
    by_cases hr : r = []
    · subst hr
      rw [State.spadWrite, putBytes, putBytes, hput]
    · have hlen := List.length_pos_iff.mpr hr
      have hkey : spadKey c (off + 1) / 64 = spadKey c off / 64 := (spadKey_line (by omega) (by omega)).mpr ⟨rfl, by omega⟩
      have hrest := ih (s := s.spadPut o c off b) (off := off + 1) (by omega) (by omega) (by rw [hkey, hput]; exact ho)
      exact hrest.trans (by rw [hput])

theorem Reaches.succ {a : Nat} : Reaches (n + 1) el put a ↔ Reaches n el put a ∨ put n ≠ none ∧ el n / 64 = a / 64 := by
  constructor
  · rintro ⟨j, hj, hp, hl⟩
    rcases Nat.lt_succ_iff_lt_or_eq.mp hj with h | rfl
    · exact .inl ⟨j, h, hp, hl⟩
    · exact .inr ⟨hp, hl⟩
  · rintro (⟨j, hj, hp, hl⟩ | ⟨hp, hl⟩)
    · exact ⟨j, by omega, hp, hl⟩
    · exact ⟨n, by omega, hp, hl⟩

theorem PadOwned.start (h : u.spadOwner = s.spadOwner) : PadOwned s u o c 0 el put :=
  fun c' a _ => ⟨fun _ ⟨j, hj, _⟩ => absurd hj (Nat.not_lt_zero j), fun _ => by rw [h]⟩

theorem PadOwned.skip (h : PadOwned s u o c n el put) (hn : put n = none) : PadOwned s u o c (n + 1) el put := by
  have hreach : ∀ a, Reaches (n + 1) el put a ↔ Reaches n el put a := fun a => Reaches.succ.trans (or_iff_left fun h => h.1 hn)
  exact fun c' a ha => ⟨fun hc hr => (h c' a ha).1 hc ((hreach a).mp hr), fun hr => (h c' a ha).2 fun hc => hr ⟨hc.1, (hreach a).mpr hc.2⟩⟩

theorem PadOwned.step (h : PadOwned s u o c n el put) {x : Nat} (hn : put n = some x) (hl : InLine w (el n)) :
    PadOwned s (u.spadWrite o c (el n) (natLe w x)) o c (n + 1) el put := by
  intro c' a ha
  have howner := spadWrite_owner (o := o) (c := c) (natLe w x) (s := u) (off := el n)
    (by rw [← List.length_pos_iff, natLe_length]; exact hl.pos) (by rw [natLe_length]; exact hl) c' a ha
  rw [howner, Reaches.succ, hn]
  obtain ⟨h1, h2⟩ := h c' a ha
  by_cases hin : c' = c ∧ a / 64 = el n / 64
  · rw [if_pos hin]
    exact ⟨fun _ _ => rfl, fun hc => absurd ⟨hin.1, .inr ⟨Option.some_ne_none _, hin.2.symm⟩⟩ hc⟩
  · rw [if_neg hin]
    refine ⟨fun hc hr => h1 hc (hr.resolve_right fun hl => hin ⟨hc, hl.2.symm⟩), fun hr => h2 fun hc => hr ⟨hc.1, .inl hc.2⟩⟩

theorem padStored_start (h : ∀ o' c' a, u.spadByte o' c' a = s.spadByte o' c' a) : PadStored s u o c 0 w el put := by
  intro o' c' a _
  have hno : ¬ (c' = c ∧ Reaches 0 el put a) := fun ⟨_, j, hj, _⟩ => absurd hj (Nat.not_lt_zero j)
  exact ⟨fun _ => h o' c' a, fun hr => absurd hr hno, fun j x _ _ hc => absurd hc.1 (Nat.not_lt_zero j), fun hr => absurd hr hno⟩

theorem padStored_skip (h : PadStored s u o c n w el put) (hn : put n = none) : PadStored s u o c (n + 1) w el put := by
  intro o' c' a ha
  obtain ⟨h1, h2, h3, h4⟩ := h o' c' a ha
  have hcov : ∀ j, (j < n + 1 ∧ put j ≠ none ∧ el j ≤ a ∧ a < el j + w) ↔ (j < n ∧ put j ≠ none ∧ el j ≤ a ∧ a < el j + w) := fun j =>
    ⟨fun ⟨hj, hp, hr⟩ => ⟨lt_of_le_of_ne (Nat.lt_succ_iff.mp hj) fun he => hp (he ▸ hn), hp, hr⟩, fun ⟨hj, hr⟩ => ⟨by omega, hr⟩⟩
  have hreach : (c' = c ∧ Reaches (n + 1) el put a) ↔ (c' = c ∧ Reaches n el put a) :=
    and_congr_right fun _ => Reaches.succ.trans (or_iff_left fun h => h.1 hn)
  exact ⟨fun hr => h1 fun hc => hr (hreach.mpr hc), fun hr => h2 (hreach.mp hr),
    fun j x hc ho hj hp hi => h3 j x hc ho ((hcov j).mp hj) hp fun i hi' hc' => hi i hi' ((hcov i).mpr hc'),
    fun hr ho hj => h4 (hreach.mp hr) ho fun j hc => hj j ((hcov j).mpr hc)⟩

theorem padStored_step (h : PadStored s u o c n w el put) (howned : PadOwned s u o c n el put) {x : Nat} (hn : put n = some x)
    (hl : ∀ j, j ≤ n → put j ≠ none → InLine w (el j)) : PadStored s (u.spadWrite o c (el n) (natLe w x)) o c (n + 1) w el put := by
  intro o' c' a ha
  have hne : put n ≠ none := by rw [hn]; exact Option.some_ne_none _
  obtain ⟨hpos, hline, htop⟩ := hl n le_rfl hne
  have hbyte := spadByte_spadWrite (o := o) (c := c) (natLe w x) (s := u) (off := el n)
    (by rw [← List.length_pos_iff, natLe_length]; exact hpos) (by rw [natLe_length]; exact htop) (by rw [natLe_length]; exact hline) o' c' a ha
  rw [natLe_length] at hbyte
  obtain ⟨h1, h2, h3, h4⟩ := h o' c' a ha
  obtain ⟨hown, hfree⟩ := howned c' a ha
  have hkey : a / 64 = el n / 64 → spadKey c (el n) / 64 = spadKey c a / 64 := fun he => (spadKey_line (by omega) ha).mpr ⟨rfl, he.symm⟩
  have hcovline : ∀ j, j < n → put j ≠ none → el j ≤ a → a < el j + w → el j / 64 = a / 64 := fun j hj hp h1 h2 => by
    obtain ⟨-, hlj, -⟩ := hl j hj.le hp
    omega
  refine ⟨fun hr => ?_, fun hr ho => ?_, fun j y hc ho hj hp hi => ?_, fun hr ho hj => ?_⟩
  · have hin : ¬ (c' = c ∧ a / 64 = el n / 64) := fun hc => hr ⟨hc.1, n, Nat.lt_succ_self n, hne, hc.2.symm⟩
    rw [hbyte, if_neg hin]
    exact h1 fun ⟨hc, j, hj, hp⟩ => hr ⟨hc, j, by omega, hp⟩
  · rw [hbyte]
    by_cases hin : c' = c ∧ a / 64 = el n / 64
    · rw [if_pos hin, if_pos ho]
    · rw [if_neg hin]
      exact h2 ⟨hr.1, (Reaches.succ.mp hr.2).resolve_right fun h => hin ⟨hr.1, h.2.symm⟩⟩ ho
  · subst hc ho
    rw [hbyte]
    obtain ⟨hjn, hpj, hlo, hhi⟩ := hj
    by_cases hjeq : j = n
    · subst hjeq
      rw [hn, Option.some.injEq] at hp
      subst hp
      rw [if_pos ⟨rfl, by omega⟩, if_neg (not_not_intro rfl), if_pos ⟨hlo, hhi⟩]
    · have hjn' : j < n := by omega
      have hnot : ¬ (el n ≤ a ∧ a < el n + w) := fun hc => hi n hjn' ⟨Nat.lt_succ_self n, hne, hc⟩
      have hval := h3 j y rfl rfl ⟨hjn', hpj, hlo, hhi⟩ hp fun i hi' hc => hi i hi' ⟨by omega, hc.2⟩
      have hreach : Reaches n el put a := ⟨j, hjn', hpj, hcovline j hjn' hpj hlo hhi⟩
      split
      · next hin =>
        rw [if_neg (not_not_intro rfl), hkey hin.2, if_pos (hown rfl hreach)]
        exact hval
      · exact hval
  · subst ho
    rw [hbyte]
    have hnot : ¬ (el n ≤ a ∧ a < el n + w) := fun hc => hj n ⟨Nat.lt_succ_self n, hne, hc⟩
    have hj' : ∀ j, ¬ (j < n ∧ put j ≠ none ∧ el j ≤ a ∧ a < el j + w) := fun j hc => hj j ⟨by omega, hc.2⟩
    obtain ⟨hc, hrn⟩ := hr
    subst hc
    by_cases hold : Reaches n el put a
    · have hval := h4 ⟨rfl, hold⟩ rfl hj'
      split
      · next hin =>
        rw [if_neg (not_not_intro rfl), hkey hin.2, if_pos (hown rfl hold)]
        exact hval
      · exact hval
    · have hin : a / 64 = el n / 64 := ((Reaches.succ.mp hrn).resolve_left hold).2.symm
      rw [if_pos ⟨rfl, hin⟩, if_neg (not_not_intro rfl), if_neg hnot, hkey hin, hfree fun h => hold h.2, h1 fun h => hold h.2]

/-- Stores through `stores` take the lines over, and their full/empty bits with them. -/
theorem padFull_step {stores : Nat → Bool} (h : PadFull s u o c n el stores (fun _ => False) (fun _ => False))
    (howned : PadOwned s u o c n el put) (hstores : ∀ j, stores j = true ↔ put j ≠ none) {x : Nat} (hn : put n = some x) (hl : InLine w (el n)) :
    PadFull s (u.spadWrite o c (el n) (natLe w x)) o c (n + 1) el stores (fun _ => False) (fun _ => False) := by
  intro o' c' a ha
  have hne : put n ≠ none := by rw [hn]; exact Option.some_ne_none _
  have hfull := isFull_spadWrite (o := o) (c := c) (natLe w x) (s := u) (off := el n)
    (by rw [← List.length_pos_iff, natLe_length]; exact hl.pos) (by rw [natLe_length]; exact hl.top) (by rw [natLe_length]; exact hl.line) o' c' a ha
  have hreach : ∀ N, (∃ j, j < N ∧ stores j = true ∧ el j / 64 = a / 64) ↔ Reaches N el put a := fun N => by
    simp only [hstores]
    rfl
  have hu := h o' c' a ha
  obtain ⟨hown, hfree⟩ := howned c' a ha
  rw [hfull]
  simp only [hreach, not_false_eq_true, and_false, and_true, or_false] at hu ⊢
  rw [Reaches.succ]
  by_cases hin : c' = c ∧ a / 64 = el n / 64
  · obtain ⟨hc, hin'⟩ := hin
    subst hc
    have hkey : spadKey c' (el n) / 64 = spadKey c' a / 64 := (spadKey_line (by have := hl.top; have := hl.pos; omega) ha).mpr ⟨rfl, hin'.symm⟩
    have hself := h o c' a ha
    simp only [hreach, not_false_eq_true, and_false, and_true, or_false, implies_true] at hself
    rw [if_pos ⟨rfl, hin'⟩, hkey, Bool.and_eq_true, Bool.and_eq_true, decide_eq_true_eq, decide_eq_true_eq, hself]
    constructor
    · rintro ⟨⟨rfl, -⟩, hs⟩
      exact ⟨hs, fun _ _ => rfl⟩
    · rintro ⟨hs, hc⟩
      have ho := hc rfl (.inr ⟨hne, hin'.symm⟩)
      subst ho
      refine ⟨⟨rfl, ?_⟩, hs⟩
      by_cases hold : Reaches n el put a
      · exact hown rfl hold
      · rw [hfree fun h => hold h.2]
        rw [State.isFull, Bool.and_eq_true, decide_eq_true_eq] at hs
        exact hs.2
  · rw [if_neg hin, hu]
    refine and_congr_right fun _ => forall_congr' fun hc => ?_
    rw [or_iff_left fun h => hin ⟨hc, h.2.symm⟩]

theorem padFull_start {stores : Nat → Bool} (h : ∀ o' c' a, u.isFull o' c' a = s.isFull o' c' a) :
    PadFull s u o c 0 el stores (fun _ => False) (fun _ => False) := by
  intro o' c' a _
  rw [h]
  simp

theorem padFull_skip {stores : Nat → Bool} {sets clears : Nat → Prop} (h : PadFull s u o c n el stores sets clears) (hn : stores n = false) :
    PadFull s u o c (n + 1) el stores sets clears := by
  have hreach : ∀ a, (∃ j, j < n + 1 ∧ stores j = true ∧ el j / 64 = a / 64) ↔ ∃ j, j < n ∧ stores j = true ∧ el j / 64 = a / 64 := fun a => by
    constructor
    · rintro ⟨j, hj, hs, hl⟩
      have : j ≠ n := fun he => by rw [he, hn] at hs; exact Bool.false_ne_true hs
      exact ⟨j, by omega, hs, hl⟩
    · rintro ⟨j, hj, hs⟩
      exact ⟨j, by omega, hs⟩
  intro o' c' a ha
  rw [hreach]
  exact h o' c' a ha

end

end Sys2Proof.Machine
end

section
/-! Vector stores to the scratchpad (R105, R356, R359) -/

namespace Sys2Proof.Machine

section
variable {s q u v : State} {len k N n o c : Nat} {m : VMem} {w : Thread} {e : VEntry}

theorem inLine_of {c a g : Nat} (hc : c ≤ 3) (hg : g ≤ 4) (hal : a % 2 ^ c = 0)
    (hin : 0x00FFFF0000000000 ≤ a ∧ a + 2 ^ c ≤ 0x00FFFF0000000000 + g * 2 ^ 22) : InLine (2 ^ c) (a - 0x00FFFF0000000000) := by
  obtain ⟨h1, h2⟩ := hin
  obtain rfl | rfl | rfl | rfl : c = 0 ∨ c = 1 ∨ c = 2 ∨ c = 3 := by omega
  all_goals exact ⟨by omega, by omega, by omega⟩

/-- An element in the scratchpad lies in one line of it. -/
theorem padElements_inLine (hidle : Idle s) (hpad : PadElements s k (2 ^ s.cur.csew) N (s.eaAt m)) {j : Nat} (hj : j < N)
    (ha : s.cur.writes k j = true) : InLine (2 ^ s.cur.csew) (s.padAt m j) :=
  inLine_of hidle.banked.sew hpad.gang (hpad.aligned j hj ha) (hpad.inside j hj ha)

theorem Runs.spadWrite (hr : Runs s q u len w) (o c off : Nat) (bs : List Byte) : Runs s q (u.spadWrite o c off bs) len w := by
  obtain ⟨sp, so, sf, h⟩ := spadWrite_frame o c bs u off
  rw [h]
  exact hr.of_thr (around_stores u u.mem u.keys u.pillars sp so sf) rfl

theorem SameMemory.spadWrite (h : SameMemory s u) (o c off : Nat) (bs : List Byte) : SameMemory s (u.spadWrite o c off bs) := by
  obtain ⟨sp, so, sf, heq⟩ := spadWrite_frame o c bs u off
  rw [heq]
  exact h

theorem PadOwned.carry {el : Nat → Nat} {put : Nat → Option Nat} (hb : Beside u v) (h : PadOwned s u o c n el put) :
    PadOwned s v o c n el put := by
  obtain ⟨T, K, D, rfl⟩ := hb
  exact h

theorem padStored_carry {W : Nat} {el : Nat → Nat} {put : Nat → Option Nat} (hb : Beside u v) (h : PadStored s u o c n W el put) :
    PadStored s v o c n W el put := by
  obtain ⟨T, K, D, rfl⟩ := hb
  exact h

theorem padFull_carry {el : Nat → Nat} {stores : Nat → Bool} {sets clears : Nat → Prop} (hb : Beside u v)
    (h : PadFull s u o c n el stores sets clears) : PadFull s v o c n el stores sets clears := by
  obtain ⟨T, K, D, rfl⟩ := hb
  exact h

/-- The operand of element `j`. -/
def State.operand (s : State) (m : VMem) (j : Nat) : Nat := s.cur.vGet s.cur.cnreg m.d (2 ^ s.cur.csew) j

/-- What a store writes at element `j`. -/
def State.stored (s : State) (m : VMem) (k j : Nat) : Option Nat := if s.cur.writes k j = true then some (s.operand m j) else none

theorem stored_some (ha : s.cur.writes k n = true) : s.stored m k n = some (s.operand m n) := if_pos ha

theorem stored_none (ha : s.cur.writes k n = false) : s.stored m k n = none := if_neg (by rw [ha]; exact Bool.false_ne_true)

theorem writes_iff_stored (j : Nat) : s.cur.writes k j = true ↔ s.stored m k j ≠ none := by
  unfold State.stored
  split
  · next h => exact iff_of_true h (Option.some_ne_none _)
  · next h => exact iff_of_false h (not_not_intro rfl)

/-- After the elements below `n` of a store to the scratchpad. -/
structure Storing (s : State) (m : VMem) (k n : Nat) (u : State) (w : Thread) : Prop where
  results : w = s.cur.noKsel
  memory : SameMemory s u
  owned : PadOwned s u s.cur.owner (coreOf s.hart) n (s.padAt m) (s.stored m k)
  stored : PadStored s u s.cur.owner (coreOf s.hart) n (2 ^ s.cur.csew) (s.padAt m) (s.stored m k)
  full : PadFull s u s.cur.owner (coreOf s.hart) n (s.padAt m) (s.cur.writes k) (fun _ => False) (fun _ => False)

theorem Storing.start (hq : Committed s q (s.trying s.cur len (.mem m) k 0)) {K : Nat} :
    Storing s m k 0 (s.unmasked q len m K) s.cur.noKsel := by
  have hr := runs_unmasked (q := q) (len := len) (m := m) (k := k) hq
  obtain ⟨-, hmem, hpad, hfull⟩ := Loading.start (K := K) hq
  refine ⟨rfl, hmem, .start hpad.2, padStored_start fun o' c' a => ?_, padFull_start fun o' c' a => ?_⟩
  · obtain ⟨hloose, htick⟩ := hr.clock hq
    exact spadByte_congr (by rw [hpad.2]) (by rw [hpad.1]) hloose htick
  · rw [State.isFull, State.isFull, hfull, hpad.2]

/-- A store to the scratchpad. -/
theorem course_store (hidle : Idle s) (hq : Committed s q (s.trying s.cur len (.mem m) k 0))
    (hpad : PadElements s k (2 ^ s.cur.csew) s.cur.vl (s.eaAt m)) (hkind : m.kind = .store) :
    Course s q len m k s.cur.vl (s.padElem m) (Storing s m k) := by
  have hline : ∀ j, s.stored m k j ≠ none → InLine (2 ^ s.cur.csew) (s.padAt m j) := fun j hj =>
    padElements_inLine hidle hpad (lt_of_writes ((writes_iff_stored j).mpr hj)) ((writes_iff_stored j).mpr hj)
  refine .of_pad hidle hq hpad.guard (fun hb h => ⟨h.results, h.memory.carry hb, h.owned.carry hb, padStored_carry hb h.stored,
      padFull_carry hb h.full⟩)
    (fun h => by rw [h.results]; rfl)
    (fun ha h => ⟨h.results, h.memory, h.owned.skip (stored_none ha), padStored_skip h.stored (stored_none ha), padFull_skip h.full ha⟩)
    (fun {n u w} hr h _ ha e he => ?_) fun _ _ _ _ _ _ _ _ hload => ?_
  · obtain ⟨ev, e', hcmd, hthr⟩ := hr.thread
    have hrun : u.vElem s.hart (coreOf s.hart) e m (s.padElem m n) =
        u.spadWrite s.cur.owner (coreOf s.hart) (s.padAt m n) (natLe (2 ^ s.cur.csew) (s.operand m n)) := by
      rw [State.vElem, if_neg (show ¬ (s.padElem m n).far = true from Bool.false_ne_true), hkind, hthr, h.results,
        show e.sew = s.cur.csew by rw [he]; rfl, show e.nreg = s.cur.cnreg by rw [he]; rfl]
      rfl
    rw [hrun]
    exact ⟨w, hr.spadWrite _ _ _ _, h.results, h.memory.spadWrite _ _ _ _, h.owned.step (stored_some ha) (hline n ((writes_iff_stored n).mp ha)),
      padStored_step h.stored h.owned (stored_some ha) fun j _ hj => hline j hj,
      padFull_step h.full h.owned writes_iff_stored (stored_some ha) (hline n ((writes_iff_stored n).mp ha))⟩
  · rw [hkind] at hload
    exact absurd hload nofun

/-! The granules that .fill sets -/

/-- Setting the event flags of some threads. -/
theorem raiseEvents_eq (l : List Nat) : ∀ (u : State), ∃ T,
    l.foldl (fun s h => match tfind s.threads h with
      | some t => s.setThr h { t with event := true }
      | none => s) u = { u with threads := T } ∧ ∀ h, ∃ ev, ({ u with threads := T } : State).thr h = { u.thr h with event := ev } := by
  induction l with
  | nil => exact fun u => ⟨_, rfl, fun h => ⟨_, rfl⟩⟩
  | cons x l ih =>
    intro u
    rw [List.foldl_cons]
    cases hx : tfind u.threads x with
    | none => exact ih u
    | some t =>
      have ht : u.thr x = t := by rw [State.thr, tget_eq_getD, hx]; rfl
      obtain ⟨T, hT, hthr⟩ := ih (u.setThr x { t with event := true })
      refine ⟨T, hT.trans rfl, fun h => ?_⟩
      obtain ⟨ev, hev⟩ := hthr h
      refine ⟨ev, hev.trans ?_⟩
      by_cases hh : h = x
      · subst hh
        rw [State.thr_setThr_self, ht]
      · rw [State.thr_setThr_ne _ _ _ hh]

/-- The granule that a store to a line of the owner fills. -/
theorem fillGranule_owned {off : Nat} (ho : tfind u.spadOwner (spadKey c off / 64) = some o) : ∃ T F,
    u.fillGranule o c off = { u with threads := T, spadFull := F } ∧
          (∀ h, ∃ ev, ({ u with threads := T } : State).thr h = { u.thr h with event := ev }) ∧
      ∀ g, shas F g = (decide (g = spadKey c off / 16) || shas u.spadFull g) := by
  rw [State.fillGranule, State.spadTag, if_pos ho]
  dsimp only
  by_cases hg : shas u.spadFull (spadKey c off / 16) = true
  · rw [if_pos hg]
    refine ⟨u.threads, u.spadFull, rfl, fun h => ⟨_, rfl⟩, fun g => ?_⟩
    by_cases hgg : g = spadKey c off / 16
    · rw [hgg, hg, Bool.or_true]
    · rw [decide_eq_false hgg, Bool.false_or]
  · rw [if_neg hg]
    obtain ⟨T, hT, hthr⟩ := raiseEvents_eq (threadsOf c) { u with spadFull := sadd u.spadFull (spadKey c off / 16) }
    exact ⟨T, _, hT, hthr, fun g => shas_sadd _ _ _⟩

/-- A change of the event flags and of the full/empty bits. -/
theorem Runs.events (hr : Runs s q u len w) {T : Table Thread} (F : List Nat)
    (hT : ∀ h, ∃ ev, ({ u with threads := T } : State).thr h = { u.thr h with event := ev }) :
    Runs s q { u with threads := T, spadFull := F } len w := by
  have hev : ∀ h, ∃ ev, ({ u with threads := T, spadFull := F } : State).thr h = { u.thr h with event := ev } := hT
  obtain ⟨ev, e', hcmd, hthr⟩ := hr.thread
  refine ⟨hr.around.trans ⟨rfl, fun h _ => ?_, fun _ => rfl, fun _ _ _ _ => rfl⟩, ?_, hr.hart⟩
  · obtain ⟨x, hx⟩ := hev h
    rw [hx]
  · obtain ⟨x, hx⟩ := hev s.hart
    exact ⟨x, e', hcmd, by rw [hx, hthr]; rfl⟩

/-- A granule of a line that a store has reached is set. -/
theorem padFull_fill {off : Nat} {el : Nat → Nat} {put : Nat → Option Nat} {stores : Nat → Bool} {sets sets' : Nat → Prop} {T : Table Thread}
    {F : List Nat} (h : PadFull s u o c n el stores sets (fun _ => False)) (howned : PadOwned s u o c n el put)
    (hstores : ∀ j, stores j = true ↔ put j ≠ none) (hoff : off < 2 ^ 24) (hreach : Reaches n el put off)
    (hF : ∀ g, shas F g = (decide (g = spadKey c off / 16) || shas u.spadFull g)) (hsets : ∀ g, sets' g ↔ sets g ∨ off / 16 = g) :
    PadFull s { u with threads := T, spadFull := F } o c n el stores sets' (fun _ => False) := by
  intro o' c' a ha
  have hgran : (spadKey c' a / 16 = spadKey c off / 16) ↔ c' = c ∧ a / 16 = off / 16 := by
    simp only [spadKey]
    omega
  have hu := h o' c' a ha
  rw [hsets]
  have hfull : ({ u with threads := T, spadFull := F } : State).isFull o' c' a =
      ((decide (c' = c ∧ a / 16 = off / 16) || shas u.spadFull (spadKey c' a / 16)) && decide (tfind u.spadOwner (spadKey c' a / 64) = some o')) := by
    rw [State.isFull, hF, decide_eq_decide.mpr hgran]
  rw [hfull]
  by_cases hin : c' = c ∧ a / 16 = off / 16
  · obtain ⟨rfl, hg⟩ := hin
    have hr : Reaches n el put a := by
      obtain ⟨j, hj, hp, hl⟩ := hreach
      exact ⟨j, hj, hp, by omega⟩
    have hr' : ∃ j, j < n ∧ stores j = true ∧ el j / 64 = a / 64 := by
      obtain ⟨j, hj, hp, hl⟩ := hr
      exact ⟨j, hj, (hstores j).mpr hp, hl⟩
    rw [decide_eq_true (⟨rfl, hg⟩ : c' = c' ∧ a / 16 = off / 16), Bool.true_or, Bool.true_and, (howned c' a ha).1 rfl hr, decide_eq_true_eq,
      Option.some.injEq]
    constructor
    · rintro rfl
      exact .inr ⟨rfl, rfl, .inr hg.symm⟩
    · rintro (⟨-, hc, -⟩ | ⟨ho, -⟩)
      · exact (hc rfl hr').symm
      · exact ho.symm
  · rw [decide_eq_false hin, Bool.false_or]
    refine hu.trans (or_congr_right ?_)
    refine and_congr_right fun _ => and_congr_right fun hc => (or_iff_left fun hg => hin ⟨hc, hg.symm⟩).symm

/-- Whether an element below `n` lies in granule `g` of the scratchpad. -/
def State.granuleBelow (s : State) (m : VMem) (k n g : Nat) : Bool :=
  (List.range n).any (fun j => s.cur.writes k j && decide (s.padAt m j / 16 = g))

theorem granuleBelow_iff {g : Nat} : s.granuleBelow m k n g = true ↔ ∃ j, j < n ∧ s.cur.writes k j = true ∧ s.padAt m j / 16 = g := by
  simp [State.granuleBelow]

theorem granuleBelow_zero (g : Nat) : s.granuleBelow m k 0 g = false := rfl

theorem granuleBelow_succ (g : Nat) :
    s.granuleBelow m k (n + 1) g = (s.granuleBelow m k n g || (s.cur.writes k n && decide (s.padAt m n / 16 = g))) := by
  rw [State.granuleBelow, List.range_succ, List.any_append, List.any_cons, List.any_nil, Bool.or_false]
  rfl

theorem granuleBelow_skip (ha : s.cur.writes k n = false) : s.granuleBelow m k (n + 1) = s.granuleBelow m k n := by
  funext g
  rw [granuleBelow_succ, ha, Bool.false_and, Bool.or_false]

/-- The store with .fill, when the granules of the elements below `n` have been set. -/
structure Filling (s : State) (m : VMem) (k n : Nat) (u : State) : Prop where
  memory : SameMemory s u
  owned : PadOwned s u s.cur.owner (coreOf s.hart) s.cur.vl (s.padAt m) (s.stored m k)
  stored : PadStored s u s.cur.owner (coreOf s.hart) s.cur.vl (2 ^ s.cur.csew) (s.padAt m) (s.stored m k)
  full : PadFull s u s.cur.owner (coreOf s.hart) s.cur.vl (s.padAt m) (s.cur.writes k) (fun g => s.granuleBelow m k n g = true) (fun _ => False)

theorem Filling.carry_spad {T : Table Thread} {F : List Nat} {n' : Nat} (h : Filling s m k n u)
    (hfull : PadFull s { u with threads := T, spadFull := F } s.cur.owner (coreOf s.hart) s.cur.vl (s.padAt m) (s.cur.writes k)
          (fun g => s.granuleBelow m k n' g = true)
      (fun _ => False)) : Filling s m k n' { u with threads := T, spadFull := F } :=
  ⟨h.memory, h.owned, h.stored, hfull⟩

/-- One element's granule is set. -/
theorem Filling.step (hk : k < 8) (hidle : Idle s) (hpad : PadElements s k (2 ^ s.cur.csew) s.cur.vl (s.eaAt m)) (he : e.Issues s m k)
    (hr : Runs s q u len s.cur.noKsel) (h : Filling s m k n u) (hn : n < s.cur.vl) :
    let v := if (u.thr s.hart).active e.k n then
        u.fillGranule (u.thr s.hart).owner (coreOf s.hart) ((u.thr s.hart).eaOf e.nreg m n - 0x00FFFF0000000000) else u
    Runs s q v len s.cur.noKsel ∧ Filling s m k (n + 1) v := by
  obtain ⟨ev, e', hcmd, hthr⟩ := hr.thread
  have hact : (u.thr s.hart).active e.k n = s.cur.writes k n := by
    rw [hthr, writes_of_lt hn, show e.k = k by rw [he]; rfl]
    exact rk_noKsel s.cur hk n
  have haddr : (u.thr s.hart).eaOf e.nreg m n - 0x00FFFF0000000000 = s.padAt m n := by
    rw [hthr, show e.nreg = s.cur.cnreg by rw [he]; rfl]
    rfl
  have howner : (u.thr s.hart).owner = s.cur.owner := by rw [hthr]; rfl
  dsimp only
  rw [hact, haddr, howner]
  by_cases ha : s.cur.writes k n = true
  · rw [if_pos ha]
    have hline := padElements_inLine hidle hpad hn ha
    have htop : s.padAt m n < 2 ^ 24 := by
      have := hline.top
      have := hline.pos
      omega
    have hreach : Reaches s.cur.vl (s.padAt m) (s.stored m k) (s.padAt m n) := ⟨n, hn, (writes_iff_stored n).mp ha, rfl⟩
    obtain ⟨T, F, heq, hT, hF⟩ := fillGranule_owned ((h.owned (coreOf s.hart) (s.padAt m n) htop).1 rfl hreach)
    rw [heq]
    exact ⟨hr.events F hT, h.carry_spad (padFull_fill h.full h.owned writes_iff_stored htop hreach hF fun g => by
      rw [granuleBelow_succ, ha, Bool.true_and, Bool.or_eq_true, decide_eq_true_eq])⟩
  · rw [if_neg ha]
    refine ⟨hr, h.memory, h.owned, h.stored, ?_⟩
    rw [granuleBelow_skip (Bool.eq_false_of_not_eq_true ha)]
    exact h.full

/-- A store with .fill that has performed sets the granules of its elements. -/
theorem Filling.fillWritten (hk : k < 8) (hidle : Idle s) (hpad : PadElements s k (2 ^ s.cur.csew) s.cur.vl (s.eaAt m)) (he : e.Issues s m k)
    (hkind : m.kind = .store) (hfe : m.fe = 3) (hr : Runs s q u len s.cur.noKsel) (h : Filling s m k 0 u) :
    Runs s q (u.fillWritten s.hart e s.cur.vl) len s.cur.noKsel ∧ Filling s m k s.cur.vl (u.fillWritten s.hart e s.cur.vl) := by
  rw [State.fillWritten, show e.op = .mem m by rw [he]; rfl, show e.filled = 0 by rw [he]; rfl]
  dsimp only
  rw [hkind, hfe]
  rw [Nat.sub_zero]
  suffices hloop : ∀ n, n ≤ s.cur.vl → Runs s q (forUp 0 n (fun i s' =>
        if (s'.thr s.hart).active e.k i then
          s'.fillGranule (s'.thr s.hart).owner (coreOf s.hart) ((s'.thr s.hart).eaOf e.nreg m i - 0x00FFFF0000000000)
        else s') u) len s.cur.noKsel ∧ Filling s m k n (forUp 0 n (fun i s' =>
        if (s'.thr s.hart).active e.k i then
          s'.fillGranule (s'.thr s.hart).owner (coreOf s.hart) ((s'.thr s.hart).eaOf e.nreg m i - 0x00FFFF0000000000)
        else s') u) from hloop _ le_rfl
  intro n hn
  induction n with
  | zero => exact ⟨hr, h⟩
  | succ n ih =>
    obtain ⟨hrn, hfn⟩ := ih (by omega)
    rw [forUp_succ_last]
    exact hfn.step hk hidle hpad he hrn (by omega)

end

end Sys2Proof.Machine
end

section
/-! The elements that .take reads (R359) -/

namespace Sys2Proof.Machine

/-! Index registers apart from the destination -/

/-- An element whose register holds no written element reads as before, wherever in its register it ends. -/
theorem Thread.Lanes.vGet_outside {t u : Thread} {d : Nat} {val : Nat → Option Nat} {fl : FFlags} (hb : t.Banked)
    (h : t.Lanes u d (2 ^ t.csew) val fl) {r n iw j : Nat} (hap : d + 1 ≤ r ∨ r + n ≤ d) (hin : j * iw < n * t.regBytes t.cnreg)
    (hsmall : t.regBytes t.cnreg + iw ≤ 2 ^ 20) : u.vGet t.cnreg r iw j = t.vGet t.cnreg r iw j := by
  rw [Thread.vGet, h.vKey]
  refine readV_congr fun x hx => h.2.2 _ fun i y hi _ hy heq => ?_
  have hpos := hb.pos (hi.trans_le hb.vl)
  have hdest : i * 2 ^ t.csew + y < t.regBytes t.cnreg := by
    have hlt := hb.element_lt (n := 1) (j := i) (x := y) (hi.trans_le hb.vl) (by rw [Nat.one_mul]; exact hy)
    rwa [Nat.one_mul, Nat.one_mul] at hlt
  have hmod := Nat.mod_lt (j * iw) hpos
  have hreg : j * iw / t.regBytes t.cnreg < n := Nat.div_lt_of_lt_mul (hin.trans_eq (Nat.mul_comm _ _))
  have hlt : i * 2 ^ t.csew < t.regBytes t.cnreg := by omega
  rw [Thread.vKey, Thread.vKey, Nat.div_eq_of_lt hlt, Nat.mod_eq_of_lt hlt] at heq
  have hsm := hb.small
  generalize j * iw / t.regBytes t.cnreg = g at heq hreg
  generalize j * iw % t.regBytes t.cnreg = o at heq hmod
  omega

section
variable {s q u : State} {len k N n : Nat} {m : VMem} {w : Thread} {e : VEntry}

/-- The index elements of an access lie in the registers that its index group takes. -/
structure IndexFits (s : State) (r iw n : Nat) : Prop where
  inside : ∀ j, j < s.cur.vl → j * iw < n * s.cur.regBytes s.cur.cnreg
  small : s.cur.regBytes s.cur.cnreg + iw ≤ 2 ^ 20

theorem indexFits (hidle : Idle s) {r a : Nat}
    (hfits : VGrp.fits (8 * 2 ^ s.cur.cnreg) ⟨r, if 2 ^ a ≤ 2 ^ s.cur.csew then 1 else 2 ^ a / 2 ^ s.cur.csew, 2 ^ a⟩ = true) :
    IndexFits s r (2 ^ a) (if 2 ^ a ≤ 2 ^ s.cur.csew then 1 else 2 ^ a / 2 ^ s.cur.csew) := by
  have hb := hidle.banked
  have helem : ∀ j, j < s.cur.vl → j * 2 ^ s.cur.csew < s.cur.regBytes s.cur.cnreg := fun j hj => by
    have hlt := hb.element_lt (n := 1) (j := j) (x := 0) (hj.trans_le hb.vl) (by rw [Nat.one_mul]; exact Nat.two_pow_pos _)
    rwa [Nat.one_mul, Nat.one_mul, Nat.add_zero] at hlt
  have hbytes : s.cur.regBytes s.cur.cnreg ≤ 2 ^ 19 := by
    rw [Thread.regBytes]
    calc s.cur.vgrant * 16384 / 2 ^ (3 + s.cur.cnreg) ≤ s.cur.vgrant * 16384 / 2 ^ 3 :=
          Nat.div_le_div_left (Nat.pow_le_pow_right (by omega) (by omega)) (by omega)
      _ ≤ 2 ^ 19 := by have := hidle.grant; omega
  have hregs : 8 * 2 ^ s.cur.cnreg ≤ 64 := by
    have := Nat.pow_le_pow_right (show 0 < 2 by omega) hidle.nregRange
    omega
  have hsew : 2 ^ s.cur.csew ≤ 8 := (Nat.pow_le_pow_right (by omega) hb.sew).trans_eq rfl
  rw [VGrp.fits, Bool.and_eq_true, decide_eq_true_eq, decide_eq_true_eq] at hfits
  obtain ⟨-, htop⟩ := hfits
  by_cases hw : 2 ^ a ≤ 2 ^ s.cur.csew
  · rw [if_pos hw] at htop ⊢
    exact ⟨fun j hj => by rw [Nat.one_mul]; exact (Nat.mul_le_mul_left j hw).trans_lt (helem j hj), by omega⟩
  · rw [if_neg hw] at htop ⊢
    dsimp only at htop
    have hle : s.cur.csew ≤ a := (Nat.pow_lt_pow_iff_right (by omega)).mp (Nat.lt_of_not_le hw) |>.le
    have hmul : 2 ^ a = 2 ^ a / 2 ^ s.cur.csew * 2 ^ s.cur.csew := (Nat.div_mul_cancel (pow_dvd_pow 2 hle)).symm
    generalize 2 ^ a / 2 ^ s.cur.csew = g at htop hmul ⊢
    have hg : 0 < g := by
      by_contra h0
      have := Nat.two_pow_pos a
      rw [show g = 0 by omega, Nat.zero_mul] at hmul
      omega
    refine ⟨fun j hj => ?_, ?_⟩
    · rw [hmul, Nat.mul_left_comm]
      exact Nat.mul_lt_mul_of_pos_left (helem j hj) hg
    · have : g * 2 ^ s.cur.csew ≤ 64 * 8 := Nat.mul_le_mul (by omega) hsew
      omega

/-- Whether the index elements of an access have a width that an instruction can give them. -/
def VMem.WidthOk (m : VMem) : Prop := ∀ r iw, m.idx = some (r, iw) → ∃ a, iw = 2 ^ a

/-- With .take, which asks for groups apart, the addresses stay while the destination is written. -/
theorem eaOf_taking (hidle : Idle s) (hN : N ≤ s.cur.vl) (hkind : m.kind = .load) (hfe : m.fe = 2) (hwidth : m.WidthOk)
    (hgroups : m.groupsOk (2 ^ s.cur.csew) (8 * 2 ^ s.cur.cnreg) = true) {val : Nat → Option Nat}
    (h : (s.before N).Lanes w m.d (2 ^ s.cur.csew) val 0) {j : Nat} (hj : j < s.cur.vl) : w.eaOf s.cur.cnreg m j = s.eaAt m j := by
  rw [State.eaAt, Thread.eaOf, Thread.eaOf]
  cases hidx : m.idx with
  | none => rfl
  | some x =>
    obtain ⟨r, iw⟩ := x
    obtain ⟨a, rfl⟩ := hwidth r iw hidx
    dsimp only
    rw [VMem.groupsOk, Bool.and_eq_true, List.all_eq_true, List.all_eq_true] at hgroups
    obtain ⟨hfits, hpair⟩ := hgroups
    have hindex : m.index (2 ^ s.cur.csew) = [⟨r, if 2 ^ a ≤ 2 ^ s.cur.csew then 1 else 2 ^ a / 2 ^ s.cur.csew, 2 ^ a⟩] := by
      rw [VMem.index, hidx]
    have hdst : m.dst (2 ^ s.cur.csew) = [⟨m.d, 1, 2 ^ s.cur.csew⟩] := by rw [VMem.dst, hkind]
    have hin := indexFits hidle (r := r) (a := a) (hfits _ (by
      rw [VMem.srcs, hindex]
      exact List.mem_append_right _ (List.mem_append_right _ List.mem_cons_self)))
    have hap := hpair ⟨m.d, 1, 2 ^ s.cur.csew⟩ (by rw [hdst]; exact List.mem_cons_self)
    rw [hindex, List.all_cons, Bool.and_eq_true] at hap
    obtain ⟨hap, -⟩ := hap
    rw [VGrp.pairOk, hfe, VGrp.apart] at hap
    simp only [decide_true, Bool.not_true, Bool.false_and, Bool.or_false, Bool.or_eq_true, decide_eq_true_eq] at hap
    have hget : w.vGet s.cur.cnreg r (2 ^ a) j = s.cur.vGet s.cur.cnreg r (2 ^ a) j :=
      h.vGet_outside (banked_before hidle hN) hap (hin.inside j hj) hin.small
    rw [hget]

/-! One granule -/

/-- Whether element `j` lies in a granule that an element below `n` has taken. -/
def State.taken (s : State) (m : VMem) (k n j : Nat) : Bool := s.cur.writes k j && s.granuleBelow m k n (s.padAt m j / 16)

/-- The values of the elements that have been taken. -/
def State.takenValues (s : State) (m : VMem) (k n j : Nat) : Option Nat := if s.taken m k n j = true then some (s.padOld m j) else none

/-- The same with the elements of the granule of element `n` below `p`. -/
def State.takingValues (s : State) (m : VMem) (k n p j : Nat) : Option Nat :=
  if s.taken m k n j = true ∨ (n ≤ j ∧ j < p ∧ s.cur.writes k j = true ∧ s.padAt m j / 16 = s.padAt m n / 16) then some (s.padOld m j) else none

theorem takingValues_start : s.takingValues m k n n = s.takenValues m k n := by
  funext j
  exact if_congr (or_iff_left (by omega)) rfl rfl

/-- With the granule of an element taken that no element before it lies in, the elements of one more granule are taken. -/
theorem takingValues_end (ha : s.cur.writes k n = true) (hnew : s.granuleBelow m k n (s.padAt m n / 16) = false) :
    s.takingValues m k n s.cur.vl = s.takenValues m k (n + 1) := by
  funext j
  refine if_congr ?_ rfl rfl
  rw [State.taken, State.taken, granuleBelow_succ, ha, Bool.true_and, Bool.and_eq_true, Bool.and_eq_true, Bool.or_eq_true, decide_eq_true_eq]
  constructor
  · rintro (⟨hw, hg⟩ | ⟨-, -, hw, hg⟩)
    · exact ⟨hw, .inl hg⟩
    · exact ⟨hw, .inr hg.symm⟩
  · rintro ⟨hw, hg | hg⟩
    · exact .inl ⟨hw, hg⟩
    · refine .inr ⟨?_, lt_of_writes hw, hw, hg.symm⟩
      by_contra hlt
      rw [granuleBelow_iff.mpr ⟨j, by omega, hw, hg.symm⟩] at hnew
      exact Bool.false_ne_true hnew.symm

theorem takingValues_skip {p : Nat} (h : ¬ (s.cur.writes k p = true ∧ s.padAt m p / 16 = s.padAt m n / 16)) :
    s.takingValues m k n (p + 1) = s.takingValues m k n p := by
  funext j
  refine if_congr (or_congr_right ?_) rfl rfl
  constructor
  · rintro ⟨h1, h2, h3⟩
    exact ⟨h1, lt_of_le_of_ne (Nat.lt_succ_iff.mp h2) fun he => h (he ▸ h3), h3⟩
  · rintro ⟨h1, h2, h3⟩
    exact ⟨h1, by omega, h3⟩

theorem takingValues_step {p : Nat} (hnp : n ≤ p) (h : s.cur.writes k p = true ∧ s.padAt m p / 16 = s.padAt m n / 16) :
    s.takingValues m k n (p + 1) = fun j => if j = p then some (s.padOld m p) else s.takingValues m k n p j := by
  funext j
  by_cases hj : j = p
  · rw [if_pos hj, hj]
    exact if_pos (.inr ⟨hnp, Nat.lt_succ_self p, h⟩)
  · rw [if_neg hj]
    refine if_congr (or_congr_right ?_) rfl rfl
    constructor
    · rintro ⟨h1, h2, h3⟩
      exact ⟨h1, by omega, h3⟩
    · rintro ⟨h1, h2, h3⟩
      exact ⟨h1, by omega, h3⟩

/-- .take reads every element of one granule. -/
theorem takeAll_lanes (hidle : Idle s) (hk : k < 8) (hpad : PadElements s k (2 ^ s.cur.csew) s.cur.vl (s.eaAt m)) (hkind : m.kind = .load)
    (hfe : m.fe = 2) (hwidth : m.WidthOk) (hgroups : m.groupsOk (2 ^ s.cur.csew) (8 * 2 ^ s.cur.cnreg) = true) (he : e.Issues s m k)
    {ev : Bool} {e' : VEntry} {read : Nat → Nat} (hread : ∀ j, read (s.eaAt m j) = s.padOld m j)
    (h : (s.before s.cur.vl).Lanes w m.d (2 ^ s.cur.csew) (s.takenValues m k n) 0) (hn : n < s.cur.vl) :
    ∃ w', (s.running len w ev e').takeAll e m (s.padElem m n) read = s.running len w' ev e' ∧
      (s.before s.cur.vl).Lanes w' m.d (2 ^ s.cur.csew) (s.takingValues m k n s.cur.vl) 0 := by
  have hvl : w.vl = s.cur.vl := by rw [h.before]
  rw [Thread.takeAll, show e.sew = s.cur.csew by rw [he]; rfl, show e.nreg = s.cur.cnreg by rw [he]; rfl, show e.k = k by rw [he]; rfl,
    show (s.running len w ev e').vl - (s.padElem m n).i = s.cur.vl - n by rw [← hvl]; rfl, forUp_eq_foldl]
  dsimp only
  suffices hloop : ∀ d, n + d ≤ s.cur.vl → ∃ w', (List.range' n d).foldl (fun t j =>
        if t.active k j && inWindow (t.eaOf s.cur.cnreg m j) && decide (granuleOf (t.eaOf s.cur.cnreg m j) = granuleOf (s.padElem m n).ea) &&
            decide (t.eaOf s.cur.cnreg m j % 2 ^ s.cur.csew = 0) then
          t.vPut s.cur.cnreg m.d (2 ^ s.cur.csew) j (read (t.eaOf s.cur.cnreg m j)) else t) (s.running len w ev e') = s.running len w' ev e' ∧
      (s.before s.cur.vl).Lanes w' m.d (2 ^ s.cur.csew) (s.takingValues m k n (n + d)) 0 by
    have hend := hloop (s.cur.vl - n) (by omega)
    rwa [show n + (s.cur.vl - n) = s.cur.vl by omega] at hend
  intro d hd
  induction d with
  | zero => exact ⟨w, rfl, by rw [Nat.add_zero, takingValues_start]; exact h⟩
  | succ d ih =>
    obtain ⟨w', hfold, hl⟩ := ih (by omega)
    rw [List.range'_concat, List.foldl_concat, hfold, Nat.one_mul]
    have hj : n + d < s.cur.vl := by omega
    have hact : (s.running len w' ev e').active k (n + d) = s.cur.writes k (n + d) := by
      rw [writes_of_lt hj, hl.before]
      exact rk_noKsel s.cur hk (n + d)
    have hea : (s.running len w' ev e').eaOf s.cur.cnreg m (n + d) = s.eaAt m (n + d) :=
      eaOf_taking hidle le_rfl hkind hfe hwidth hgroups hl hj
    rw [hact, hea]
    by_cases hin : s.cur.writes k (n + d) = true ∧ s.padAt m (n + d) / 16 = s.padAt m n / 16
    · have hwin : inWindow (s.eaAt m (n + d)) = true := by
        obtain ⟨hlo, hhi⟩ := hpad.inside _ hj hin.1
        have hgang := hpad.gang
        have := Nat.two_pow_pos s.cur.csew
        rw [inWindow, Bool.and_eq_true, decide_eq_true_eq, decide_eq_true_eq, spadBase]
        omega
      have hgran : granuleOf (s.eaAt m (n + d)) = granuleOf (s.padElem m n).ea := hin.2
      rw [hin.1, hwin, decide_eq_true hgran, decide_eq_true (hpad.aligned _ hj hin.1), if_pos (by rfl), hread]
      refine ⟨w'.vPut s.cur.cnreg m.d (2 ^ s.cur.csew) (n + d) (s.padOld m (n + d)), rfl, ?_⟩
      have hput := hl.vPut (banked_before hidle le_rfl) (width_dvd hidle) (j := n + d) hj (s.padOld m (n + d)) 0
      rw [raise_zero, Nat.mod_eq_of_lt (show s.padOld m (n + d) < _ from spadValue_lt _ _ _), show (0 : FFlags) ||| 0 = 0 from rfl] at hput
      rw [← Nat.add_assoc, takingValues_step (Nat.le_add_right _ _) hin]
      exact hput
    · have hno : ¬ (s.cur.writes k (n + d) && inWindow (s.eaAt m (n + d)) && decide (granuleOf (s.eaAt m (n + d)) = granuleOf (s.padElem m n).ea) &&
          decide (s.eaAt m (n + d) % 2 ^ s.cur.csew = 0)) = true := by
        rw [Bool.and_eq_true, Bool.and_eq_true, Bool.and_eq_true, decide_eq_true_eq]
        exact fun hc => hin ⟨hc.1.1.1, hc.1.2⟩
      rw [if_neg hno]
      exact ⟨w', rfl, by rw [← Nat.add_assoc, takingValues_skip hin]; exact hl⟩

end

end Sys2Proof.Machine
end

section
/-! Loads with .take (R105, R359) -/

namespace Sys2Proof.Machine

section
variable {s q u v : State} {len k n : Nat} {m : VMem} {w : Thread} {e : VEntry}

/-- Whether an earlier element has taken the granule of an element. -/
theorem takenBelow_eq (hidle : Idle s) (hk : k < 8) (hkind : m.kind = .load) (hfe : m.fe = 2) (hwidth : m.WidthOk)
    (hgroups : m.groupsOk (2 ^ s.cur.csew) (8 * 2 ^ s.cur.cnreg) = true) (he : e.Issues s m k) {ev : Bool} {e' : VEntry} {val : Nat → Option Nat}
    (h : (s.before s.cur.vl).Lanes w m.d (2 ^ s.cur.csew) val 0) {j : Nat} (hj : j ≤ s.cur.vl) :
    (s.running len w ev e').takenBelow e m j (s.eaAt m j) = s.granuleBelow m k j (s.padAt m j / 16) := by
  rw [Thread.takenBelow, State.granuleBelow, show e.nreg = s.cur.cnreg by rw [he]; rfl, show e.k = k by rw [he]; rfl]
  rw [Bool.eq_iff_iff, List.any_eq_true, List.any_eq_true]
  refine exists_congr fun i => and_congr_right fun hi => ?_
  have hlt := List.mem_range.mp hi
  have hact : (s.running len w ev e').active k i = s.cur.writes k i := by
    rw [writes_of_lt (by omega), h.before]
    exact rk_noKsel s.cur hk i
  have hea : (s.running len w ev e').eaOf s.cur.cnreg m i = s.eaAt m i := eaOf_taking hidle le_rfl hkind hfe hwidth hgroups h (by omega)
  rw [hact, hea]
  rfl

theorem granuleBelow_mono {i j g : Nat} (h : i ≤ j) (hg : s.granuleBelow m k i g = true) : s.granuleBelow m k j g = true := by
  obtain ⟨x, hx, hrest⟩ := granuleBelow_iff.mp hg
  exact granuleBelow_iff.mpr ⟨x, by omega, hrest⟩

/-- Elements of a granule that has been taken are taken already. -/
theorem takenValues_skip (h : s.cur.writes k n = false ∨ s.granuleBelow m k n (s.padAt m n / 16) = true) :
    s.takenValues m k (n + 1) = s.takenValues m k n := by
  funext j
  refine if_congr ?_ rfl rfl
  rw [State.taken, State.taken, granuleBelow_succ, Bool.and_eq_true, Bool.and_eq_true, Bool.or_eq_true, Bool.and_eq_true, decide_eq_true_eq]
  refine and_congr_right fun hw => or_iff_left_of_imp ?_
  rintro ⟨ha, hg⟩
  rcases h with h | h
  · rw [h] at ha
    exact absurd ha Bool.false_ne_true
  · rwa [← hg]

/-- A granule that has been taken, or whose element is not accessed, adds none. -/
theorem granuleBelow_again (h : s.cur.writes k n = false ∨ s.granuleBelow m k n (s.padAt m n / 16) = true) :
    s.granuleBelow m k (n + 1) = s.granuleBelow m k n := by
  rcases h with h | h
  · exact granuleBelow_skip h
  · funext g
    rw [granuleBelow_succ, Bool.or_eq_left_iff_imp, Bool.and_eq_true, decide_eq_true_eq]
    rintro ⟨-, rfl⟩
    exact h

/-- A granule is cleared. -/
theorem padFull_clear {o c off : Nat} {el : Nat → Nat} {stores : Nat → Bool} {clears clears' : Nat → Prop}
    (h : PadFull s u o c 0 el stores (fun _ => False) clears) (hoff : off < 2 ^ 24) (hclears : ∀ g, clears' g ↔ clears g ∨ off / 16 = g) :
    PadFull s { u with spadFull := sdel u.spadFull (spadKey c off / 16) } o c 0 el stores (fun _ => False) clears' := by
  intro o' c' a ha
  have hgran : (spadKey c' a / 16 = spadKey c off / 16) ↔ c' = c ∧ off / 16 = a / 16 := by
    simp only [spadKey]
    omega
  have hu := h o' c' a ha
  have hfull : ({ u with spadFull := sdel u.spadFull (spadKey c off / 16) } : State).isFull o' c' a =
      (!decide (c' = c ∧ off / 16 = a / 16) && u.isFull o' c' a) := by
    rw [State.isFull, shas_sdel, decide_eq_decide.mpr hgran, Bool.and_assoc]
    rfl
  rw [hfull, hclears, Bool.and_eq_true, hu, Bool.not_eq_true', decide_eq_false_iff_not]
  simp only [and_false, or_false]
  rw [and_left_comm, and_left_comm (a := ¬ _)]
  refine and_congr_right fun _ => and_congr_right fun _ => ?_
  rw [← not_or, ← and_or_left, or_comm]

/-- After the elements below `n` of a load with .take. -/
structure Taking (s : State) (m : VMem) (k n : Nat) (u : State) (w : Thread) : Prop where
  results : (s.before s.cur.vl).Lanes w m.d (2 ^ s.cur.csew) (s.takenValues m k n) 0
  memory : SameMemory s u
  pad : SamePadBytes s u
  full : PadFull s u s.cur.owner (coreOf s.hart) 0 (s.padAt m) (s.cur.writes k) (fun _ => False) (fun g => s.granuleBelow m k n g = true)

theorem Taking.start (hq : Committed s q (s.trying s.cur len (.mem m) k 0)) {K : Nat} :
    Taking s m k 0 (s.unmasked q len m K) s.cur.noKsel := by
  obtain ⟨-, hmem, hpad, hfull⟩ := Loading.start (K := K) hq
  have hnone : s.takenValues m k 0 = fun _ => none := funext fun j =>
    if_neg (by rw [State.taken, granuleBelow_zero, Bool.and_false]; exact Bool.false_ne_true)
  refine ⟨by rw [hnone]; exact Thread.Lanes.refl _ _ _, hmem, hpad, fun o' c' a _ => ?_⟩
  rw [State.isFull, hfull, hpad.2]
  simp [State.isFull, granuleBelow_zero]

/-- An element whose granule has not been taken takes it. -/
theorem Taking.step (hidle : Idle s) (hk : k < 8) (hq : Committed s q (s.trying s.cur len (.mem m) k 0))
    (hpad : PadElements s k (2 ^ s.cur.csew) s.cur.vl (s.eaAt m)) (hkind : m.kind = .load)
    (hfe : m.fe = 2) (hwidth : m.WidthOk) (hgroups : m.groupsOk (2 ^ s.cur.csew) (8 * 2 ^ s.cur.cnreg) = true) (he : e.Issues s m k)
    (hfull : s.isFull s.cur.owner (coreOf s.hart) (s.padAt m n) = true) (hr : Runs s q u len w) (h : Taking s m k n u w) (hn : n < s.cur.vl)
    (ha : s.cur.writes k n = true) (hnew : s.granuleBelow m k n (s.padAt m n / 16) = false) :
    ∃ w', Runs s q (u.takeGranule s.hart (coreOf s.hart) e m (s.padElem m n) (s.padAt m n)) len w' ∧
      Taking s m k (n + 1) (u.takeGranule s.hart (coreOf s.hart) e m (s.padElem m n) (s.padAt m n)) w' := by
  obtain ⟨ev, e', hcmd, hthr⟩ := hr.thread
  have howner : (s.running len w ev e').owner = s.cur.owner := by rw [State.running, h.results.before]; rfl
  obtain ⟨w', htake, hl⟩ := takeAll_lanes (len := len) (ev := ev) (e' := e') (read := fun ea =>
    leNat (u.spadRead s.cur.owner (coreOf s.hart) (ea - spadBase) (2 ^ e.sew))) hidle hk hpad hkind hfe hwidth hgroups he
    (fun j => by
      rw [show e.sew = s.cur.csew by rw [he]; rfl]
      exact hr.spadRead hq h.pad (s.padAt m j) (2 ^ s.cur.csew)) h.results hn
  have htag : tfind u.spadOwner (spadKey (coreOf s.hart) (s.padAt m n) / 64) = some s.cur.owner := by
    rw [State.isFull, Bool.and_eq_true, decide_eq_true_eq] at hfull
    rw [h.pad.2]
    exact hfull.2
  have hrun : u.takeGranule s.hart (coreOf s.hart) e m (s.padElem m n) (s.padAt m n) =
      { u.setThr s.hart (s.running len w' ev e') with spadFull := sdel u.spadFull (spadKey (coreOf s.hart) (s.padAt m n) / 16) } := by
    rw [State.takeGranule, hthr, howner, htake]
    exact if_pos htag
  have hline := padElements_inLine hidle hpad hn ha
  rw [hrun]
  refine ⟨w', (hr.setThr hcmd).of_thr (around_stores _ u.mem u.keys u.pillars u.spad u.spadOwner _) rfl, ?_, h.memory, h.pad,
    padFull_clear (u := u.setThr s.hart (s.running len w' ev e')) (padFull_carry (beside_setThr _ _ _) h.full)
      (by have := hline.top; have := hline.pos; omega) fun g => ?_⟩
  · rw [← takingValues_end ha hnew]
    exact hl
  · rw [granuleBelow_succ, ha, Bool.true_and, Bool.or_eq_true, decide_eq_true_eq]

/-- A load with .take. -/
theorem course_take (hidle : Idle s) (hk : k < 8) (hq : Committed s q (s.trying s.cur len (.mem m) k 0))
    (hpad : PadElements s k (2 ^ s.cur.csew) s.cur.vl (s.eaAt m)) (hkind : m.kind = .load) (hfe : m.fe = 2) (hwidth : m.WidthOk)
    (hgroups : m.groupsOk (2 ^ s.cur.csew) (8 * 2 ^ s.cur.cnreg) = true)
    (hfull : ∀ j, s.cur.writes k j = true → s.isFull s.cur.owner (coreOf s.hart) (s.padAt m j) = true) :
    Course s q len m k s.cur.vl (s.padElem m) (Taking s m k) := by
  refine .of_pad hidle hq hpad.guard (fun hb h => ⟨h.results, h.memory.carry hb, h.pad.carry hb, padFull_carry hb h.full⟩)
    (fun h => h.results.before)
    (fun {n u w} ha h => ⟨by rw [takenValues_skip (.inl ha)]; exact h.results, h.memory, h.pad, by rw [granuleBelow_skip ha]; exact h.full⟩)
    (fun {n u w} hr h hn ha e he => ?_) fun {n u w} j hr h hnj hj ha e he _ _ => ?_
  · obtain ⟨ev, e', hcmd, hthr⟩ := hr.thread
    have hbelow : (u.thr s.hart).takenBelow e m n (s.eaAt m n) = s.granuleBelow m k n (s.padAt m n / 16) := by
      rw [hthr]
      exact takenBelow_eq hidle hk hkind hfe hwidth hgroups he h.results hn.le
    have hrun : u.vElem s.hart (coreOf s.hart) e m (s.padElem m n) = if s.granuleBelow m k n (s.padAt m n / 16) = true then u
        else u.takeGranule s.hart (coreOf s.hart) e m (s.padElem m n) (s.padAt m n) := by
      rw [State.vElem, if_neg (show ¬ (s.padElem m n).far = true from Bool.false_ne_true), hkind, ← hbelow]
      exact if_pos hfe
    rw [hrun]
    by_cases htaken : s.granuleBelow m k n (s.padAt m n / 16) = true
    · rw [if_pos htaken]
      exact ⟨w, hr, by rw [takenValues_skip (.inr htaken)]; exact h.results, h.memory, h.pad, by rw [granuleBelow_again (.inr htaken)]; exact h.full⟩
    · rw [if_neg htaken]
      exact h.step hidle hk hq hpad hkind hfe hwidth hgroups he (hfull n ha) hr hn ha (Bool.eq_false_of_not_eq_true htaken)
  · have hline := padElements_inLine hidle hpad hj ha
    by_cases htaken : s.granuleBelow m k n (s.padAt m j / 16) = true
    · refine .inr ⟨hfe, ?_⟩
      obtain ⟨ev, e', -, hthr⟩ := hr.thread
      rw [hthr, takenBelow_eq hidle hk hkind hfe hwidth hgroups he h.results hj.le]
      exact granuleBelow_mono hnj htaken
    · refine .inl ((h.full s.cur.owner (coreOf s.hart) (s.padAt m j) (by have := hline.top; have := hline.pos; omega)).mpr
        (.inl ⟨hfull j ha, fun _ _ => rfl, fun hc => htaken hc.2⟩))

/-- Every element of a load with .take has its value. -/
theorem takenValues_all : s.takenValues m k s.cur.vl = fun j => if s.cur.writes k j = true then some (s.padOld m j) else none := by
  funext j
  refine if_congr ?_ rfl rfl
  rw [State.taken, Bool.and_eq_true]
  exact and_iff_left_of_imp fun hw => granuleBelow_iff.mpr ⟨j, lt_of_writes hw, hw, rfl⟩

end

end Sys2Proof.Machine
end

section
/-! Vector atomics in the scratchpad (R128, R302, R360) -/

namespace Sys2Proof.Machine

section
variable {s q u v : State} {len k n : Nat} {m : VMem} {w : Thread} {e : VEntry} {op : AmoOp}

/-- What the atomic of element `j` makes of the old value: the new one, and the flags. -/
def State.atomic (s : State) (m : VMem) (op : AmoOp) (j old : Nat) : Option Nat × FFlags :=
  let w := 2 ^ s.cur.csew
  if op = .cas then op.apply w old (s.cur.vGet s.cur.cnreg (m.d + 1) w j) (s.operand m j) else op.apply w old (s.operand m j) 0

/-- What an atomic in the scratchpad writes at element `j`. -/
def State.swapped (s : State) (m : VMem) (k : Nat) (op : AmoOp) (j : Nat) : Option Nat :=
  if s.cur.writes k j = true then (s.atomic m op j (s.padOld m j)).1 else none

/-- The operands of an element that has not performed are those of the thread before. -/
theorem amoOps_apply {x : Thread} (hkind : m.kind = .amo op) (he : e.Issues s m k)
    (h0 : x.vGet s.cur.cnreg m.d (2 ^ s.cur.csew) n = s.operand m n)
    (h1 : x.vGet s.cur.cnreg (m.d + 1) (2 ^ s.cur.csew) n = s.cur.vGet s.cur.cnreg (m.d + 1) (2 ^ s.cur.csew) n) (old : Nat) :
    op.apply (2 ^ s.cur.csew) old (x.amoOps e m n).1 (x.amoOps e m n).2 = s.atomic m op n old := by
  rw [State.atomic, Thread.amoOps, show e.sew = s.cur.csew by rw [he]; rfl, show e.nreg = s.cur.cnreg by rw [he]; rfl, hkind, h0]
  split
  · next hcas =>
    rw [VMemKind.amo.injEq] at hcas
    rw [h1, if_pos hcas]
  · next hcas => rw [if_neg fun hc => hcas (congrArg VMemKind.amo hc)]

/-- An atomic in the scratchpad. -/
theorem amoAt_spad (u : State) (o c off W data cmp : Nat) : u.amoAt o c (.spad off) op W data cmp =
    (match (op.apply W (leNat (u.spadRead o c off W)) data cmp).1 with
      | some y => u.spadWrite o c off (natLe W y)
      | none => u, leNat (u.spadRead o c off W), (op.apply W (leNat (u.spadRead o c off W)) data cmp).2) := rfl

/-- An atomic takes the old value and raises its flags. -/
theorem vTake_amo (hkind : m.kind = .amo op) (he : e.Issues s m k) {ev : Bool} {e' : VEntry} (hthr : u.thr s.hart = s.running len w ev e')
    (x : VElem) (y : Nat) : u.vTake s.hart e m x y = u.setThr s.hart (s.running len
      ((w.vPut s.cur.cnreg m.d (2 ^ s.cur.csew) x.i (y % 2 ^ (8 * 2 ^ s.cur.csew))).raise (op.apply (2 ^ s.cur.csew) (y % 2 ^ (8 * 2 ^ s.cur.csew))
        ((s.running len w ev e').amoOps e m x.i).1 ((s.running len w ev e').amoOps e m x.i).2).2) ev e') := by
  rw [State.vTake, hkind, hthr, show e.sew = s.cur.csew by rw [he]; rfl, show e.nreg = s.cur.cnreg by rw [he]; rfl]
  rfl

theorem thr_spadWrite (u : State) (o c off : Nat) (bs : List Byte) (h : Nat) : (u.spadWrite o c off bs).thr h = u.thr h := by
  obtain ⟨sp, so, sf, heq⟩ := spadWrite_frame o c bs u off
  rw [heq]
  rfl

/-- Where every line that elements reach is the owner's, and no two elements share a byte, an element that has not performed reads as
before. -/
theorem spadByte_ahead {o c W : Nat} {el : Nat → Nat} {put : Nat → Option Nat} (h : PadStored s u o c n W el put) {a : Nat} (ha : a < 2 ^ 24)
    (howned : tfind s.spadOwner (spadKey c a / 64) = some o) (hfree : ∀ j, j < n → put j ≠ none → ¬ (el j ≤ a ∧ a < el j + W)) :
    u.spadByte o c a = s.spadByte o c a := by
  obtain ⟨h1, -, -, h4⟩ := h o c a ha
  by_cases hr : Reaches n el put a
  · exact (h4 ⟨rfl, hr⟩ rfl fun j hc => hfree j hc.1 hc.2.1 hc.2.2).trans (if_pos howned)
  · exact h1 fun hc => hr hc.2

/-- After the elements below `n` of an atomic in the scratchpad. -/
structure Swapping (s : State) (m : VMem) (k : Nat) (op : AmoOp) (n : Nat) (u : State) (w : Thread) : Prop where
  results : s.cur.noKsel.Lanes w m.d (2 ^ s.cur.csew) (lanesBelow (s.cur.writes k) (s.padOld m) n)
    (flagsBelow (s.cur.writes k) (fun j => (s.atomic m op j (s.padOld m j)).2) n)
  memory : SameMemory s u
  owned : PadOwned s u s.cur.owner (coreOf s.hart) n (s.padAt m) (s.swapped m k op)
  stored : PadStored s u s.cur.owner (coreOf s.hart) n (2 ^ s.cur.csew) (s.padAt m) (s.swapped m k op)
  full : u.spadFull = s.spadFull

theorem Swapping.start (hq : Committed s q (s.trying s.cur len (.mem m) k 0)) {K : Nat} :
    Swapping s m k op 0 (s.unmasked q len m K) s.cur.noKsel := by
  have hr := runs_unmasked (q := q) (len := len) (m := m) (k := k) hq
  obtain ⟨-, hmem, hpad, hfull⟩ := Loading.start (K := K) hq
  refine ⟨by rw [lanesBelow_zero]; exact Thread.Lanes.refl _ _ _, hmem, .start hpad.2, padStored_start fun o' c' a => ?_, hfull⟩
  obtain ⟨hloose, htick⟩ := hr.clock hq
  exact spadByte_congr (by rw [hpad.2]) (by rw [hpad.1]) hloose htick

theorem Swapping.skip (ha : s.cur.writes k n = false) (h : Swapping s m k op n u w) : Swapping s m k op (n + 1) u w := by
  have hnone : s.swapped m k op n = none := if_neg (by rw [ha]; exact Bool.false_ne_true)
  refine ⟨?_, h.memory, h.owned.skip hnone, padStored_skip h.stored hnone, h.full⟩
  rw [lanesBelow_skip _ ha, flagsBelow_succ, ha]
  exact h.results

/-- The old value and the flags of one more element. -/
theorem Thread.Lanes.swap {x : Thread} (hidle : Idle s) {on : Nat → Bool} {val : Nat → Nat} {fl : Nat → FFlags}
    (h : s.cur.noKsel.Lanes x m.d (2 ^ s.cur.csew) (lanesBelow on val n) (flagsBelow on fl n)) (hn : n < s.cur.vl) (hon : on n = true)
    (hlt : val n < 2 ^ (8 * 2 ^ s.cur.csew)) :
    s.cur.noKsel.Lanes ((x.vPut s.cur.cnreg m.d (2 ^ s.cur.csew) n (val n)).raise (fl n)) m.d (2 ^ s.cur.csew) (lanesBelow on val (n + 1))
      (flagsBelow on fl (n + 1)) := by
  have hput := h.vPut (banked_before hidle le_rfl) (width_dvd hidle) (j := n) hn (val n) (fl n)
  rw [Nat.mod_eq_of_lt hlt] at hput
  rw [lanesBelow_succ, if_pos hon, flagsBelow_succ, if_pos hon]
  exact hput

/-- A vector atomic in the scratchpad, on lines of its owner (R128). -/
theorem course_atomic (hidle : Idle s) (hq : Committed s q (s.trying s.cur len (.mem m) k 0))
    (hpad : PadElements s k (2 ^ s.cur.csew) s.cur.vl (s.eaAt m)) (hkind : m.kind = .amo op)
    (howned : ∀ j, s.cur.writes k j = true → tfind s.spadOwner (spadKey (coreOf s.hart) (s.padAt m j) / 64) = some s.cur.owner)
    (happart : ∀ a b, s.cur.writes k a = true → s.cur.writes k b = true → a < b →
      s.padAt m a + 2 ^ s.cur.csew ≤ s.padAt m b ∨ s.padAt m b + 2 ^ s.cur.csew ≤ s.padAt m a) :
    Course s q len m k s.cur.vl (s.padElem m) (Swapping s m k op) := by
  have hwrites : ∀ j, s.swapped m k op j ≠ none → s.cur.writes k j = true := fun j hj => by
    by_contra hc
    exact hj (if_neg hc)
  have hline : ∀ j, s.cur.writes k j = true → InLine (2 ^ s.cur.csew) (s.padAt m j) := fun j hj =>
    padElements_inLine hidle hpad (lt_of_writes hj) hj
  refine .of_pad hidle hq hpad.guard
    (fun {n u v w} hb h => ⟨h.results, h.memory.carry hb, h.owned.carry hb, padStored_carry hb h.stored, by
      obtain ⟨T, K, D, rfl⟩ := hb
      exact h.full⟩)
    (fun {n u w} h => by
      rw [h.results.1]
      rfl)
    (fun ha h => h.skip ha) (fun {n u w} hr h hn ha e he => ?_) fun _ _ _ _ _ _ _ _ hload => ?_
  · obtain ⟨ev, e', hcmd, hthr⟩ := hr.thread
    obtain ⟨hpos, hin, htop⟩ := hline n ha
    have howner : (s.running len w ev e').owner = s.cur.owner := by rw [State.running, h.results.1]; rfl
    have hbyte : ∀ a, s.padAt m n ≤ a → a < s.padAt m n + 2 ^ s.cur.csew →
        u.spadByte s.cur.owner (coreOf s.hart) a = s.spadByte s.cur.owner (coreOf s.hart) a := fun a h1 h2 => by
      refine spadByte_ahead h.stored (by omega) ?_ fun j hj hp hc => ?_
      · rw [(spadKey_line (by omega) (by omega)).mpr ⟨rfl, (by omega : a / 64 = s.padAt m n / 64)⟩]
        exact howned n ha
      · have := happart j n (hwrites j hp) ha hj
        omega
    have hread : leNat (u.spadRead s.cur.owner (coreOf s.hart) (s.padAt m n) (2 ^ s.cur.csew)) = s.padOld m n := by
      rw [State.padOld, ← leNat_spadRead, State.spadRead, State.spadRead]
      exact congrArg leNat (bytesAt_congr fun i hi => hbyte _ (by omega) (by omega))
    have hnow : (s.running len w ev e').vGet s.cur.cnreg m.d (2 ^ s.cur.csew) n = s.operand m n := by
      have hget := h.results.2.1 n hn
      rw [lanesBelow_self] at hget
      exact hget
    have hcmp : (s.running len w ev e').vGet s.cur.cnreg (m.d + 1) (2 ^ s.cur.csew) n =
        s.cur.vGet s.cur.cnreg (m.d + 1) (2 ^ s.cur.csew) n :=
      h.results.vGet_of_ne (banked_before hidle le_rfl) (by omega) (hn.trans_le hidle.banked.vl)
    have hops := amoOps_apply hkind he hnow hcmp
    have hthr' : (match (s.atomic m op n (s.padOld m n)).1 with
          | some y => u.spadWrite s.cur.owner (coreOf s.hart) (s.padAt m n) (natLe (2 ^ s.cur.csew) y)
          | none => u).thr s.hart = s.running len w ev e' := by
      split
      · rw [thr_spadWrite, hthr]
      · exact hthr
    have hrun : u.vElem s.hart (coreOf s.hart) e m (s.padElem m n) =
        (match (s.atomic m op n (s.padOld m n)).1 with
          | some y => u.spadWrite s.cur.owner (coreOf s.hart) (s.padAt m n) (natLe (2 ^ s.cur.csew) y)
          | none => u).setThr s.hart (s.running len ((w.vPut s.cur.cnreg m.d (2 ^ s.cur.csew) n (s.padOld m n)).raise
            (s.atomic m op n (s.padOld m n)).2) ev e') := by
      rw [State.vElem, if_neg (show ¬ (s.padElem m n).far = true from Bool.false_ne_true), hkind]
      dsimp only
      rw [hthr, howner, show (s.padElem m n).at' = .spad (s.padAt m n) from rfl, show (s.padElem m n).i = n from rfl,
        show e.sew = s.cur.csew by rw [he]; rfl, amoAt_spad, hread, hops]
      dsimp only
      rw [vTake_amo (w := w) (ev := ev) (e' := e') hkind he hthr', Nat.mod_eq_of_lt (show s.padOld m n < _ from spadValue_lt _ _ _),
        show (s.padElem m n).i = n from rfl, hops]
    rw [hrun]
    have hlanes := h.results.swap hidle hn ha (spadValue_lt _ _ _)
    cases hnew : (s.atomic m op n (s.padOld m n)).1 with
    | none =>
      have hnone : s.swapped m k op n = none := (if_pos ha).trans hnew
      exact ⟨_, hr.setThr hcmd, hlanes, h.memory, h.owned.skip hnone, padStored_skip h.stored hnone, h.full⟩
    | some y =>
      have hsome : s.swapped m k op n = some y := (if_pos ha).trans hnew
      have htag : tfind u.spadOwner (spadKey (coreOf s.hart) (s.padAt m n) / 64) = some s.cur.owner := by
        obtain ⟨h1, h2⟩ := h.owned (coreOf s.hart) (s.padAt m n) (by omega)
        by_cases hr : Reaches n (s.padAt m) (s.swapped m k op) (s.padAt m n)
        · exact h1 rfl hr
        · exact (h2 fun hc => hr hc.2).trans (howned n ha)
      exact ⟨_, (hr.spadWrite _ _ _ _).setThr hcmd, hlanes, h.memory.spadWrite _ _ _ _, h.owned.step hsome ⟨hpos, hin, htop⟩,
        padStored_step h.stored h.owned hsome fun j _ hj => hline j (hwrites j hj),
        (spadWrite_owned _ (by rw [natLe_length]; exact hin) (by rw [natLe_length]; exact htop) htag).trans h.full⟩
  · rw [hkind] at hload
    exact absurd hload nofun

end

end Sys2Proof.Machine
end

section
/-! VLDFF at an element that fails (R357) -/

namespace Sys2Proof.Machine

section
variable {s q : State} {len k f : Nat} {m : VMem}

/-- A probe ends at an element of the window that fails. -/
theorem probe_fails {u : State} {h c i : Nat} {e : VEntry} {x : XErr} (held pages : List (Nat × Nat)) (acc : List VElem) (r : Nat)
    (htodo : (u.thr h).todo e i = true) (hs : (u.thr h).vSound = true) (hwin : inWindow ((u.thr h).eaOf e.nreg m i) = true)
    (hcheck : u.vCheck c (u.thr h).owner m e.sew ((u.thr h).eaOf e.nreg m i) i = .err u x) : u.probe h c e m i (r + 1) held pages acc =
      { s := u, stop := i, elems := acc.reverse, pages := pages, fail := some (i, (u.thr h).eaOf e.nreg m i, x), miss := false } := by
  rw [State.probe]
  dsimp only
  rw [htodo, if_neg (by simp), no_bad_index hs, if_neg Bool.false_ne_true, hcheck]
  dsimp only
  rw [paged, hwin, if_neg (by simp)]

/-- VLDFF loads the elements before the first that fails above its lowest, and ends VL there. -/
theorem vRun_first (hidle : Idle s) (htravel : s.travel = false) (hk : k < 8) (hq : Committed s q (s.trying s.cur len (.mem m) k 0))
    {b : Nat} (hpad : PadElements s k (2 ^ s.cur.csew) f (s.eaAt m)) (hkind : m.kind = .load) (hfe : m.fe = 0) (hshaft : m.shaft = false)
    (hfirst : m.first = true) (hbf : b < f) (hb : s.cur.writes k b = true) (hf : s.cur.writes k f = true)
    (hfail : (s.eaAt m f % 2 ^ s.cur.csew ≠ 0 ∧ 0x00FFFF0000000000 ≤ s.eaAt m f ∧ s.eaAt m f < 0x00FFFF0000000000 + 2 ^ 24) ∨
      (0x00FFFF0000000000 + s.width (coreOf s.hart) * 2 ^ 22 ≤ s.eaAt m f ∧ s.eaAt m f < 0x00FFFF0000000000 + 2 ^ 24)) : ∃ u w e,
      (s.unmasked q len m k).vRun s.hart (coreOf s.hart) m (s.begun (.mem m) k 0) (2 * s.cur.vl + 2) = .on u e ∧ Runs s q u len w ∧
      Loading s m k f f u w ∧ e.Issues s m k := by
  have hfvl := lt_of_writes hf
  have hvl : ((s.unmasked q len m k).thr s.hart).vl = s.cur.vl := (runs_unmasked hq).vl
  have hthr := thr_unmasked s q len m k
  have hwidth := width_unmasked (len := len) (k := k) (m := m) hq (coreOf s.hart)
  have htodo := fun j (hj : j < s.cur.vl) => todo_unmasked (q := q) (len := len) (m := m) hk hj
  have hacts : ∀ j, j < s.cur.vl → ((s.unmasked q len m k).thr s.hart).active (s.begun (.mem m) k 0).k j = s.cur.writes k j := fun j hj => by
    rw [hthr, writes_of_lt hj]
    exact rk_noKsel s.cur hk j
  obtain ⟨hwin, x, hcheck, hcode⟩ := vCheck_outside (u := s.unmasked q len m k) (c := coreOf s.hart) (m := m) (owner := s.cur.owner)
    (sew := s.cur.csew) (va := s.eaAt m f) (by rw [hwidth]; exact hfail) f
  obtain ⟨i0, hi0, hle, hact, hbefore⟩ := firstUp_of (lt_of_writes hb) hb
  have hprobe := probe_pad (u := s.unmasked q len m k) (h := s.hart) (c := coreOf s.hart) (e := s.begun (.mem m) k 0) (m := m)
    (el := s.padElem m) (((s.unmasked q len m k).thr s.hart).pinned (s.cur.nextCmd 0)) [] (s.cur.vl - f) htodo
    (by rw [hthr]; exact hidle.sound) (fun j => ⟨rfl, by rw [hthr]; rfl⟩) (f - i0) i0 [] (by omega)
    (fun j _ hj ha => ⟨_, rfl, vCheck_pad hshaft (by rw [hwidth]; exact hpad.gang) (hpad.aligned j (by omega) ha)
      (by rw [hwidth]; exact hpad.inside j (by omega) ha) j⟩)
  rw [show f - i0 + (s.cur.vl - f) = s.cur.vl - i0 by omega, show i0 + (f - i0) = f by omega, List.append_nil,
    show s.cur.vl - f = s.cur.vl - f - 1 + 1 by omega,
    probe_fails _ _ _ _ ((htodo f hfvl).trans hf) (by rw [hthr]; exact hidle.sound) (by rw [hthr]; exact hwin) (by rw [hthr]; exact hcheck),
    List.reverse_reverse] at hprobe
  have hne : elemsFrom (s.cur.writes k) (s.padElem m) i0 f ≠ [] :=
    List.ne_nil_of_mem (mem_elemsFrom_of le_rfl (by omega) hact)
  have hlowest : ((s.unmasked q len m k).thr s.hart).lowest (s.begun (.mem m) k 0) ≠ some f := fun hlow => by
    rw [Thread.lowest, hvl] at hlow
    obtain ⟨-, -, -, hbelow⟩ := firstUp_some hlow
    have hno := hbelow b (Nat.zero_le b) hbf
    rw [hacts b (by omega), hb] at hno
    exact absurd hno.symm Bool.false_ne_true
  have hbegin := vRun_begins (u := s.unmasked q len m k) (c := coreOf s.hart) (e := s.begun (.mem m) k 0) (stop := f)
    (p := { s := s.unmasked q len m k, stop := f, elems := elemsFrom (s.cur.writes k) (s.padElem m) i0 f, pages := []
            fail := some (f, ((s.unmasked q len m k).thr s.hart).eaOf s.cur.cnreg m f, x), miss := false })
    (fuel := 2 * s.cur.vl + 1) rfl rfl rfl rfl (by rw [hvl, firstUp_unmasked hk]; exact hi0)
          (by rw [hvl]; exact hprobe) rfl hne (elemsFrom_index fun _ => rfl)
    (.inr ⟨_, x, rfl, hcode, hfirst, hlowest, rfl⟩)
  have hends : (s.unmasked q len m k).setThr s.hart { (s.unmasked q len m k).thr s.hart with vl := f } =
      (s.unmasked q len m k).setThr s.hart (s.running len (s.before f) s.cur.event (s.begun (.mem m) k 0)) := by
    rw [hthr]
    rfl
  have hcourse := course_load hidle hq hfvl.le hpad hkind (by omega) (by omega)
  have hstart : Loading s m k f 0 ((s.unmasked q len m k).setThr s.hart (s.running len (s.before f) s.cur.event (s.begun (.mem m) k 0)))
      (s.before f) := by
    obtain ⟨-, hmem, hbytes, hfull⟩ := Loading.start (K := k) hq
    refine ⟨?_, hmem, hbytes, hfull⟩
    rw [lanesBelow_zero]
    exact Thread.Lanes.refl _ _ _
  have hready : Loading s m k f i0 _ (s.before f) := hcourse.skips (Nat.zero_le _) hstart fun j _ hj => hbefore j hj
  obtain ⟨u, w, e, hrun, hdone⟩ := hcourse.run_from hidle htravel hq [] ((runs_unmasked hq).setThr (w' := s.before f) (ev := s.cur.event)
    (e := s.begun (.mem m) k 0) rfl) hready (by omega) le_rfl hfvl.le
  rw [hends] at hbegin
  exact ⟨u, w, e, hbegin.trans hrun, hdone⟩

end

end Sys2Proof.Machine
end

section
/-! Translations beside a change of threads (R81, R173 to R178) -/

namespace Sys2Proof.Machine

section
variable {s q u : State} {o va : Nat}

/-! A walk reads tables and memory -/

theorem walkFrom_beside (hb : Beside s q) (lvl a up : Nat) : q.walkFrom o va lvl a up = s.walkFrom o va lvl a up := by
  obtain ⟨T, K, D, rfl⟩ := hb
  have hread : ∀ a n, ({ s with threads := T, tasks := K, cores := D } : State).dramRead o a n = s.dramRead o a n := fun _ _ => rfl
  induction lvl generalizing a up with
  | zero => rfl
  | succ l ih => rw [State.walkFrom, State.walkFrom, hread]; simp only [ih]

theorem walk_beside (hb : Beside s q) : q.walk o va = s.walk o va := by
  have hfrom : q.walkFrom o va = s.walkFrom o va := funext fun l => funext fun a => funext fun up => walkFrom_beside hb l a up
  obtain ⟨T, K, D, rfl⟩ := hb
  rw [State.walk, State.walk, hfrom]
  rfl

theorem walkReads_beside (hb : Beside s q) (lvl a : Nat) : q.walkReads o va lvl a = s.walkReads o va lvl a := by
  obtain ⟨T, K, D, rfl⟩ := hb
  have hread : ∀ a n, ({ s with threads := T, tasks := K, cores := D } : State).dramRead o a n = s.dramRead o a n := fun _ _ => rfl
  induction lvl generalizing a with
  | zero => rfl
  | succ l ih => rw [State.walkReads, State.walkReads, hread]; simp only [ih]

theorem walkPath_beside (hb : Beside s q) : q.walkPath o va = s.walkPath o va := by
  have hreads : q.walkReads o va = s.walkReads o va := funext fun l => funext fun a => walkReads_beside hb l a
  obtain ⟨T, K, D, rfl⟩ := hb
  rw [State.walkPath, State.walkPath, hreads]
  rfl

/-- A walk in lockstep that ends, ends beside a change of threads too. -/
theorem walkNow_beside (hb : Beside s q) (hlock : s.lockstep = true) {c : Option Nat} {lvl leaf : Nat} (h : s.walkNow c o va = .ok u lvl leaf) :
    ∃ v, q.walkNow c o va = .ok v lvl leaf := by
  have hclosed : q.closed = s.closed := by obtain ⟨T, K, D, rfl⟩ := hb; rfl
  have hqlock : q.lockstep = true := by obtain ⟨T, K, D, rfl⟩ := hb; exact hlock
  unfold State.walkNow at h ⊢
  dsimp only at h ⊢
  rw [hclosed, walkPath_beside hb, walk_beside hb, hqlock]
  rw [hlock] at h
  simp only [Bool.not_true, Bool.false_and, Bool.or_false] at h ⊢
  split at h
  · exact absurd h nofun
  · next hc =>
    rw [if_neg hc]
    cases hw : s.walk o va with
    | error e => rw [hw] at h; exact absurd h nofun
    | ok r =>
      rw [hw] at h
      obtain ⟨l, f⟩ := r
      dsimp only at h ⊢
      rw [LeafRes.ok.injEq] at h
      obtain ⟨-, rfl, rfl⟩ := h
      exact ⟨_, rfl⟩

theorem leafOf_beside (hb : Beside s q) {c : Nat} (htlb : (q.core c).tlb = (s.core c).tlb) (hlock : s.lockstep = true) {lvl leaf : Nat}
    (h : s.leafOf (some c) o va = .ok u lvl leaf) : ∃ v, q.leafOf (some c) o va = .ok v lvl leaf := by
  have hfirst : q.firstTlb (some c) = s.firstTlb (some c) := htlb
  have hover : ∀ e, q.overtaken (some c) e = s.overtaken (some c) e := by obtain ⟨T, K, D, rfl⟩ := hb; exact fun _ => rfl
  have hpillar : q.pillar = s.pillar := by obtain ⟨T, K, D, rfl⟩ := hb; rfl
  have hqlock : q.lockstep = true := by obtain ⟨T, K, D, rfl⟩ := hb; exact hlock
  unfold State.leafOf at h ⊢
  dsimp only at h ⊢
  rw [hfirst, hpillar, hqlock]
  rw [hlock] at h
  cases hf : (s.firstTlb (some c)).find o va with
  | some e =>
    rw [hf] at h
    dsimp only at h ⊢
    rw [LeafRes.ok.injEq] at h
    obtain ⟨-, rfl, rfl⟩ := h
    exact ⟨_, rfl⟩
  | none =>
    rw [hf] at h
    dsimp only at h ⊢
    cases hp : (s.pillar (State.pathPillar (some c))).tlb.find o va with
    | some e =>
      rw [hp] at h
      dsimp only at h ⊢
      rw [hover]
      by_cases hshot : s.overtaken (some c) e = true
      · rw [if_pos hshot] at h
        exact absurd h nofun
      · rw [if_neg hshot, LeafRes.ok.injEq] at h
        obtain ⟨-, rfl, rfl⟩ := h
        rw [if_neg hshot]
        exact ⟨_, rfl⟩
    | none =>
      rw [hp] at h
      dsimp only at h ⊢
      rw [if_pos rfl] at h ⊢
      exact walkNow_beside hb hlock h

/-! What a lookup leaves -/

theorem around_walkTouch (l : List Nat) : ∀ (s : State), Around s (s.walkTouch o l) := by
  induction l with
  | nil => exact around_self
  | cons a r ih =>
    intro s
    have hone : Around s (s.l2Touch a o false) := by
      unfold State.l2Touch
      split
      · exact around_stores s s.mem s.keys _ s.spad s.spadOwner s.spadFull
      · exact around_self s
    exact hone.trans (ih _)

theorem around_setFirstTlb (s : State) (c : Nat) (t : Tlb) : Around s (s.setFirstTlb (some c) t) := around_setCore s c (s.core c).l1d t

theorem around_setPillar (s : State) (p : Nat) (k : Pillar) : Around s (s.setPillar p k) :=
  around_stores s s.mem s.keys _ s.spad s.spadOwner s.spadFull

theorem leafOf_around {c lvl leaf : Nat} (h : s.leafOf (some c) o va = .ok u lvl leaf) : Around s u := by
  unfold State.leafOf at h
  dsimp only at h
  split at h
  · cases h
    exact around_setFirstTlb _ _ _
  · split at h
    · split at h
      · exact absurd h nofun
      · cases h
        exact (around_setPillar _ _ _).trans (around_setFirstTlb _ _ _)
    · split at h
      · exact (missWalk_ok h).elim
      · unfold State.walkNow at h
        dsimp only at h
        split at h
        · exact absurd h nofun
        · split at h
          · exact absurd h nofun
          · cases h
            exact ((around_walkTouch _ _).trans (around_setPillar _ _ _)).trans (around_setFirstTlb _ _ _)

/-- An access outside the window that a translation admits. -/
theorem translate_paged {c n pa t pac : Nat} {k : Acc} (hwin : inWindow va = false)
    (h : s.translate (some c) o k va n = .ok u (.phys pa t pac)) :
    canonical va = true ∧ ∃ lvl leaf, s.leafOf (some c) o va = .ok u lvl leaf ∧ ∀ v w : State, v.leafOf (some c) o va = .ok w lvl leaf →
      w.pkgNum = u.pkgNum → (w.ownerLive o = true → u.ownerLive o = true) → v.translate (some c) o k va n = .ok w (.phys pa t pac) := by
  unfold State.translate at h ⊢
  rw [hwin, if_neg Bool.false_ne_true] at h
  by_cases hcan : canonical va = true
  · rw [hcan] at h
    refine ⟨hcan, ?_⟩
    rw [if_neg (by simp)] at h
    cases hl : s.leafOf (some c) o va with
    | err x e => rw [hl] at h; exact absurd h nofun
    | miss x => rw [hl] at h; exact absurd h nofun
    | ok x lvl leaf =>
      rw [hl] at h
      dsimp only at h
      by_cases hperm : (!permitted k leaf) = true
      · rw [if_pos hperm] at h
        exact absurd h nofun
      · rw [if_neg hperm] at h
        generalize hr : (!admits k (leafType leaf) _ || _) = refused at h
        cases refused with
        | true => exact absurd h nofun
        | false =>
          rw [if_neg Bool.false_ne_true] at h
          by_cases hseal : (needWr k && leafSeal leaf && x.ownerLive o) = true
          · rw [if_pos hseal] at h
            exact absurd h nofun
          · rw [if_neg hseal, XRes.ok.injEq] at h
            obtain ⟨rfl, hplace⟩ := h
            refine ⟨lvl, leaf, rfl, fun v w hv hpkg hlive => ?_⟩
            rw [hwin, if_neg Bool.false_ne_true, hcan, if_neg (by simp), hv]
            dsimp only
            rw [if_neg hperm, hpkg, hr, if_neg Bool.false_ne_true, hplace, if_neg]
            intro hc
            rw [Bool.and_eq_true] at hc
            exact hseal (by rw [Bool.and_eq_true]; exact ⟨hc.1, hlive hc.2⟩)
  · rw [Bool.eq_false_of_not_eq_true hcan, if_pos (by rfl)] at h
    exact absurd h nofun

/-- A translation in lockstep that ends, ends beside a change of threads that makes no owner live. -/
theorem translate_beside (hb : Beside s q) {c n pa t pac : Nat} {k : Acc} (htlb : (q.core c).tlb = (s.core c).tlb) (hlock : s.lockstep = true)
    (hlive : q.ownerLive o = true → s.ownerLive o = true) (hwin : inWindow va = false)
    (h : s.translate (some c) o k va n = .ok u (.phys pa t pac)) :
    canonical va = true ∧ ∃ v, q.translate (some c) o k va n = .ok v (.phys pa t pac) ∧ Around q v := by
  obtain ⟨hcan, lvl, leaf, hl, hsame⟩ := translate_paged hwin h
  obtain ⟨v, hv⟩ := leafOf_beside hb htlb hlock hl
  obtain ⟨⟨_, _, _, hu⟩, -, -⟩ := leafOf_tlbOnly hl
  obtain ⟨⟨_, _, _, hw⟩, -, -⟩ := leafOf_tlbOnly hv
  have hpkg : v.pkgNum = u.pkgNum := by
    rw [hu, hw]
    obtain ⟨T, K, D, rfl⟩ := hb
    rfl
  refine ⟨hcan, v, hsame q v hv hpkg fun ho => ?_, leafOf_around hv⟩
  rw [hw] at ho
  rw [hu]
  exact hlive ho

end

end Sys2Proof.Machine
end

section
/-! An access whose one element lies in the near or main tier (R179, R353 to R355) -/

namespace Sys2Proof.Machine

section
variable {s q u v : State} {len k n pa mt pac : Nat} {m : VMem} {w : Thread} {e : VEntry}

/-- What vector memory accesses leave alone is as in `s`. -/
theorem Runs.framed (hq : Committed s q (s.trying s.cur len (.mem m) k 0)) (hr : Runs s q u len w) : s.framed u = s := by
  have h2 := congrArg s.framed hr.around.rest
  have h3 := congrArg s.framed hq.rest
  exact h2.trans h3

/-- The element `j` of an access at one physical address. -/
def State.dramElem (s : State) (m : VMem) (pa mt pac j : Nat) : VElem := { i := j, ea := s.eaAt m j, at' := .phys pa mt pac }

/-- The scratchpads are as they were. -/
def SamePad (s u : State) : Prop := u.spad = s.spad ∧ u.spadOwner = s.spadOwner ∧ u.spadFull = s.spadFull

theorem SamePad.carry (hb : Beside u v) (h : SamePad s u) : SamePad s v := by
  obtain ⟨T, K, D, rfl⟩ := hb
  exact h

/-- Before the one element has performed. -/
structure Unperformed (s : State) (pa : Nat) (u : State) (w : Thread) : Prop where
  results : w = s.cur.noKsel
  mem : u.mem = s.mem
  keys : u.keys = s.keys
  pad : SamePad s u
  shut : u.shutAt pa = false

theorem Unperformed.carry (hb : Beside u v) (h : Unperformed s pa u w) : Unperformed s pa v w := by
  obtain ⟨T, K, D, rfl⟩ := hb
  exact ⟨h.results, h.mem, h.keys, h.pad, h.shut⟩

/-- Before the one element, `n`, or after it. -/
def AtOne (s : State) (pa n : Nat) (post : State → Thread → Prop) (i : Nat) (u : State) (w : Thread) : Prop :=
  (i ≤ n ∧ Unperformed s pa u w) ∨ (n < i ∧ post u w)

theorem AtOne.ahead {post : State → Thread → Prop} {i : Nat} (h : AtOne s pa n post i u w) (hi : i ≤ n) : Unperformed s pa u w :=
  h.elim And.right fun hc => absurd hc.1 (by omega)

/-- The facts of an access whose one element lies in DRAM (R353, R354). -/
structure OneInDram (s : State) (m : VMem) (k n pa mt pac : Nat) : Prop where
  one : ∀ j, s.cur.writes k j = true ↔ j = n
  dram : isDram pa = true
  offline : s.offlineAt pa = false
  bad : s.badAt pa (2 ^ s.cur.csew) = none
  guard : s.guarded (coreOf s.hart) none (s.eaAt m n) (2 ^ s.cur.csew) = false
  homed : m.acquires = true → s.homedInside (coreOf s.hart) m.scope (.phys pa mt pac) = true
  classes : ∀ op, m.kind = .amo op → pacHas pac op.cls = true

theorem far_of_dram (h : isDram pa = true) : (Place.phys pa mt pac).far = false := by
  rw [isDram] at h
  rw [Place.far]
  cases hl : locOf pa <;> simp [hl] at h ⊢

/-- The course of an access with one element. -/
theorem Course.of_one {post : State → Thread → Prop} (hidle : Idle s) (hq : Committed s q (s.trying s.cur len (.mem m) k 0))
    (h : OneInDram s m k n pa mt pac) (hcarry : ∀ {u v w}, Beside u v → post u w → post v w)
    (hresults : ∀ {u w}, post u w → w = { s.cur.noKsel with v := w.v, wrote := w.wrote, fstat := w.fstat, vl := s.cur.vl })
    (hstep : ∀ {u w}, Runs s q u len w → Unperformed s pa u w → ∀ e : VEntry, e.Issues s m k →
      ∃ w', Runs s q (u.vElem s.hart (coreOf s.hart) e m (s.dramElem m pa mt pac n)) len w' ∧
        post (u.vElem s.hart (coreOf s.hart) e m (s.dramElem m pa mt pac n)) w') :
    Course s q len m k s.cur.vl (s.dramElem m pa mt pac) (AtOne s pa n post) where
  index _ := rfl
  near _ _ := far_of_dram h.dram
  carry hb := Or.imp (And.imp_right (Unperformed.carry hb)) (And.imp_right (hcarry hb))
  results hC := by
    rcases hC with ⟨-, hC⟩ | ⟨-, hC⟩
    · rw [hC.results]
      rfl
    · exact hresults hC
  skip := fun {i u w} ha hC => by
    have hne : i ≠ n := fun he => by
      rw [(h.one i).mpr he] at ha
      exact Bool.false_ne_true ha.symm
    exact hC.imp (And.imp_left fun hi => by omega) (And.imp_left fun hi => by omega)
  step := fun {i u w} hr hC _ ha e he => by
    obtain rfl := (h.one i).mp ha
    obtain ⟨w', hr', hpost⟩ := hstep hr (hC.ahead le_rfl) e he
    exact ⟨w', hr', .inr ⟨Nat.lt_succ_self _, hpost⟩⟩
  passes := fun {i u w} j hr _ _ ha => by
    obtain rfl := (h.one j).mp ha
    have hhomed : u.homedInside (coreOf s.hart) m.scope (.phys pa mt pac) = s.homedInside (coreOf s.hart) m.scope (.phys pa mt pac) :=
      (congrArg (State.homedInside · (coreOf s.hart) m.scope (.phys pa mt pac)) (hr.framed hq)).trans rfl
    rw [State.vSkips, show (s.dramElem m pa mt pac j).at' = .phys pa mt pac from rfl, hhomed]
    by_cases hacq : m.acquires = true
    · rw [h.homed hacq, Bool.not_true, Bool.and_false, Bool.false_or]
      cases hkind : m.kind with
      | amo op => exact congrArg not (h.classes op hkind)
      | _ => rfl
    · rw [Bool.eq_false_of_not_eq_true hacq, Bool.false_and, Bool.false_or]
      cases hkind : m.kind with
      | amo op => exact congrArg not (h.classes op hkind)
      | _ => rfl
  ready := fun {i u w} j hr hC hij _ ha e he => by
    obtain rfl := (h.one j).mp ha
    have hoff : u.offlineAt pa = s.offlineAt pa := (congrArg (State.offlineAt · pa) (hr.framed hq)).trans rfl
    rw [State.vWaits, show e.sew = s.cur.csew by rw [he]; rfl]
    change (u.guarded (coreOf s.hart) none (s.eaAt m j) (2 ^ s.cur.csew) || u.offlineAt pa) = false
    rw [hr.guarded hidle hq (by rw [(hC.ahead hij).results]; rfl), h.guard, hoff, h.offline]
    rfl
  sound := fun {i u w} j hr hC hij ha e he => by
    obtain rfl := (h.one j).mp ha
    have hsound : (u.thr s.hart).vSound = true := by
      obtain ⟨ev, e', -, hthr⟩ := hr.thread
      rw [hthr, State.running, (hC.ahead hij).results]
      exact hidle.sound
    have hvbad : ∀ r i, (u.thr s.hart).vBad e.nreg r (2 ^ e.sew) i = false := fun r i => by
      rw [Thread.vBad, hsound]
      rfl
    have hbad : u.badAt pa (2 ^ e.sew) = none := by
      rw [show e.sew = s.cur.csew by rw [he]; rfl]
      exact (congrArg (State.badAt · pa (2 ^ s.cur.csew)) (hr.framed hq)).trans h.bad
    rw [State.vError]
    cases m.kind <;> simp [hvbad, hbad, State.dramElem]
  unshut := fun {i u w} j hr hC hij ha pa' t p hat => by
    obtain rfl := (h.one j).mp ha
    obtain ⟨rfl, -, -⟩ : pa = pa' ∧ mt = t ∧ pac = p := by
      rw [← Place.phys.injEq]
      exact hat
    exact (hC.ahead hij).shut

end

end Sys2Proof.Machine
end

section
/-! The probe of one element in the near or main tier (R179, R353) -/

namespace Sys2Proof.Machine

theorem Committed.beside {s q : State} {t : Thread} (hq : Committed s q t) : Beside s q :=
  ⟨q.threads, q.tasks, q.cores, by conv_rhs => rw [← hq.rest]⟩

section
variable {s q : State} {len k n pa mt pac : Nat} {m : VMem}

theorem beside_unmasked (hq : Committed s q (s.trying s.cur len (.mem m) k 0)) : Beside s (s.unmasked q len m k) :=
  hq.beside.trans (beside_setThr _ _ _)

/-- The translation of an element of a thread whose access has begun. -/
theorem translate_unmasked (hidle : Idle s) (hq : Committed s q (s.trying s.cur len (.mem m) k 0)) {x : State} {a : Acc} {va W : Nat}
    (hwin : inWindow va = false) (h : s.translate (some (coreOf s.hart)) s.cur.owner a va W = .ok x (.phys pa mt pac)) :
    canonical va = true ∧ ∃ v, (s.unmasked q len m k).translate (some (coreOf s.hart)) s.cur.owner a va W = .ok v (.phys pa mt pac) ∧
      Around (s.unmasked q len m k) v := by
  refine translate_beside (beside_unmasked hq) ?_ hidle.lockstep (fun ho => hq.live _ (ownerLive_setThr ?_ ?_ ho)) hwin h
  · have hcore := congrArg (·.tlb) (hq.cores (coreOf s.hart))
    exact hcore
  · rw [hq.thread]
    rfl
  · rw [hq.thread]
    rfl

/-- The check of an element outside the window whose translation ends (R353). -/
theorem vCheck_paged {u v : State} {c owner sew va i : Nat} (hwin : inWindow va = false) (hcan : canonical va = true) (hal : va % 2 ^ sew = 0)
    (htrans : u.translate (some c) owner m.acc va (2 ^ sew) = .ok v (.phys pa mt pac)) (hfe : m.fe = 0)
    (hshaft : m.shaft = true → (v.bankOf pa).1 = c ∧ (v.bankOf pa).2.1 = i * 2 ^ sew / 16 % (64 * u.width c)) :
    u.vCheck c owner m sew va i = .ok v (.phys pa mt pac) := by
  rw [State.vCheck, hwin, if_neg Bool.false_ne_true, hcan, if_neg (by simp), if_neg (by rw [hal]; exact not_not_intro rfl), htrans]
  dsimp only
  rw [if_neg (by rw [hfe]; exact not_not_intro rfl), if_neg]
  rw [Bool.and_eq_true]
  rintro ⟨hs, hbank⟩
  obtain ⟨h1, h2⟩ := hshaft hs
  rw [decide_eq_true h1, decide_eq_true h2] at hbank
  exact Bool.false_ne_true hbank

/-- A page fits where none is pinned. -/
theorem pageFits_none (p : Nat × Nat) : pageFits [] [] p = true := by
  rw [pageFits]
  simp

/-- The first element of a probe that lies in a page. -/
theorem probe_paged {u v : State} {h c i r : Nat} {e : VEntry} (htodo : (u.thr h).todo e i = true) (hs : (u.thr h).vSound = true)
    (hcheck : u.vCheck c (u.thr h).owner m e.sew ((u.thr h).eaOf e.nreg m i) i = .ok v (.phys pa mt pac)) :
    ∃ page, u.probe h c e m i (r + 1) [] [] [] =
      v.probe h c e m (i + 1) r [] [page] [{ i := i, ea := (u.thr h).eaOf e.nreg m i, at' := .phys pa mt pac }] := by
  rw [State.probe]
  dsimp only
  rw [htodo, if_neg (by simp), no_bad_index hs, if_neg Bool.false_ne_true, hcheck]
  dsimp only
  rw [if_pos (pageFits_none _), List.any_nil, if_neg Bool.false_ne_true]
  exact ⟨_, rfl⟩

theorem elemsFrom_none {acts : Nat → Bool} {el : Nat → VElem} {i N : Nat} (h : ∀ j, i ≤ j → acts j = false) : elemsFrom acts el i N = [] := by
  rw [elemsFrom, List.map_eq_nil_iff, List.filter_eq_nil_iff]
  intro j hj
  rw [List.mem_range'_1] at hj
  rw [h j hj.1]
  exact Bool.false_ne_true

/-- An access with one element in the near or main tier performs it. -/
theorem vRun_one {post : State → Thread → Prop} {x : State} (hidle : Idle s) (htravel : s.travel = false) (hk : k < 8)
    (hq : Committed s q (s.trying s.cur len (.mem m) k 0)) (hone : OneInDram s m k n pa mt pac)
    (hcourse : Course s q len m k s.cur.vl (s.dramElem m pa mt pac) (AtOne s pa n post)) (hal : s.eaAt m n % 2 ^ s.cur.csew = 0)
    (hwin : inWindow (s.eaAt m n) = false)
    (htrans : s.translate (some (coreOf s.hart)) s.cur.owner m.acc (s.eaAt m n) (2 ^ s.cur.csew) = .ok x (.phys pa mt pac))
    (hclosed : s.closed pa = false) (hfe : m.fe = 0)
    (hshaft : m.shaft = true → (s.bankOf pa).1 = coreOf s.hart ∧
      (s.bankOf pa).2.1 = n * 2 ^ s.cur.csew / 16 % (64 * s.width (coreOf s.hart))) : ∃ u w e,
      (s.unmasked q len m k).vRun s.hart (coreOf s.hart) m (s.begun (.mem m) k 0) (2 * s.cur.vl + 2) = .on u e ∧ Runs s q u len w ∧
      post u w ∧ e.Issues s m k := by
  have hact : s.cur.writes k n = true := (hone.one n).mpr rfl
  have hothers : ∀ j, j ≠ n → s.cur.writes k j = false := fun j hj => Bool.eq_false_of_not_eq_true fun hc => hj ((hone.one j).mp hc)
  have hn := lt_of_writes hact
  have hthr := thr_unmasked s q len m k
  have hvl : ((s.unmasked q len m k).thr s.hart).vl = s.cur.vl := (runs_unmasked hq).vl
  have htodo := fun j (hj : j < s.cur.vl) => todo_unmasked (q := q) (len := len) (m := m) hk hj
  have hbeside := beside_unmasked hq
  obtain ⟨hcan, v, hv, haround⟩ := translate_unmasked hidle hq hwin htrans
  have honly := translate_tlbOnly hv
  have hruns : Runs s q v len s.cur.noKsel := (runs_unmasked hq).of_thr haround (honly.thr _)
  have hfirst : firstUp 0 s.cur.vl (((s.unmasked q len m k).thr s.hart).todo (s.begun (.mem m) k 0)) = some n := by
    obtain ⟨i, hi, -, hp, -⟩ := firstUp_of hn hact
    rw [firstUp_unmasked hk, hi, (hone.one i).mp hp]
  have hcheck : (s.unmasked q len m k).vCheck (coreOf s.hart) s.cur.owner m s.cur.csew (s.eaAt m n) n = .ok v (.phys pa mt pac) := by
    have hbank : v.bankOf pa = s.bankOf pa := (congrArg (State.bankOf · pa) (hruns.framed hq)).trans rfl
    refine vCheck_paged hwin hcan hal hv hfe fun hs => ?_
    rw [hbank, width_unmasked hq]
    exact hshaft hs
  obtain ⟨page, hprobe⟩ := probe_paged (u := s.unmasked q len m k) (h := s.hart) (c := coreOf s.hart) (e := s.begun (.mem m) k 0)
    (r := s.cur.vl - (n + 1)) ((htodo n hn).trans hact) (by rw [hthr]; exact hidle.sound) (by rw [hthr]; exact hcheck)
  have hskip := probe_skips (u := v) (h := s.hart) (c := coreOf s.hart) (e := s.begun (.mem m) k 0) (m := m) (acts := s.cur.writes k) [] 0
    (N := s.cur.vl) (fun j hj => by rw [honly.thr]; exact htodo j hj) (s.cur.vl - (n + 1)) (n + 1) [page] [s.dramElem m pa mt pac n] (by omega)
    fun j h1 h2 => hothers j (by omega)
  rw [Nat.add_zero, show n + 1 + (s.cur.vl - (n + 1)) = s.cur.vl by omega, probe_end] at hskip
  have hpinned : ((s.unmasked q len m k).thr s.hart).pinned (s.cur.nextCmd 0) = [] := by
    rw [hthr]
    rfl
  rw [show s.cur.vl - (n + 1) + 1 = s.cur.vl - n by omega, show ((s.unmasked q len m k).thr s.hart).eaOf (s.begun (.mem m) k 0).nreg m n =
    s.eaAt m n by rw [hthr]; rfl] at hprobe
  have hbegin := vRun_begins (u := s.unmasked q len m k) (c := coreOf s.hart) (e := s.begun (.mem m) k 0) (stop := s.cur.vl)
    (p := { s := v, stop := s.cur.vl, elems := [s.dramElem m pa mt pac n], pages := [page], fail := none, miss := false })
    (fuel := 2 * s.cur.vl + 1) rfl rfl rfl rfl (by rw [hvl]; exact hfirst) (by
      rw [hvl, show (s.begun (.mem m) k 0).cmd = s.cur.nextCmd 0 from rfl, hpinned]
      exact hprobe.trans hskip) rfl
    (List.cons_ne_nil _ _) (fun y hy => by rw [List.mem_singleton.mp hy]; exact hn) (.inl ⟨rfl, rfl, rfl⟩)
  have hready : Unperformed s pa v s.cur.noKsel := by
    obtain ⟨hmem, hkeys, -, hspad, howner, hfull, -, -⟩ := honly.stores
    have hshut : v.closed pa = false := by
      rw [honly.closed]
      obtain ⟨T, K, D, hbeq⟩ := hbeside
      rw [hbeq]
      exact hclosed
    rw [State.closed, Bool.or_eq_false_iff] at hshut
    obtain ⟨T, K, D, hbeq⟩ := hbeside
    rw [hbeq] at hmem hkeys hspad howner hfull
    exact ⟨rfl, hmem, hkeys, ⟨hspad, howner, hfull⟩, hshut.1⟩
  have hlist : elemsFrom (s.cur.writes k) (s.dramElem m pa mt pac) n s.cur.vl = [s.dramElem m pa mt pac n] := by
    rw [elemsFrom_step hn, if_pos hact, elemsFrom_none fun j hj => hothers j (by omega)]
  obtain ⟨u, w, e, hrun, hr, hCu, he⟩ := hcourse.run_from hidle htravel hq [page] hruns (n := n) (.inl ⟨le_rfl, hready⟩) hn le_rfl le_rfl
  rw [hlist] at hrun
  exact ⟨u, w, e, hbegin.trans hrun, hr, (hCu.resolve_left fun hc => by omega).2, he⟩

end

end Sys2Proof.Machine
end

section
/-! One element in the near or main tier (R128, R355, R356, R360) -/

namespace Sys2Proof.Machine

/-! Memory and keys alone decide what a write leaves of them -/

section
variable {a b s : State} {o : Nat}

theorem dramPut_congr (hm : a.mem = b.mem) (hk : a.keys = b.keys) (ht : a.keyTag o = b.keyTag o) (pa : Nat) (x : Byte) :
    (a.dramPut o pa x).mem = (b.dramPut o pa x).mem ∧ (a.dramPut o pa x).keys = (b.dramPut o pa x).keys := by
  rw [dramPut_eq, dramPut_eq, State.dropGranule, State.dropGranule, hm, hk, ht]
  exact ⟨rfl, rfl⟩

theorem putBytes_dram_congr (bs : List Byte) : ∀ {a b : State} (pa : Nat), a.mem = b.mem → a.keys = b.keys → a.keyTag o = b.keyTag o →
    (putBytes (fun s i x => s.dramPut o i x) a pa bs).mem = (putBytes (fun s i x => s.dramPut o i x) b pa bs).mem ∧
      (putBytes (fun s i x => s.dramPut o i x) a pa bs).keys = (putBytes (fun s i x => s.dramPut o i x) b pa bs).keys := by
  induction bs with
  | nil => exact fun _ hm hk _ => ⟨hm, hk⟩
  | cons x r ih =>
    intro a b pa hm hk ht
    obtain ⟨hm', hk'⟩ := dramPut_congr hm hk ht pa x
    exact ih (pa + 1) hm' hk' (by rw [keyTag_dramPut, keyTag_dramPut, ht])

theorem dramWrite_congr (hm : a.mem = b.mem) (hk : a.keys = b.keys) (ht : a.keyTag o = b.keyTag o) (pa : Nat) (bs : List Byte) :
    (a.dramWrite o pa bs).mem = (b.dramWrite o pa bs).mem ∧ (a.dramWrite o pa bs).keys = (b.dramWrite o pa bs).keys := by
  obtain ⟨p, hp⟩ := l2TouchAll_eq a pa bs.length o true
  obtain ⟨p', hp'⟩ := l2TouchAll_eq b pa bs.length o true
  rw [State.dramWrite, State.dramWrite, hp, hp']
  exact putBytes_dram_congr bs pa hm hk ht

theorem putBytes_dram_frame (bs : List Byte) : ∀ (s : State) (pa : Nat), ∃ M K,
    putBytes (fun s i x => s.dramPut o i x) s pa bs = { s with mem := M, keys := K } := by
  induction bs with
  | nil => exact fun s _ => ⟨s.mem, s.keys, rfl⟩
  | cons x r ih =>
    intro s pa
    obtain ⟨M, K, h⟩ := ih (s.dramPut o pa x) (pa + 1)
    exact ⟨M, K, by rw [putBytes, h, dramPut_eq]⟩

/-- A write of DRAM changes memory, its keys, and the residency in the L2s. -/
theorem dramWrite_frame (s : State) (o pa : Nat) (bs : List Byte) : ∃ M K P,
    s.dramWrite o pa bs = { s with mem := M, keys := K, pillars := P } := by
  obtain ⟨P, hP⟩ := l2TouchAll_eq s pa bs.length o true
  obtain ⟨M, K, h⟩ := putBytes_dram_frame (o := o) bs { s with pillars := P } pa
  exact ⟨M, K, P, by rw [State.dramWrite, hP, h]⟩

theorem l2Touch_frame (s : State) (pa o : Nat) (write : Bool) : ∃ P, s.l2Touch pa o write = { s with pillars := P } := by
  unfold State.l2Touch
  split
  · exact ⟨_, rfl⟩
  · exact ⟨s.pillars, rfl⟩

theorem leNat_dramRead_lt (s : State) (o pa n : Nat) : leNat (s.dramRead o pa n) < 2 ^ (8 * n) := by
  rw [← two_pow_bytes]
  exact (leNat_lt _).trans_eq (by rw [State.dramRead, bytesAt_length])

theorem dramRead_congr (hm : a.mem = b.mem) (hk : a.keys = b.keys) (ht : a.keyTag o = b.keyTag o) (hc : a.tick = b.tick) (pa n : Nat) :
    a.dramRead o pa n = b.dramRead o pa n := by
  rw [State.dramRead, State.dramRead]
  refine bytesAt_congr fun i _ => ?_
  rw [State.dramByte, State.dramByte, hm, hk, ht, hc]

end

section
variable {s q u : State} {len k n pa mt pac : Nat} {m : VMem} {w : Thread} {e : VEntry} {op : AmoOp}

theorem Runs.dramWrite (hr : Runs s q u len w) (o pa : Nat) (bs : List Byte) : Runs s q (u.dramWrite o pa bs) len w := by
  obtain ⟨M, K, P, h⟩ := dramWrite_frame u o pa bs
  rw [h]
  exact hr.of_thr (around_stores u M K P u.spad u.spadOwner u.spadFull) rfl

theorem Runs.l2Touch (hr : Runs s q u len w) (pa o : Nat) (write : Bool) : Runs s q (u.l2Touch pa o write) len w := by
  obtain ⟨P, h⟩ := l2Touch_frame u pa o write
  rw [h]
  exact hr.of_thr (around_stores u u.mem u.keys P u.spad u.spadOwner u.spadFull) rfl

/-- The value in DRAM at a physical address. -/
def State.dramOld (s : State) (pa : Nat) : Nat := leNat (s.dramRead s.cur.owner pa (2 ^ s.cur.csew))

/-- Memory and keys are as after the value `x` has been written in DRAM. -/
def DramStored (s : State) (pa x : Nat) (u : State) : Prop :=
  u.mem = (s.dramWrite s.cur.owner pa (natLe (2 ^ s.cur.csew) x)).mem ∧ u.keys = (s.dramWrite s.cur.owner pa (natLe (2 ^ s.cur.csew) x)).keys

/-- Memory and keys are as they were. -/
def DramKept (s u : State) : Prop := u.mem = s.mem ∧ u.keys = s.keys

theorem Runs.dramRead (hq : Committed s q (s.trying s.cur len (.mem m) k 0)) (hr : Runs s q u len w) (h : Unperformed s pa u w) :
    leNat (u.dramRead s.cur.owner pa (2 ^ s.cur.csew)) = s.dramOld pa := by
  have htag : u.keyTag s.cur.owner = s.keyTag s.cur.owner := (congrArg (State.keyTag · s.cur.owner) (hr.framed hq)).trans rfl
  rw [State.dramOld, dramRead_congr h.mem h.keys htag (hr.clock hq).2]

/-- The element writes DRAM. -/
theorem Unperformed.dramWrite (hq : Committed s q (s.trying s.cur len (.mem m) k 0)) (hr : Runs s q u len w) (h : Unperformed s pa u w) (x : Nat) :
    DramStored s pa x (u.dramWrite s.cur.owner pa (natLe (2 ^ s.cur.csew) x)) ∧
      SamePad s (u.dramWrite s.cur.owner pa (natLe (2 ^ s.cur.csew) x)) := by
  have htag : u.keyTag s.cur.owner = s.keyTag s.cur.owner := (congrArg (State.keyTag · s.cur.owner) (hr.framed hq)).trans rfl
  refine ⟨dramWrite_congr h.mem h.keys htag _ _, ?_⟩
  obtain ⟨M, K, P, heq⟩ := dramWrite_frame u s.cur.owner pa (natLe (2 ^ s.cur.csew) x)
  rw [heq]
  exact h.pad

theorem Unperformed.l2Touch (h : Unperformed s pa u w) (pa' o : Nat) (write : Bool) :
    DramKept s (u.l2Touch pa' o write) ∧ SamePad s (u.l2Touch pa' o write) := by
  obtain ⟨P, heq⟩ := l2Touch_frame u pa' o write
  rw [heq]
  exact ⟨⟨h.mem, h.keys⟩, h.pad⟩

/-- The one element's old value, in the destination. -/
theorem lanes_one (hidle : Idle s) (hn : n < s.cur.vl) {x : Nat} (hx : x < 2 ^ (8 * 2 ^ s.cur.csew)) (f : FFlags) :
    s.cur.noKsel.Lanes ((s.cur.noKsel.vPut s.cur.cnreg m.d (2 ^ s.cur.csew) n x).raise f) m.d (2 ^ s.cur.csew)
      (fun j => if j = n then some x else none) f := by
  have hput := (Thread.Lanes.refl s.cur.noKsel m.d (2 ^ s.cur.csew)).vPut (banked_before hidle le_rfl) (width_dvd hidle) (j := n) hn x f
  rw [Nat.mod_eq_of_lt hx, show (0 : FFlags) ||| f = f from BitVec.zero_or] at hput
  exact hput

theorem lanes_results {x : Nat → Option Nat} {f : FFlags} (h : s.cur.noKsel.Lanes w m.d (2 ^ s.cur.csew) x f) :
    w = { s.cur.noKsel with v := w.v, wrote := w.wrote, fstat := w.fstat, vl := s.cur.vl } := by
  rw [h.1]
  rfl

theorem dramElem_near (h : isDram pa = true) (j : Nat) : ¬ (s.dramElem m pa mt pac j).far = true := by
  rw [show (s.dramElem m pa mt pac j).far = false from far_of_dram h]
  exact Bool.false_ne_true

/-! Loads -/

/-- After a load of one element from DRAM. -/
structure OneLoaded (s : State) (m : VMem) (pa n : Nat) (u : State) (w : Thread) : Prop where
  results : s.cur.noKsel.Lanes w m.d (2 ^ s.cur.csew) (fun j => if j = n then some (s.dramOld pa) else none) 0
  dram : DramKept s u
  pad : SamePad s u

theorem course_one_load (hidle : Idle s) (hq : Committed s q (s.trying s.cur len (.mem m) k 0)) (h : OneInDram s m k n pa mt pac)
    (hkind : m.kind = .load) : Course s q len m k s.cur.vl (s.dramElem m pa mt pac) (AtOne s pa n (OneLoaded s m pa n)) := by
  refine .of_one hidle hq h (fun {u v w} hb hl => ?_) (fun hl => lanes_results hl.results) fun {u w} hr hu e he => ?_
  · obtain ⟨T, K, D, rfl⟩ := hb
    exact ⟨hl.results, hl.dram, hl.pad⟩
  · obtain ⟨ev, e', hcmd, hthr⟩ := hr.thread
    have howner : (s.running len w ev e').owner = s.cur.owner := by rw [State.running, hu.results]; rfl
    have hn := lt_of_writes ((h.one n).mpr rfl)
    have hthr' : (u.l2Touch pa s.cur.owner false).thr s.hart = s.running len w ev e' := by
      obtain ⟨P, hP⟩ := l2Touch_frame u pa s.cur.owner false
      rw [hP]
      exact hthr
    have hrun : u.vElem s.hart (coreOf s.hart) e m (s.dramElem m pa mt pac n) = (u.l2Touch pa s.cur.owner false).setThr s.hart
        (s.running len ((s.cur.noKsel.vPut s.cur.cnreg m.d (2 ^ s.cur.csew) n (s.dramOld pa)).raise 0) ev e') := by
      rw [State.vElem, if_neg (dramElem_near h.dram n), hkind]
      dsimp only
      rw [hthr, howner, show (s.dramElem m pa mt pac n).at' = .phys pa mt pac from rfl, show e.sew = s.cur.csew by rw [he]; rfl]
      dsimp only
      rw [hr.dramRead hq hu, vTake_load hkind he hthr', raise_zero, hu.results,
          Nat.mod_eq_of_lt (show s.dramOld pa < _ from leNat_dramRead_lt _ _ _ _)]
      rfl
    rw [hrun]
    obtain ⟨hdram, hpad⟩ := hu.l2Touch pa s.cur.owner false
    exact ⟨_, (hr.l2Touch pa s.cur.owner false).setThr hcmd, lanes_one hidle hn (leNat_dramRead_lt _ _ _ _) 0, hdram, hpad⟩

/-! Stores -/

/-- After a store of one element to DRAM. -/
structure OneStored (s : State) (m : VMem) (pa n : Nat) (u : State) (w : Thread) : Prop where
  results : w = s.cur.noKsel
  dram : DramStored s pa (s.operand m n) u
  pad : SamePad s u

theorem course_one_store (hidle : Idle s) (hq : Committed s q (s.trying s.cur len (.mem m) k 0)) (h : OneInDram s m k n pa mt pac)
    (hkind : m.kind = .store) : Course s q len m k s.cur.vl (s.dramElem m pa mt pac) (AtOne s pa n (OneStored s m pa n)) := by
  refine .of_one hidle hq h (fun {u v w} hb hl => ?_) (fun hl => by rw [hl.results]; rfl) fun {u w} hr hu e he => ?_
  · obtain ⟨T, K, D, rfl⟩ := hb
    exact ⟨hl.results, hl.dram, hl.pad⟩
  · obtain ⟨ev, e', hcmd, hthr⟩ := hr.thread
    have howner : (s.running len w ev e').owner = s.cur.owner := by rw [State.running, hu.results]; rfl
    have hrun : u.vElem s.hart (coreOf s.hart) e m (s.dramElem m pa mt pac n) =
        u.dramWrite s.cur.owner pa (natLe (2 ^ s.cur.csew) (s.operand m n)) := by
      rw [State.vElem, if_neg (dramElem_near h.dram n), hkind]
      dsimp only
      rw [hthr, howner, hu.results, show e.sew = s.cur.csew by rw [he]; rfl, show e.nreg = s.cur.cnreg by rw [he]; rfl]
      rfl
    rw [hrun]
    obtain ⟨hdram, hpad⟩ := hu.dramWrite hq hr (s.operand m n)
    exact ⟨w, hr.dramWrite _ _ _, hu.results, hdram, hpad⟩

/-! Atomics -/

/-- After an atomic on one element in DRAM. -/
structure OneSwapped (s : State) (m : VMem) (op : AmoOp) (pa n : Nat) (u : State) (w : Thread) : Prop where
  results : s.cur.noKsel.Lanes w m.d (2 ^ s.cur.csew) (fun j => if j = n then some (s.dramOld pa) else none) (s.atomic m op n (s.dramOld pa)).2
  pad : SamePad s u
  kept : (s.atomic m op n (s.dramOld pa)).1 = none → DramKept s u
  stored : ∀ x, (s.atomic m op n (s.dramOld pa)).1 = some x → DramStored s pa x u

/-- An atomic in DRAM. -/
theorem amoAt_dram (u : State) (o c W data cmp : Nat) : u.amoAt o c (.phys pa mt pac) op W data cmp =
    (match (op.apply W (leNat (u.dramRead o pa W)) data cmp).1 with
      | some y => u.dramWrite o pa (natLe W y)
      | none => u.l2Touch pa o false, leNat (u.dramRead o pa W), (op.apply W (leNat (u.dramRead o pa W)) data cmp).2) := rfl

theorem course_one_atomic (hidle : Idle s) (hq : Committed s q (s.trying s.cur len (.mem m) k 0)) (h : OneInDram s m k n pa mt pac)
    (hkind : m.kind = .amo op) : Course s q len m k s.cur.vl (s.dramElem m pa mt pac) (AtOne s pa n (OneSwapped s m op pa n)) := by
  refine .of_one hidle hq h (fun {u v w} hb hl => ?_) (fun hl => lanes_results hl.results) fun {u w} hr hu e he => ?_
  · obtain ⟨T, K, D, rfl⟩ := hb
    exact ⟨hl.results, hl.pad, hl.kept, hl.stored⟩
  · obtain ⟨ev, e', hcmd, hthr⟩ := hr.thread
    have howner : (s.running len w ev e').owner = s.cur.owner := by rw [State.running, hu.results]; rfl
    have hn := lt_of_writes ((h.one n).mpr rfl)
    have hops := amoOps_apply (x := s.running len w ev e') (n := n) hkind he (by rw [hu.results]; rfl) (by rw [hu.results]; rfl)
    generalize hafter : (match (s.atomic m op n (s.dramOld pa)).1 with
      | some y => u.dramWrite s.cur.owner pa (natLe (2 ^ s.cur.csew) y)
      | none => u.l2Touch pa s.cur.owner false) = after
    have hruns : Runs s q after len w ∧ after.thr s.hart = u.thr s.hart ∧ SamePad s after ∧
        ((s.atomic m op n (s.dramOld pa)).1 = none → DramKept s after) ∧
        ∀ x, (s.atomic m op n (s.dramOld pa)).1 = some x → DramStored s pa x after := by
      rw [← hafter]
      cases hnew : (s.atomic m op n (s.dramOld pa)).1 with
      | none =>
        obtain ⟨hdram, hpad⟩ := hu.l2Touch pa s.cur.owner false
        obtain ⟨P, hP⟩ := l2Touch_frame u pa s.cur.owner false
        exact ⟨hr.l2Touch _ _ _, by dsimp only; rw [hP]; rfl, hpad, fun _ => hdram, nofun⟩
      | some y =>
        obtain ⟨hdram, hpad⟩ := hu.dramWrite hq hr y
        obtain ⟨M, K, P, hP⟩ := dramWrite_frame u s.cur.owner pa (natLe (2 ^ s.cur.csew) y)
        exact ⟨hr.dramWrite _ _ _, by dsimp only; rw [hP]; rfl, hpad, nofun, fun x hx => Option.some.inj hx ▸ hdram⟩
    obtain ⟨hra, hta, hpad, hkept, hstored⟩ := hruns
    have hrun : u.vElem s.hart (coreOf s.hart) e m (s.dramElem m pa mt pac n) = after.setThr s.hart
        (s.running len ((s.cur.noKsel.vPut s.cur.cnreg m.d (2 ^ s.cur.csew) n (s.dramOld pa)).raise (s.atomic m op n (s.dramOld pa)).2) ev e') := by
      rw [State.vElem, if_neg (dramElem_near h.dram n), hkind]
      dsimp only
      rw [hthr, howner, show (s.dramElem m pa mt pac n).at' = .phys pa mt pac from rfl, show (s.dramElem m pa mt pac n).i = n from rfl,
        show e.sew = s.cur.csew by rw [he]; rfl, amoAt_dram, hr.dramRead hq hu, hops]
      dsimp only
      rw [hafter, vTake_amo (w := w) (ev := ev) (e' := e') hkind he (hta.trans hthr),
        Nat.mod_eq_of_lt (show s.dramOld pa < _ from leNat_dramRead_lt _ _ _ _), show (s.dramElem m pa mt pac n).i = n from rfl, hops, hu.results]
    rw [hrun]
    exact ⟨_, hra.setThr hcmd, lanes_one hidle hn (leNat_dramRead_lt _ _ _ _) _, hpad, hkept, hstored⟩

end

end Sys2Proof.Machine
end

section
/-! What a vector memory instruction of an idle thread performs (R351, R355 to R361) -/

namespace Sys2Proof.Machine

section
variable {s : State} {len k : Nat} {m : VMem} {i : Instr}

/-- Only a store with .fill sets granules when it completes. -/
theorem fillWritten_none {u : State} {e : VEntry} (he : e.Issues s m k) (h : m.kind ≠ .store ∨ m.fe ≠ 3) (hi : Nat) :
    u.fillWritten s.hart e hi = u := by
  rw [State.fillWritten, show e.op = .mem m by rw [he]; rfl]
  dsimp only
  split
  · next hkind hfe => exact (h.elim (· hkind) (· hfe)).elim
  · rfl

/-- A thread whose results and VL are given. -/
theorem results_vl {w : Thread} {N : Nat} (h : w = { s.cur.noKsel with v := w.v, wrote := w.wrote, fstat := w.fstat, vl := N }) :
    w = { s.cur.noKsel with v := w.v, wrote := w.wrote, fstat := w.fstat, vl := w.vl } := by
  have hvl : w.vl = N := by rw [h]
  rw [hvl]
  exact h

theorem Thread.Lanes.congr {t w : Thread} {d W : Nat} {val val' : Nat → Option Nat} {fl : FFlags} (h : t.Lanes w d W val fl)
    (hv : ∀ j, j < t.vl → val j = val' j) : t.Lanes w d W val' fl :=
  ⟨h.1, fun j hj => by rw [← hv j hj]; exact h.2.1 j hj, fun b hb => h.2.2 b fun j y hj hne => hb j y hj (by rw [← hv j hj]; exact hne)⟩

theorem performsMem_mono {R P : State → Thread → Prop} (h : PerformsMem i s len R) (hP : ∀ {u v}, R u v → P u v) : PerformsMem i s len P := by
  obtain ⟨t, v, hexec, hR, hrest⟩ := h
  exact ⟨t, v, hexec, hP hR, hrest⟩

/-- An access that performs at its first try leaves what its run leaves. -/
theorem performsMem_of_run {R : State → Thread → Prop} (hidle : Idle s) (hi : exec i s = s.commitV len (.mem m) k 0 none)
    (hfill : m.kind ≠ .store ∨ m.fe ≠ 3) (hcarry : ∀ {a b v}, Beside a b → R a v → R b v)
    (hrun : ∀ q, Committed s q (s.trying s.cur len (.mem m) k 0) → ∃ u w e,
      (s.unmasked q len m k).vRun s.hart (coreOf s.hart) m (s.begun (.mem m) k 0) (2 * s.cur.vl + 2) = .on u e ∧ Runs s q u len w ∧
      (R u w ∧ w = { s.cur.noKsel with v := w.v, wrote := w.wrote, fstat := w.fstat, vl := w.vl }) ∧ e.Issues s m k) : PerformsMem i s len R := by
  refine performsMem_of_runs hidle hi hcarry fun q hq => ?_
  obtain ⟨u, w, e, hvrun, hr, ⟨hR, hw⟩, he⟩ := hrun q hq
  have hnone := fillWritten_none (u := u) he hfill (u.thr s.hart).vl
  obtain ⟨d, htry, hrd, hb⟩ := vTry_performed hq hvrun he (by rw [hnone]; exact hr)
  rw [hnone] at hb
  exact ⟨d, w, htry, hrd, hw, hcarry hb hR⟩

variable (hidle : Idle s) (htravel : s.travel = false) (hk : k < 8) (hi : exec i s = s.commitV len (.mem m) k 0 none)

/-! The scratchpad -/

/-- Whether a granule holds an accessed element. -/
theorem granuleBelow_vl {g : Nat} : s.granuleBelow m k s.cur.vl g = true ↔ ∃ j, s.cur.writes k j = true ∧ s.padAt m j / 16 = g :=
  granuleBelow_iff.trans ⟨fun ⟨j, _, h⟩ => ⟨j, h⟩, fun ⟨j, h⟩ => ⟨j, lt_of_writes h.1, h⟩⟩

/-- The values that a load writes. -/
def State.loadedValues (s : State) (m : VMem) (k j : Nat) : Option Nat := if s.cur.writes k j = true then some (s.padOld m j) else none

theorem lanesBelow_vl : lanesBelow (s.cur.writes k) (s.padOld m) s.cur.vl = s.loadedValues m k := lanesBelow_of_lt fun _ => lt_of_writes

/-- The granules that a load clears. -/
def State.clearedBy (s : State) (m : VMem) (k g : Nat) : Prop := m.fe = 2 ∧ ∃ j, s.cur.writes k j = true ∧ s.padAt m j / 16 = g

/-- What a load from the scratchpad leaves (R355, R359). -/
structure PadLoaded (s : State) (m : VMem) (k : Nat) (u : State) (v : Thread) : Prop where
  results : (s.before s.cur.vl).Lanes v m.d (2 ^ s.cur.csew) (s.loadedValues m k) 0
  memory : SameMemory s u
  pad : SamePadBytes s u
  full : PadFull s u s.cur.owner (coreOf s.hart) 0 (s.padAt m) (s.cur.writes k) (fun _ => False) (s.clearedBy m k)

theorem PadLoaded.carry {a b : State} {v : Thread} (hb : Beside a b) (h : PadLoaded s m k a v) : PadLoaded s m k b v :=
  ⟨h.results, h.memory.carry hb, h.pad.carry hb, padFull_carry hb h.full⟩

include hidle htravel hk hi

theorem performs_load (hgroups : m.groupsOk (2 ^ s.cur.csew) (8 * 2 ^ s.cur.cnreg) = true) (hwidth : m.WidthOk)
    (hpad : PadElements s k (2 ^ s.cur.csew) s.cur.vl (s.eaAt m)) (hshaft : m.shaft = false) (hkind : m.kind = .load)
    (hfull : m.fe ≠ 0 → ∀ j, s.cur.writes k j = true → s.isFull s.cur.owner (coreOf s.hart) (s.padAt m j) = true) :
    PerformsMem i s len (PadLoaded s m k) := by
  refine performsMem_of_run hidle hi (.inl (by rw [hkind]; exact nofun)) PadLoaded.carry fun q hq => ?_
  by_cases htake : m.fe = 2
  · obtain ⟨u, w, e, hrun, hr, hC, he⟩ := (course_take hidle hk hq hpad hkind htake hwidth hgroups (hfull (by omega))).run_pad hidle htravel hk hq
      (Taking.start hq) hpad hshaft
    refine ⟨u, w, e, hrun, hr, ⟨⟨?_, hC.memory, hC.pad, ?_⟩, results_vl hC.results.before⟩, he⟩
    · have hl := hC.results
      rw [takenValues_all] at hl
      exact hl
    · have hcleared : s.clearedBy m k = fun g => s.granuleBelow m k s.cur.vl g = true :=
        funext fun g => propext ((and_iff_right htake).trans granuleBelow_vl.symm)
      rw [hcleared]
      exact hC.full
  · obtain ⟨u, w, e, hrun, hr, ⟨hl, hmem, hbytes, hsame⟩, he⟩ := (course_load hidle hq le_rfl hpad hkind htake fun h1 => hfull (by omega)).run_pad
      hidle htravel hk hq (Loading.start hq) hpad hshaft
    rw [lanesBelow_vl] at hl
    refine ⟨u, w, e, hrun, hr, ⟨⟨hl, hmem, hbytes, fun o' c' a _ => ?_⟩, results_vl hl.before⟩, he⟩
    rw [State.isFull, hsame, hbytes.2]
    simp [State.isFull, State.clearedBy, htake]

/-- What a store to the scratchpad leaves (R356, R359). -/
structure PadWritten (s : State) (m : VMem) (k : Nat) (u : State) (v : Thread) : Prop where
  results : v = s.cur.noKsel
  memory : SameMemory s u
  stored : PadStored s u s.cur.owner (coreOf s.hart) s.cur.vl (2 ^ s.cur.csew) (s.padAt m) (s.stored m k)
  full : PadFull s u s.cur.owner (coreOf s.hart) s.cur.vl (s.padAt m) (s.cur.writes k)
    (fun g => m.fe = 3 ∧ ∃ j, s.cur.writes k j = true ∧ s.padAt m j / 16 = g) (fun _ => False)

omit hidle htravel hk hi in
theorem PadWritten.carry {a b : State} {v : Thread} (hb : Beside a b) (h : PadWritten s m k a v) : PadWritten s m k b v :=
  ⟨h.results, h.memory.carry hb, padStored_carry hb h.stored, padFull_carry hb h.full⟩

theorem performs_store (hpad : PadElements s k (2 ^ s.cur.csew) s.cur.vl (s.eaAt m)) (hshaft : m.shaft = false) (hkind : m.kind = .store) :
    PerformsMem i s len (PadWritten s m k) := by
  refine performsMem_of_runs hidle hi PadWritten.carry fun q hq => ?_
  obtain ⟨u, w, e, hrun, hr, hC, he⟩ := (course_store hidle hq hpad hkind).run_pad hidle htravel hk hq (Storing.start hq) hpad hshaft
  obtain rfl := hC.results
  by_cases hfill : m.fe = 3
  · have hstart : Filling s m k 0 u := ⟨hC.memory, hC.owned, hC.stored, by simpa only [granuleBelow_zero, Bool.false_eq_true] using hC.full⟩
    obtain ⟨hrf, hf⟩ := hstart.fillWritten hk hidle hpad he hkind hfill hr
    have hvl : (u.thr s.hart).vl = s.cur.vl := hr.vl
    rw [← hvl] at hrf
    obtain ⟨d, htry, hrd, hb⟩ := vTry_performed hq hrun he hrf
    rw [hvl] at hb
    refine ⟨d, _, htry, hrd, rfl, PadWritten.carry hb ⟨rfl, hf.memory, hf.stored, ?_⟩⟩
    have hsets : (fun g => m.fe = 3 ∧ ∃ j, s.cur.writes k j = true ∧ s.padAt m j / 16 = g) = fun g => s.granuleBelow m k s.cur.vl g = true :=
      funext fun g => propext ((and_iff_right hfill).trans granuleBelow_vl.symm)
    rw [hsets]
    exact hf.full
  · have hnone := fillWritten_none (u := u) he (.inr hfill) (u.thr s.hart).vl
    obtain ⟨d, htry, hrd, hb⟩ := vTry_performed hq hrun he (by rw [hnone]; exact hr)
    rw [hnone] at hb
    refine ⟨d, _, htry, hrd, rfl, PadWritten.carry hb ⟨rfl, hC.memory, hC.stored, ?_⟩⟩
    simpa only [hfill, false_and] using hC.full

/-- What an atomic in the scratchpad leaves (R360). -/
structure PadSwapped (s : State) (m : VMem) (k : Nat) (op : AmoOp) (u : State) (v : Thread) : Prop where
  results : s.cur.noKsel.Lanes v m.d (2 ^ s.cur.csew) (s.loadedValues m k) (s.cur.laneFlags k (fun j => (s.atomic m op j (s.padOld m j)).2))
  memory : SameMemory s u
  stored : PadStored s u s.cur.owner (coreOf s.hart) s.cur.vl (2 ^ s.cur.csew) (s.padAt m) (s.swapped m k op)
  full : u.spadFull = s.spadFull

theorem performs_atomic {op : AmoOp} (hpad : PadElements s k (2 ^ s.cur.csew) s.cur.vl (s.eaAt m)) (hshaft : m.shaft = false)
    (hkind : m.kind = .amo op)
    (howned : ∀ j, s.cur.writes k j = true → tfind s.spadOwner (spadKey (coreOf s.hart) (s.padAt m j) / 64) = some s.cur.owner)
    (happart : ∀ a b, s.cur.writes k a = true → s.cur.writes k b = true → a < b →
      s.padAt m a + 2 ^ s.cur.csew ≤ s.padAt m b ∨ s.padAt m b + 2 ^ s.cur.csew ≤ s.padAt m a) : PerformsMem i s len (PadSwapped s m k op) := by
  refine performsMem_of_run hidle hi (.inl (by rw [hkind]; exact nofun))
      (fun {a b v} hb h => ⟨h.results, h.memory.carry hb, padStored_carry hb h.stored, ?_⟩)
    fun q hq => ?_
  · obtain ⟨T, K, D, rfl⟩ := hb
    exact h.full
  · obtain ⟨u, w, e, hrun, hr, hC, he⟩ := (course_atomic hidle hq hpad hkind howned happart).run_pad hidle htravel hk hq (Swapping.start hq) hpad hshaft
    have hl := hC.results
    rw [lanesBelow_vl] at hl
    exact ⟨u, w, e, hrun, hr, ⟨⟨hl, hC.memory, hC.stored, hC.full⟩, results_vl (lanes_results hl)⟩, he⟩

/-- What VLDFF leaves when it ends VL at element `f` (R357). -/
structure FirstLoaded (s : State) (m : VMem) (k f : Nat) (u : State) (v : Thread) : Prop where
  results : (s.before f).Lanes v m.d (2 ^ s.cur.csew) (s.loadedValues m k) 0
  memory : SameMemory s u
  pad : SamePad s u

theorem performs_first {f b : Nat} (hpad : PadElements s k (2 ^ s.cur.csew) f (s.eaAt m)) (hkind : m.kind = .load) (hfe : m.fe = 0)
    (hshaft : m.shaft = false) (hfirst : m.first = true) (hbf : b < f) (hb : s.cur.writes k b = true) (hf : s.cur.writes k f = true)
    (hfail : (s.eaAt m f % 2 ^ s.cur.csew ≠ 0 ∧ 0x00FFFF0000000000 ≤ s.eaAt m f ∧ s.eaAt m f < 0x00FFFF0000000000 + 2 ^ 24) ∨
      (0x00FFFF0000000000 + s.width (coreOf s.hart) * 2 ^ 22 ≤ s.eaAt m f ∧ s.eaAt m f < 0x00FFFF0000000000 + 2 ^ 24)) :
    PerformsMem i s len (FirstLoaded s m k f) := by
  refine performsMem_of_run hidle hi (.inl (by rw [hkind]; exact nofun)) (fun {a b v} hb h => ⟨h.results, h.memory.carry hb, h.pad.carry hb⟩)
    fun q hq => ?_
  obtain ⟨u, w, e, hrun, hr, ⟨hl, hmem, hbytes, hfull⟩, he⟩ := vRun_first hidle htravel hk hq hpad hkind hfe hshaft hfirst hbf hb hf hfail
  have hvalues : ∀ j, j < (s.before f).vl → lanesBelow (s.cur.writes k) (s.padOld m) f j = s.loadedValues m k j := fun j hj =>
    if_congr (and_iff_right hj) rfl rfl
  exact ⟨u, w, e, hrun, hr, ⟨⟨hl.congr hvalues, hmem, hbytes.1, hbytes.2, hfull⟩, results_vl hl.before⟩, he⟩

/-! The near and main tiers -/

variable {n pa mt pac : Nat} {x : State}

/-- The element of an access whose translation ends at an open address of DRAM. -/
structure DramElement (s : State) (m : VMem) (k n : Nat) (x : State) (pa mt pac : Nat) : Prop where
  here : OneInDram s m k n pa mt pac
  aligned : s.eaAt m n % 2 ^ s.cur.csew = 0
  outside : inWindow (s.eaAt m n) = false
  translates : s.translate (some (coreOf s.hart)) s.cur.owner m.acc (s.eaAt m n) (2 ^ s.cur.csew) = .ok x (.phys pa mt pac)
  isOpen : s.closed pa = false
  fe : m.fe = 0
  shaft : m.shaft = true → (s.bankOf pa).1 = coreOf s.hart ∧ (s.bankOf pa).2.1 = n * 2 ^ s.cur.csew / 16 % (64 * s.width (coreOf s.hart))

/-- An access with one element in the near or main tier leaves what its course does. -/
theorem performs_one {post : State → Thread → Prop} (h : DramElement s m k n x pa mt pac)
    (hcourse : ∀ q, Committed s q (s.trying s.cur len (.mem m) k 0) →
      Course s q len m k s.cur.vl (s.dramElem m pa mt pac) (AtOne s pa n post))
    (hcarry : ∀ {a b v}, Beside a b → post a v → post b v)
    (hresults : ∀ {u w}, post u w → w = { s.cur.noKsel with v := w.v, wrote := w.wrote, fstat := w.fstat, vl := s.cur.vl }) :
    PerformsMem i s len post := by
  refine performsMem_of_run hidle hi (.inr (by rw [h.fe]; decide)) hcarry fun q hq => ?_
  obtain ⟨u, w, e, hrun, hr, hpost, he⟩ := vRun_one hidle htravel hk hq h.here (hcourse q hq) h.aligned h.outside h.translates h.isOpen h.fe h.shaft
  exact ⟨u, w, e, hrun, hr, ⟨hpost, results_vl (hresults hpost)⟩, he⟩

theorem performs_one_load (h : DramElement s m k n x pa mt pac) (hkind : m.kind = .load) : PerformsMem i s len (OneLoaded s m pa n) := by
  refine performs_one hidle htravel hk hi h (fun q hq => course_one_load hidle hq h.here hkind) (fun {a b v} hb hl => ?_) fun hl =>
    lanes_results hl.results
  obtain ⟨T, K, D, rfl⟩ := hb
  exact ⟨hl.results, hl.dram, hl.pad⟩

theorem performs_one_store (h : DramElement s m k n x pa mt pac) (hkind : m.kind = .store) : PerformsMem i s len (OneStored s m pa n) := by
  refine performs_one hidle htravel hk hi h (fun q hq => course_one_store hidle hq h.here hkind) (fun {a b v} hb hl => ?_) fun hl => by
    rw [hl.results]
    rfl
  obtain ⟨T, K, D, rfl⟩ := hb
  exact ⟨hl.results, hl.dram, hl.pad⟩

theorem performs_one_atomic {op : AmoOp} (h : DramElement s m k n x pa mt pac) (hkind : m.kind = .amo op) :
    PerformsMem i s len (OneSwapped s m op pa n) := by
  refine performs_one hidle htravel hk hi h (fun q hq => course_one_atomic hidle hq h.here hkind) (fun {a b v} hb hl => ?_) fun hl =>
    lanes_results hl.results
  obtain ⟨T, K, D, rfl⟩ := hb
  exact ⟨hl.results, hl.pad, hl.kept, hl.stored⟩

end

end Sys2Proof.Machine
end

section
/-! What the statement says of a vector memory instruction of an idle thread (R351, R355 to R361) -/

namespace Sys2Proof.Machine

/-- The address of a strided element, by the stride as a number without sign. -/
theorem wrap_stride (base stride : Word) (j : Nat) :
    wrap 64 ((base.toNat : Int) + j * wInt stride) = (base.toNat + j * stride.toNat) % 2 ^ 64 := by
  have hcast : (((base.toNat + j * stride.toNat) % 2 ^ 64 : Nat) : Int) = ((base.toNat : Int) + j * stride.toNat) % (2 ^ 64 : Nat) := by
    push_cast
    rfl
  rw [wrap, wInt_eq, BitVec.toInt_eq_toNat_cond]
  split
  · rw [← hcast, Int.toNat_natCast]
  · have hshift : (base.toNat : Int) + j * (stride.toNat - (2 ^ 64 : Nat)) = (base.toNat + j * stride.toNat) + (2 ^ 64 : Nat) * (-j) := by ring
    rw [hshift, Int.add_mul_emod_self_left, ← hcast, Int.toNat_natCast]

section
variable {s x : State} {len k n pa mt pac : Nat} {m : VMem} {i : Instr}

theorem eaAt_eq (j : Nat) : s.eaAt m j = match m.idx with
    | none => (m.base.toNat + j * m.stride.toNat) % 2 ^ 64
    | some (r, iw) => (m.base.toNat + s.cur.vGet s.cur.cnreg r iw j) % 2 ^ 64 := by
  rw [State.eaAt, Thread.eaOf]
  cases m.idx with
  | none => exact wrap_stride _ _ _
  | some p => rfl

/-- The element in DRAM whose translation leaves the machine as `x`, by what the statement asks of `x`. -/
theorem dramElement_of (hone : ∀ j, s.cur.writes k j = true ↔ j = n) (hal : s.eaAt m n % 2 ^ s.cur.csew = 0)
    (hout : s.eaAt m n < 0x00FFFF0000000000 ∨ 0x00FFFF0000000000 + 2 ^ 24 ≤ s.eaAt m n)
    (htrans : s.translate (some (coreOf s.hart)) s.cur.owner m.acc (s.eaAt m n) (2 ^ s.cur.csew) = .ok x (.phys pa mt pac))
    (hdram : isDram pa = true) (hclosed : x.closed pa = false) (hbad : x.badAt pa (2 ^ s.cur.csew) = none)
    (hguard : s.guarded (coreOf s.hart) none (s.eaAt m n) (2 ^ s.cur.csew) = false) (hfe : m.fe = 0)
    (hshaft : m.shaft = true → (x.bankOf pa).1 = coreOf s.hart ∧ (x.bankOf pa).2.1 = n * 2 ^ s.cur.csew / 16 % (64 * s.width (coreOf s.hart)))
    (hacq : m.acquires = true → x.homedInside (coreOf s.hart) m.scope (.phys pa mt pac) = true)
    (hclass : ∀ op, m.kind = .amo op → pacHas pac op.cls = true) : DramElement s m k n x pa mt pac := by
  have honly := translate_tlbOnly htrans
  have hopen : s.closed pa = false := by rw [← honly.closed]; exact hclosed
  have hoff : s.offlineAt pa = false := by
    rw [State.closed, Bool.or_eq_false_iff] at hopen
    exact hopen.2
  have hoffbad : s.badAt pa (2 ^ s.cur.csew) = none := by rw [← honly.badAt]; exact hbad
  have hwin : inWindow (s.eaAt m n) = false := by
    rw [Bool.eq_false_iff, ne_eq, inWindow, Bool.and_eq_true, decide_eq_true_eq, decide_eq_true_eq, spadBase]
    omega
  obtain ⟨⟨C, P, T, hx⟩, -, -⟩ := honly
  rw [hx] at hshaft hacq
  exact ⟨⟨hone, hdram, hoff, hoffbad, hguard, hacq, hclass⟩, hal, hwin, htrans, hopen, hfe, hshaft⟩

theorem dramStored_of (honly : TlbOnly s x) {u : State} {y : Nat} (h : DramStored s pa y u) :
    u.mem = (x.dramWrite s.cur.owner pa (natLe (2 ^ s.cur.csew) y)).mem ∧ u.keys = (x.dramWrite s.cur.owner pa (natLe (2 ^ s.cur.csew) y)).keys := by
  obtain ⟨⟨C, P, T, rfl⟩, -, -⟩ := honly
  obtain ⟨hm, hk⟩ := dramWrite_congr (a := s) (b := { s with cores := C, pillars := P, schedTlb := T }) (o := s.cur.owner) rfl rfl rfl pa
    (natLe (2 ^ s.cur.csew) y)
  exact ⟨h.1.trans hm, h.2.trans hk⟩

theorem dramOld_of (honly : TlbOnly s x) : leNat (x.dramRead s.cur.owner pa (2 ^ s.cur.csew)) = s.dramOld pa := by
  obtain ⟨⟨C, P, T, rfl⟩, -, -⟩ := honly
  rfl

/-- A vector memory instruction of an idle thread performs as the statement says. -/
theorem vMemDoes (hidle : Idle s) (htravel : s.travel = false) (hk : k < 8) (hi : exec i s = s.commitV len (.mem m) k 0 none)
    (hgroups : m.groupsOk (2 ^ s.cur.csew) (8 * 2 ^ s.cur.cnreg) = true) (hwidth : m.WidthOk) : VMemDoes i s len k m := by
  unfold VMemDoes
  intro t c o w ea el now old data apply acts sameStores samePad loaded
  have hea : ea = s.eaAt m := funext fun j => (eaAt_eq j).symm
  clear_value ea
  subst hea
  refine ⟨fun hpad hshaft => ⟨fun hkind _ hfull => ?_, fun hkind _ => ?_, fun op hkind _ howned happart => ?_⟩,
    fun f b hkind hfe hshaft hfirst hpad hbf hb hf hfail => ?_,
          fun n x pa mt pac hone hal hout htrans hdram hclosed hbad hguard hfe hshaft hacq => ?_⟩
  · exact performsMem_mono (performs_load hidle htravel hk hi hgroups hwidth hpad hshaft hkind hfull) fun h =>
      ⟨h.results, h.memory, h.pad.1, h.pad.2, h.full⟩
  · exact performsMem_mono (performs_store hidle htravel hk hi hpad hshaft hkind) fun h => ⟨h.results, h.memory, h.stored, h.full⟩
  · exact performsMem_mono (performs_atomic hidle htravel hk hi hpad hshaft hkind howned happart) fun h =>
      ⟨h.results, h.memory, h.stored, h.full⟩
  · exact performsMem_mono (performs_first hidle htravel hk hi hpad hkind hfe hshaft hfirst hbf hb hf hfail) fun h =>
      ⟨h.results, h.memory, h.pad⟩
  · have honly := translate_tlbOnly htrans
    have hwas := dramOld_of (pa := pa) honly
    have helem := dramElement_of hone hal hout htrans hdram hclosed hbad hguard hfe hshaft hacq
    intro was stored
    have hwas' : was = s.dramOld pa := hwas
    clear_value was
    subst hwas'
    refine ⟨fun hkind => ?_, fun hkind => ?_, fun op hkind hclass => ?_⟩
    · exact performsMem_mono (performs_one_load hidle htravel hk hi (helem fun op hop => absurd (hkind.symm.trans hop) nofun) hkind) fun h =>
        ⟨h.results, h.dram.1, h.dram.2, h.pad⟩
    · exact performsMem_mono (performs_one_store hidle htravel hk hi (helem fun op hop => absurd (hkind.symm.trans hop) nofun) hkind) fun h =>
        ⟨h.results, dramStored_of honly h.dram, h.pad⟩
    · refine performsMem_mono (performs_one_atomic hidle htravel hk hi (helem fun op' hop => ?_) hkind) fun h => ⟨h.results, h.pad, ?_⟩
      · rw [hkind, VMemKind.amo.injEq] at hop
        rw [← hop]
        exact hclass
      · change match (s.atomic m op n (s.dramOld pa)).1 with
          | some x => stored x _
          | none => _
        split
        · next y hy => exact dramStored_of honly (h.stored y hy)
        · next hy => exact h.kept hy

end

end Sys2Proof.Machine
end

section
/-! The commit of vector memory instructions (R123, R346 to R350, R360) -/

namespace Sys2Proof.Machine

/-- The fields that a memory instruction captures beside its operands. -/
theorem vMemOf_eq (p : Option Modifier) (kind : VMemKind) (d : Nat) (base stride : Word) (idx : Option (Nat × Nat)) :
    vMemOf p kind d base stride idx =
      { kind := kind, d := d + 32 * (p.map (·.dh)).getD 0, base := base, stride := stride, idx := idx, shaft := false, first := false
        acquire := false, o := decide ((p.map (·.o)).getD 0 = 1), p := decide ((p.map (·.p)).getD 0 = 1), fe := (p.map (·.fe)).getD 0
        ord := (p.map (·.ord)).getD 0, scope := (p.map (·.scope)).getD 0 } := by
  cases p <;> rfl

theorem pLen_eq (p : Option Modifier) : pLen p = if p.isSome then 8 else 4 := by cases p <;> rfl

theorem widthOk_none {m : VMem} (h : m.idx = none) : m.WidthOk := fun _ _ hidx => absurd (h.symm.trans hidx) nofun

theorem widthOk_some {m : VMem} {r a : Nat} (h : m.idx = some (r, 2 ^ a)) : m.WidthOk := fun _ _ hidx => by
  rw [h, Option.some.injEq, Prod.mk.injEq] at hidx
  exact ⟨a, hidx.2.symm⟩

section
variable {i : Instr} {s : State} {p : Option Modifier} {k : Nat}

/-- A vector memory instruction commits as the statement says, and what it then performs. -/
theorem vmCommit_commits {ok : Thread → Bool} {f : Thread → VMem} {m : VMem} {extra : Prop} (hi : exec i s = vmCommit p k ok f s)
    (hm : f s.cur = m) (hok : extra ↔ ok s.cur = true) (hwidth : m.WidthOk) :
    let legal := extra ∧ m.scope < 5 ∧ m.groupsOk (2 ^ s.cur.csew) (8 * 2 ^ s.cur.cnreg) = true
    VCommits i s (if p.isSome then 8 else 4) legal (.mem m) k 0 none ∧
      (legal → Idle s → s.travel = false → k < 8 → VMemDoes i s (if p.isSome then 8 else 4) k m) := by
  intro legal
  have hcond : (ok s.cur && decide ((f s.cur).scope < 5) && (f s.cur).groupsOk (2 ^ s.cur.csew) (8 * 2 ^ s.cur.cnreg)) = true ↔ legal := by
    rw [hm, Bool.and_eq_true, Bool.and_eq_true, decide_eq_true_eq, and_assoc, ← hok]
  have hcommit : legal → exec i s = s.commitV (if p.isSome then 8 else 4) (.mem m) k 0 none := fun h => by
    rw [hi, vmCommit, if_pos (hcond.mpr h), pLen_eq, hm]
  refine ⟨commitV_commits nofun hcommit fun h => ?_, fun h hidle htravel hk => vMemDoes hidle htravel hk (hcommit h) h.2.2 hwidth⟩
  rw [Illegal, Traps, hi, vmCommit]
  exact if_neg (mt hcond.mp h)

/-- The same of an access by a stride. -/
theorem vPlain_commits {kind : VMemKind} {o : OpVmem} {m : VMem} (hi : exec i s = vPlain kind o s)
    (hm : vMemOf o.p kind o.d (s.cur.rx o.a) (s.cur.strideOf o.b) none = m) :
    let legal := True ∧ m.scope < 5 ∧ m.groupsOk (2 ^ s.cur.csew) (8 * 2 ^ s.cur.cnreg) = true
    VCommits i s (if o.p.isSome then 8 else 4) legal (.mem m) o.k 0 none ∧
      (legal → Idle s → s.travel = false → o.k < 8 → VMemDoes i s (if o.p.isSome then 8 else 4) o.k m) := by
  subst hm
  exact vmCommit_commits hi rfl ⟨fun _ => rfl, fun _ => trivial⟩ (widthOk_none rfl)

/-- The same of the forms with the unit stride. -/
theorem vUnit_commits {kind : VMemKind} {shaft first : Bool} {o : OpVmem1} {r : VMem} (hi : exec i s = vUnit kind shaft first o s)
    (hr : vMemOf o.p kind o.d (s.cur.rx o.a) s.cur.unit none = r) :
    let m := { r with shaft := shaft, first := first }
    let legal := True ∧ m.scope < 5 ∧ m.groupsOk (2 ^ s.cur.csew) (8 * 2 ^ s.cur.cnreg) = true
    VCommits i s (if o.p.isSome then 8 else 4) legal (.mem m) o.k 0 none ∧
      (legal → Idle s → s.travel = false → o.k < 8 → VMemDoes i s (if o.p.isSome then 8 else 4) o.k m) := by
  subst hr
  exact vmCommit_commits hi rfl ⟨fun _ => rfl, fun _ => trivial⟩ (widthOk_none rfl)

/-- The same of an indexed access. -/
theorem vIndexed_commits {kind : VMemKind} {ok : Thread → Bool} {acquire : Bool} {o : OpVmemX} {extra : Prop} {r : VMem}
    (hi : exec i s = vIndexed kind ok acquire o s) (hok : extra ↔ ok s.cur = true)
    (hr : vMemOf o.p kind o.d (s.cur.rx o.a) 0 (some (o.b + 32 * (o.p.map (·.bh)).getD 0, 2 ^ o.iw)) = r) :
    let m := { r with acquire := acquire }
    let legal := extra ∧ m.scope < 5 ∧ m.groupsOk (2 ^ s.cur.csew) (8 * 2 ^ s.cur.cnreg) = true
    VCommits i s (if o.p.isSome then 8 else 4) legal (.mem m) o.k 0 none ∧
      (legal → Idle s → s.travel = false → o.k < 8 → VMemDoes i s (if o.p.isSome then 8 else 4) o.k m) := by
  rw [← pB_eq] at hr
  subst hr
  exact vmCommit_commits hi rfl hok (widthOk_some rfl)

/-- The same of an access with a full/empty qualifier. -/
theorem vFe_commits {kind : VMemKind} {o : OpVmemFe} {x y : VMem} (hi : exec i s = vFe kind o s)
    (hx : vMemOf (some o.p) kind o.d (s.cur.rx o.a) 0 (some (o.b + 32 * ((some o.p).map (·.bh)).getD 0, 2 ^ o.iw)) = x)
    (hy : vMemOf (some o.p) kind o.d (s.cur.rx o.a) (s.cur.strideOf o.b) none = y) :
    let m := if o.indexed then x else y
    let legal := True ∧ m.scope < 5 ∧ m.groupsOk (2 ^ s.cur.csew) (8 * 2 ^ s.cur.cnreg) = true
    VCommits i s 8 legal (.mem m) o.k 0 none ∧ (legal → Idle s → s.travel = false → o.k < 8 → VMemDoes i s 8 o.k m) := by
  rw [← pB_eq] at hx
  subst hx hy
  refine vmCommit_commits (p := some o.p) hi rfl ⟨fun _ => rfl, fun _ => trivial⟩ ?_
  split
  · exact widthOk_some rfl
  · exact widthOk_none rfl

end

/-- Settles O36: a vector memory instruction commits what `vmCommit` checks and captures, and of an idle thread its only section performs
every element in order (`Course`): for each kind of access an invariant of the elements below `n` that the next element carries on. -/
theorem vectorMemoryCommits : Obligations.VectorMemoryCommits := by
  intro s
  refine ⟨fun o => ⟨?_, ?_⟩, fun o => ⟨?_, ?_, ?_, fun x hx => ?_⟩, fun o => ⟨?_, ?_, ?_⟩, fun o => ⟨?_, ?_, ?_⟩⟩
  · exact vPlain_commits (kind := .load) rfl (vMemOf_eq _ _ _ _ _ _)
  · exact vPlain_commits (kind := .store) rfl (vMemOf_eq _ _ _ _ _ _)
  · exact vIndexed_commits (kind := .load) (ok := anySew) (acquire := false) rfl ⟨fun _ => rfl, fun _ => trivial⟩ (vMemOf_eq _ _ _ _ _ _)
  · exact vIndexed_commits (kind := .store) (ok := anySew) (acquire := false) rfl ⟨fun _ => rfl, fun _ => trivial⟩ (vMemOf_eq _ _ _ _ _ _)
  · exact vIndexed_commits (kind := .load) (ok := anySew) (acquire := true) rfl ⟨fun _ => rfl, fun _ => trivial⟩ (vMemOf_eq _ _ _ _ _ _)
  · have hi : exec (x.1 o) s = vAmo x.2 o s := by fin_cases hx <;> rfl
    exact vIndexed_commits (kind := .amo x.2) (acquire := false) hi decide_eq_true_iff.symm (vMemOf_eq _ _ _ _ _ _)
  · exact vUnit_commits (kind := .load) (shaft := false) (first := true) rfl (vMemOf_eq _ _ _ _ _ _)
  · exact vUnit_commits (kind := .load) (shaft := true) (first := false) rfl (vMemOf_eq _ _ _ _ _ _)
  · exact vUnit_commits (kind := .store) (shaft := true) (first := false) rfl (vMemOf_eq _ _ _ _ _ _)
  · exact vFe_commits (kind := .load) rfl (vMemOf_eq _ _ _ _ _ _) (vMemOf_eq _ _ _ _ _ _)
  · exact vFe_commits (kind := .load) rfl (vMemOf_eq _ _ _ _ _ _) (vMemOf_eq _ _ _ _ _ _)
  · exact vFe_commits (kind := .store) rfl (vMemOf_eq _ _ _ _ _ _) (vMemOf_eq _ _ _ _ _ _)

end Sys2Proof.Machine
end
